-- ==== Sys2Proof/Word.lean ====
section
/-! DEFINITION. The words of the VK4800 station and its named alternatives: bytes, 32-bit registers (R7), 64-bit
times, the two halves, the half states (R180), fault levels (R230), task states (R24) and the other fixed
sets of names of the manual. -/
namespace Sys2Proof

/-- One byte. -/
abbrev Byte := BitVec 8
/-- A 32-bit register (R7). -/
abbrev Word := BitVec 32
/-- A 64-bit time, counter or raw value. -/
abbrev DWord := BitVec 64
/-- A binary32 bit pattern. -/
abbrev F32 := BitVec 32
/-- A binary64 bit pattern. -/
abbrev F64 := BitVec 64

/-- The two halves of a station; the slot decides the name (00_scope, Vocabulary). -/
inductive HalfId where
  | a | b
  deriving DecidableEq, Repr, Inhabited

/-- The partner of a half. -/
def HalfId.other : HalfId → HalfId
  | .a => .b
  | .b => .a

/-- The half states of R180. -/
inductive HState where
  | off | boot | native | syncing | standby | active | relinquishing | fault | latched
  deriving DecidableEq, Repr, Inhabited

/-- The code of a half state (R180). -/
def HState.code : HState → Nat
  | .off => 0 | .boot => 1 | .native => 2 | .syncing => 3 | .standby => 4
  | .active => 5 | .relinquishing => 6 | .fault => 7 | .latched => 8

/-- The task states of R24. -/
inductive TaskState where
  | stopped | waiting | ready | running | preempted | tracking
  deriving DecidableEq, Repr, Inhabited

/-- The code of a task state (R315). -/
def TaskState.code : TaskState → Nat
  | .stopped => 0 | .waiting => 1 | .ready => 2 | .running => 3 | .preempted => 4 | .tracking => 5

/-- The chain modes of R88; TRACKING is RUN shown while CE_CTRL.TRACK is set (R114). -/
inductive ChainMode where
  | off | run | hold | halted | tracking
  deriving DecidableEq, Repr, Inhabited

/-- The code of a chain mode in the status record (R110). -/
def ChainMode.code : ChainMode → Nat
  | .off => 0 | .run => 1 | .hold => 2 | .halted => 3 | .tracking => 4

/-- The states of a safety function (R160). -/
inductive FuncState where
  | unused | armed | delay | tripped | resetWait | fault | sync | engaged
  deriving DecidableEq, Repr, Inhabited

/-- The code of a safety function state (R160). -/
def FuncState.code : FuncState → Nat
  | .unused => 0 | .armed => 1 | .delay => 2 | .tripped => 3 | .resetWait => 4
  | .fault => 5 | .sync => 6 | .engaged => 7

/-- The states of a reset input (R172). -/
inductive SrsState where
  | idle | pressed | held | recover
  deriving DecidableEq, Repr, Inhabited

/-- The code of a reset input state (SAF_SRS, R179). -/
def SrsState.code : SrsState → Nat
  | .idle => 0 | .pressed => 1 | .held => 2 | .recover => 3

/-- The three lockstep pairs (R219). -/
inductive Pair where
  | sup | app | scr
  deriving DecidableEq, Repr, Inhabited

/-- The three causes of a lockstep mismatch (R221). -/
inductive LsCause where
  | outputMismatch | comparatorInvalid | delayEcc
  deriving DecidableEq, Repr, Inhabited

/-- The code of a lockstep cause in FC_LS_CAUSE (R245). -/
def LsCause.code : LsCause → Nat
  | .outputMismatch => 1 | .comparatorInvalid => 2 | .delayEcc => 3

/-- The causes of a controlled handover (R205). -/
inductive Cause where
  | roleSwap | periodic | halfRelease | button | firmware | fault
  deriving DecidableEq, Repr, Inhabited

/-- The code of a handover cause (R205). -/
def Cause.code : Cause → Nat
  | .roleSwap => 1 | .periodic => 2 | .halfRelease => 3 | .button => 4 | .firmware => 5 | .fault => 6

/-- The memories with an ECC source of R228 (sources 0 to 11). -/
inductive EccMem where
  | sup | app | ce | net | dram | scr
  deriving DecidableEq, Repr, Inhabited

/-- The source of a correctable error of a memory (R228); the uncorrectable one is the next number. -/
def EccMem.source : EccMem → Nat
  | .sup => 0 | .app => 2 | .ce => 4 | .net => 6 | .dram => 8 | .scr => 10

/-- The THERMAL conditions of R228 (sources 122 to 125). -/
inductive Thermal where
  | dieHi | dieCrit | board | sensor
  deriving DecidableEq, Repr, Inhabited

/-- The source of a thermal condition (R228). -/
def Thermal.source : Thermal → Nat
  | .dieHi => 122 | .dieCrit => 123 | .board => 124 | .sensor => 125

/-- The states of a test generator (R132). -/
inductive TgState where
  | idle | waiting | running | done
  deriving DecidableEq, Repr, Inhabited

/-- The code of a generator state (TG_STAT, R139). -/
def TgState.code : TgState → Nat
  | .idle => 0 | .waiting => 1 | .running => 2 | .done => 3

/-- The states of a trace channel (R136). -/
inductive TcState where
  | idle | armed | ready | capturing | done
  deriving DecidableEq, Repr, Inhabited

/-- The code of a trace channel state (TC_STAT, R139). -/
def TcState.code : TcState → Nat
  | .idle => 0 | .armed => 1 | .ready => 2 | .capturing => 3 | .done => 4

/-- The logic feeds and field feeds (R488, R489). -/
inductive Feed where
  | psa | psb | flda | fldb
  deriving DecidableEq, Repr, Inhabited

/-- The background activities of R454. -/
inductive Activity where
  | dramScrub | sramScrub | scrupleScrub | flashScan | paramChain | selfCal | norWear | displayStress
  | telemetry | proofTests
  deriving DecidableEq, Repr, Inhabited

/-- The PTP messages a port sends at intervals (R392, R393, R394). -/
inductive PtpKind where
  | sync | delayReq | announce
  deriving DecidableEq, Repr, Inhabited

/-- How a transmission of a CAN frame ended (R416). -/
inductive CanEnd where
  | sent | lostArbitration | error
  deriving DecidableEq, Repr, Inhabited

/-- The little-endian bytes of a 64-bit value, least significant first. -/
def leBytes (n : Nat) (v : DWord) : List Byte :=
  (List.range n).map fun i => (v >>> (8 * i)).setWidth 8

/-- A little-endian list of bytes as a 64-bit value. -/
def leValue (bs : List Byte) : DWord :=
  bs.foldr (fun b acc => (acc <<< 8) ||| b.setWidth 64) 0#64

end Sys2Proof
end

