-- ==== Sys2Proof/Frames.lean ====
section
/-! DEFINITION. The frames and records that reach a half from outside, as plain data: Span frames (R191 to R194,
R205, R399), League frames (R259), object records (R248), mailbox transport (R291), CAN frames (R412), LAN frames,
serial frames and sentences. A field that the manual calls reserved and zero is left out of the record: the
receiver rules state nothing on it. -/
namespace Sys2Proof

/-- Header fields of a received Span frame that its receiver acts on (R191, R192). -/
structure SpanHdr where
  seq : Word := 0
  rel : Bool := false
  last : Bool := false
  relItem : BitVec 16 := 0
  ackItem : BitVec 16 := 0
  deriving DecidableEq, Repr, Inhabited

/-- HEARTBEAT payload (R193). -/
structure Heartbeat where
  state : Byte := 0
  fcLevel : Byte := 0
  takeoverArmed : Bool := false
  synced : Bool := false
  released : Bool := false
  partnerClaim : Bool := false
  partnerPresent : Bool := false
  startupDone : Bool := false
  fwVersion : Word := 0
  stateFormat : BitVec 16 := 0
  resyncMask : BitVec 16 := 0
  cfgCommit : Word := 0
  monoTime : DWord := 0
  hbCount : Word := 0
  deriving DecidableEq, Repr, Inhabited

/-- One entry of a STATE_DELTA frame: a 256-byte block and its offset into the region (R194). -/
structure DeltaEntry where
  offset : Word := 0
  data : List Byte := []
  deriving DecidableEq, Repr, Inhabited

/-- A STATE_DELTA payload (R194); task 0xFF with region 2 is the object store (R270). -/
structure StateDelta where
  task : Byte := 0
  region : Byte := 0
  cycle : Word := 0
  entries : List DeltaEntry := []
  deriving DecidableEq, Repr, Inhabited

/-- A CYCLE_END payload (R194). -/
structure CycleEnd where
  task : Byte := 0
  frames : BitVec 16 := 0
  cycle : Word := 0
  check : Word := 0
  tEnd : DWord := 0
  deriving DecidableEq, Repr, Inhabited

/-- The kinds of a ROLE frame (R205). -/
inductive RoleKind where
  | offer | accept | refuse | relinquish | abort | claimed
  deriving DecidableEq, Repr, Inhabited

/-- The code of a kind of ROLE frame (R205). -/
def RoleKind.code : RoleKind → Nat
  | .offer => 1 | .accept => 2 | .refuse => 3 | .relinquish => 4 | .abort => 5 | .claimed => 6

/-- A ROLE payload (R205): `cause` is the code of the handover's cause, 0 where there is none. -/
structure RolePayload where
  kind : RoleKind := .relinquish
  cause : Byte := 0
  offerId : Word := 0
  h : DWord := 0
  hv : DWord := 0
  deriving DecidableEq, Repr, Inhabited

/-- What CE_TRACK carries for one chain (R107); `integ` holds (section, s1, s2) of each INTEG section. -/
structure TrackChain where
  chain : Nat := 0
  tLast : DWord := 0
  out : F32 := 0
  satHi : Bool := false
  satLo : Bool := false
  mode : ChainMode := .run
  bankB : Bool := false
  integ : List (Nat × F64 × F64) := []
  deriving DecidableEq, Repr, Inhabited

/-- A TIME payload (R399). -/
structure TimePayload where
  tDep : DWord := 0
  mDep : DWord := 0
  source : Byte := 0
  state : Byte := 0
  utcOffset : BitVec 16 := 0
  gmIdentity : DWord := 0
  deriving DecidableEq, Repr, Inhabited

/-- The 32-byte object record (R248); its reserved fields are zero. -/
structure ObjRec where
  value : DWord := 0
  tStamp : DWord := 0
  quality : Byte := 0
  seq : BitVec 16 := 0
  oid : Word := 0
  crc : BitVec 16 := 0
  deriving DecidableEq, Repr, Inhabited

/-- A journal entry of the display (R480). -/
structure JournalEntry where
  seq : Word := 0
  x : Nat := 0
  y : Nat := 0
  w : Nat := 0
  h : Nat := 0
  mode : Nat := 0
  isPage : Bool := false
  recover : Bool := false
  page : BitVec 16 := 0xFFFF
  targetCrc : Word := 0
  done : Bool := false
  valid : Bool := false
  deriving DecidableEq, Repr, Inhabited

/-- An item of a CFG Span frame (R192): staging, commit points (R46), CE writes (R99), forwarded swaps and modes
(R107), forces (R314), display copies (R484). -/
inductive CfgItem where
  /-- A configuration chunk for the non-current slot; `first` empties it (R318). -/
  | stage (first last : Bool) (offset : Word) (data : List Byte)
  /-- A commit was accepted, with the new commit counter (R320). -/
  | commit (cfgCommit : Word)
  /-- A rollback was accepted, with the new commit counter (R321). -/
  | rollback (cfgCommit : Word)
  /-- A pending commit or rollback was stopped by ABORT before its first switch (R287, R320). -/
  | cancelSwitch
  /-- Task `task` switched at cycle `cycle` (R46). -/
  | taskSwitch (task : Nat) (cycle : Word)
  /-- Coefficients written into a bank of a section (R99). -/
  | coef (chain section_ : Nat) (bankB : Bool) (c : List F64)
  /-- Limits and flags of a section (R330). -/
  | limits (chain section_ : Nat) (lo hi : F64) (flags : BitVec 16)
  /-- A chain descriptor of 128 bytes (R330). -/
  | desc (chain : Nat) (bytes : List Byte)
  /-- A swap request forwarded by the active half (R107). -/
  | swap (chain : Nat) (bankB bumpless : Bool)
  /-- A mode change forwarded by the active half (R107). -/
  | mode (chain : Nat) (m : ChainMode)
  /-- A RESTART forwarded by the active half (R107). -/
  | restart (chain : Nat)
  /-- A force of a point, or a release when `val` is none (R314). -/
  | force (point : Nat) (val : Option (DWord × Byte))
  /-- A host-written point: its value, its last publication with the time of that, and its seq (R16, R253; log 96). -/
  | point (point : Nat) (v : DWord × Byte) (pub : DWord × Byte) (tPub : DWord) (seq : BitVec 16)
  /-- A display journal entry for a slot (R484). -/
  | journal (slot : Nat) (e : JournalEntry)
  /-- A write of levels into a rectangle of the target image T, row by row (R484). -/
  | target (x y w h : Nat) (levels : List Nat)
  /-- A completion mark of a journal slot (R484). -/
  | journalDone (slot : Nat)
  /-- The stress counters (R484). -/
  | stress (counters : List Word)
  deriving DecidableEq, Repr, Inhabited

/-- A League frame with its header fields (R259): `kind` 1 EXCHANGE, 2 REFRESH, 3 RELAY; `recCnt` counts its records. -/
structure LeagueFrame where
  magic : BitVec 16 := 0x4C47
  version : Byte := 1
  kind : Nat := 1
  recCnt : Nat := 0
  station : Nat := 0
  half : HalfId := .a
  task : Nat := 0
  cycle : Word := 0
  fragIdx : Nat := 0
  fragCnt : Nat := 1
  origin : Nat := 0
  tEnd : DWord := 0
  cfgCommit : Word := 0
  recs : List ObjRec := []
  deriving DecidableEq, Repr, Inhabited

/-- What a League HEARTBEAT carries (R257): worker fields (`lastCycles`) and manager fields. -/
structure LeagueHb where
  station : Nat := 0
  half : HalfId := .a
  state : Byte := 0
  fwVersion : Word := 0
  cfgCommit : Word := 0
  lastCycles : List (Nat × Word) := []
  activeHalf : HalfId := .a
  epoch : Word := 0
  present : List Nat := []
  deriving DecidableEq, Repr, Inhabited

/-- A JOIN frame (R256): the claimed station, the station its certificate names and the certificate's serial. -/
structure JoinFrame where
  station : Nat := 0
  half : HalfId := .a
  certStation : Nat := 0
  certSerial : DWord := 0
  cfgCommit : Word := 0
  fwVersion : Word := 0
  lastCycles : List (Nat × Word) := []
  deriving DecidableEq, Repr, Inhabited

/-- A CAN frame on the bus (R409, R412). -/
structure CanFrame where
  fmt : Nat := 0
  ide : Bool := false
  id : Word := 0
  rtr : Bool := false
  brs : Bool := false
  esi : Bool := false
  sdt : Byte := 0
  vcid : Byte := 0
  af : Word := 0
  data : List Byte := []
  deriving DecidableEq, Repr, Inhabited

/-- The kinds of LAN traffic that the table of R430 separates. -/
inductive LanKind where
  | ptp | prpSupervision | league | mailbox | mp1 | arpOwn | icmpEcho | ipv6 | tagged | other
  deriving DecidableEq, Repr, Inhabited

/-- A received LAN frame, as far as R428 to R430 look at it. `seq` is the redundancy trailer's sequence, absent
on a frame without a trailer. -/
structure LanFrame where
  kind : LanKind := .other
  src : DWord := 0
  seq : Option (BitVec 16) := none
  fcsOk : Bool := true
  length : BitVec 16 := 0
  deriving DecidableEq, Repr, Inhabited


/-- What a DTLS handshake shows of the peer's certificate (R290, R295, R441, R442). `units` lists the organisational
units among viewer 1, operator 2, engineer 3, service 4; `station` is the station number the subject names. -/
structure Cert where
  vesselCa : Bool := false
  commissioningCa : Bool := false
  authOk : Bool := true
  revoked : Bool := false
  notBefore : DWord := 0
  notAfter : DWord := 0
  units : List Nat := []
  serial : DWord := 0
  station : Nat := 0
  deriving DecidableEq, Repr, Inhabited

/-- The identification memory of a display cover (R474). `waves` lists the waveforms by their index
(((o * 16 + n) * 8 + b) * 4 + v) of R475; an unlisted waveform ends at frame 0. -/
structure CoverId where
  serial : DWord := 0
  vcom : Byte := 0
  vth0 : Word := 0
  vth1 : Word := 0
  vth2 : Word := 0
  lutOk : Bool := true
  waves : List (Nat × BitVec 128) := []
  deriving DecidableEq, Repr, Inhabited

/-- A sentence of IEC 61162 as the configuration's mapping reads it (R434): the mapped sentence it is, if any, and
its mapped fields, none for a field that does not parse. -/
structure Sentence where
  idx : Option Nat := none
  ownSource : Bool := false
  group : Nat := 0
  line : Nat := 0
  checksumOk : Bool := true
  fields : List (Option DWord) := []
  deriving DecidableEq, Repr, Inhabited

/-- What arrives on a serial bus (R436, R438). -/
inductive SerFrame where
  /-- A Modbus RTU frame: whether its silences and its CRC are good, its address, function code and data. -/
  | modbus (limitsOk crcOk : Bool) (addr fn : Byte) (data : List Byte)
  /-- A sentence on a listener bus. -/
  | sentence (s : Sentence)
  /-- A character error: framing, parity. -/
  | error (framing parity : Bool)
  deriving DecidableEq, Repr, Inhabited

/-- A received Sync (R391, R396): `rx` is the stamp made at the MAC boundary in station time. -/
structure PtpSync where
  domain : Nat := 24
  master : DWord := 0
  seq : BitVec 16 := 0
  twoStep : Bool := false
  origin : DWord := 0
  correction : DWord := 0
  rx : DWord := 0
  deriving DecidableEq, Repr, Inhabited

/-- A received Delay_Req (R391, R398): `rx` is its stamp at the MAC–PHY boundary. -/
structure PtpDelayReq where
  domain : Nat := 24
  requester : DWord := 0
  seq : BitVec 16 := 0
  correction : DWord := 0
  rx : DWord := 0
  deriving DecidableEq, Repr, Inhabited

/-- A received Delay_Resp (R398); `correction` returns the departure correction of the half's own Delay_Req. -/
structure PtpDelayResp where
  domain : Nat := 24
  master : DWord := 0
  seq : BitVec 16 := 0
  t4 : DWord := 0
  correction : DWord := 0
  deriving DecidableEq, Repr, Inhabited

/-- A received Announce: the data that the default BMCA of IEEE 1588-2019 compares (R391). -/
structure PtpAnnounce where
  domain : Nat := 24
  sender : DWord := 0
  priority1 : Nat := 128
  clockClass : Nat := 248
  accuracy : Nat := 0
  variance : Nat := 0
  priority2 : Nat := 128
  gm : DWord := 0
  steps : Nat := 0
  utcOffset : BitVec 16 := 0
  deriving DecidableEq, Repr, Inhabited

/-- A completion or notification handed to the wire or a ring is 16 words (R280, R281). -/
abbrev Entry := List Word

/-- What a half has put on one of its links; kept in the half's outbox, which nothing reads (log 4). -/
inductive Sent where
  | heartbeat (seq : Word) (p : Heartbeat)
  | stateDelta (seq : Word) (p : StateDelta)
  | cycleEnd (seq : Word) (p : CycleEnd)
  | ceTrack (seq : Word) (chains : List TrackChain)
  | cfg (seq : Word) (item : BitVec 16) (p : CfgItem)
  | time (seq : Word) (p : TimePayload)
  /-- An entry of channel 7: a submission, or a completion where `reply` is set. -/
  | peerMbx (seq : Word) (item : BitVec 16) (reply : Bool) (e : Entry)
  /-- A ROLE frame; RELINQUISH is not a REL frame and its item number is 0. -/
  | role (seq : Word) (item : BitVec 16) (p : RolePayload)
  | retransmit (seq : Word) (item : BitVec 16)
  /-- EXCHANGE and REFRESH go to one half of the manager (R255). -/
  | exchange (dest : HalfId) (full : Bool) (f : LeagueFrame)
  | refresh (dest : HalfId) (f : LeagueFrame)
  | relay (f : LeagueFrame)
  | leagueHeartbeat (p : LeagueHb)
  /-- JOIN on each of the half's sessions (R256). -/
  | join (station : Nat) (cfgCommit fwVersion : Word) (lastCycles : List (Nat × Word))
  | joinReply (station : Nat) (result : Nat)
  | refreshReq (station task : Nat)
  | stationState (station : Nat) (lost : Bool)
  /-- A datagram of a session: its 16-byte header, and the entries that follow (R291). -/
  | transport (ch : Nat) (bytes : List Byte)
  | alert (ch : Nat) (code : Nat)
  | keyUpdate (ch : Nat)
  | mp1Reply (ch : Nat) (bytes : List Byte)
  /-- A one-step event message: originTimestamp, and the departure correction in 0.1 ns (R397). -/
  | ptp (port : Nat) (kind : PtpKind) (origin : DWord) (d : Int)
  | ptpAnnounce (port : Nat) (a : PtpAnnounce)
  /-- A Delay_Resp: the corrected receive stamp in 0.1 ns, and what it returns of the request (R398). -/
  | ptpDelayResp (port : Nat) (t4 : Int) (requester : DWord) (seq : BitVec 16) (correction : DWord)
  | prpSupervision
  | canFrame (ctl obj : Nat) (f : CanFrame)
  | sentence (bus : Option Nat) (idx line : Nat)
  | modbusRequest (bus : Nat) (bytes : List Byte)
  | modbusReply (bus : Nat) (bytes : List Byte)
  | icmpReply
  /-- A CFG_STAGE of the manager forwarded to a worker (R258). -/
  | cfgForward (station : Nat) (payload : List Byte)
  deriving DecidableEq, Repr, Inhabited

end Sys2Proof
end

