-- ==== Sys2Proof/Syntax.lean ====
section
/-! DEFINITION. The commands of the station: one constructor per row of spec/opcode_table.json, in the table's order.
The first operand names the half the command acts on; the operands after it carry what the world outside the half
contributes to the command (a frame's content, a measured current, a channel number). A mailbox opcode's row
carries the channel and the tag of the command context that COMMAND_CONSUME assigned (log 8). -/
namespace Sys2Proof

/-- The commands of spec/opcode_table.json. -/
inductive Instr where
  /-- TASK_RELEASE (R20): A release instant of a periodic task arrives: the task goes to READY, or the release is skipped if its previous cycle is still running. -/
  | taskRelease (h : HalfId) (task : Nat)
  /-- MINIMUM_SEPARATION_END (R33): The minimum separation of an event task ends and its pending activation becomes ready. -/
  | minimumSeparationEnd (h : HalfId) (task : Nat)
  /-- EVENT_TASK_DEADLINE (R33): An event task's deadline passes before its cycle ends and an overrun warning is raised. -/
  | eventTaskDeadline (h : HalfId) (task : Nat)
  /-- SW_TASK_HANG (R35): A task cycle is still running 4 periods (or deadlines), or 10 ms, after release, and source 106 is raised at L2. -/
  | swTaskHang (h : HalfId) (task : Nat)
  /-- TASK_CYCLE_START (R26): The highest-priority ready task starts a cycle and its input image is filled. -/
  | taskCycleStart (h : HalfId)
  /-- CONFIG_SWITCH_TIMEOUT (R46): An affected event task has no activation within one deadline after commit and switches configuration. -/
  | configSwitchTimeout (h : HalfId) (task : Nat)
  /-- BLOCK_BOUNDARY (R22): A block of the call list finishes: the next block runs, or a higher-priority released task preempts. -/
  | blockBoundary (h : HalfId)
  /-- TASK_CYCLE_END (R27): The last block of a call list has run and the whole output image is written as one set. -/
  | taskCycleEnd (h : HalfId)
  /-- OUTPUT_UPDATE (R27): At the update instant within 20 µs of cycle end, DO, VD and AO changes reach the field, local objects become visible and SAFE_REQ entries are queued. -/
  | outputUpdate (h : HalfId) (task : Nat)
  /-- CHAIN_TRIGGER (R84): A timer, AI conversion, VD SAR conversion or FI edge triggers a chain sample, or it is lost. -/
  | chainTrigger (h : HalfId) (chain : Nat)
  /-- SAMPLE_DISPATCH (R86): A sample is dispatched from the ready queue and its sources, mode, bank and tracked values are latched. -/
  | sampleDispatch (h : HalfId)
  /-- CHAIN_SAMPLE_COMPLETE (R98): A chain sample finishes: states are committed, the output is clamped and written, and the latency stamp recorded. -/
  | chainSampleComplete (h : HalfId) (chain : Nat)
  /-- CE_TRACK_SEND (R107): Every 1 ms the active half sends a CE_TRACK frame. -/
  | ceTrackSend (h : HalfId)
  /-- CE_TRACK (R107): The standby half receives a CE_TRACK frame, compares outputs and schedules replacement of chain values. -/
  | ceTrack (h : HalfId) (hdr : SpanHdr) (chains : List (TrackChain))
  /-- CE_CMD_RUN (R88): CE_CMD op RUN sets a chain to RUN. -/
  | ceCmdRun (h : HalfId) (chain : Nat)
  /-- CE_CMD_HOLD (R88): CE_CMD op HOLD sets a chain to HOLD. -/
  | ceCmdHold (h : HalfId) (chain : Nat)
  /-- CE_CMD_OFF (R88): CE_CMD op OFF sets a chain to OFF. -/
  | ceCmdOff (h : HalfId) (chain : Nat)
  /-- CE_CMD_RESTART (R88): CE_CMD op RESTART restarts a HALTED chain with cleared states. -/
  | ceCmdRestart (h : HalfId) (chain : Nat)
  /-- CE_SWAP (R100): A write of CE_SWAP with GO registers a coefficient swap request. -/
  | ceSwap (h : HalfId) (chain : Nat) (bankB : Bool) (bumpless : Bool)
  /-- CE_LEVEL_MAX_READ (R114): A read of CE_LEVEL_MAX returns the high-water marks and clears them. -/
  | ceLevelMaxRead (h : HalfId)
  /-- VD_THRESHOLD_CROSS (R119): The shunt current reaches a hysteretic threshold and the high-side switch turns off or on. -/
  | vdThresholdCross (h : HalfId) (vd : Nat) (i : F32)
  /-- VD_MIN_TIME_END (R120): A minimum on, off or period time ends and a deferred comparator decision takes effect. -/
  | vdMinTimeEnd (h : HalfId) (vd : Nat) (i : F32)
  /-- VD_FF_REFRESH (R123): Every 1 µs the feed-forward thresholds are refreshed and slope mismatch is checked. -/
  | vdFfRefresh (h : HalfId) (vd : Nat) (i : F32) (slope : Option (F32))
  /-- VD_SAR_CONVERSION (R125): A SAR conversion of a channel's shunt current completes. -/
  | vdSarConversion (h : HalfId) (vd : Nat) (i : F32)
  /-- VD_OPEN_LOAD (R126): The current stays below 20 mA after 2 ms of on phase and the stage is held off. -/
  | vdOpenLoad (h : HalfId) (vd : Nat)
  /-- VD_OPEN_LOAD_RETRY (R126): Every 1 s an open-load channel is retried. -/
  | vdOpenLoadRetry (h : HalfId) (vd : Nat)
  /-- VD_SHORT (R126): Instantaneous current above 4.0 A turns the high side off and raises source 93. -/
  | vdShort (h : HalfId) (vd : Nat)
  /-- VD_SHORT_RETRY (R126): 100 ms after a short the channel retries, latching off after 10 failures. -/
  | vdShortRetry (h : HalfId) (vd : Nat)
  /-- VD_OVERTEMP (R126): The stage exceeds 150 °C and turns off. -/
  | vdOvertemp (h : HalfId) (vd : Nat)
  /-- VD_OVERTEMP_CLEAR (R126): The stage cools below 130 °C and restarts. -/
  | vdOvertempClear (h : HalfId) (vd : Nat)
  /-- VD_REG_ERR (R126): Mean current stays outside its band for 5 ms and REG_ERR is set. -/
  | vdRegErr (h : HalfId) (vd : Nat)
  /-- TG_START (R132): TG_CMD START puts a generator into WAITING and arms its trace channels. -/
  | tgStart (h : HalfId) (tg : Nat)
  /-- TG_STOP (R132): TG_CMD STOP ends a generator early. -/
  | tgStop (h : HalfId) (tg : Nat)
  /-- TG_RUN_START (R132): All named channels hold their pre-trigger samples and the generator starts at the next sample boundary. -/
  | tgRunStart (h : HalfId) (tg : Nat)
  /-- TG_DONE (R132): A generator has run for DUR and enters DONE. -/
  | tgDone (h : HalfId) (tg : Nat)
  /-- TC_ARM (R136): TC_CMD ARM arms a trace channel. -/
  | tcArm (h : HalfId) (tc : Nat)
  /-- TC_TRIGGER (R137): TC_CMD TRIGGER gives a software trigger to a trace channel. -/
  | tcTrigger (h : HalfId) (tc : Nat)
  /-- TC_STOP (R136): TC_CMD STOP stops a trace channel into DONE. -/
  | tcStop (h : HalfId) (tc : Nat)
  /-- TC_RESET (R136): TC_CMD RESET returns a trace channel to IDLE. -/
  | tcReset (h : HalfId) (tc : Nat)
  /-- SAFETY_TASK_CYCLE (R36): The 1 ms Scruple safety task runs: queue entries, seal read, functions, P, and SAF mirror refresh. -/
  | safetyTaskCycle (h : HalfId) (readback : Byte) (masksOk : Bool)
  /-- SAFE_WDG (R36): No safety cycle completes for 3 ms: Scruple is stopped and the half's safety paths are held open. -/
  | safeWdg (h : HalfId)
  /-- SEAL_CHANGE (R142): A seal switch setting stable for 100 ms takes effect and R144 is tested again. -/
  | sealChange (h : HalfId) (word : BitVec 12)
  /-- QUEUE_TRIP (R148): A TRIP queue entry sets the QTRIP latches of its outputs. -/
  | queueTrip (h : HalfId)
  /-- PARAM_CHUNK (R145): A PARAM_CHUNK queue entry delivers part of a safety parameter set. -/
  | paramChunk (h : HalfId)
  /-- PARAM_END (R145): A PARAM_END queue entry completes a safety parameter set and its check. -/
  | paramEnd (h : HalfId)
  /-- QUEUE_TIME_ENTRY (R148): A TIME queue entry gives Scruple station time for diagnostic stamps. -/
  | queueTimeEntry (h : HalfId)
  /-- PROOF_START (R176): A PROOF_START queue entry starts the Scruple proof test on the standby half. -/
  | proofStart (h : HalfId)
  /-- PROOF_TEST_COMPLETE (R176): The Scruple proof test ends and its result is recorded. -/
  | proofTestComplete (h : HalfId) (failed : List (Nat))
  /-- SI_FILTER_CHANGE (R149): An SI filter counter reaches 9 or 0 and its output changes, stamped in Scruple time. -/
  | siFilterChange (h : HalfId) (si : Nat) (filterB : Bool)
  /-- MATRIX_BACKSTOP_EXPIRE (R156): A matrix backstop delay ends and the output's latch is set. -/
  | matrixBackstopExpire (h : HalfId) (matrixB : Bool) (so : Nat)
  /-- PAIR_DISCREPANCY (R151): A pair disagrees longer than its discrepancy time and enters FAULT. -/
  | pairDiscrepancy (h : HalfId) (pair : Nat)
  /-- TP_DARK_PULSE (R152): A TP output goes dark for TP_W and its assigned inputs are checked. -/
  | tpDarkPulse (h : HalfId) (tp : Nat) (rawA : BitVec 16) (rawB : BitVec 16)
  /-- TP_MASTER_TAKEOVER (R154): A TP terminal stays dark TP_W + 50 µs and the other half becomes pulse master. -/
  | tpMasterTakeover (h : HalfId) (tp : Nat)
  /-- FUNCTION_DELAY_ELAPSED (R160): A category 1 delay elapses from the stamp and the function enters TRIPPED. -/
  | functionDelayElapsed (h : HalfId) (f : Nat)
  /-- TWOHAND_SYNC_TIMEOUT (R161): The second hand is not actuated within 0.5 s and the function enters RESET_WAIT. -/
  | twohandSyncTimeout (h : HalfId) (f : Nat)
  /-- GUARD_AUTO_RESET (R160): A guard closed and locked for 500 ms arms its function by automatic reset. -/
  | guardAutoReset (h : HalfId) (f : Nat)
  /-- SCRUPLE_FI_EDGE (R163): Scruple times an FI edge and trips the overspeed function above TRIP_RPM. -/
  | scrupleFiEdge (h : HalfId) (fi : Nat)
  /-- SAFE_FI (R164): Two FI channels disagree for 1 s and the overspeed function enters FAULT. -/
  | safeFi (h : HalfId) (f : Nat)
  /-- SO_SWITCH_TEST (R167): Every 500 ms a half starts a dark-pulse test of one of its output switches. -/
  | soSwitchTest (h : HalfId) (so : Nat) (low : Bool)
  /-- SO_SWITCH_TEST_END (R168): A switch test ends on confirmation or after 300 µs; a failure raises SAFE_SO_STUCK. -/
  | soSwitchTestEnd (h : HalfId) (so : Nat) (low : Bool) (confirmed : Bool)
  /-- XTRIP_ASSERT (R170): An output still reads energised 2 ms after the own path opened with a trip cause, and XTRIP is asserted. -/
  | xtripAssert (h : HalfId) (so : Nat)
  /-- XTRIP_RECEIVE (R171): A received cross-trip forces every safety gate driver of the half off. -/
  | xtripReceive (h : HalfId)
  /-- SAFE_XTRIP_RX (R171): A cross-trip lasts 500 µs, the force latches and source 117 is raised at L3. -/
  | safeXtripRx (h : HalfId)
  /-- XTRIP_WIRING (R169): Equal XTRIP rails with the partner present for 100 µs raise source 66. -/
  | xtripWiring (h : HalfId)
  /-- SRS_LEVEL_CHANGE (R172): A reset input's filtered level changes and its state machine moves. -/
  | srsLevelChange (h : HalfId) (srs : Nat)
  /-- RESET_HELD (R172): A reset input stays closed beyond 3 s and enters HELD. -/
  | resetHeld (h : HalfId) (srs : Nat)
  /-- SRS_RECOVER_END (R172): A reset input stays open more than 0.5 s in RECOVER and returns to IDLE. -/
  | srsRecoverEnd (h : HalfId) (srs : Nat)
  /-- READBACK_RESET (R174): A half reads a RESET_WAIT function's outputs energised for 20 ms and arms the function. -/
  | readbackReset (h : HalfId) (f : Nat)
  /-- PROOF_OVERDUE (R178): Operating time since the last proof test passes 336 h and source 70 is raised. -/
  | proofOverdue (h : HalfId)
  /-- PD0_POWER_ON (R499): PD0 comes up: the half leaves OFF for BOOT, reads its slot code and counts a power cycle. -/
  | pd0PowerOn (h : HalfId) (slotCode : BitVec 2)
  /-- PD_RAIL_GOOD (R492): A domain rail has been in range for 100 µs and the sequencer starts the next domain. -/
  | pdRailGood (h : HalfId) (pd : Nat)
  /-- BOOT_ROM_START (R506): With HOLDUP_OK and presence made for 100 ms, the boot ROM chooses a firmware slot. -/
  | bootRomStart (h : HalfId)
  /-- BOOT_IMAGE_VERIFIED (R507): The firmware copy and check complete; a verified slot takes the half to NATIVE. -/
  | bootImageVerified (h : HalfId) (sigOk : Bool)
  /-- BOOT_RETRY (R509): With no verified slot, both slots are retried every 60 s. -/
  | bootRetry (h : HalfId)
  /-- NATIVE_IMAGE_START (R511): The supervisor verifies and starts a native image on the application cluster. -/
  | nativeImageStart (h : HalfId) (sigOk : Bool)
  /-- NATIVE_IMAGE_RETURN (R511): A native image returns its result from its entry. -/
  | nativeImageReturn (h : HalfId) (a0 : DWord)
  /-- NATIVE_IMAGE_TIMEOUT (R512): A native image exceeds its limit, fails and PD2 is reset. -/
  | nativeImageTimeout (h : HalfId)
  /-- STARTUP_DONE (R519): Start-up images are done: the application cluster is handed over and role negotiation begins. -/
  | startupDone (h : HalfId)
  /-- NEGOTIATION_TIMEOUT (R190): The partner is not ready 5 s into negotiation and the waiting half becomes ACTIVE. -/
  | negotiationTimeout (h : HalfId)
  /-- APPLICATION_LOAD_DONE (R503): The application slot is read and checked and the half enters ACTIVE with first task cycles. -/
  | applicationLoadDone (h : HalfId)
  /-- CLAIM_INVALID (R184): The partner's claim pair is other than valid for 30 µs and counts as invalid. -/
  | claimInvalid (h : HalfId)
  /-- CLAIM_VALID (R184): The partner's claim pair is valid for 20 µs and counts as valid. -/
  | claimValid (h : HalfId)
  /-- CLAIM_LINE_END (R188): The partner's claim has been valid for 1 s and the CLAIM_LINE condition ends. -/
  | claimLineEnd (h : HalfId)
  /-- PRESENCE_BREAK (R185): A half's own presence contact breaks and it reacts as at L2. -/
  | presenceBreak (h : HalfId)
  /-- PARTNER_ABSENT (R187): The partner's presence pin shows no cartridge for 50 µs. -/
  | partnerAbsent (h : HalfId)
  /-- PARTNER_RELEASED (R187): The partner counts as released and an armed standby half starts its hardware takeover. -/
  | partnerReleased (h : HalfId)
  /-- TAKEOVER_DECISION (R201): Station firmware completes the takeover: ACTIVE, OUT_EN, VD levels, CAN, serial, League and time source. -/
  | takeoverDecision (h : HalfId)
  /-- HOLD_WINDOW_END (R202): An outgoing half's hold window ends and it opens DO, turns off AO and stops VD levels. -/
  | holdWindowEnd (h : HalfId)
  /-- HEARTBEAT_SEND (R192): Every 50 µs a half sends a Span HEARTBEAT. -/
  | heartbeatSend (h : HalfId)
  /-- HEARTBEAT (R193): A Span HEARTBEAT is received and accepted. -/
  | heartbeat (h : HalfId) (hdr : SpanHdr) (hb : Heartbeat)
  /-- HEARTBEAT_TIMEOUT (R187): No HEARTBEAT has been accepted for 100 µs. -/
  | heartbeatTimeout (h : HalfId)
  /-- SPAN_LINK_LOSS (R182): The Span link is lost for 100 ms while the partner's claim stays valid. -/
  | spanLinkLoss (h : HalfId)
  /-- PEER_ARMED_TIMEOUT (R234): 100 µs after the last armed STANDBY heartbeat PEER_ARMED clears. -/
  | peerArmedTimeout (h : HalfId)
  /-- SPAN_FRAME_DISCARD (R192): A Span frame with bad check or reserved type is discarded and SPAN_CRC raised. -/
  | spanFrameDiscard (h : HalfId)
  /-- SPAN_REL_RETRANSMIT (R192): A REL frame unacknowledged for 200 µs is retransmitted. -/
  | spanRelRetransmit (h : HalfId) (item : BitVec 16)
  /-- STATE_DELTA (R195): The standby half receives a STATE_DELTA frame into its pending buffer. -/
  | stateDelta (h : HalfId) (hdr : SpanHdr) (d : StateDelta)
  /-- CYCLE_END (R195): The standby half receives CYCLE_END, applies pending deltas and confirms or rejects the cycle. -/
  | cycleEnd (h : HalfId) (hdr : SpanHdr) (c : CycleEnd)
  /-- FULL_COPY_COMPLETE (R200): A SYNCING half completes its full copy with every task confirmed and enters STANDBY. -/
  | fullCopyComplete (h : HalfId)
  /-- CFG_FRAME (R192): A CFG Span frame is received and applied in rel_item order. -/
  | cfgFrame (h : HalfId) (hdr : SpanHdr) (item : CfgItem)
  /-- PEER_MBX (R300): A PEER_MBX frame carrying a channel 7 entry is received. -/
  | peerMbx (h : HalfId) (hdr : SpanHdr) (reply : Bool) (entry : Entry)
  /-- ROLE_OFFER (R205): The active half sends a ROLE OFFER with instant H and enters RELINQUISHING. -/
  | roleOffer (h : HalfId) (cause : Cause) (at_ : DWord)
  /-- ROLE_ACCEPT (R207): The standby half accepts an OFFER with the same H. -/
  | roleAccept (h : HalfId)
  /-- ROLE_REFUSE (R207): The standby half refuses an OFFER. -/
  | roleRefuse (h : HalfId)
  /-- ROLE_ABORT (R207): Either half aborts a handover before H and the active half stays ACTIVE. -/
  | roleAbort (h : HalfId)
  /-- ROLE_RELINQUISH (R185): A ROLE RELINQUISH frame is received from the partner. -/
  | roleRelinquish (h : HalfId)
  /-- ROLE_CLAIMED (R207): The incoming half sends ROLE CLAIMED at H + 50 µs and ROLE_SWAP completes. -/
  | roleClaimed (h : HalfId)
  /-- OFFER_TIMEOUT (R182): No ACCEPT within 50 ms and the relinquishing half returns to ACTIVE. -/
  | offerTimeout (h : HalfId)
  /-- HANDOVER_INSTANT_H (R207): At H the outgoing half stops its claim and the incoming half closes DO and starts AO. -/
  | handoverInstantH (h : HalfId)
  /-- HANDOVER_INSTANT_H_V (R207): At H_V the outgoing half clears OUT_EN, stops VD levels and sends a final CE_TRACK. -/
  | handoverInstantHV (h : HalfId)
  /-- INCOMING_VD_START (R128): At H_V + 1 µs the incoming half starts its VD levels and sets OUT_EN. -/
  | incomingVdStart (h : HalfId)
  /-- HANDOVER_DO_RELEASE (R207): At H + 50 µs the outgoing half opens DO switches and turns off AO sinks. -/
  | handoverDoRelease (h : HalfId)
  /-- HANDOVER_COMPLETE (R207): At H + 100 µs the outgoing half enters STANDBY and starts tracking and proof tests. -/
  | handoverComplete (h : HalfId)
  /-- HANDOVER_TIMEOUT (R206): No valid instant H within 10 s and the handover is abandoned. -/
  | handoverTimeout (h : HalfId)
  /-- PERIODIC_SWAP (R208): SWAP_INTERVAL elapses, or a 1 h retry falls due, and a periodic handover is offered. -/
  | periodicSwap (h : HalfId) (at_ : DWord)
  /-- SWAP_OVERDUE (R208): A swap delayed beyond 168 h raises source 69. -/
  | swapOverdue (h : HalfId)
  /-- RELEASE_BUTTON_HOLD (R530): RELEASE is held 2 s on an active half and the release handover starts or is refused. -/
  | releaseButtonHold (h : HalfId) (at_ : DWord)
  /-- RELEASE_RECOVERY_HOLD (R516): RELEASE held 5 s from power-on puts the half into recovery. -/
  | releaseRecoveryHold (h : HalfId)
  /-- FAULT_RAISE (R233): A detector raises a fault source and the collector takes it at its level with escalation and hold. -/
  | faultRaise (h : HalfId) (src : Nat)
  /-- SOURCE_PAIR_INVALID (R226): A source pair has equal rails for 2 IO clocks and FC_WIRING is raised. -/
  | sourcePairInvalid (h : HalfId) (src : Nat)
  /-- REACTION_WINDOW_EXPIRE (R231): A reaction window expires with PEND set and the source is raised again at L2. -/
  | reactionWindowExpire (h : HalfId) (src : Nat)
  /-- FC_PEND_CLEAR (R231): The supervisor clears FC_PEND bits, acknowledging faults. -/
  | fcPendClear (h : HalfId) (i : Nat) (mask : Word)
  /-- HELD_FAULT_RELEASE (R235): A fault-cause handover has not completed 10 s after PEER_ARMED set and held faults become L2 raises. -/
  | heldFaultRelease (h : HalfId)
  /-- CLASS_CLEAR (R236): A class has no raise for QUIET_L1 and no PEND bit, and its FC_ACTIVE bits clear. -/
  | classClear (h : HalfId) (cls : Nat)
  /-- DOMAIN_RESET_END (R237): A domain reset ends and the quiet periods start. -/
  | domainResetEnd (h : HalfId) (pd : Nat)
  /-- QUIET_L2_EXPIRE (R237): All quiet periods have elapsed and the half goes to NATIVE, or LATCHED on a third recovery. -/
  | quietL2Expire (h : HalfId) (cls : Nat)
  /-- FC_LATCH_MARK (R239): A half reaching NATIVE with a latch mark raises source 126 at L2. -/
  | fcLatchMark (h : HalfId)
  /-- LOCKSTEP_MISMATCH (R222): A lockstep pair's comparators report a mismatch and the pair halts and raises its source. -/
  | lockstepMismatch (h : HalfId) (pair : Pair) (cause : LsCause)
  /-- FLUSH_TIMER_EXPIRE (R224): 100 ms without a flush forces a flush of the pair's architectural state. -/
  | flushTimerExpire (h : HalfId) (pair : Pair)
  /-- FLUSH_SUP (R224): FC_LS_CMD FLUSH_SUP forces a supervisor pair flush. -/
  | flushSup (h : HalfId)
  /-- FLUSH_APP (R224): FC_LS_CMD FLUSH_APP forces an application pair flush. -/
  | flushApp (h : HalfId)
  /-- FC_INJ (R241): A write of FC_INJ with GO requests a fault injection, accepted or refused. -/
  | fcInj (h : HalfId) (src : Nat)
  /-- FC_EVT_POP (R244): A write of POP removes the oldest event FIFO entry. -/
  | fcEvtPop (h : HalfId)
  /-- FC_LOCK (R227): Setting FC_CTRL.LOCK locks the source and class configuration until half reset. -/
  | fcLock (h : HalfId)
  /-- FC_CFG_CHK (R228): The 1 ms check over the locked FC configuration differs and source 121 is raised. -/
  | fcCfgChk (h : HalfId)
  /-- FIXTURE_LOSS (R243): The fixture pattern is lost for 5 ms and factory test mode ends by a half reset. -/
  | fixtureLoss (h : HalfId)
  /-- SW_SUP_WDG (R228): The supervisor watchdog of 10 ms expires and source 104 is raised. -/
  | swSupWdg (h : HalfId)
  /-- ECC_ERROR (R228): A memory reports a correctable or uncorrectable ECC error and raises its MEM source. -/
  | eccError (h : HalfId) (mem : EccMem) (uncorrectable : Bool)
  /-- THERMAL_THRESHOLD (R228): A die or board temperature crosses a THERMAL threshold. -/
  | thermalThreshold (h : HalfId) (kind : Thermal)
  /-- CLOCK_MONITOR_WINDOW (R498): A 1 ms edge-count window between the clock roots ends and loss or drift is judged. -/
  | clockMonitorWindow (h : HalfId) (dev : BitVec 16) (mainLost : Bool) (safeLost : Bool)
  /-- LEAGUE_HEARTBEAT_SEND (R257): Every 100 ms a half sends a League HEARTBEAT on each session. -/
  | leagueHeartbeatSend (h : HalfId)
  /-- LEAGUE_HEARTBEAT (R257): A League HEARTBEAT is received, updating presence and gap detection. -/
  | leagueHeartbeat (h : HalfId) (hb : LeagueHb)
  /-- WORKER_LOST (R257): 3 s pass without a heartbeat from either half of a worker. -/
  | workerLost (h : HalfId) (station : Nat)
  /-- MANAGER_LOST (R257): 3 s pass without a heartbeat from either half of the manager and imports become stale. -/
  | managerLost (h : HalfId)
  /-- EXCHANGE (R260): An EXCHANGE fragment is received; a complete frame is applied atomically under the cycle table. -/
  | exchange (h : HalfId) (f : LeagueFrame)
  /-- REFRESH (R263): A REFRESH frame is received and each record applied by seq. -/
  | refresh (h : HalfId) (f : LeagueFrame)
  /-- RELAY (R264): An importer receives a RELAY frame and applies it. -/
  | relay (h : HalfId) (f : LeagueFrame)
  /-- JOIN (R256): The manager receives a JOIN and accepts or refuses the worker. -/
  | join (h : HalfId) (j : JoinFrame)
  /-- JOIN_REPLY (R256): A worker receives JOIN_REPLY and, if accepted, schedules its full REFRESH. -/
  | joinReply (h : HalfId) (result : Nat) (mismatch : Bool) (epoch : Word)
  /-- REFRESH_REQ (R261): A worker receives REFRESH_REQ and refreshes the task at its next cycle end. -/
  | refreshReq (h : HalfId) (task : Nat)
  /-- STATION_STATE (R265): A STATION_STATE frame reporting a lost worker makes its objects stale. -/
  | stationState (h : HalfId) (station : Nat) (lost : Bool)
  /-- FRAGMENT_TIMEOUT (R260): Fragments of a frame incomplete 100 ms after its first fragment are discarded. -/
  | fragmentTimeout (h : HalfId) (station : Nat) (task : Nat)
  /-- REFRESH_SEND (R263): A worker sends a task's REFRESH in rotation, each point at least every 10 s. -/
  | refreshSend (h : HalfId) (task : Nat)
  /-- FULL_REFRESH_START (R266): The delay of (station mod 100) × 90 ms after JOIN acceptance ends and a full REFRESH starts. -/
  | fullRefreshStart (h : HalfId)
  /-- FULL_REFRESH_DEADLINE (R266): A task with no cycle end within 1 s sends its REFRESH at the end of that 1 s. -/
  | fullRefreshDeadline (h : HalfId) (task : Nat)
  /-- STORE_BATCH (R270): Every 1 ms the active manager closes a store batch and sends its deltas and CYCLE_END. -/
  | storeBatch (h : HalfId)
  /-- COMMAND_CONSUME (R275): The entry at a submission head is consumed when a context is available. -/
  | commandConsume (h : HalfId) (ch : Nat)
  /-- COMPLETION_POST (R276): A completion waiting in its context is posted once the completion ring has room. -/
  | completionPost (h : HalfId) (ch : Nat) (tag : Nat)
  /-- NOTIFICATION_POST (R289): A subscription notification is posted when 8 completion slots are free and min_interval allows. -/
  | notificationPost (h : HalfId) (sub : Nat)
  /-- MBX_CH0_SQ_TAIL (R276): A write of the channel 0 submission tail rings the doorbell. -/
  | mbxCh0SqTail (h : HalfId) (v : Word)
  /-- MBX_CH0_CQ_HEAD (R276): A write of the channel 0 completion head frees completion slots. -/
  | mbxCh0CqHead (h : HalfId) (v : Word)
  /-- MBX_CHN_CTRL_RESET (R283): RESET empties channel 0's rings, or ends the session of channels 2–6. -/
  | mbxChnCtrlReset (h : HalfId) (ch : Nat)
  /-- MBX_POOL_MAX_READ (R301): A read of MBX_POOL_MAX returns the pool high-water mark and clears it. -/
  | mbxPoolMaxRead (h : HalfId)
  /-- DTLS_HANDSHAKE (R290): A DTLS 1.3 handshake message is received and the certificate and limits are checked. -/
  | dtlsHandshake (h : HalfId) (ch : Option (Nat)) (addr : Word) (cert : Cert)
  /-- DTLS_KEY_UPDATE (R290): After 2^24 records or 24 h the station initiates a KeyUpdate. -/
  | dtlsKeyUpdate (h : HalfId) (ch : Nat)
  /-- OPEN (R292): A transport OPEN is received and a generation granted or the session closed. -/
  | openSession (h : HalfId) (ch : Nat) (gen : Nat)
  /-- ENTRIES (R292): An ENTRIES datagram is received and its new entries accepted in seq order. -/
  | entries (h : HalfId) (ch : Nat) (first : Word) (es : List (Entry)) (cqHead : BitVec 16)
  /-- POINTERS (R293): A POINTERS datagram is received with ring pointers. -/
  | pointers (h : HalfId) (ch : Nat) (sqTail : BitVec 16) (cqHead : BitVec 16)
  /-- CLOSE (R292): A CLOSE datagram ends the session. -/
  | closeSession (h : HalfId) (ch : Nat)
  /-- COMPLETION_RETRANSMIT (R293): Every 20 ms the station retransmits completions not covered by the host's head. -/
  | completionRetransmit (h : HalfId) (ch : Nat)
  /-- POINTERS_KEEPALIVE (R293): After 1 s with nothing else to send the station sends POINTERS. -/
  | pointersKeepalive (h : HalfId) (ch : Nat)
  /-- SESSION_TIMEOUT (R293): A session silent for 10 s, or an MP1 session for 30 s, ends. -/
  | sessionTimeout (h : HalfId) (ch : Nat)
  /-- MP1_MESSAGE (R299): An MP1 request message is received and answered or discarded. -/
  | mp1Message (h : HalfId) (addr : Word) (port : BitVec 16) (bytes : List (Byte))
  /-- USB_DISCONNECT (R297): The USB cable is disconnected and the channel 6 session ends. -/
  | usbDisconnect (h : HalfId)
  /-- PEER_COMMAND_TIMEOUT (R300): A forwarded command's partner is released or the link lost for 100 ms and it completes with ST_TIMEOUT. -/
  | peerCommandTimeout (h : HalfId) (ch : Nat) (tag : Nat)
  /-- NOP (R308): NOP echoes its payload. -/
  | nop (h : HalfId) (ch : Nat) (tag : Nat)
  /-- IDENTIFY (R308): IDENTIFY returns station, half, variant, state and serials. -/
  | identify (h : HalfId) (ch : Nat) (tag : Nat)
  /-- SESSION_INFO (R308): SESSION_INFO returns the session's channel, generation, role and certificate data. -/
  | sessionInfo (h : HalfId) (ch : Nat) (tag : Nat)
  /-- ABORT (R287): ABORT marks a pending target to stop at its next abort point. -/
  | abort (h : HalfId) (ch : Nat) (tag : Nat)
  /-- OBJ_READ (R310): OBJ_READ returns one object record. -/
  | objRead (h : HalfId) (ch : Nat) (tag : Nat)
  /-- OBJ_WRITE (R311): OBJ_WRITE writes a host-written point and publishes it. -/
  | objWrite (h : HalfId) (ch : Nat) (tag : Nat)
  /-- OBJ_READ_GROUP (R312): OBJ_READ_GROUP returns records of one station consistently. -/
  | objReadGroup (h : HalfId) (ch : Nat) (tag : Nat)
  /-- OBJ_SUBSCRIBE (R313): OBJ_SUBSCRIBE opens a subscription and sends INITIAL notifications. -/
  | objSubscribe (h : HalfId) (ch : Nat) (tag : Nat)
  /-- OBJ_UNSUBSCRIBE (R288): OBJ_UNSUBSCRIBE ends a subscription. -/
  | objUnsubscribe (h : HalfId) (ch : Nat) (tag : Nat)
  /-- OBJ_FORCE (R314): OBJ_FORCE forces or releases a point of the station. -/
  | objForce (h : HalfId) (ch : Nat) (tag : Nat)
  /-- TASK_STATE (R316): TASK_STATE queries, starts or stops a task. -/
  | taskState (h : HalfId) (ch : Nat) (tag : Nat)
  /-- TASK_STATS (R316): TASK_STATS returns and optionally resets a task's statistics. -/
  | taskStats (h : HalfId) (ch : Nat) (tag : Nat)
  /-- CFG_STAGE (R318): CFG_STAGE writes configuration data into the non-current slot or forwards it to a worker. -/
  | cfgStage (h : HalfId) (ch : Nat) (tag : Nat) (reply : Option (Nat × Word))
  /-- CFG_VERIFY (R319): CFG_VERIFY checks the staged configuration and reports load and affected tasks. -/
  | cfgVerify (h : HalfId) (ch : Nat) (tag : Nat)
  /-- CFG_COMMIT (R320): CFG_COMMIT switches affected tasks to the staged configuration. -/
  | cfgCommit (h : HalfId) (ch : Nat) (tag : Nat)
  /-- CFG_ROLLBACK (R321): CFG_ROLLBACK switches every task back to the other slot's configuration. -/
  | cfgRollback (h : HalfId) (ch : Nat) (tag : Nat)
  /-- FW_STAGE (R323): FW_STAGE writes a firmware image into the named half's inactive slot. -/
  | fwStage (h : HalfId) (ch : Nat) (tag : Nat) (sigOk : Bool)
  /-- FW_ACTIVATE (R324): FW_ACTIVATE restarts a half into its staged slot or hands over an active half. -/
  | fwActivate (h : HalfId) (ch : Nat) (tag : Nat) (at_ : DWord)
  /-- ROLE_QUERY (R322): ROLE_QUERY returns half state, partner state and role flags. -/
  | roleQuery (h : HalfId) (ch : Nat) (tag : Nat)
  /-- ROLE_SWAP (R325): ROLE_SWAP performs a controlled handover with cause 1. -/
  | roleSwap (h : HalfId) (ch : Nat) (tag : Nat) (at_ : DWord)
  /-- HALF_RELEASE (R325): HALF_RELEASE performs a controlled handover with cause 3 and sets RELEASED. -/
  | halfRelease (h : HalfId) (ch : Nat) (tag : Nat) (at_ : DWord)
  /-- FAULT_QUERY (R326): FAULT_QUERY returns the fault summary, a class or a source. -/
  | faultQuery (h : HalfId) (ch : Nat) (tag : Nat)
  /-- FAULT_ACK (R327): FAULT_ACK clears latch stamps and marks or removes held faults. -/
  | faultAck (h : HalfId) (ch : Nat) (tag : Nat)
  /-- FAULT_INJECT (R328): FAULT_INJECT injects a source in proof-test mode on the standby half. -/
  | faultInject (h : HalfId) (ch : Nat) (tag : Nat)
  /-- REC_SNAPSHOT (R329): REC_SNAPSHOT reads one slice of a recorder record. -/
  | recSnapshot (h : HalfId) (ch : Nat) (tag : Nat)
  /-- REC_LIST (R326): REC_LIST returns the kinds and OVF flags of recorder channels. -/
  | recList (h : HalfId) (ch : Nat) (tag : Nat)
  /-- CE_CHAIN_WRITE (R331): CE_CHAIN_WRITE writes a chain descriptor, coefficients or limits, or resets counters. -/
  | ceChainWrite (h : HalfId) (ch : Nat) (tag : Nat)
  /-- CE_COEF_SWAP (R331): CE_COEF_SWAP requests a coefficient bank swap. -/
  | ceCoefSwap (h : HalfId) (ch : Nat) (tag : Nat)
  /-- CE_INJECT (R332): CE_INJECT starts a test generator injection and arms trace channels. -/
  | ceInject (h : HalfId) (ch : Nat) (tag : Nat)
  /-- CE_TRACE_ARM (R332): CE_TRACE_ARM configures, arms, triggers, stops or resets a trace channel. -/
  | ceTraceArm (h : HalfId) (ch : Nat) (tag : Nat)
  /-- CE_TRACE_READ (R332): CE_TRACE_READ reads entries of a DONE trace channel. -/
  | ceTraceRead (h : HalfId) (ch : Nat) (tag : Nat)
  /-- TIME_GET (R546): TIME_GET returns station and monotonic time, source, state and offset. -/
  | timeGet (h : HalfId) (ch : Nat) (tag : Nat)
  /-- TIME_SOURCE (R334): TIME_SOURCE queries or selects the time source or sets station time. -/
  | timeSource (h : HalfId) (ch : Nat) (tag : Nat)
  /-- DISP_UPDATE (R335): DISP_UPDATE writes pixels, shows a page or commits a display region. -/
  | dispUpdate (h : HalfId) (ch : Nat) (tag : Nat)
  /-- DISP_STATUS (R333): DISP_STATUS returns the display state. -/
  | dispStatus (h : HalfId) (ch : Nat) (tag : Nat)
  /-- LEAGUE_JOIN (R336): LEAGUE_JOIN makes a worker half leave and join the League again. -/
  | leagueJoin (h : HalfId) (ch : Nat) (tag : Nat)
  /-- LEAGUE_STATUS (R336): LEAGUE_STATUS returns League summary or per-station state. -/
  | leagueStatus (h : HalfId) (ch : Nat) (tag : Nat)
  /-- SAFETY_STATUS (R337): SAFETY_STATUS returns words of one SAF mirror refresh. -/
  | safetyStatus (h : HalfId) (ch : Nat) (tag : Nat)
  /-- TS_SRV_GO (R388): TS_SRV_CMD GO applies offset θ to the PI servo, or steps if |θ| exceeds 1 ms. -/
  | tsSrvGo (h : HalfId)
  /-- TS_SRV_STEP (R389): TS_SRV_CMD GO with STEP applies a phase step of station time. -/
  | tsSrvStep (h : HalfId)
  /-- TS_MONO_READ (R386): A read of TS_MONO latches station time, step accumulator and raw tick count. -/
  | tsMonoRead (h : HalfId)
  /-- MONO_WRAP (R386): The monotonic low word wraps and WRAP_M is set. -/
  | monoWrap (h : HalfId)
  /-- STATION_WRAP (R386): The station time low word wraps and WRAP_S is set. -/
  | stationWrap (h : HalfId)
  /-- SERVO_HOLDOVER (R390): No offset for 3 source intervals moves the servo to holdover. -/
  | servoHoldover (h : HalfId)
  /-- STATION_TIME_SAVE (R382): Once per minute the half writes station time to MRAM. -/
  | stationTimeSave (h : HalfId)
  /-- SYNC (R391): A PTP Sync message is received and stamped. -/
  | sync (h : HalfId) (port : Nat) (m : PtpSync)
  /-- FOLLOW_UP (R391): A PTP Follow_Up message is received. -/
  | followUp (h : HalfId) (port : Nat) (m : PtpSync)
  /-- DELAY_REQ (R391): A PTP Delay_Req is received by a master port. -/
  | delayReq (h : HalfId) (port : Nat) (m : PtpDelayReq)
  /-- DELAY_RESP (R398): A PTP Delay_Resp is received and the path delay and offset computed. -/
  | delayResp (h : HalfId) (port : Nat) (m : PtpDelayResp)
  /-- ANNOUNCE (R391): A PTP Announce is received and the BMCA evaluated. -/
  | announce (h : HalfId) (port : Nat) (m : PtpAnnounce)
  /-- PTP_MESSAGE_SEND (R392): A PTP send interval for Sync, Delay_Req or Announce falls due and the message is queued. -/
  | ptpMessageSend (h : HalfId) (port : Nat) (kind : PtpKind)
  /-- PTP_FRAME_DEPARTURE (R397): A one-step frame departs and its correction is inserted, or it is discarded as late. -/
  | ptpFrameDeparture (h : HalfId) (port : Nat) (kind : PtpKind)
  /-- ANNOUNCE_RECEIPT_TIMEOUT (R394): announceReceiptTimeout expires and the worker selects another master. -/
  | announceReceiptTimeout (h : HalfId) (port : Nat)
  /-- PTP_PORT_SYNC_LOSS (R395): The selected port has no Sync for 375 ms and the other port is selected. -/
  | ptpPortSyncLoss (h : HalfId)
  /-- AB_DIS (R395): The two ports' offsets differ by more than 1 µs for 10 s and AB_DIS is set. -/
  | abDis (h : HalfId)
  /-- SPAN_TIME_SEND (R399): Every 1 ms the active half sends a TIME frame. -/
  | spanTimeSend (h : HalfId)
  /-- SPAN_TIME_FRAME (R399): The standby half receives a TIME frame and feeds its servo, adopting time once in SYNCING. -/
  | spanTimeFrame (h : HalfId) (hdr : SpanHdr) (p : TimePayload)
  /-- EDGE_CAPTURE (R402): An FI or continuous DI edge is stamped into its capture FIFO. -/
  | edgeCapture (h : HalfId) (fifo : Nat) (rising : Bool) (halfNs : Bool)
  /-- TS_CAP_POP (R402): A write of POP removes the oldest capture FIFO entry. -/
  | tsCapPop (h : HalfId) (fifo : Nat)
  /-- DI_FILTER_CHANGE (R343): A DI filter counter reaches N or 0 and the filtered value changes with its stamp. -/
  | diFilterChange (h : HalfId) (di : Nat)
  /-- DI_SINK (R352): A window sink delivers less than 4.5 mA and source 78 is raised. -/
  | diSink (h : HalfId) (di : Nat)
  /-- DO_LIMIT (R352): A DO switch stays in current limit for 10 ms and source 72 is raised. -/
  | doLimit (h : HalfId) (ch : Nat)
  /-- DO_OVERTEMP (R348): A DO switch exceeds 150 °C and turns off. -/
  | doOvertemp (h : HalfId) (ch : Nat)
  /-- DO_OVERTEMP_CLEAR (R348): A DO switch cools below 130 °C and turns on again. -/
  | doOvertempClear (h : HalfId) (ch : Nat)
  /-- DO_GROUP (R349): A group current above 10 A for 1 ms turns off limiting channels. -/
  | doGroup (h : HalfId) (group : Nat) (count : Nat)
  /-- DO_GROUP_RESTART (R349): A group-limited channel restarts after 100 ms. -/
  | doGroupRestart (h : HalfId) (ch : Nat)
  /-- DO_OPEN_LOAD (R350): An off channel's terminal stays above 3.5 V for 50 ms and open load is reported. -/
  | doOpenLoad (h : HalfId) (ch : Nat)
  /-- DO_SHORT_24V (R350): An off channel's terminal stays above 18 V for 10 ms and a short is reported. -/
  | doShort24v (h : HalfId) (ch : Nat)
  /-- DO_STUCK (R352): A DO switch conducts with gate off or fails to conduct and source 77 is raised. -/
  | doStuck (h : HalfId) (ch : Nat)
  /-- FI_EDGE (R354): An FI edge is stamped and the speed updated, or discarded as overrate. -/
  | fiEdge (h : HalfId) (fi : Nat) (rising : Bool) (halfNs : Bool)
  /-- FI_SPEED_UPDATE (R355): Every 100 µs between edges the FI speed is lowered if due. -/
  | fiSpeedUpdate (h : HalfId) (fi : Nat)
  /-- FI_ZERO (R355): T_ZERO passes without an edge and speed becomes 0.0 with ZERO set. -/
  | fiZero (h : HalfId) (fi : Nat)
  /-- AI_CONVERSION (R358): An AI conversion completes and value, band and quality are updated. -/
  | aiConversion (h : HalfId) (ai : Nat) (raw : F32) (vs : F32) (supLim : Bool) (temp : F32)
  /-- AI_BAND_QUALITY (R362): A current stays in a band for T_NE43 and the channel's quality changes. -/
  | aiBandQuality (h : HalfId) (ai : Nat)
  /-- AI_COMPLY (R367): Headroom low or supply limit for 100 ms puts a channel in loop compliance. -/
  | aiComply (h : HalfId) (ai : Nat)
  /-- AI_COMPLY_END (R367): Neither compliance condition holds for 1 s and loop compliance ends. -/
  | aiComplyEnd (h : HalfId) (ai : Nat)
  /-- AI_CALIBRATION (R375): A channel's 10-minute self-calibration is due and runs, or gaps are taken on a lone half. -/
  | aiCalibration (h : HalfId) (ai : Nat) (bin : Nat) (offset : F32) (gain : F32) (limitsOk : Bool) (voc : F32) (vocSeen : Bool) (ratio : F32)
  /-- AO_COMPLY (R373): Readback stays 0.2 mA below command for 50 ms and the output loses compliance. -/
  | aoComply (h : HalfId) (ao : Nat) (readback : F32) (drive : F32)
  /-- AO_COMPLY_RETURN (R373): Readback within 0.2 mA for 1 s and compliance returns. -/
  | aoComplyReturn (h : HalfId) (ao : Nat) (readback : F32)
  /-- AO_OPEN (R374): Readback below 0.5 mA for 50 ms with command ≥ 1 mA marks the output open. -/
  | aoOpen (h : HalfId) (ao : Nat) (readback : F32)
  /-- AO_SINK (R379): The half's drive disagrees with readback by more than 1 mA for 10 ms. -/
  | aoSink (h : HalfId) (ao : Nat)
  /-- CAN_FRAME_RECEIVE (R413): A CAN frame is received and stored in the matching object or FIFO, closing a group if due. -/
  | canFrameReceive (h : HalfId) (ctl : Nat) (f : CanFrame)
  /-- CAN_SEND_DUE (R416): A periodic send object falls due and its frame is offered to arbitration. -/
  | canSendDue (h : HalfId) (ctl : Nat) (obj : Nat)
  /-- CAN_FRAME_SENT (R416): A frame transmission completes, or loses arbitration or meets an error and is retried. -/
  | canFrameSent (h : HalfId) (ctl : Nat) (obj : Nat) (how : CanEnd)
  /-- CAN_ERROR (R418): A bus error updates TEC and REC and may change error state. -/
  | canError (h : HalfId) (ctl : Nat) (tec : Nat) (rec : Nat)
  /-- CAN_BUSOFF_RECOVERED (R418): 128 occurrences of 11 recessive bits complete bus-off recovery. -/
  | canBusoffRecovered (h : HalfId) (ctl : Nat)
  /-- BO_REL (R418): A write of BO_REL starts bus-off recovery in gated mode. -/
  | boRel (h : HalfId) (ctl : Nat)
  /-- BO_DELAY (R419): BO_DELAY passes since bus off and firmware releases within BO_MAX. -/
  | boDelay (h : HalfId) (ctl : Nat)
  /-- CAN_RATE_CANDIDATE_TIMEOUT (R420): 100 ms without an accepted frame moves rate detection to the next candidate. -/
  | canRateCandidateTimeout (h : HalfId) (ctl : Nat)
  /-- CAN_RATE_NONE (R420): 10 s without acceptance sets NONE. -/
  | canRateNone (h : HalfId) (ctl : Nat)
  /-- CAN_SLEEP (R421): A rising edge of the sleep point puts the transceiver to sleep at the next bus idle. -/
  | canSleep (h : HalfId) (ctl : Nat)
  /-- CAN_BUS_WAKE (R422): A dominant edge or selective wake frame wakes a sleeping transceiver. -/
  | canBusWake (h : HalfId) (ctl : Nat) (frame : Option (CanFrame))
  /-- CAN_ROLE_CHANGE (R423): At takeover or the first bus idle after H_V the incoming half starts transmitting what is due. -/
  | canRoleChange (h : HalfId) (ctl : Nat)
  /-- CAN_XCVR (R425): RXD stuck or dominant timeout of 1.7 ms raises source 99. -/
  | canXcvr (h : HalfId) (ctl : Nat)
  /-- LAN_FRAME_RECEIVE (R430): A LAN frame is received, duplicate-filtered and queued by class or discarded. -/
  | lanFrameReceive (h : HalfId) (port : Nat) (f : LanFrame)
  /-- PRP_SUPERVISION_SEND (R428): Every 2,000 ms PRP supervision frames are sent on both LANs. -/
  | prpSupervisionSend (h : HalfId)
  /-- PRP_NODE_FORGET (R428): A node table entry unheard for 60 s is forgotten. -/
  | prpNodeForget (h : HalfId) (src : DWord)
  /-- LAN_LINK_CHANGE (R444): A LAN or instrument port's link goes up or down. -/
  | lanLinkChange (h : HalfId) (port : Nat) (up : Bool)
  /-- NET_LAN_LOST (R444): Both LAN ports have no link for 1 s and source 101 is raised. -/
  | netLanLost (h : HalfId)
  /-- INS_SENTENCE_RECEIVE (R434): An IEC 61162 sentence is received and its fields applied at once. -/
  | insSentenceReceive (h : HalfId) (s : Sentence)
  /-- SENTENCE_TIMEOUT (R434): A mapped sentence's timeout expires and its objects become stale. -/
  | sentenceTimeout (h : HalfId) (idx : Nat)
  /-- SENTENCE_SEND_DUE (R434): A transmitted sentence's period falls due and it is sent. -/
  | sentenceSendDue (h : HalfId) (idx : Nat)
  /-- SER_FRAME_RECEIVE (R436): A Modbus frame or sentence is received on a serial bus. -/
  | serFrameReceive (h : HalfId) (bus : Nat) (f : SerFrame)
  /-- MODBUS_POLL_DUE (R437): A poll list request falls due and starts when the bus is free. -/
  | modbusPollDue (h : HalfId) (bus : Nat) (req : Nat)
  /-- MODBUS_RESPONSE_TIMEOUT (R437): A request's response timeout expires and it is retried or its objects made stale. -/
  | modbusResponseTimeout (h : HalfId) (bus : Nat)
  /-- SER_ROLE_CHANGE (R438): At the first serial bus idle after H_V the serial roles change. -/
  | serRoleChange (h : HalfId) (bus : Nat)
  /-- AUTH_ADDRESS_UNBLOCK (R442): A source address ignored after repeated authentication failures is accepted again after 60 s. -/
  | authAddressUnblock (h : HalfId) (addr : Word)
  /-- CV_JOB_GO (R449): CV_JOB_CMD GO starts a scan engine job. -/
  | cvJobGo (h : HalfId) (slot : Nat)
  /-- CV_JOB_STOP (R453): CV_JOB_CMD STOP ends a run at the next block boundary. -/
  | cvJobStop (h : HalfId) (slot : Nat)
  /-- CV_JOB_DONE (R449): A scan job completes, errs or conflicts and its result is compared. -/
  | cvJobDone (h : HalfId) (slot : Nat) (data : List (Byte)) (eccBad : Bool) (written : Bool)
  /-- CV_JOB_REPEAT (R453): REPEAT_MS after its previous start a repeating job restarts, or is late. -/
  | cvJobRepeat (h : HalfId) (slot : Nat)
  /-- BG_ACTIVITY_DUE (R454): A background activity falls due by its period. -/
  | bgActivityDue (h : HalfId) (act : Activity) (values : List (Nat × F64)) (bad : List (Nat × Nat))
  /-- SW_BG_BUDGET (R454): An activity has not completed within 1.5 periods and source 110 is raised. -/
  | swBgBudget (h : HalfId) (act : Activity)
  /-- NOR_ERASE (R456): A NOR block is erased and its erase count updated or the block retired. -/
  | norErase (h : HalfId) (block : Nat) (ok : Bool)
  /-- OPERATING_MINUTE (R462): A whole minute of powered time passes and the operating-minute counter increments. -/
  | operatingMinute (h : HalfId)
  /-- EVR_COMMIT_PASS (R468): The commit controller commits dirty recorder channels under the four-step commit. -/
  | evrCommitPass (h : HalfId)
  /-- DISP_FRAME (R478): A display frame boundary passes: waveforms advance, end or start per region. -/
  | dispFrame (h : HalfId) (temp : BitVec 16)
  /-- COVER_DETECT (R474): A cover is detected, its identification read and the panel recovered. -/
  | coverDetect (h : HalfId) (cover : CoverId)
  /-- COVER_REMOVE (R483): The cover detect line breaks and the rails are discharged. -/
  | coverRemove (h : HalfId)
  /-- DISP_NO_CLAIM (R483): No claim pair valid for 5 ms discharges the panel rails. -/
  | dispNoClaim (h : HalfId)
  /-- DISP_DISCHARGE_DONE (R483): The rail discharge stages complete. -/
  | dispDischargeDone (h : HalfId)
  /-- DISP_JOURNAL_ACK_TIMEOUT (R484): The journal entry is unacknowledged after 1 ms and the region proceeds. -/
  | dispJournalAckTimeout (h : HalfId) (slot : Nat)
  /-- DISP_STRESS_SEND (R484): Every 10 s the stress counters are copied to the standby half. -/
  | dispStressSend (h : HalfId)
  /-- LOGIC_FEED_FAIL (R495): Both logic feeds fall below 18 V and the half runs from its store. -/
  | logicFeedFail (h : HalfId)
  /-- POWER_FAIL_CONFIRM (R495): Feeds stay low 1 ms: PWR_LOGIC_FAIL is raised and the power-fail sequence runs. -/
  | powerFailConfirm (h : HalfId)
  /-- LOGIC_FEED_RETURN (R495): A logic feed returns to range. -/
  | logicFeedReturn (h : HalfId) (feed : Feed)
  /-- HOLDUP_STORE_EMPTY (R495): The store falls below 15 V and PD0 and PD5 go off. -/
  | holdupStoreEmpty (h : HalfId)
  /-- PWR_HOLDUP (R494): Usable hold-up energy falls below 0.1 J and source 51 is raised. -/
  | pwrHoldup (h : HalfId) (energy : BitVec 16)
  /-- FIELD_FEED_RANGE (R490): A field feed leaves or returns to its range and diagnostics are suppressed or resumed. -/
  | fieldFeedRange (h : HalfId) (feed : Feed) (inRange : Bool)
  /-- DOMAIN_RAIL_FAULT (R228): A domain rail leaves its range and its POWER source is raised. -/
  | domainRailFault (h : HalfId) (pd : Nat)
  /-- SYS_RST_DOMAIN (R502): SYS_RST DOM resets a named domain unless the half drives its claim. -/
  | sysRstDomain (h : HalfId) (doms : Byte)
  /-- SYS_RST_HALF (R502): SYS_RST HALF resets the whole half unless the half drives its claim. -/
  | sysRstHalf (h : HalfId)
  /-- SPAN_RELINQ (R185): A write of SPAN_CTRL RELINQ sends ROLE RELINQUISH. -/
  | spanRelinq (h : HalfId)
  /-- ICU_CLAIM_READ (R505): A read of ICU_CLAIM_S or ICU_CLAIM_A returns and claims the highest pending source. -/
  | icuClaimRead (h : HalfId) (app : Bool)
  /-- REGISTER_WRITE (R9): A write to a register with no row of its own acts per its access code. -/
  | registerWrite (h : HalfId) (app : Bool) (addr : Nat) (value : Word)
  /-- COMMAND_TIMEOUT (R324): A command's own bound expires and it completes with ST_TIMEOUT: FW_ACTIVATE 60 s after the restart, a CFG_STAGE forwarded to a worker after 5 s, LEAGUE_JOIN after 5 s. -/
  | commandTimeout (h : HalfId) (ch : Nat) (tag : Nat)
  /-- SCRUPLE_RESET_END (R499): PD5 comes up, or Scruple's own sequencer ends a Scruple reset, and Scruple starts again, awaiting delivery of the safety parameter set. -/
  | scrupleResetEnd (h : HalfId)
  /-- PARTNER_PRESENT (R369): The partner's presence pin shows a cartridge again, so AI_VAR.TWO_SRC sets, R_I returns to 286.5 Ω and PARTNER_PRESENT is reported. -/
  | partnerPresent (h : HalfId)
  /-- FIXTURE_PRESENT (R243): Complementary 1 kHz square waves appear on FX0 and FX1 and FC_STAT.FIXTURE sets. -/
  | fixturePresent (h : HalfId)
  /-- DISP_RAIL_FAULT (R487): A panel rail leaves its range while on, setting DSP_STAT.RAIL_FAULT and interrupt source 235. -/
  | dispRailFault (h : HalfId)
  /-- DISP_RAILS_ON (R482): The panel rails, brought up in order within 20 ms, are all in range, RAILS_ON sets and panel recovery can proceed. -/
  | dispRailsOn (h : HalfId)
  /-- SPAN_LINK_UP (R182): The Span link lanes align again after a loss and a STANDBY half that lost the link enters SYNCING. -/
  | spanLinkUp (h : HalfId)
  /-- DI_SAMPLE (R338): At each 250 µs sample instant a half sinks the pulsed window, samples every DI and steps each filter counter. -/
  | diSample (h : HalfId) (levels : DWord) (sunk : Bool)
  /-- SI_SAMPLE (R149): Every 25 µs the SI and SRS comparators sample and filters A and B count on the next tick. -/
  | siSample (h : HalfId) (siA : BitVec 16) (siB : BitVec 16) (srsA : BitVec 4) (srsB : BitVec 4)
  /-- CROSS_TRIP_END (R171): A received cross-trip shorter than 500 µs ends, the gate-driver force lifts and the assertion counts as a test. -/
  | crossTripEnd (h : HalfId)
  /-- STATION_SECOND (R406): Station time passes a whole second and TS_IRQ_STAT.SEC sets, driving interrupt source 148. -/
  | stationSecond (h : HalfId)
  deriving DecidableEq, Repr

end Sys2Proof
end

