-- ==== Sys2Proof/Config.lean ====
section
/-! DEFINITION. What a configuration image carries, as plain data, the constants of the part, and the free values of
the model. The byte layout of a configuration image body is Maush Workbench's and is not in the manual: decoding it
is an opaque function (log 3). -/
namespace Sys2Proof

/-- Data types of points and block fields (R52, R249). -/
inductive PType where
  | bool | dint | real | lreal | time | dword
  deriving DecidableEq, Repr, Inhabited

/-- A value with its quality byte. -/
structure Val where
  v : DWord := 0
  q : Byte := 0x80
  deriving DecidableEq, Repr, Inhabited

/-- What an entry of an input image reads (R26). -/
inductive Src where
  | di (n : Nat)
  | diEdge (n : Nat)
  | ai (n : Nat)
  | fi (n : Nat)
  | obj (point : Nat)
  | imported (station point : Nat)
  | chainOut (c : Nat)
  | chainSat (c : Nat)
  | chainLat (c : Nat)
  | chainMissed (c : Nat)
  | chainLatMax (c : Nat)
  | chainOverload (c : Nat)
  | chainBank (c : Nat)
  | chainSwapPend (c : Nat)
  | vdCurrent (v : Nat)
  | vdStat (v bit : Nat)
  | safFunc (f : Nat)
  | safLastSeq
  | tcState (c : Nat)
  | aoReadback (m : Nat)
  deriving DecidableEq, Repr, Inhabited

/-- A binding entry of an input (R39). -/
inductive Bind where
  | image (entry : Nat)
  | inst (inst field : Nat)
  | const (v : DWord)
  | unbound
  deriving DecidableEq, Repr, Inhabited

/-- A block instance of the configuration (R39): its header's fields with the other flag bits, its record's length and
the bytes of its parameter field, over which `paramCrc` runs. `params` holds the parameters in the order of R59's table;
`kept` is the size in bytes of its input, output and internal-state fields (R47). -/
structure InstCfg where
  key : Word := 0
  typeId : Nat := 0
  version : Nat := 1
  retain : Bool := false
  otherFlags : BitVec 15 := 0
  length : Nat := 16
  params : List DWord := []
  paramBytes : List Byte := []
  paramCrc : BitVec 16 := 0xFFFF
  binds : List Bind := []
  kept : Nat := 0
  deriving DecidableEq, Repr, Inhabited

/-- A call record (R38); `inst` is the instance's number, its offset in the instance region divided by 8 (R39). -/
structure CallRec where
  typeId : Nat := 0
  skip : Bool := false
  enBound : Bool := false
  firstHold : Bool := false
  otherFlags : BitVec 13 := 0
  inst : Nat := 0
  deriving DecidableEq, Repr, Inhabited

/-- Where an entry of an output image goes (R26, R28). -/
inductive Dst where
  | dout (n : Nat)
  | ao (n : Nat)
  | obj (point : Nat)
  deriving DecidableEq, Repr, Inhabited

/-- An output image entry: a field of an instance's outputs and its destination. -/
structure OutBind where
  dst : Dst
  inst : Nat
  field : Nat
  deriving DecidableEq, Repr, Inhabited

/-- A task of the configuration (R18, R19). Times in ms; `ci` is the certified cycle cost in µs (R44); `bMax` is
B_i of R198; `region` the length of its instance region in bytes. -/
structure TaskCfg where
  prio : Nat := 0
  event : Bool := false
  period : Nat := 1
  phase : Nat := 0
  minSep : Nat := 1
  deadline : Nat := 10
  evDi : Option (Nat × Bool × Bool) := none
  evObj : Option Nat := none
  ci : Nat := 0
  bMax : Nat := 0
  region : Nat := 0
  inputs : List Src := []
  insts : List (Nat × InstCfg) := []
  calls : List CallRec := []
  outs : List OutBind := []
  /-- The call list, the binding region and the instance region as the image carries them (R38, R39), from which
  `calls` and `insts` are read. -/
  callBytes : List Byte := []
  bindBytes : List Byte := []
  instBytes : List Byte := []
  deriving DecidableEq, Repr, Inhabited

/-- The writer of a point (R16). -/
inductive Writer where
  | task (t : Nat)
  | chain (c : Nat)
  | host
  | scruple
  deriving DecidableEq, Repr, Inhabited

/-- A point's descriptor (R249, R252). -/
structure PointCfg where
  typ : PType := .bool
  publish : Bool := true
  deadband : F64 := 0
  writer : Writer := .host
  mp1 : Bool := false
  /-- The output terminal that the point is, if any: a DO or an AO (R28, R347). -/
  out : Option Dst := none
  deriving DecidableEq, Repr, Inhabited

/-- A worker in the manager's League table (R256, R258): the commit counter expected, its imported objects, its
configured points with their types and, for R268, its tasks' published points and periods in ms. -/
structure LeagueEntry where
  station : Nat
  commit : Word := 0
  imports : List Word := []
  points : List (Nat × PType) := []
  tasks : List (Nat × Nat) := []
  deriving DecidableEq, Repr, Inhabited

/-- A recorder channel of the configuration (R461). -/
structure RecCfg where
  chan : Nat
  point : Nat := 0
  kind : Nat := 0
  lo : F32 := 0
  width : F32 := 0
  deriving DecidableEq, Repr, Inhabited

/-- A field mapping of a receive or send object (R413 to R417): bits of the data, least significant first from bit 0 of
byte 0, and the station point they carry (log 39). -/
structure CanMap where
  ctl : Nat
  obj : Nat
  bit : Nat := 0
  len : Nat := 8
  point : Nat := 0
  deriving DecidableEq, Repr, Inhabited

/-- A CAN send object (R416, R417): owning task, fixed length, period and phase in ms (period 0: not periodic), and
whether it is sent on change. -/
structure CanSend where
  ctl : Nat
  obj : Nat
  owner : Nat := 0
  length : Nat := 8
  period : Nat := 0
  phase : Nat := 0
  onChange : Bool := false
  deriving DecidableEq, Repr, Inhabited

/-- The points of a CAN controller: restart (R419), sleep (R421) and the three status points with the task that owns
them (R419). -/
structure CanPoints where
  ctl : Nat
  restart : Option Nat := none
  sleep : Option Nat := none
  owner : Nat := 0
  state : Option Nat := none
  tec : Option Nat := none
  rec_ : Option Nat := none
  deriving DecidableEq, Repr, Inhabited

/-- A mapped sentence of IEC 61162 (R434): received or sent, its fields' points, its timeout or its period in ms (0: not
periodic); where it is sent: the owning task, on change, and the serial bus or, with none, the group on the instrument
LAN. -/
structure SentenceCfg where
  idx : Nat
  send : Bool := false
  points : List Nat := []
  timeout : Nat := 0
  owner : Nat := 0
  onChange : Bool := false
  bus : Option Nat := none
  group : Nat := 0
  deriving DecidableEq, Repr, Inhabited

/-- A Modbus poll request (R437), its period and response timeout in ms. Point i of `points` takes or gives coil or register `start` + i (log 40). -/
structure ModbusReq where
  bus : Nat
  req : Nat
  addr : Byte := 0
  fn : Byte := 3
  start : Nat := 0
  points : List Nat := []
  retries : Nat := 1
  period : Nat := 1000
  timeout : Nat := 200
  deriving DecidableEq, Repr, Inhabited

/-- Slave data of a Modbus bus (R436): the table of the number (0 coils, 1 discrete inputs, 2 holding registers, 3
input registers), the point behind it, and whether the point is writable on the bus. -/
structure ModbusMap where
  bus : Nat
  table : Nat := 2
  num : Nat
  point : Nat
  writable : Bool := false
  deriving DecidableEq, Repr, Inhabited

/-- A chain of the configuration: its descriptor's bytes (R82), its sections' bytes (R80) from `first`, and its owning
task (R547). -/
structure ChainCfg where
  chain : Nat
  desc : List Byte := []
  first : Nat := 0
  sections : List (List Byte) := []
  owner : Nat := 0
  /-- Shortest edge interval of an FI-triggered chain's input, ns (R93). -/
  fiPeriod : Nat := 0
  deriving DecidableEq, Repr, Inhabited

/-- A function of the safety parameter set (R158 to R164): its type code, input pairs, single SI, lock pair, outputs
(immediate and delayed), stop delay in ms (0 for category 0), automatic reset, reset input and, for OVERSPEED, its FI
channels and TRIP_RPM. -/
structure SafFunc where
  typ : Nat := 0
  pairs : List Nat := []
  single : Option Nat := none
  lock : Option Nat := none
  imm : BitVec 8 := 0
  del : BitVec 8 := 0
  delay : Nat := 0
  auto : Bool := false
  reset : Option Nat := none
  fi : List Nat := []
  tripRpm : F32 := 0
  deriving DecidableEq, Repr, Inhabited

/-- How a pair of safety inputs is used (R150). -/
inductive PairMode where
  | equivalent | antivalent | singles (evenHealthy oddHealthy : Bool)
  deriving DecidableEq, Repr, Inhabited

/-- The body of a safety parameter set: functions F0 to F15, pairs P0 to P7 with mode and discrepancy time in ms
(R151), the TP of each assigned SI (R152), TP_W in µs and TP_PER in ms, pulses per revolution of FI0 and FI1 (R163), and
the reset input of each output for queue trips (R148). -/
structure SafBody where
  funcs : List (Nat × SafFunc) := []
  pairs : List (Nat × PairMode × Nat) := []
  tps : List (Nat × Nat) := []
  tpWidth : Nat := 100
  tpPeriod : Nat := 50
  fiPpr : List (Nat × Nat) := []
  queueReset : List (Nat × Nat) := []
  deriving DecidableEq, Repr, Inhabited

/-- A configuration image's content (R45, R247). -/
structure StationCfg where
  manager : Bool := false
  station : Nat := 1
  preferB : Bool := false
  /-- SWAP_INTERVAL, hours (R208). -/
  swapHours : Nat := 24
  /-- Configuration registers that the supervisor writes from the configuration: address and word (R139, R357, R380,
  R426). -/
  regs : List (Nat × BitVec 32) := []
  tasks : List (Nat × TaskCfg) := []
  /-- The constant pool (R39, R42). -/
  consts : List DWord := []
  points : List (Nat × PointCfg) := []
  imports : List (Word × PType) := []
  league : List LeagueEntry := []
  chains : List ChainCfg := []
  /-- The bytes of the safety parameter set's section; empty where the configuration carries none (R145). -/
  saf : List Byte := []
  recs : List RecCfg := []
  /-- HIST parameters of the fixed channels (R463): channel, lo, width. -/
  hists : List (Nat × F32 × F32) := []
  /-- Times source of TIME_SOURCE (R334), and the upstream VLAN of a manager (R394). -/
  timeSource : Nat := 1
  upstream : Bool := false
  canMaps : List CanMap := []
  canSends : List CanSend := []
  canPoints : List CanPoints := []
  sentences : List SentenceCfg := []
  modbus : List ModbusReq := []
  modbusMaps : List ModbusMap := []
  mp1Peers : List Word := []
  /-- Display pages: the pixels of page n, 4 bits each (R335). -/
  pages : List (Nat × List (BitVec 4)) := []
  /-- The vessel CA, the permission SVC_NET, the certificates revoked, and the key of the station certificate
  (R441). -/
  vesselCa : Bool := false
  svcNet : Bool := false
  revoked : List DWord := []
  certKey : Option DWord := none
  startImages : List (List Byte) := []
  recoveryImage : Option (List Byte) := none
  /-- Outcome of the checks of CFG_VERIFY that rest on the image's byte layout: first failing code and its detail
  (R319). -/
  layoutFail : Option (Nat × Nat) := none
  deriving DecidableEq, Repr, Inhabited

/-! ### Opaque formats -/

/-- The content of a configuration image's body (log 3). -/
opaque Config.decodeImage : List Byte → StationCfg

/-- What R39 leaves to the block type, whose field sizes the manual does not give: of a type's record behind the header,
the bytes of the parameter field, the parameters, and the size of the other fields; and the output that stands at a
byte offset of its record (log 3). -/
opaque Config.paramField : Nat → List Byte → List Byte
opaque Config.params : Nat → List Byte → List DWord
opaque Config.keptBytes : Nat → Nat
opaque Config.outputAt : Nat → Nat → Nat

/-- The content of a safety parameter set's body (log 3). -/
opaque Config.safBody : List Byte → SafBody

/-- An instance in a region: its header, inputs, outputs, internal state, INIT_DONE, and the monotonic time of its last
cycle. -/
structure RegionInst where
  header : List Byte := []
  ins : List Val := []
  outs : List Val := []
  st : List DWord := []
  initDone : Bool := false
  last : Option DWord := none
  deriving DecidableEq, Repr, Inhabited

/-- A point in a region: its value, its last publication with seq and time. -/
structure RegionPoint where
  kept : Val := {}
  pub : Val := {}
  seq : BitVec 16 := 0
  tPub : DWord := 0
  deriving DecidableEq, Repr, Inhabited

/-- What a task's region holds of the running state: its instances, the points it owns, and its cycle (R194, R262). -/
structure RegionData where
  insts : List (Nat × RegionInst) := []
  points : List (Nat × RegionPoint) := []
  cycle : Word := 0
  deriving DecidableEq, Repr, Inhabited

/-- The current in mA that a modulator's reading gives with an offset, a gain and the burden ratio: the manual gives the
terms and not the formula (R360, R376, R377; log 100). -/
opaque Config.aiCorrect : F32 → F32 → F32 → F32 → F32

/-- The payload bytes of CE_TRACK and CFG frames, which the manual does not lay out (R107, R192; log 94). -/
opaque Config.trackBytes : List TrackChain → List Byte
opaque Config.cfgBytes : CfgItem → List Byte

/-- The bytes of a task's instance region as blocks of 256 bytes by offset, and what such bytes hold (log 3). -/
opaque Config.regionBlocks : Nat → RegionData → List (Nat × List Byte)
opaque Config.decodeRegion : Nat → List (Nat × List Byte) → RegionData

/-- What region 2 holds beyond the store (R270): the cycle table, the source task of each object and the League epoch
(log 96). -/
structure CycleTable where
  cycles : List (Nat × Word) := []
  srcTask : List (Nat × Nat) := []
  epoch : Word := 0
  deriving DecidableEq, Repr, Inhabited

/-- The cycle table of a manager as blocks of region 2 beyond its store, and what such blocks hold (R270, log 3). -/
opaque Config.cycleBlocks : CycleTable → List (Nat × List Byte)
opaque Config.decodeCycles : List (Nat × List Byte) → CycleTable

/-- The station firmware that a new cartridge carries in slot 0 (R534): its version, body, and the security version that
the die demands; and the version of the state format that a firmware body uses (log 3). -/
opaque Config.factoryVersion : Word
opaque Config.factoryBody : List Byte
opaque Config.minSecVer : Nat
opaque Config.stateFormat : List Byte → BitVec 16

/-- The serial number of a half's cartridge (R308). -/
opaque Config.cartridgeSerial : HalfId → DWord

/-- The images that a station firmware body carries: kind, target, key, limit in ms, entry and body (log 3). -/
opaque Config.firmwareImages : List Byte → List (List Byte)

/-- The blocks of a task's output shadow, from the DO states, AO commands and VD references of its output image,
and what such blocks hold (R194, log 3). -/
structure ShadowData where
  douts : List (Nat × Bool) := []
  aos : List (Nat × F32) := []
  vds : List (Nat × F32) := []
  deriving DecidableEq, Repr, Inhabited

opaque Config.shadowBlocks : Nat → ShadowData → List (Nat × List Byte)
opaque Config.decodeShadow : Nat → List (Nat × List Byte) → ShadowData

/-! ### Elementary functions -/

/-- The sine, the natural logarithm and the power in the formulas of R129: the manual gives the real functions and no
rounding (log 28). -/
opaque Config.sinOf : F64 → F64
opaque Config.lnOf : F64 → F64
opaque Config.powOf : F64 → F64 → F64

/-! ### Codes and functions of the block library that the manual leaves open -/

/-- The code on the STATE output of a device control block for its states, by the model's numbering: 0 STOPPED,
1 STARTING, 2 RUNNING, 3 STOPPING, 4 FAULT, 5 the pause of a speed change; for a valve 0 closed, 1 opening, 2 open,
3 closing, 4 fault, 5 no position, 6 middle (log 32). -/
opaque Config.deviceState : Nat → BitVec 32

/-- The code of another block type's STATE, MODE or CMD output by the type and the model's numbering (log 32). -/
opaque Config.stateCode : Nat → Nat → BitVec 32

/-- The exponential of −x: the manual's exact discretisation of LAG needs the real function and gives no rounding
(log 28). -/
opaque Config.expNeg : F64 → F64

/-! ### Free values -/

/-- A fresh value that the manual leaves open: nothing constrains it (log 2). A half applies it to its own name and
to the counter `Half.fresh`, which it then advances. -/
opaque Config.freeValue : HalfId → Nat → DWord

/-- The payload of a NaN that an operation of binary64 or binary32 makes: IEEE 754 and the manual leave it open
(log 2). -/
opaque Config.nanPayload64 : BitVec 51
opaque Config.nanPayload32 : BitVec 22

end Sys2Proof
end

