-- ==== Sys2Proof/Machine/Float.lean ====
section
/-! DEFINITION. IEEE 754 binary64 and binary32 on bit patterns: add, multiply, fused multiply-add, divide, square
root, comparison and conversion, each computed exactly on integers and rounded once to nearest, ties to even
(R9, R52, R78). -/
namespace Sys2Proof.Machine

/-- A binary format: exponent width, fraction width. -/
structure Fmt where
  ew : Nat
  mw : Nat

/-- The binary64 format. -/
def fmt64 : Fmt := { ew := 11, mw := 52 }
/-- The binary32 format. -/
def fmt32 : Fmt := { ew := 8, mw := 23 }

/-- The exponent bias. -/
def Fmt.bias (f : Fmt) : Nat := 2 ^ (f.ew - 1) - 1
/-- The magnitude bits of infinity. -/
def Fmt.inf (f : Fmt) : Nat := (2 ^ f.ew - 1) * 2 ^ f.mw
/-- The weight of the sign bit. -/
def Fmt.sgn (f : Fmt) : Nat := 2 ^ (f.ew + f.mw)
/-- The exponent of the last place of a subnormal. -/
def Fmt.qmin (f : Fmt) : Int := 1 - (f.bias : Int) - (f.mw : Int)

/-- A floating datum: NaN, an infinity, or sign, magnitude and exponent of the finite value m × 2^e. -/
inductive FDatum where
  | nan
  | inf (neg : Bool)
  | fin (neg : Bool) (m : Nat) (e : Int)
  deriving DecidableEq, Repr

/-- The datum of a bit pattern. -/
def Fmt.unpack (f : Fmt) (w : Nat) : FDatum :=
  let neg := Nat.ble f.sgn w
  let mag := w % f.sgn
  let ex := mag / 2 ^ f.mw
  let fr := mag % 2 ^ f.mw
  if ex = 2 ^ f.ew - 1 then (if fr = 0 then .inf neg else .nan)
  else if ex = 0 then .fin neg fr f.qmin
  else .fin neg (fr + 2 ^ f.mw) (f.qmin + (ex - 1 : Nat))

/-- The magnitude bits of m × 2^e rounded to nearest, ties to even; `sticky` says that the exact value lies
strictly above m × 2^e and below (m + 1) × 2^e. -/
def Fmt.roundMag (f : Fmt) (m : Nat) (e : Int) (sticky : Bool) : Nat :=
  if m = 0 then 0
  else
    let top : Int := (Nat.log2 m : Int) + e
    let q : Int := max (top - f.mw) f.qmin
    let sh : Int := q - e
    let k : Nat :=
      if sh ≤ 0 then m * 2 ^ (-sh).toNat
      else
        let d := 2 ^ sh.toNat
        let r := m % d
        let up := Nat.blt d (2 * r) || (2 * r == d && (sticky || m / d % 2 == 1))
        m / d + (if up then 1 else 0)
    let bits := (q - f.qmin).toNat * 2 ^ f.mw + k
    if f.inf ≤ bits then f.inf else bits

/-- A signed result from its sign and magnitude bits. -/
def Fmt.sign (f : Fmt) (neg : Bool) (mag : Nat) : Nat := if neg then f.sgn + mag else mag

/-- The exact sum of two finite values as a signed integer at the smaller exponent. -/
def sumExact (n1 : Bool) (m1 : Nat) (e1 : Int) (n2 : Bool) (m2 : Nat) (e2 : Int) : Int × Int :=
  let e := min e1 e2
  let a : Int := (m1 * 2 ^ (e1 - e).toNat : Nat)
  let b : Int := (m2 * 2 ^ (e2 - e).toNat : Nat)
  ((if n1 then -a else a) + (if n2 then -b else b), e)

/-- The bit pattern of a NaN result. -/
def Fmt.nanBits (f : Fmt) : Nat :=
  if f.mw = 52 then f.inf + 2 ^ 51 + Config.nanPayload64.toNat else f.inf + 2 ^ 22 + Config.nanPayload32.toNat

/-- a × b + c rounded once. -/
def Fmt.fma (f : Fmt) (a b c : Nat) : Nat :=
  match f.unpack a, f.unpack b, f.unpack c with
  | .nan, _, _ => f.nanBits
  | _, .nan, _ => f.nanBits
  | _, _, .nan => f.nanBits
  | .inf n1, .inf n2, .inf n3 => if (n1 != n2) = n3 then f.sign n3 f.inf else f.nanBits
  | .inf n1, .inf n2, .fin _ _ _ => f.sign (n1 != n2) f.inf
  | .inf n1, .fin n2 m2 _, .inf n3 =>
    if m2 = 0 then f.nanBits else if (n1 != n2) = n3 then f.sign n3 f.inf else f.nanBits
  | .inf n1, .fin n2 m2 _, .fin _ _ _ => if m2 = 0 then f.nanBits else f.sign (n1 != n2) f.inf
  | .fin n1 m1 _, .inf n2, .inf n3 =>
    if m1 = 0 then f.nanBits else if (n1 != n2) = n3 then f.sign n3 f.inf else f.nanBits
  | .fin n1 m1 _, .inf n2, .fin _ _ _ => if m1 = 0 then f.nanBits else f.sign (n1 != n2) f.inf
  | .fin _ _ _, .fin _ _ _, .inf n3 => f.sign n3 f.inf
  | .fin n1 m1 e1, .fin n2 m2 e2, .fin n3 m3 e3 =>
    let np := n1 != n2
    let s := sumExact np (m1 * m2) (e1 + e2) n3 m3 e3
    if s.1 = 0 then f.sign (np && n3) 0
    else f.sign (s.1 < 0) (f.roundMag s.1.natAbs s.2 false)

/-- The bit pattern of 1. -/
def Fmt.one (f : Fmt) : Nat := f.bias * 2 ^ f.mw

/-- a + b. -/
def Fmt.add (f : Fmt) (a b : Nat) : Nat := f.fma f.one a b

/-- a × b. The sign of an exact zero is that of the product. -/
def Fmt.mul (f : Fmt) (a b : Nat) : Nat :=
  match f.unpack a, f.unpack b with
  | .fin n1 m1 e1, .fin n2 m2 e2 => f.sign (n1 != n2) (f.roundMag (m1 * m2) (e1 + e2) false)
  | _, _ => f.fma a b 0

/-- −a. -/
def Fmt.neg (f : Fmt) (a : Nat) : Nat := if f.sgn ≤ a then a - f.sgn else a + f.sgn

/-- a ÷ b. -/
def Fmt.div (f : Fmt) (a b : Nat) : Nat :=
  match f.unpack a, f.unpack b with
  | .nan, _ => f.nanBits
  | _, .nan => f.nanBits
  | .inf _, .inf _ => f.nanBits
  | .inf n1, .fin n2 _ _ => f.sign (n1 != n2) f.inf
  | .fin n1 _ _, .inf n2 => f.sign (n1 != n2) 0
  | .fin n1 m1 e1, .fin n2 m2 e2 =>
    if m2 = 0 then (if m1 = 0 then f.nanBits else f.sign (n1 != n2) f.inf)
    else
      let k := 2 * f.mw + 6
      let n := m1 * 2 ^ k
      f.sign (n1 != n2) (f.roundMag (n / m2) (e1 - e2 - k) (n % m2 != 0))

/-- The integer square root of n, by `fuel` halving steps on the interval from lo with width 2^fuel. -/
def isqrt (n : Nat) : Nat → Nat → Nat
  | 0, lo => lo
  | fuel + 1, lo =>
    let mid := lo + 2 ^ fuel
    isqrt n fuel (if Nat.ble (mid * mid) n then mid else lo)

/-- √a. -/
def Fmt.sqrt (f : Fmt) (a : Nat) : Nat :=
  match f.unpack a with
  | .nan => f.nanBits
  | .inf n => if n then f.nanBits else f.inf
  | .fin n m e =>
    if m = 0 then a
    else if n then f.nanBits
    else
      let e' := if e % 2 = 0 then e else e - 1
      let m' := (if e % 2 = 0 then m else 2 * m) * 2 ^ (2 * f.mw + 8)
      let r := isqrt m' (2 * f.mw + 10) 0
      f.roundMag r (e' / 2 - (f.mw + 4 : Nat)) (r * r != m')

/-- a < b; false where either is a NaN. -/
def Fmt.lt (f : Fmt) (a b : Nat) : Bool :=
  match f.unpack a, f.unpack b with
  | .nan, _ => false
  | _, .nan => false
  | .inf n1, .inf n2 => n1 && !n2
  | .inf n1, .fin _ _ _ => n1
  | .fin _ _ _, .inf n2 => !n2
  | .fin n1 m1 e1, .fin n2 m2 e2 => (sumExact n1 m1 e1 (!n2) m2 e2).1 < 0

/-- a = b as numbers; false where either is a NaN. -/
def Fmt.eq (f : Fmt) (a b : Nat) : Bool :=
  match f.unpack a, f.unpack b with
  | .nan, _ => false
  | _, .nan => false
  | .inf n1, .inf n2 => n1 == n2
  | .inf _, .fin _ _ _ => false
  | .fin _ _ _, .inf _ => false
  | .fin n1 m1 e1, .fin n2 m2 e2 => (sumExact n1 m1 e1 (!n2) m2 e2).1 == 0

/-- An integer, rounded. -/
def Fmt.ofInt (f : Fmt) (i : Int) : Nat := f.sign (i < 0) (f.roundMag i.natAbs 0 false)

/-- A value of one format in another. -/
def Fmt.conv (src dst : Fmt) (w : Nat) : Nat :=
  match src.unpack w with
  | .nan => dst.nanBits
  | .inf n => dst.sign n dst.inf
  | .fin n m e => dst.sign n (dst.roundMag m e false)

/-- ⌊a⌋ of a finite value; 0 for a NaN or an infinity. -/
def Fmt.floor (f : Fmt) (w : Nat) : Int :=
  match f.unpack w with
  | .fin n m e =>
    let s : Int := if n then -(m : Int) else m
    if 0 ≤ e then s * (2 ^ e.toNat : Nat) else s / (2 ^ (-e).toNat : Nat)
  | _ => 0

/-- Whether a pattern is a NaN. -/
def Fmt.isNan (f : Fmt) (w : Nat) : Bool := Nat.blt f.inf (w % f.sgn)
/-- Whether a pattern is finite. -/
def Fmt.isFin (f : Fmt) (w : Nat) : Bool := Nat.blt (w % f.sgn) f.inf

/-! The operations on typed patterns. -/

def f64fma (a b c : F64) : F64 := BitVec.ofNat 64 (fmt64.fma a.toNat b.toNat c.toNat)
def f64add (a b : F64) : F64 := BitVec.ofNat 64 (fmt64.add a.toNat b.toNat)
def f64neg (a : F64) : F64 := a ^^^ 0x8000000000000000#64
def f64sub (a b : F64) : F64 := f64add a (f64neg b)
def f64mul (a b : F64) : F64 := BitVec.ofNat 64 (fmt64.mul a.toNat b.toNat)
def f64div (a b : F64) : F64 := BitVec.ofNat 64 (fmt64.div a.toNat b.toNat)
def f64sqrt (a : F64) : F64 := BitVec.ofNat 64 (fmt64.sqrt a.toNat)
def f64lt (a b : F64) : Bool := fmt64.lt a.toNat b.toNat
def f64eq (a b : F64) : Bool := fmt64.eq a.toNat b.toNat
def f64le (a b : F64) : Bool := f64lt a b || f64eq a b
def f64nan (a : F64) : Bool := fmt64.isNan a.toNat
def f64fin (a : F64) : Bool := fmt64.isFin a.toNat
def f64abs (a : F64) : F64 := a &&& 0x7FFFFFFFFFFFFFFF#64
def f64int (i : Int) : F64 := BitVec.ofNat 64 (fmt64.ofInt i)
def f64of32 (a : F32) : F64 := BitVec.ofNat 64 (fmt32.conv fmt64 a.toNat)
def f32of64 (a : F64) : F32 := BitVec.ofNat 32 (fmt64.conv fmt32 a.toNat)

def f32add (a b : F32) : F32 := BitVec.ofNat 32 (fmt32.add a.toNat b.toNat)
def f32neg (a : F32) : F32 := a ^^^ 0x80000000#32
def f32sub (a b : F32) : F32 := f32add a (f32neg b)
def f32mul (a b : F32) : F32 := BitVec.ofNat 32 (fmt32.mul a.toNat b.toNat)
def f32div (a b : F32) : F32 := BitVec.ofNat 32 (fmt32.div a.toNat b.toNat)
def f32lt (a b : F32) : Bool := fmt32.lt a.toNat b.toNat
def f32eq (a b : F32) : Bool := fmt32.eq a.toNat b.toNat
def f32le (a b : F32) : Bool := f32lt a b || f32eq a b
def f32nan (a : F32) : Bool := fmt32.isNan a.toNat
def f32fin (a : F32) : Bool := fmt32.isFin a.toNat
def f32abs (a : F32) : F32 := a &&& 0x7FFFFFFF#32
def f32int (i : Int) : F32 := BitVec.ofNat 32 (fmt32.ofInt i)

/-- n / d rounded to binary64, for the decimal constants of the manual. -/
def f64rat (n : Int) (d : Nat) : F64 := f64div (f64int n) (f64int d)
/-- n / d rounded to binary32. -/
def f32rat (n : Int) (d : Nat) : F32 := f32div (f32int n) (f32int d)

/-- The smaller and larger of two values, the first where they compare equal or one is a NaN. -/
def f64min (a b : F64) : F64 := if f64lt b a then b else a
def f64max (a b : F64) : F64 := if f64lt a b then b else a
def f32min (a b : F32) : F32 := if f32lt b a then b else a
def f32max (a b : F32) : F32 := if f32lt a b then b else a

/-- The quotient n / d of two naturals rounded once to binary32. -/
def f32quot (n d : Nat) : F32 := BitVec.ofNat 32 (fmt32.roundMag (n * 2 ^ 96 / d) (-96) (n * 2 ^ 96 % d != 0))

end Sys2Proof.Machine
end

