-- ==== Sys2Proof/Machine/Crc.lean ====
section
/-! DEFINITION. The four checks of the check-value unit and their fold modes (R446, R447). -/
namespace Sys2Proof.Machine

/-- The little-endian bytes of a 32-bit word. -/
def word32Bytes (w : Word) : List Byte := [w.setWidth 8, (w >>> 8).setWidth 8, (w >>> 16).setWidth 8, (w >>> 24).setWidth 8]

/-- The bytes of a list of words, each little-endian (R7). -/
def wordsBytes (ws : List Word) : List Byte := ws.flatMap word32Bytes

/-- The words of a list of bytes, the last one filled with zeros (R7, R281). -/
def bytesWords : List Byte → List Word
  | [] => []
  | [a] => [a.setWidth 32]
  | [a, b] => [a.setWidth 32 ||| b.setWidth 32 <<< 8]
  | [a, b, c] => [a.setWidth 32 ||| b.setWidth 32 <<< 8 ||| c.setWidth 32 <<< 16]
  | a :: b :: c :: d :: t =>
    (a.setWidth 32 ||| b.setWidth 32 <<< 8 ||| c.setWidth 32 <<< 16 ||| d.setWidth 32 <<< 24) :: bytesWords t

/-- n little-endian bytes of a number. -/
def leNat : Nat → Nat → List Byte
  | 0, _ => []
  | n + 1, v => BitVec.ofNat 8 v :: leNat n (v / 256)

/-- `n` bit steps of a reflected 32-bit check. -/
def stepRefl32 (poly : Word) : Nat → Word → Word
  | 0, c => c
  | n + 1, c => stepRefl32 poly n (if c.getLsbD 0 then (c >>> 1) ^^^ poly else c >>> 1)

/-- A reflected 32-bit check with initial value and final XOR of all ones (CV0, CV1). -/
def crcRefl32 (poly : Word) (bs : List Byte) : Word :=
  (bs.foldl (fun c b => stepRefl32 poly 8 (c ^^^ b.setWidth 32)) 0xFFFFFFFF#32) ^^^ 0xFFFFFFFF#32

/-- `n` bit steps of an unreflected check of width `k`. -/
def stepPlain {k : Nat} (poly : BitVec k) : Nat → BitVec k → BitVec k
  | 0, c => c
  | n + 1, c => stepPlain poly n (if c.msb then (c <<< 1) ^^^ poly else c <<< 1)

/-- CV0, CRC-32C. -/
def cv0 (bs : List Byte) : Word := crcRefl32 0x82F63B78#32 bs
/-- CV1, CRC-32/IEEE. -/
def cv1 (bs : List Byte) : Word := crcRefl32 0xEDB88320#32 bs
/-- CV2, CRC-16/CCITT. -/
def cv2 (bs : List Byte) : BitVec 16 :=
  bs.foldl (fun (c : BitVec 16) (b : Byte) => stepPlain (k := 16) 0x1021#16 8 (c ^^^ (b.setWidth 16 <<< 8))) 0xFFFF#16
/-- CV3, CRC-64/ECMA. -/
def cv3 (bs : List Byte) : DWord :=
  bs.foldl (fun (c : DWord) (b : Byte) => stepPlain (k := 64) 0x42F0E1EBA9EA3693#64 8 (c ^^^ (b.setWidth 64 <<< 56))) 0#64

/-- The check that code 0 to 3 names, in 64 bits. -/
def cvByCode (code : Nat) (bs : List Byte) : DWord :=
  match code with
  | 0 => (cv0 bs).setWidth 64
  | 1 => (cv1 bs).setWidth 64
  | 2 => (cv2 bs).setWidth 64
  | _ => cv3 bs

/-- SEQ folding: the sequence number enters before the data (R447). -/
def foldSeq (seq : Word) (bs : List Byte) : List Byte := word32Bytes seq ++ bs

/-- ADDR folding: the offset enters before each 64-byte block; `off` is the first block's offset, `fuel` at least the
number of blocks (R447). -/
def foldAddr : Nat → Word → List Byte → List Byte
  | 0, _, _ => []
  | _ + 1, _, [] => []
  | fuel + 1, off, bs => word32Bytes off ++ bs.take 64 ++ foldAddr fuel (off + 64) (bs.drop 64)

/-- A check in ADDR mode from an offset. -/
def withAddr (off : Word) (bs : List Byte) : List Byte := foldAddr (bs.length / 64 + 1) off bs

end Sys2Proof.Machine
end

