-- ==== Sys2Proof/Machine/SpanFrame.lean ====
section
/-! DEFINITION. The bytes of a Span frame (R191 to R194, R205, R399): header, payload and check. The manual lays out
neither a CE_TRACK payload (R107) nor a CFG payload (R192); their bytes are opaque functions (log 94). -/
namespace Sys2Proof.Machine

/-- The bits of a mask, bit 0 first. -/
def flagMask (bs : List Bool) : Nat := bs.zipIdx.foldl (fun m e => m + if e.1 then 2 ^ e.2 else 0) 0

/-- HEARTBEAT payload, 32 bytes (R193). -/
def heartbeatBytes (p : Heartbeat) : List Byte :=
  [p.state, p.fcLevel] ++ leNat 2 (flagMask [p.takeoverArmed, p.synced, p.released, p.partnerClaim, p.partnerPresent, p.startupDone]) ++
    word32Bytes p.fwVersion ++ leNat 2 p.stateFormat.toNat ++ leNat 2 p.resyncMask.toNat ++ word32Bytes p.cfgCommit ++
    leBytes 8 p.monoTime ++ word32Bytes p.hbCount ++ leNat 4 0

/-- STATE_DELTA payload: an 8-byte head and 260 bytes an entry (R194). -/
def deltaBytes (p : StateDelta) : List Byte :=
  [p.task, p.region] ++ leNat 2 p.entries.length ++ word32Bytes p.cycle ++ p.entries.flatMap fun e => word32Bytes e.offset ++ e.data

/-- CYCLE_END payload, 24 bytes (R194). -/
def cycleEndBytes (p : CycleEnd) : List Byte :=
  [p.task, 0] ++ leNat 2 p.frames.toNat ++ word32Bytes p.cycle ++ word32Bytes p.check ++ leNat 4 0 ++ leBytes 8 p.tEnd

/-- TIME payload, 32 bytes (R399). -/
def timeBytes (p : TimePayload) : List Byte :=
  leBytes 8 p.tDep ++ leBytes 8 p.mDep ++ [p.source, p.state] ++ leNat 2 p.utcOffset.toNat ++ leBytes 8 p.gmIdentity ++ leNat 4 0

/-- ROLE payload, 32 bytes (R205). -/
def roleBytes (p : RolePayload) : List Byte :=
  leNat 1 p.kind.code ++ [p.cause] ++ leNat 2 0 ++ word32Bytes p.offerId ++ leBytes 8 p.h ++ leBytes 8 p.hv ++ leBytes 8 0

/-- Type, REL item number and payload of a Span frame; none for what does not go on the Span link (R192). -/
def spanBody : Sent → Option (Nat × BitVec 16 × List Byte)
  | .heartbeat _ p => some (1, 0, heartbeatBytes p)
  | .stateDelta _ p => some (2, 0, deltaBytes p)
  | .cycleEnd _ p => some (3, 0, cycleEndBytes p)
  | .ceTrack _ cs => some (4, 0, Config.trackBytes cs)
  | .cfg _ n i => some (5, n, Config.cfgBytes i)
  | .time _ p => some (6, 0, timeBytes p)
  | .peerMbx _ n _ e => some (7, n, wordsBytes e)
  | .role _ n p => some (8, n, roleBytes p)
  | _ => none

/-- A frame type with REL (R192): CFG, PEER_MBX, and ROLE except RELINQUISH. -/
def spanIsRel : Sent → Bool
  | .cfg .. => true
  | .peerMbx .. => true
  | .role _ _ p => p.kind != .relinquish
  | _ => false

/-- The 16-byte header (R191). -/
def spanHeader (type flags len : Nat) (seq : Word) (relItem ackItem : BitVec 16) : List Byte :=
  leNat 1 type ++ leNat 1 flags ++ leNat 2 len ++ word32Bytes seq ++ leNat 2 relItem.toNat ++ leNat 2 ackItem.toNat ++ leNat 4 0

/-- A frame's bytes: header, payload, and CRC-32C over both with the frame's seq folded in (R191). -/
def spanFrame (m : Sent) (seq : Word) (ackItem : BitVec 16) (retx last : Bool) : List Byte :=
  match spanBody m with
  | none => []
  | some (type, item, pl) =>
    let bs := spanHeader type (flagMask [spanIsRel m, retx, last]) pl.length seq item ackItem ++ pl
    bs ++ word32Bytes (cv0 (foldSeq seq bs))

/-- A receiver keeps a frame whose check is valid and whose type is not reserved (R191, R192). -/
def spanFrameOk (bs : List Byte) : Bool :=
  let n := bs.length - 4
  let seq := (bytesWords ((bs.drop 4).take 4)).headD 0
  20 ≤ bs.length && bs.headD 0 != 0 && (bs.headD 0).toNat ≤ 8 &&
    bs.drop n == word32Bytes (cv0 (foldSeq seq (bs.take n)))

end Sys2Proof.Machine
end

