-- ==== Sys2Proof/Machine/Regs.lean ====
section
/-! DEFINITION. The register map of one half: the address of every register (R114, R139, R179, R245, R301, R357,
R380, R406, R426, R445, R458, R471, R487, R505) and, for each, its reset value and the bits of every access code of
R9. A register that the manual indexes takes its indices in the manual's order. -/
namespace Sys2Proof.Machine

/-- One register or array of registers: the address of the first, the count and stride of up to two indices, the
reset value, and the masks of the bits of each access code of R9 (a bit in no mask is RO) and of the reserved bits
of R8. -/
structure RegDesc where
  base : Nat
  n0 : Nat := 1
  s0 : Nat := 4
  n1 : Nat := 1
  s1 : Nat := 4
  reset : Word := 0
  rw : Word := 0
  w1c : Word := 0
  w1s : Word := 0
  wo : Word := 0
  rc : Word := 0
  resv : Word := 0
  deriving DecidableEq, Repr, Inhabited

namespace Reg

/-- CE_ID. -/
abbrev CE_ID : Nat := 0x30040000
/-- CE_CTRL. -/
abbrev CE_CTRL : Nat := 0x30040004
/-- CE_STAT. -/
abbrev CE_STAT : Nat := 0x30040008
/-- CE_LEVEL. -/
abbrev CE_LEVEL : Nat := 0x3004000C
/-- CE_LEVEL_MAX. -/
abbrev CE_LEVEL_MAX : Nat := 0x30040010
/-- CE_LOAD. -/
abbrev CE_LOAD : Nat := 0x30040014
/-- CE_LOST. -/
abbrev CE_LOST : Nat := 0x30040018
/-- CE_IRQ_STAT. -/
abbrev CE_IRQ_STAT : Nat := 0x3004001C
/-- CE_IRQ_EN. -/
abbrev CE_IRQ_EN : Nat := 0x30040020
/-- CE_SWAP. -/
abbrev CE_SWAP : Nat := 0x30040024
/-- CE_CMD. -/
abbrev CE_CMD : Nat := 0x30040028
/-- CE_TRK_DEV. -/
abbrev CE_TRK_DEV : Nat := 0x3004002C
/-- CE_SWAP_PEND. -/
abbrev CE_SWAP_PEND (i : Nat) : Nat := 0x30040040 + 0x4 * i
/-- CE_HALT. -/
abbrev CE_HALT (i : Nat) : Nat := 0x30040060 + 0x4 * i
/-- VD_CTRL. -/
abbrev VD_CTRL (v : Nat) : Nat := 0x30048000 + 0x40 * v
/-- VD_BAND. -/
abbrev VD_BAND (v : Nat) : Nat := 0x30048004 + 0x40 * v
/-- VD_IREF. -/
abbrev VD_IREF (v : Nat) : Nat := 0x30048008 + 0x40 * v
/-- VD_L. -/
abbrev VD_L (v : Nat) : Nat := 0x3004800C + 0x40 * v
/-- VD_RCOIL. -/
abbrev VD_RCOIL (v : Nat) : Nat := 0x30048010 + 0x40 * v
/-- VD_DITHER. -/
abbrev VD_DITHER (v : Nat) : Nat := 0x30048014 + 0x40 * v
/-- VD_TIMING. -/
abbrev VD_TIMING (v : Nat) : Nat := 0x30048018 + 0x40 * v
/-- VD_STAT. -/
abbrev VD_STAT (v : Nat) : Nat := 0x3004801C + 0x40 * v
/-- VD_I_SAR. -/
abbrev VD_I_SAR (v : Nat) : Nat := 0x30048020 + 0x40 * v
/-- VD_I_AVG1. -/
abbrev VD_I_AVG1 (v : Nat) : Nat := 0x30048024 + 0x40 * v
/-- VD_FSW. -/
abbrev VD_FSW (v : Nat) : Nat := 0x30048028 + 0x40 * v
/-- VD_BANDX. -/
abbrev VD_BANDX (v : Nat) : Nat := 0x3004802C + 0x40 * v
/-- TG_CTRL. -/
abbrev TG_CTRL (g : Nat) : Nat := 0x30049000 + 0x40 * g
/-- TG_AMP. -/
abbrev TG_AMP (g : Nat) : Nat := 0x30049004 + 0x40 * g
/-- TG_OFS. -/
abbrev TG_OFS (g : Nat) : Nat := 0x30049008 + 0x40 * g
/-- TG_F0. -/
abbrev TG_F0 (g : Nat) : Nat := 0x3004900C + 0x40 * g
/-- TG_F1. -/
abbrev TG_F1 (g : Nat) : Nat := 0x30049010 + 0x40 * g
/-- TG_DUR. -/
abbrev TG_DUR (g : Nat) : Nat := 0x30049014 + 0x40 * g
/-- TG_PRBS. -/
abbrev TG_PRBS (g : Nat) : Nat := 0x30049018 + 0x40 * g
/-- TG_TAPS. -/
abbrev TG_TAPS (g : Nat) : Nat := 0x3004901C + 0x40 * g
/-- TG_SEED. -/
abbrev TG_SEED (g : Nat) : Nat := 0x30049020 + 0x40 * g
/-- TG_STAT. -/
abbrev TG_STAT (g : Nat) : Nat := 0x30049024 + 0x40 * g
/-- TG_CMD. -/
abbrev TG_CMD (g : Nat) : Nat := 0x30049028 + 0x40 * g
/-- TC_SRC. -/
abbrev TC_SRC (c : Nat) : Nat := 0x3004A000 + 0x40 * c
/-- TC_CFG. -/
abbrev TC_CFG (c : Nat) : Nat := 0x3004A004 + 0x40 * c
/-- TC_DEC. -/
abbrev TC_DEC (c : Nat) : Nat := 0x3004A008 + 0x40 * c
/-- TC_PRE. -/
abbrev TC_PRE (c : Nat) : Nat := 0x3004A00C + 0x40 * c
/-- TC_DEPTH. -/
abbrev TC_DEPTH (c : Nat) : Nat := 0x3004A010 + 0x40 * c
/-- TC_LEVEL. -/
abbrev TC_LEVEL (c : Nat) : Nat := 0x3004A014 + 0x40 * c
/-- TC_STAT. -/
abbrev TC_STAT (c : Nat) : Nat := 0x3004A018 + 0x40 * c
/-- TC_COUNT. -/
abbrev TC_COUNT (c : Nat) : Nat := 0x3004A01C + 0x40 * c
/-- TC_OLDEST. -/
abbrev TC_OLDEST (c : Nat) : Nat := 0x3004A020 + 0x40 * c
/-- TC_T_REF_LO. -/
abbrev TC_T_REF_LO (c : Nat) : Nat := 0x3004A024 + 0x40 * c
/-- TC_T_REF_HI. -/
abbrev TC_T_REF_HI (c : Nat) : Nat := 0x3004A028 + 0x40 * c
/-- TC_CMD. -/
abbrev TC_CMD (c : Nat) : Nat := 0x3004A02C + 0x40 * c
/-- VD_IRQ_STAT. -/
abbrev VD_IRQ_STAT : Nat := 0x3004B000
/-- VD_IRQ_EN. -/
abbrev VD_IRQ_EN : Nat := 0x3004B004
/-- SAF_ID. -/
abbrev SAF_ID : Nat := 0x30070000
/-- SAF_STAT. -/
abbrev SAF_STAT : Nat := 0x30070004
/-- SAF_PCRC. -/
abbrev SAF_PCRC : Nat := 0x30070008
/-- SAF_SI. -/
abbrev SAF_SI : Nat := 0x3007000C
/-- SAF_SO. -/
abbrev SAF_SO : Nat := 0x30070010
/-- SAF_QTRIP. -/
abbrev SAF_QTRIP : Nat := 0x30070014
/-- SAF_SRS. -/
abbrev SAF_SRS : Nat := 0x30070018
/-- SAF_RQ. -/
abbrev SAF_RQ : Nat := 0x3007001C
/-- SAF_FI0. -/
abbrev SAF_FI0 : Nat := 0x30070020
/-- SAF_FI1. -/
abbrev SAF_FI1 : Nat := 0x30070024
/-- SAF_FUNC. -/
abbrev SAF_FUNC (i : Nat) : Nat := 0x30070040 + 0x4 * i
/-- FC_ID. -/
abbrev FC_ID : Nat := 0x30010000
/-- FC_CTRL. -/
abbrev FC_CTRL : Nat := 0x30010004
/-- FC_STAT. -/
abbrev FC_STAT : Nat := 0x30010008
/-- FC_EVT_CNT. -/
abbrev FC_EVT_CNT : Nat := 0x3001000C
/-- FC_EVT_W0. -/
abbrev FC_EVT_W0 : Nat := 0x30010010
/-- FC_EVT_W1. -/
abbrev FC_EVT_W1 : Nat := 0x30010014
/-- FC_EVT_W2. -/
abbrev FC_EVT_W2 : Nat := 0x30010018
/-- FC_EVT_W3. -/
abbrev FC_EVT_W3 : Nat := 0x3001001C
/-- FC_EVT_POP. -/
abbrev FC_EVT_POP : Nat := 0x30010020
/-- FC_EVT_LOST. -/
abbrev FC_EVT_LOST : Nat := 0x30010024
/-- FC_INJ. -/
abbrev FC_INJ : Nat := 0x30010030
/-- FC_INJ_STAT. -/
abbrev FC_INJ_STAT : Nat := 0x30010034
/-- FC_LS_CAUSE. -/
abbrev FC_LS_CAUSE : Nat := 0x30010038
/-- FC_LS_CMD. -/
abbrev FC_LS_CMD : Nat := 0x3001003C
/-- FC_ACTIVE. -/
abbrev FC_ACTIVE (i : Nat) : Nat := 0x30010040 + 0x4 * i
/-- FC_PEND. -/
abbrev FC_PEND (i : Nat) : Nat := 0x30010050 + 0x4 * i
/-- FC_INVALID. -/
abbrev FC_INVALID (i : Nat) : Nat := 0x30010060 + 0x4 * i
/-- FC_INHIB. -/
abbrev FC_INHIB (i : Nat) : Nat := 0x30010070 + 0x4 * i
/-- FC_HELD. -/
abbrev FC_HELD (i : Nat) : Nat := 0x30010080 + 0x4 * i
/-- FC_IRQ_STAT. -/
abbrev FC_IRQ_STAT : Nat := 0x30010090
/-- FC_IRQ_EN. -/
abbrev FC_IRQ_EN : Nat := 0x30010094
/-- FC_CLASS_CFG. -/
abbrev FC_CLASS_CFG (i : Nat) : Nat := 0x30010100 + 0x4 * i
/-- FC_CLASS_REC. -/
abbrev FC_CLASS_REC (i : Nat) : Nat := 0x30010140 + 0x4 * i
/-- FC_SRC_CFG. -/
abbrev FC_SRC_CFG (i : Nat) : Nat := 0x30010400 + 0x4 * i
/-- MBX_ID. -/
abbrev MBX_ID : Nat := 0x30020000
/-- MBX_CTRL. -/
abbrev MBX_CTRL : Nat := 0x30020004
/-- MBX_STAT. -/
abbrev MBX_STAT : Nat := 0x30020008
/-- MBX_POOL_MAX. -/
abbrev MBX_POOL_MAX : Nat := 0x3002000C
/-- MBX_IRQ_STAT. -/
abbrev MBX_IRQ_STAT : Nat := 0x30020010
/-- MBX_IRQ_EN. -/
abbrev MBX_IRQ_EN : Nat := 0x30020014
/-- MBX_CH_CTRL. -/
abbrev MBX_CH_CTRL (n : Nat) : Nat := 0x30020100 + 0x40 * n
/-- MBX_CH_SQ_TAIL. -/
abbrev MBX_CH_SQ_TAIL (n : Nat) : Nat := 0x30020104 + 0x40 * n
/-- MBX_CH_SQ_HEAD. -/
abbrev MBX_CH_SQ_HEAD (n : Nat) : Nat := 0x30020108 + 0x40 * n
/-- MBX_CH_CQ_TAIL. -/
abbrev MBX_CH_CQ_TAIL (n : Nat) : Nat := 0x3002010C + 0x40 * n
/-- MBX_CH_CQ_HEAD. -/
abbrev MBX_CH_CQ_HEAD (n : Nat) : Nat := 0x30020110 + 0x40 * n
/-- MBX_CH_SQ_SEQ. -/
abbrev MBX_CH_SQ_SEQ (n : Nat) : Nat := 0x30020114 + 0x40 * n
/-- MBX_CH_CQ_SEQ. -/
abbrev MBX_CH_CQ_SEQ (n : Nat) : Nat := 0x30020118 + 0x40 * n
/-- MBX_CH_CTX. -/
abbrev MBX_CH_CTX (n : Nat) : Nat := 0x3002011C + 0x40 * n
/-- MBX_CH_DONE. -/
abbrev MBX_CH_DONE (n : Nat) : Nat := 0x30020120 + 0x40 * n
/-- MBX_CH_ERRCNT. -/
abbrev MBX_CH_ERRCNT (n : Nat) : Nat := 0x30020124 + 0x40 * n
/-- DI_ID. -/
abbrev DI_ID : Nat := 0x30060000
/-- DI_MODE. -/
abbrev DI_MODE : Nat := 0x30060004
/-- DI_FILT. -/
abbrev DI_FILT (i : Nat) : Nat := 0x30060010 + 0x4 * i
/-- DI_LEVEL0. -/
abbrev DI_LEVEL0 : Nat := 0x30060050
/-- DI_LEVEL1. -/
abbrev DI_LEVEL1 : Nat := 0x30060054
/-- DI_RAW0. -/
abbrev DI_RAW0 : Nat := 0x30060058
/-- DI_RAW1. -/
abbrev DI_RAW1 : Nat := 0x3006005C
/-- DI_CHG0. -/
abbrev DI_CHG0 : Nat := 0x30060060
/-- DI_CHG1. -/
abbrev DI_CHG1 : Nat := 0x30060064
/-- DI_TSRC. -/
abbrev DI_TSRC : Nat := 0x30060068
/-- DI_TS_LO. -/
abbrev DI_TS_LO (i : Nat) : Nat := 0x30060200 + 0x8 * i
/-- DI_TS_HI. -/
abbrev DI_TS_HI (i : Nat) : Nat := 0x30060204 + 0x8 * i
/-- DO_CMD. -/
abbrev DO_CMD : Nat := 0x30060100
/-- DO_SHD. -/
abbrev DO_SHD : Nat := 0x30060104
/-- DO_ON. -/
abbrev DO_ON : Nat := 0x30060108
/-- DO_READ. -/
abbrev DO_READ : Nat := 0x3006010C
/-- DO_LIM. -/
abbrev DO_LIM : Nat := 0x30060110
/-- DO_OT. -/
abbrev DO_OT : Nat := 0x30060114
/-- DO_OL. -/
abbrev DO_OL : Nat := 0x30060118
/-- DO_S24. -/
abbrev DO_S24 : Nat := 0x3006011C
/-- DO_STUCK. -/
abbrev DO_STUCK : Nat := 0x30060120
/-- DO_DIAG_EN. -/
abbrev DO_DIAG_EN : Nat := 0x30060124
/-- DO_GRP. -/
abbrev DO_GRP : Nat := 0x30060128
/-- FI_CFG. -/
abbrev FI_CFG (f : Nat) : Nat := 0x30060400 + 0x20 * f
/-- FI_TZERO. -/
abbrev FI_TZERO (f : Nat) : Nat := 0x30060404 + 0x20 * f
/-- FI_SPEED. -/
abbrev FI_SPEED (f : Nat) : Nat := 0x30060408 + 0x20 * f
/-- FI_PER. -/
abbrev FI_PER (f : Nat) : Nat := 0x3006040C + 0x20 * f
/-- FI_COUNT. -/
abbrev FI_COUNT (f : Nat) : Nat := 0x30060410 + 0x20 * f
/-- FI_STAT. -/
abbrev FI_STAT (f : Nat) : Nat := 0x30060414 + 0x20 * f
/-- FI_DROP. -/
abbrev FI_DROP (f : Nat) : Nat := 0x30060418 + 0x20 * f
/-- DI_IRQ_STAT. -/
abbrev DI_IRQ_STAT : Nat := 0x30060500
/-- DI_IRQ_EN. -/
abbrev DI_IRQ_EN : Nat := 0x30060504
/-- AI_ID. -/
abbrev AI_ID : Nat := 0x30050000
/-- AI_VAR. -/
abbrev AI_VAR : Nat := 0x30050004
/-- AI_SENSE. -/
abbrev AI_SENSE : Nat := 0x30050008
/-- AI_VOC. -/
abbrev AI_VOC : Nat := 0x3005000C
/-- AI_QCHG. -/
abbrev AI_QCHG : Nat := 0x30050010
/-- AI_CFG. -/
abbrev AI_CFG (n : Nat) : Nat := 0x30050100 + 0x20 * n
/-- AI_LO. -/
abbrev AI_LO (n : Nat) : Nat := 0x30050104 + 0x20 * n
/-- AI_HI. -/
abbrev AI_HI (n : Nat) : Nat := 0x30050108 + 0x20 * n
/-- AI_CUT. -/
abbrev AI_CUT (n : Nat) : Nat := 0x3005010C + 0x20 * n
/-- AI_LINE. -/
abbrev AI_LINE (n : Nat) : Nat := 0x30050110 + 0x20 * n
/-- AI_I. -/
abbrev AI_I (n : Nat) : Nat := 0x30050114 + 0x20 * n
/-- AI_EU. -/
abbrev AI_EU (n : Nat) : Nat := 0x30050118 + 0x20 * n
/-- AI_STAT. -/
abbrev AI_STAT (n : Nat) : Nat := 0x3005011C + 0x20 * n
/-- AI_TBL_I. -/
abbrev AI_TBL_I (n : Nat) (k : Nat) : Nat := 0x30051000 + 0x100 * n + 0x8 * k
/-- AI_TBL_Y. -/
abbrev AI_TBL_Y (n : Nat) (k : Nat) : Nat := 0x30051004 + 0x100 * n + 0x8 * k
/-- AO_CFG. -/
abbrev AO_CFG (m : Nat) : Nat := 0x30050600 + 0x20 * m
/-- AO_CMD. -/
abbrev AO_CMD (m : Nat) : Nat := 0x30050604 + 0x20 * m
/-- AO_SHD. -/
abbrev AO_SHD (m : Nat) : Nat := 0x30050608 + 0x20 * m
/-- AO_RB. -/
abbrev AO_RB (m : Nat) : Nat := 0x3005060C + 0x20 * m
/-- AO_STAT. -/
abbrev AO_STAT (m : Nat) : Nat := 0x30050610 + 0x20 * m
/-- AIO_IRQ_STAT. -/
abbrev AIO_IRQ_STAT : Nat := 0x30050800
/-- AIO_IRQ_EN. -/
abbrev AIO_IRQ_EN : Nat := 0x30050804
/-- TS_ID. -/
abbrev TS_ID : Nat := 0x30030000
/-- TS_CTRL. -/
abbrev TS_CTRL : Nat := 0x30030004
/-- TS_STAT. -/
abbrev TS_STAT : Nat := 0x30030008
/-- TS_INC_LO. -/
abbrev TS_INC_LO : Nat := 0x3003000C
/-- TS_INC_HI. -/
abbrev TS_INC_HI : Nat := 0x30030010
/-- TS_RATE. -/
abbrev TS_RATE : Nat := 0x30030014
/-- TS_MONO. -/
abbrev TS_MONO : Nat := 0x30030020
/-- TS_STN. -/
abbrev TS_STN : Nat := 0x30030024
/-- TS_ACC_LO. -/
abbrev TS_ACC_LO : Nat := 0x30030028
/-- TS_ACC_HI. -/
abbrev TS_ACC_HI : Nat := 0x3003002C
/-- TS_RAW. -/
abbrev TS_RAW : Nat := 0x30030030
/-- TS_SRV_OFS_LO. -/
abbrev TS_SRV_OFS_LO : Nat := 0x30030040
/-- TS_SRV_OFS_HI. -/
abbrev TS_SRV_OFS_HI : Nat := 0x30030044
/-- TS_SRV_OFS_FR. -/
abbrev TS_SRV_OFS_FR : Nat := 0x30030048
/-- TS_SRV_CMD. -/
abbrev TS_SRV_CMD : Nat := 0x3003004C
/-- TS_SRV_KP. -/
abbrev TS_SRV_KP : Nat := 0x30030050
/-- TS_SRV_KI. -/
abbrev TS_SRV_KI : Nat := 0x30030054
/-- TS_STEP_CNT. -/
abbrev TS_STEP_CNT : Nat := 0x30030058
/-- TS_TX_LATE. -/
abbrev TS_TX_LATE : Nat := 0x3003005C
/-- TS_LAT_A. -/
abbrev TS_LAT_A : Nat := 0x30030060
/-- TS_LAT_B. -/
abbrev TS_LAT_B : Nat := 0x30030064
/-- TS_CAP_LO. -/
abbrev TS_CAP_LO (i : Nat) : Nat := 0x30030200 + 0x10 * i
/-- TS_CAP_HI. -/
abbrev TS_CAP_HI (i : Nat) : Nat := 0x30030204 + 0x10 * i
/-- TS_CAP_INFO. -/
abbrev TS_CAP_INFO (i : Nat) : Nat := 0x30030208 + 0x10 * i
/-- TS_CAP_POP. -/
abbrev TS_CAP_POP (i : Nat) : Nat := 0x3003020C + 0x10 * i
/-- TS_IRQ_STAT. -/
abbrev TS_IRQ_STAT : Nat := 0x30030080
/-- TS_IRQ_EN. -/
abbrev TS_IRQ_EN : Nat := 0x30030084
/-- CAN_ID. -/
abbrev CAN_ID (c : Nat) : Nat := 0x30080000 + 0x4000 * c
/-- CAN_CTRL. -/
abbrev CAN_CTRL (c : Nat) : Nat := 0x30080004 + 0x4000 * c
/-- CAN_STAT. -/
abbrev CAN_STAT (c : Nat) : Nat := 0x30080008 + 0x4000 * c
/-- CAN_ECR. -/
abbrev CAN_ECR (c : Nat) : Nat := 0x3008000C + 0x4000 * c
/-- CAN_NBT. -/
abbrev CAN_NBT (c : Nat) : Nat := 0x30080010 + 0x4000 * c
/-- CAN_DBT. -/
abbrev CAN_DBT (c : Nat) : Nat := 0x30080014 + 0x4000 * c
/-- CAN_TDC. -/
abbrev CAN_TDC (c : Nat) : Nat := 0x30080018 + 0x4000 * c
/-- CAN_PWM. -/
abbrev CAN_PWM (c : Nat) : Nat := 0x3008001C + 0x4000 * c
/-- CAN_ABD. -/
abbrev CAN_ABD (c : Nat) : Nat := 0x30080020 + 0x4000 * c
/-- CAN_WAKE_ID. -/
abbrev CAN_WAKE_ID (c : Nat) : Nat := 0x30080024 + 0x4000 * c
/-- CAN_WAKE_MASK. -/
abbrev CAN_WAKE_MASK (c : Nat) : Nat := 0x30080028 + 0x4000 * c
/-- CAN_WAKE_DM_LO. -/
abbrev CAN_WAKE_DM_LO (c : Nat) : Nat := 0x3008002C + 0x4000 * c
/-- CAN_WAKE_DM_HI. -/
abbrev CAN_WAKE_DM_HI (c : Nat) : Nat := 0x30080030 + 0x4000 * c
/-- CAN_BO_CFG. -/
abbrev CAN_BO_CFG (c : Nat) : Nat := 0x30080034 + 0x4000 * c
/-- CAN_MRAM_PAGE. -/
abbrev CAN_MRAM_PAGE (c : Nat) : Nat := 0x30080038 + 0x4000 * c
/-- CAN_RXCNT. -/
abbrev CAN_RXCNT (c : Nat) : Nat := 0x30080044 + 0x4000 * c
/-- CAN_TXCNT. -/
abbrev CAN_TXCNT (c : Nat) : Nat := 0x30080048 + 0x4000 * c
/-- CAN_LOST. -/
abbrev CAN_LOST (c : Nat) : Nat := 0x3008004C + 0x4000 * c
/-- CAN_TXREPL. -/
abbrev CAN_TXREPL (c : Nat) : Nat := 0x30080050 + 0x4000 * c
/-- CAN_IRQ_STAT. -/
abbrev CAN_IRQ_STAT (c : Nat) : Nat := 0x30080054 + 0x4000 * c
/-- CAN_IRQ_EN. -/
abbrev CAN_IRQ_EN (c : Nat) : Nat := 0x30080058 + 0x4000 * c
/-- CAN_FULL. -/
abbrev CAN_FULL (c : Nat) (k : Nat) : Nat := 0x30080060 + 0x4000 * c + 0x4 * k
/-- CAN_OBJ_CFG. -/
abbrev CAN_OBJ_CFG (c : Nat) (k : Nat) : Nat := 0x30081000 + 0x4000 * c + 0x10 * k
/-- CAN_OBJ_ID. -/
abbrev CAN_OBJ_ID (c : Nat) (k : Nat) : Nat := 0x30081004 + 0x4000 * c + 0x10 * k
/-- CAN_OBJ_MASK. -/
abbrev CAN_OBJ_MASK (c : Nat) (k : Nat) : Nat := 0x30081008 + 0x4000 * c + 0x10 * k
/-- CAN_OBJ_BUF. -/
abbrev CAN_OBJ_BUF (c : Nat) (k : Nat) : Nat := 0x3008100C + 0x4000 * c + 0x10 * k
/-- ETH_ID. -/
abbrev ETH_ID : Nat := 0x30090000
/-- ETH_CTRL. -/
abbrev ETH_CTRL : Nat := 0x30090004
/-- ETH_MAC_LO. -/
abbrev ETH_MAC_LO : Nat := 0x30090008
/-- ETH_MAC_HI. -/
abbrev ETH_MAC_HI : Nat := 0x3009000C
/-- ETH_IP. -/
abbrev ETH_IP : Nat := 0x30090010
/-- ETH_INS_IP. -/
abbrev ETH_INS_IP : Nat := 0x30090014
/-- ETH_DROP. -/
abbrev ETH_DROP : Nat := 0x30090018
/-- ETH_DUP. -/
abbrev ETH_DUP : Nat := 0x3009001C
/-- ETH_NODES. -/
abbrev ETH_NODES : Nat := 0x30090020
/-- ETH_IRQ_STAT. -/
abbrev ETH_IRQ_STAT : Nat := 0x30090024
/-- ETH_IRQ_EN. -/
abbrev ETH_IRQ_EN : Nat := 0x30090028
/-- ETH_P_STAT. -/
abbrev ETH_P_STAT (p : Nat) : Nat := 0x30090100 + 0x40 * p
/-- ETH_P_RXCNT. -/
abbrev ETH_P_RXCNT (p : Nat) : Nat := 0x30090104 + 0x40 * p
/-- ETH_P_TXCNT. -/
abbrev ETH_P_TXCNT (p : Nat) : Nat := 0x30090108 + 0x40 * p
/-- ETH_P_ERR. -/
abbrev ETH_P_ERR (p : Nat) : Nat := 0x3009010C + 0x40 * p
/-- ETH_P_RQ. -/
abbrev ETH_P_RQ (p : Nat) (k : Nat) : Nat := 0x30090110 + 0x40 * p + 0x8 * k
/-- ETH_P_RQDROP. -/
abbrev ETH_P_RQDROP (p : Nat) (k : Nat) : Nat := 0x30090114 + 0x40 * p + 0x8 * k
/-- ETH_P_TQ. -/
abbrev ETH_P_TQ (p : Nat) : Nat := 0x30090130 + 0x40 * p
/-- SER_ID. -/
abbrev SER_ID : Nat := 0x300E0000
/-- SER_CTRL. -/
abbrev SER_CTRL : Nat := 0x300E0004
/-- SER_IRQ_STAT. -/
abbrev SER_IRQ_STAT : Nat := 0x300E0010
/-- SER_IRQ_EN. -/
abbrev SER_IRQ_EN : Nat := 0x300E0014
/-- SER_B_CFG. -/
abbrev SER_B_CFG (b : Nat) : Nat := 0x300E0100 + 0x40 * b
/-- SER_B_STAT. -/
abbrev SER_B_STAT (b : Nat) : Nat := 0x300E0104 + 0x40 * b
/-- SER_B_RXCNT. -/
abbrev SER_B_RXCNT (b : Nat) : Nat := 0x300E0108 + 0x40 * b
/-- SER_B_TXCNT. -/
abbrev SER_B_TXCNT (b : Nat) : Nat := 0x300E010C + 0x40 * b
/-- SER_B_ERRCNT. -/
abbrev SER_B_ERRCNT (b : Nat) : Nat := 0x300E0110 + 0x40 * b
/-- SER_B_LATE. -/
abbrev SER_B_LATE (b : Nat) : Nat := 0x300E0114 + 0x40 * b
/-- SER_B_RXQ. -/
abbrev SER_B_RXQ (b : Nat) : Nat := 0x300E0118 + 0x40 * b
/-- SER_B_TXQ. -/
abbrev SER_B_TXQ (b : Nat) : Nat := 0x300E011C + 0x40 * b
/-- USB_STAT. -/
abbrev USB_STAT : Nat := 0x300E0200
/-- USB_RXCNT. -/
abbrev USB_RXCNT : Nat := 0x300E0204
/-- USB_TXCNT. -/
abbrev USB_TXCNT : Nat := 0x300E0208
/-- CV_ID. -/
abbrev CV_ID : Nat := 0x300A0000
/-- CV_CTRL. -/
abbrev CV_CTRL : Nat := 0x300A0004
/-- CV_STAT. -/
abbrev CV_STAT : Nat := 0x300A0008
/-- CV_BG_RATE. -/
abbrev CV_BG_RATE : Nat := 0x300A000C
/-- CV_IRQ_STAT. -/
abbrev CV_IRQ_STAT : Nat := 0x300A0010
/-- CV_IRQ_EN. -/
abbrev CV_IRQ_EN : Nat := 0x300A0014
/-- CV_JOB_CFG. -/
abbrev CV_JOB_CFG (j : Nat) : Nat := 0x300A0100 + 0x40 * j
/-- CV_JOB_ADDR_LO. -/
abbrev CV_JOB_ADDR_LO (j : Nat) : Nat := 0x300A0104 + 0x40 * j
/-- CV_JOB_ADDR_HI. -/
abbrev CV_JOB_ADDR_HI (j : Nat) : Nat := 0x300A0108 + 0x40 * j
/-- CV_JOB_LEN. -/
abbrev CV_JOB_LEN (j : Nat) : Nat := 0x300A010C + 0x40 * j
/-- CV_JOB_BASE. -/
abbrev CV_JOB_BASE (j : Nat) : Nat := 0x300A0110 + 0x40 * j
/-- CV_JOB_REF_LO. -/
abbrev CV_JOB_REF_LO (j : Nat) : Nat := 0x300A0114 + 0x40 * j
/-- CV_JOB_REF_HI. -/
abbrev CV_JOB_REF_HI (j : Nat) : Nat := 0x300A0118 + 0x40 * j
/-- CV_JOB_RES_LO. -/
abbrev CV_JOB_RES_LO (j : Nat) : Nat := 0x300A011C + 0x40 * j
/-- CV_JOB_RES_HI. -/
abbrev CV_JOB_RES_HI (j : Nat) : Nat := 0x300A0120 + 0x40 * j
/-- CV_JOB_REP. -/
abbrev CV_JOB_REP (j : Nat) : Nat := 0x300A0124 + 0x40 * j
/-- CV_JOB_STAT. -/
abbrev CV_JOB_STAT (j : Nat) : Nat := 0x300A0128 + 0x40 * j
/-- CV_JOB_POS. -/
abbrev CV_JOB_POS (j : Nat) : Nat := 0x300A012C + 0x40 * j
/-- CV_JOB_CMD. -/
abbrev CV_JOB_CMD (j : Nat) : Nat := 0x300A0130 + 0x40 * j
/-- EVR_ID. -/
abbrev EVR_ID : Nat := 0x300B0000
/-- EVR_CTRL. -/
abbrev EVR_CTRL : Nat := 0x300B0004
/-- EVR_STAT. -/
abbrev EVR_STAT : Nat := 0x300B0008
/-- EVR_DIRTY. -/
abbrev EVR_DIRTY : Nat := 0x300B000C
/-- EVR_RESTART. -/
abbrev EVR_RESTART : Nat := 0x300B0010
/-- EVR_IRQ_STAT. -/
abbrev EVR_IRQ_STAT : Nat := 0x300B0014
/-- EVR_IRQ_EN. -/
abbrev EVR_IRQ_EN : Nat := 0x300B0018
/-- DSP_ID. -/
abbrev DSP_ID : Nat := 0x300C0000
/-- DSP_CTRL. -/
abbrev DSP_CTRL : Nat := 0x300C0004
/-- DSP_STAT. -/
abbrev DSP_STAT : Nat := 0x300C0008
/-- DSP_VCOM. -/
abbrev DSP_VCOM : Nat := 0x300C000C
/-- DSP_TEMP. -/
abbrev DSP_TEMP : Nat := 0x300C0010
/-- DSP_VTH. -/
abbrev DSP_VTH (i : Nat) : Nat := 0x300C0014 + 0x4 * i
/-- DSP_UPD. -/
abbrev DSP_UPD : Nat := 0x300C0020
/-- DSP_SMAX. -/
abbrev DSP_SMAX : Nat := 0x300C0024
/-- DSP_BUSY. -/
abbrev DSP_BUSY : Nat := 0x300C0028
/-- DSP_SERIAL_LO. -/
abbrev DSP_SERIAL_LO : Nat := 0x300C002C
/-- DSP_SERIAL_HI. -/
abbrev DSP_SERIAL_HI : Nat := 0x300C0030
/-- DSP_IRQ_STAT. -/
abbrev DSP_IRQ_STAT : Nat := 0x300C0034
/-- DSP_IRQ_EN. -/
abbrev DSP_IRQ_EN : Nat := 0x300C0038
/-- SYS_ID. -/
abbrev SYS_ID : Nat := 0x30000000
/-- SYS_CTRL. -/
abbrev SYS_CTRL : Nat := 0x30000004
/-- SYS_STAT. -/
abbrev SYS_STAT : Nat := 0x30000008
/-- SYS_PD. -/
abbrev SYS_PD : Nat := 0x3000000C
/-- SYS_RST. -/
abbrev SYS_RST : Nat := 0x30000010
/-- SYS_RCAUSE. -/
abbrev SYS_RCAUSE : Nat := 0x30000014
/-- SYS_FEED. -/
abbrev SYS_FEED : Nat := 0x30000018
/-- SYS_FLD. -/
abbrev SYS_FLD : Nat := 0x3000001C
/-- SYS_HOLDUP. -/
abbrev SYS_HOLDUP : Nat := 0x30000020
/-- SYS_OPMIN. -/
abbrev SYS_OPMIN : Nat := 0x30000024
/-- SYS_PCYC. -/
abbrev SYS_PCYC : Nat := 0x30000028
/-- SYS_CLKMON. -/
abbrev SYS_CLKMON : Nat := 0x3000002C
/-- SYS_IRQ_STAT. -/
abbrev SYS_IRQ_STAT : Nat := 0x30000030
/-- SYS_IRQ_EN. -/
abbrev SYS_IRQ_EN : Nat := 0x30000034
/-- SPAN_ID. -/
abbrev SPAN_ID : Nat := 0x300D0000
/-- SPAN_CTRL. -/
abbrev SPAN_CTRL : Nat := 0x300D0004
/-- SPAN_STAT. -/
abbrev SPAN_STAT : Nat := 0x300D0008
/-- SPAN_DELAY. -/
abbrev SPAN_DELAY : Nat := 0x300D000C
/-- SPAN_TX_SEQ. -/
abbrev SPAN_TX_SEQ : Nat := 0x300D0010
/-- SPAN_RX_SEQ. -/
abbrev SPAN_RX_SEQ : Nat := 0x300D0014
/-- SPAN_CRC_ERR. -/
abbrev SPAN_CRC_ERR : Nat := 0x300D0018
/-- SPAN_GAPS. -/
abbrev SPAN_GAPS : Nat := 0x300D001C
/-- SPAN_RETX. -/
abbrev SPAN_RETX : Nat := 0x300D0020
/-- SPAN_LOAD. -/
abbrev SPAN_LOAD : Nat := 0x300D0024
/-- SPAN_IRQ_STAT. -/
abbrev SPAN_IRQ_STAT : Nat := 0x300D0028
/-- SPAN_IRQ_EN. -/
abbrev SPAN_IRQ_EN : Nat := 0x300D002C
/-- ICU_ID. -/
abbrev ICU_ID : Nat := 0x300F0000
/-- ICU_CLAIM_S. -/
abbrev ICU_CLAIM_S : Nat := 0x300F0010
/-- ICU_CLAIM_A. -/
abbrev ICU_CLAIM_A : Nat := 0x300F0014
/-- ICU_SRC. -/
abbrev ICU_SRC (n : Nat) : Nat := 0x300F0100 + 0x4 * n
end Reg

/-- The registers of the window at 0x3000_0000. -/
def regs3000 : List RegDesc :=
  [
    { base := 0x30000000, reset := 0x5950003 },
    { base := 0x30000004, rw := 0x1, resv := 0xFFFFFFFE },
    { base := 0x30000008, resv := 0xFFFFF000 },
    { base := 0x3000000C, resv := 0xFFFF0000 },
    { base := 0x30000010, wo := 0x800000FF, resv := 0x7FFFFF00 },
    { base := 0x30000014, resv := 0xFFFF00F0 },
    { base := 0x30000018 },
    { base := 0x3000001C },
    { base := 0x30000020, resv := 0xFFFF0000 },
    { base := 0x30000024 },
    { base := 0x30000028 },
    { base := 0x3000002C, resv := 0xFFFE0000 } ] ++
  [
    { base := 0x30000030, w1c := 0x3FF, resv := 0xFFFFFC00 },
    { base := 0x30000034, rw := 0x3FF, resv := 0xFFFFFC00 } ]

/-- The registers of the window at 0x3001_0000. -/
def regs3001 : List RegDesc :=
  [
    { base := 0x30010000, reset := 0xFC00003 },
    { base := 0x30010004, rw := 0x6, w1s := 0x1, resv := 0xFFFFFFF8 },
    { base := 0x30010008, resv := 0xFFFFFF00 },
    { base := 0x3001000C, resv := 0xFFFFFF80 },
    { base := 0x30010010, resv := 0xFFF08080 },
    { base := 0x30010014 },
    { base := 0x30010018 },
    { base := 0x3001001C },
    { base := 0x30010020, wo := 0x1, resv := 0xFFFFFFFE },
    { base := 0x30010024 },
    { base := 0x30010030, wo := 0x8000007F, resv := 0x7FFFFF80 },
    { base := 0x30010034, w1c := 0x3, resv := 0xFFFFFFE0 } ] ++
  [
    { base := 0x30010038, resv := 0xFFFFFFC0 },
    { base := 0x3001003C, wo := 0x3, resv := 0xFFFFFFFC },
    { base := 0x30010040, n0 := 4, s0 := 0x4 },
    { base := 0x30010050, n0 := 4, s0 := 0x4, w1c := 0xFFFFFFFF },
    { base := 0x30010060, n0 := 4, s0 := 0x4 },
    { base := 0x30010070, n0 := 4, s0 := 0x4 },
    { base := 0x30010080, n0 := 4, s0 := 0x4 },
    { base := 0x30010090, w1c := 0xFF, resv := 0xFFFFFF00 },
    { base := 0x30010094, rw := 0xFF, resv := 0xFFFFFF00 },
    { base := 0x30010100, n0 := 12, s0 := 0x4, reset := 0x3C0A0064, rw := 0xFFFF7FFF, resv := 0x8000 },
    { base := 0x30010140, n0 := 12, s0 := 0x4, resv := 0xFFF80000 },
    { base := 0x30010400, n0 := 128, s0 := 0x4, rw := 0x3, resv := 0xFFFFF000 } ]

/-- The registers of the window at 0x3002_0000. -/
def regs3002 : List RegDesc :=
  [
    { base := 0x30020000, reset := 0xBB00003 },
    { base := 0x30020004, reset := 0x8, rw := 0xF, resv := 0xFFFFFFF0 },
    { base := 0x30020008, resv := 0xFE00FFFC },
    { base := 0x3002000C, rc := 0x1FF, resv := 0xFE00FE00 },
    { base := 0x30020010, w1c := 0x7FFFF, resv := 0xFFF80000 },
    { base := 0x30020014, rw := 0x7FFFF, resv := 0xFFF80000 },
    { base := 0x30020100, n0 := 8, s0 := 0x40, wo := 0x4, resv := 0xFFFF0808 },
    { base := 0x30020104, n0 := 8, s0 := 0x40, rw := 0xFFFF, resv := 0xFFFF0000 },
    { base := 0x30020108, n0 := 8, s0 := 0x40, resv := 0xFFFF0000 },
    { base := 0x3002010C, n0 := 8, s0 := 0x40, resv := 0xFFFF0000 },
    { base := 0x30020110, n0 := 8, s0 := 0x40, rw := 0xFFFF, resv := 0xFFFF0000 },
    { base := 0x30020114, n0 := 8, s0 := 0x40 } ] ++
  [
    { base := 0x30020118, n0 := 8, s0 := 0x40 },
    { base := 0x3002011C, n0 := 8, s0 := 0x40, w1c := 0x30000, resv := 0xFFFC8080 },
    { base := 0x30020120, n0 := 8, s0 := 0x40 },
    { base := 0x30020124, n0 := 8, s0 := 0x40 } ]

/-- The registers of the window at 0x3003_0000. -/
def regs3003 : List RegDesc :=
  [
    { base := 0x30030000, reset := 0x7150003 },
    { base := 0x30030004, rw := 0xF, resv := 0xFFFFFFF0 },
    { base := 0x30030008, w1c := 0x30, resv := 0xFFFFFF80 },
    { base := 0x3003000C, rw := 0xFFFFFFFF },
    { base := 0x30030010, reset := 0x4, rw := 0xF, resv := 0xFFFFFFF0 },
    { base := 0x30030014 },
    { base := 0x30030020 },
    { base := 0x30030024 },
    { base := 0x30030028 },
    { base := 0x3003002C },
    { base := 0x30030030 },
    { base := 0x30030040, rw := 0xFFFFFFFF } ] ++
  [
    { base := 0x30030044, rw := 0xFFFFFFFF },
    { base := 0x30030048, rw := 0xFF, resv := 0xFFFFFF00 },
    { base := 0x3003004C, wo := 0x3, resv := 0xFFFFFFFC },
    { base := 0x30030050, reset := 0x40000000, rw := 0xFFFFFFFF },
    { base := 0x30030054, reset := 0x3F800000, rw := 0xFFFFFFFF },
    { base := 0x30030058 },
    { base := 0x3003005C },
    { base := 0x30030060 },
    { base := 0x30030064 },
    { base := 0x30030200, n0 := 20, s0 := 0x10 },
    { base := 0x30030204, n0 := 20, s0 := 0x10 },
    { base := 0x30030208, n0 := 20, s0 := 0x10, w1c := 0x800000, resv := 0xFF00E000 } ] ++
  [
    { base := 0x3003020C, n0 := 20, s0 := 0x10, wo := 0x1, resv := 0xFFFFFFFE },
    { base := 0x30030080, w1c := 0xFF, resv := 0xFFFFFF00 },
    { base := 0x30030084, rw := 0xFF, resv := 0xFFFFFF00 } ]

/-- The registers of the window at 0x3004_0000. -/
def regs3004 : List RegDesc :=
  [
    { base := 0x30040000, reset := 0xCE00003 },
    { base := 0x30040004, rw := 0x7, resv := 0xFFFFFFF8 },
    { base := 0x30040008, w1c := 0x2, resv := 0xFFFFFFF0 },
    { base := 0x3004000C, resv := 0xC0C0FE00 },
    { base := 0x30040010, rc := 0x3F3F01FF, resv := 0xC0C0FE00 },
    { base := 0x30040014, resv := 0xFFF80000 },
    { base := 0x30040018 },
    { base := 0x3004001C, w1c := 0x1F, resv := 0xFFFFFFE0 },
    { base := 0x30040020, rw := 0x1F, resv := 0xFFFFFFE0 },
    { base := 0x30040024, wo := 0x800003FF, resv := 0x7FFFFC00 },
    { base := 0x30040028, wo := 0x800007FF, resv := 0x7FFFF800 },
    { base := 0x3004002C, reset := 0x148, rw := 0xFFFF, resv := 0xFFFF0000 } ] ++
  [
    { base := 0x30040040, n0 := 8, s0 := 0x4 },
    { base := 0x30040060, n0 := 8, s0 := 0x4 },
    { base := 0x30048000, n0 := 8, s0 := 0x40, rw := 0xF, resv := 0xFFFFFFF0 },
    { base := 0x30048004, n0 := 8, s0 := 0x40, reset := 0x14, rw := 0xFFF00FF, resv := 0xF000FF00 },
    { base := 0x30048008, n0 := 8, s0 := 0x40 },
    { base := 0x3004800C, n0 := 8, s0 := 0x40, rw := 0xFFFFFFFF },
    { base := 0x30048010, n0 := 8, s0 := 0x40, rw := 0xFFFFFFFF },
    { base := 0x30048014, n0 := 8, s0 := 0x40, reset := 0x64, rw := 0xFF01FF, resv := 0xFF00FE00 },
    { base := 0x30048018, n0 := 8, s0 := 0x40, reset := 0x10014, rw := 0xFF03FF, resv := 0xFF00FC00 },
    { base := 0x3004801C, n0 := 8, s0 := 0x40, w1c := 0x180, resv := 0xFFFFFE00 },
    { base := 0x30048020, n0 := 8, s0 := 0x40 },
    { base := 0x30048024, n0 := 8, s0 := 0x40 } ] ++
  [
    { base := 0x30048028, n0 := 8, s0 := 0x40, resv := 0xFFF00000 },
    { base := 0x3004802C, n0 := 8, s0 := 0x40 },
    { base := 0x30049000, n0 := 4, s0 := 0x40, rw := 0x1FFF, resv := 0xFFFFE000 },
    { base := 0x30049004, n0 := 4, s0 := 0x40, rw := 0xFFFFFFFF },
    { base := 0x30049008, n0 := 4, s0 := 0x40, rw := 0xFFFFFFFF },
    { base := 0x3004900C, n0 := 4, s0 := 0x40, rw := 0xFFFFFFFF },
    { base := 0x30049010, n0 := 4, s0 := 0x40, rw := 0xFFFFFFFF },
    { base := 0x30049014, n0 := 4, s0 := 0x40, rw := 0xFFFFFF, resv := 0xFF000000 },
    { base := 0x30049018, n0 := 4, s0 := 0x40, reset := 0x10007, rw := 0x7FF001F, resv := 0xF800FFE0 },
    { base := 0x3004901C, n0 := 4, s0 := 0x40, rw := 0xFFFFFFFF },
    { base := 0x30049020, n0 := 4, s0 := 0x40, reset := 0x1, rw := 0xFFFFFFFF },
    { base := 0x30049024, n0 := 4, s0 := 0x40, resv := 0xFFFFFFFC } ] ++
  [
    { base := 0x30049028, n0 := 4, s0 := 0x40, wo := 0x3, resv := 0xFFFFFFFC },
    { base := 0x3004A000, n0 := 8, s0 := 0x40, rw := 0xFFFF, resv := 0xFFFF0000 },
    { base := 0x3004A004, n0 := 8, s0 := 0x40, rw := 0xFF1F, resv := 0xFFFF00E0 },
    { base := 0x3004A008, n0 := 8, s0 := 0x40, reset := 0x1, rw := 0xFFFF, resv := 0xFFFF0000 },
    { base := 0x3004A00C, n0 := 8, s0 := 0x40, rw := 0xFFFF, resv := 0xFFFF0000 },
    { base := 0x3004A010, n0 := 8, s0 := 0x40, reset := 0x10000, rw := 0x1FFFF, resv := 0xFFFE0000 },
    { base := 0x3004A014, n0 := 8, s0 := 0x40, rw := 0xFFFFFFFF },
    { base := 0x3004A018, n0 := 8, s0 := 0x40, w1c := 0x20, resv := 0xFFFFFFC0 },
    { base := 0x3004A01C, n0 := 8, s0 := 0x40, resv := 0xFFFE0000 },
    { base := 0x3004A020, n0 := 8, s0 := 0x40, resv := 0xFFFF0000 },
    { base := 0x3004A024, n0 := 8, s0 := 0x40 },
    { base := 0x3004A028, n0 := 8, s0 := 0x40 } ] ++
  [
    { base := 0x3004A02C, n0 := 8, s0 := 0x40, wo := 0xF, resv := 0xFFFFFFF0 },
    { base := 0x3004B000, w1c := 0xFFFFF, resv := 0xFFF00000 },
    { base := 0x3004B004, rw := 0xFFFFF, resv := 0xFFF00000 } ]

/-- The registers of the window at 0x3005_0000. -/
def regs3005 : List RegDesc :=
  [
    { base := 0x30050000, reset := 0xA100003 },
    { base := 0x30050004, resv := 0xFFFFFFFC },
    { base := 0x30050008 },
    { base := 0x3005000C },
    { base := 0x30050010, w1c := 0xFFFFFFFF },
    { base := 0x30050100, n0 := 32, s0 := 0x20, reset := 0x640000, rw := 0x3FFF3F3F, resv := 0xC000C0C0 },
    { base := 0x30050104, n0 := 32, s0 := 0x20, rw := 0xFFFFFFFF },
    { base := 0x30050108, n0 := 32, s0 := 0x20, rw := 0xFFFFFFFF },
    { base := 0x3005010C, n0 := 32, s0 := 0x20, reset := 0x32, rw := 0xFF, resv := 0xFFFFFF00 },
    { base := 0x30050110, n0 := 32, s0 := 0x20, reset := 0x5000000, rw := 0xFFFFFFFF },
    { base := 0x30050114, n0 := 32, s0 := 0x20 },
    { base := 0x30050118, n0 := 32, s0 := 0x20 } ] ++
  [
    { base := 0x3005011C, n0 := 32, s0 := 0x20 },
    { base := 0x30051000, n0 := 32, s0 := 0x100, n1 := 32, s1 := 0x8, rw := 0xFFFFFFFF },
    { base := 0x30051004, n0 := 32, s0 := 0x100, n1 := 32, s1 := 0x8, rw := 0xFFFFFFFF },
    { base := 0x30050600, n0 := 8, s0 := 0x20, rw := 0x1, resv := 0xFFFFFFFE },
    { base := 0x30050604, n0 := 8, s0 := 0x20, rw := 0xFFFFFFFF },
    { base := 0x30050608, n0 := 8, s0 := 0x20, rw := 0xFFFFFFFF },
    { base := 0x3005060C, n0 := 8, s0 := 0x20 },
    { base := 0x30050610, n0 := 8, s0 := 0x20, w1c := 0x8, resv := 0xFFFFFFE0 },
    { base := 0x30050800, w1c := 0xF, resv := 0xFFFFFFF0 },
    { base := 0x30050804, rw := 0xF, resv := 0xFFFFFFF0 } ]

/-- The registers of the window at 0x3006_0000. -/
def regs3006 : List RegDesc :=
  [
    { base := 0x30060000, reset := 0xD100003 },
    { base := 0x30060004, rw := 0xFFFF, resv := 0xFFFF0000 },
    { base := 0x30060010, n0 := 16, s0 := 0x4, reset := 0xC0C0C0C, rw := 0xFFFFFFFF },
    { base := 0x30060050 },
    { base := 0x30060054 },
    { base := 0x30060058 },
    { base := 0x3006005C },
    { base := 0x30060060, w1c := 0xFFFFFFFF },
    { base := 0x30060064, w1c := 0xFFFFFFFF },
    { base := 0x30060068, resv := 0xFFFF0000 },
    { base := 0x30060200, n0 := 64, s0 := 0x8 },
    { base := 0x30060204, n0 := 64, s0 := 0x8 } ] ++
  [
    { base := 0x30060100, rw := 0xFFFFFFFF },
    { base := 0x30060104, rw := 0xFFFFFFFF },
    { base := 0x30060108 },
    { base := 0x3006010C },
    { base := 0x30060110 },
    { base := 0x30060114 },
    { base := 0x30060118 },
    { base := 0x3006011C },
    { base := 0x30060120, w1c := 0xFFFFFFFF },
    { base := 0x30060124, reset := 0xFFFFFFFF, rw := 0xFFFFFFFF },
    { base := 0x30060128, w1c := 0xC0000000, resv := 0x3000F000 },
    { base := 0x30060400, n0 := 4, s0 := 0x20, reset := 0x10014, rw := 0x7F7FFF, resv := 0xFF808000 } ] ++
  [
    { base := 0x30060404, n0 := 4, s0 := 0x20, reset := 0x7D0, rw := 0x3FFF, resv := 0xFFFFC000 },
    { base := 0x30060408, n0 := 4, s0 := 0x20 },
    { base := 0x3006040C, n0 := 4, s0 := 0x20 },
    { base := 0x30060410, n0 := 4, s0 := 0x20 },
    { base := 0x30060414, n0 := 4, s0 := 0x20, w1c := 0x2, resv := 0xFFFFFFFC },
    { base := 0x30060418, n0 := 4, s0 := 0x20 },
    { base := 0x30060500, w1c := 0xFF, resv := 0xFFFFFF00 },
    { base := 0x30060504, rw := 0xFF, resv := 0xFFFFFF00 } ]

/-- The registers of the window at 0x3007_0000. -/
def regs3007 : List RegDesc :=
  [
    { base := 0x30070000, reset := 0x5AF0003 },
    { base := 0x30070004, resv := 0xFFF80000 },
    { base := 0x30070008 },
    { base := 0x3007000C },
    { base := 0x30070010 },
    { base := 0x30070014, resv := 0xFFFFFF00 },
    { base := 0x30070018, resv := 0xFFFFF000 },
    { base := 0x3007001C },
    { base := 0x30070020 },
    { base := 0x30070024 },
    { base := 0x30070040, n0 := 16, s0 := 0x4, resv := 0xFF000000 } ]

/-- The registers of the window at 0x3008_0000. -/
def regs3008 : List RegDesc :=
  [
    { base := 0x30080000, n0 := 4, s0 := 0x4000, reset := 0xCA00003 },
    { base := 0x30080004, n0 := 4, s0 := 0x4000, rw := 0xBF, wo := 0x40, resv := 0xFFFFFF00 },
    { base := 0x30080008, n0 := 4, s0 := 0x4000, w1c := 0x1A0, resv := 0xFFFFFE00 },
    { base := 0x3008000C, n0 := 4, s0 := 0x4000, resv := 0xFF00FE00 },
    { base := 0x30080010, n0 := 4, s0 := 0x4000, reset := 0x1, rw := 0x7FFFFFFF, resv := 0x80000000 },
    { base := 0x30080014, n0 := 4, s0 := 0x4000, reset := 0x1, rw := 0x3FFFFF, resv := 0xFFC00000 },
    { base := 0x30080018, n0 := 4, s0 := 0x4000, rw := 0xFF, resv := 0xFFFF0000 },
    { base := 0x3008001C, n0 := 4, s0 := 0x4000, rw := 0x3F3F3F, resv := 0xFFC0C0C0 },
    { base := 0x30080020, n0 := 4, s0 := 0x4000, rw := 0xC0, w1c := 0x30, resv := 0xFFFFFF00 },
    { base := 0x30080024, n0 := 4, s0 := 0x4000, rw := 0x3FFFFFFF, resv := 0xC0000000 },
    { base := 0x30080028, n0 := 4, s0 := 0x4000, rw := 0x1FFFFFFF, resv := 0xE0000000 },
    { base := 0x3008002C, n0 := 4, s0 := 0x4000, rw := 0xFFFFFFFF } ] ++
  [
    { base := 0x30080030, n0 := 4, s0 := 0x4000, rw := 0xFFFFFFFF },
    { base := 0x30080034, n0 := 4, s0 := 0x4000, reset := 0x30064, rw := 0xFFFFF, resv := 0xFF000000 },
    { base := 0x30080038, n0 := 4, s0 := 0x4000, rw := 0x1F, resv := 0xFFFFFFE0 },
    { base := 0x30080044, n0 := 4, s0 := 0x4000 },
    { base := 0x30080048, n0 := 4, s0 := 0x4000 },
    { base := 0x3008004C, n0 := 4, s0 := 0x4000 },
    { base := 0x30080050, n0 := 4, s0 := 0x4000 },
    { base := 0x30080054, n0 := 4, s0 := 0x4000, w1c := 0xFF, resv := 0xFFFFFF00 },
    { base := 0x30080058, n0 := 4, s0 := 0x4000, rw := 0xFF, resv := 0xFFFFFF00 },
    { base := 0x30080060, n0 := 4, s0 := 0x4000, n1 := 4, s1 := 0x4 },
    { base := 0x30081000, n0 := 4, s0 := 0x4000, n1 := 128, s1 := 0x10, rw := 0x3F7FFF, w1c := 0x3000000, resv := 0xFCC08000 },
    { base := 0x30081004, n0 := 4, s0 := 0x4000, n1 := 128, s1 := 0x10, rw := 0x1FFFFFFF, resv := 0xE0000000 } ] ++
  [
    { base := 0x30081008, n0 := 4, s0 := 0x4000, n1 := 128, s1 := 0x10, rw := 0x1FFFFFFF, resv := 0xE0000000 },
    { base := 0x3008100C, n0 := 4, s0 := 0x4000, n1 := 128, s1 := 0x10, rw := 0x3FFFF, resv := 0xFFFC0000 } ]

/-- The registers of the window at 0x3009_0000. -/
def regs3009 : List RegDesc :=
  [
    { base := 0x30090000, reset := 0xE400003 },
    { base := 0x30090004, rw := 0x7, resv := 0xFFFFFFF8 },
    { base := 0x30090008, rw := 0xFFFFFFFF },
    { base := 0x3009000C, rw := 0xFFFF, resv := 0xFFFF0000 },
    { base := 0x30090010, rw := 0xFFFFFFFF },
    { base := 0x30090014, rw := 0xFFFFFFFF },
    { base := 0x30090018 },
    { base := 0x3009001C },
    { base := 0x30090020, resv := 0xFFFFF800 },
    { base := 0x30090024, w1c := 0x1FFF, resv := 0xFFFFE000 },
    { base := 0x30090028, rw := 0x1FFF, resv := 0xFFFFE000 },
    { base := 0x30090100, n0 := 3, s0 := 0x40, resv := 0xFFFFFFF8 } ] ++
  [
    { base := 0x30090104, n0 := 3, s0 := 0x40 },
    { base := 0x30090108, n0 := 3, s0 := 0x40 },
    { base := 0x3009010C, n0 := 3, s0 := 0x40 },
    { base := 0x30090110, n0 := 3, s0 := 0x40, n1 := 4, s1 := 0x8, rw := 0xFF, resv := 0xFFFF0000 },
    { base := 0x30090114, n0 := 3, s0 := 0x40, n1 := 4, s1 := 0x8 },
    { base := 0x30090130, n0 := 3, s0 := 0x40, rw := 0xFF, resv := 0xFFFF0000 } ]

/-- The registers of the window at 0x300A_0000. -/
def regs300A : List RegDesc :=
  [
    { base := 0x300A0000, reset := 0xC500003 },
    { base := 0x300A0004, rw := 0x1, resv := 0xFFFFFFFE },
    { base := 0x300A0008, w1c := 0x10, resv := 0xFFFFFFE0 },
    { base := 0x300A000C, reset := 0x100, rw := 0xFFFF, resv := 0xFFFF0000 },
    { base := 0x300A0010, w1c := 0xFF, resv := 0xFFFFFF00 },
    { base := 0x300A0014, rw := 0xFF, resv := 0xFFFFFF00 },
    { base := 0x300A0100, n0 := 8, s0 := 0x40, rw := 0x7F, resv := 0xFFFFFF80 },
    { base := 0x300A0104, n0 := 8, s0 := 0x40, rw := 0xFFFFFFFF },
    { base := 0x300A0108, n0 := 8, s0 := 0x40, rw := 0xFF, resv := 0xFFFFFF00 },
    { base := 0x300A010C, n0 := 8, s0 := 0x40, rw := 0xFFFFFFFF },
    { base := 0x300A0110, n0 := 8, s0 := 0x40, rw := 0xFFFFFFFF },
    { base := 0x300A0114, n0 := 8, s0 := 0x40, rw := 0xFFFFFFFF } ] ++
  [
    { base := 0x300A0118, n0 := 8, s0 := 0x40, rw := 0xFFFFFFFF },
    { base := 0x300A011C, n0 := 8, s0 := 0x40 },
    { base := 0x300A0120, n0 := 8, s0 := 0x40 },
    { base := 0x300A0124, n0 := 8, s0 := 0x40, rw := 0xFFFFFF, resv := 0xFF000000 },
    { base := 0x300A0128, n0 := 8, s0 := 0x40, w1c := 0x7C, resv := 0xFFFFFF80 },
    { base := 0x300A012C, n0 := 8, s0 := 0x40 },
    { base := 0x300A0130, n0 := 8, s0 := 0x40, wo := 0x3, resv := 0xFFFFFFFC } ]

/-- The registers of the window at 0x300B_0000. -/
def regs300B : List RegDesc :=
  [
    { base := 0x300B0000, reset := 0xE700003 },
    { base := 0x300B0004, reset := 0x7D0, rw := 0x7FFF, resv := 0xFFFF8000 },
    { base := 0x300B0008, w1c := 0x4, resv := 0xFFFFFFF8 },
    { base := 0x300B000C, resv := 0xFFFF8000 },
    { base := 0x300B0010 },
    { base := 0x300B0014, w1c := 0xF, resv := 0xFFFFFFF0 },
    { base := 0x300B0018, rw := 0xF, resv := 0xFFFFFFF0 } ]

/-- The registers of the window at 0x300C_0000. -/
def regs300C : List RegDesc :=
  [
    { base := 0x300C0000, reset := 0xD500003 },
    { base := 0x300C0004, rw := 0x7, resv := 0xFFFFFFF8 },
    { base := 0x300C0008, w1c := 0x28, resv := 0xFFFF0000 },
    { base := 0x300C000C, rw := 0xFF, resv := 0xFFFFFF00 },
    { base := 0x300C0010, resv := 0xFFFF0000 },
    { base := 0x300C0014, n0 := 3, s0 := 0x4, rw := 0xFFFFFFFF },
    { base := 0x300C0020 },
    { base := 0x300C0024 },
    { base := 0x300C0028, resv := 0xFFFF0000 },
    { base := 0x300C002C },
    { base := 0x300C0030 },
    { base := 0x300C0034, w1c := 0x3F, resv := 0xFFFFFFC0 } ] ++
  [
    { base := 0x300C0038, rw := 0x3F, resv := 0xFFFFFFC0 } ]

/-- The registers of the window at 0x300D_0000. -/
def regs300D : List RegDesc :=
  [
    { base := 0x300D0000, reset := 0x5B00003 },
    { base := 0x300D0004, rw := 0x1, wo := 0x2, resv := 0xFFFFFFFC },
    { base := 0x300D0008, w1c := 0x18, resv := 0xFFFFFFE0 },
    { base := 0x300D000C, resv := 0xFFFF0000 },
    { base := 0x300D0010 },
    { base := 0x300D0014 },
    { base := 0x300D0018 },
    { base := 0x300D001C },
    { base := 0x300D0020 },
    { base := 0x300D0024, resv := 0xFF000000 },
    { base := 0x300D0028, w1c := 0xFF, resv := 0xFFFFFF00 },
    { base := 0x300D002C, rw := 0xFF, resv := 0xFFFFFF00 } ]

/-- The registers of the window at 0x300E_0000. -/
def regs300E : List RegDesc :=
  [
    { base := 0x300E0000, reset := 0x5E40003 },
    { base := 0x300E0004, rw := 0x1, resv := 0xFFFFFFFE },
    { base := 0x300E0010, w1c := 0x7F, resv := 0xFFFFFF80 },
    { base := 0x300E0014, rw := 0x7F, resv := 0xFFFFFF80 },
    { base := 0x300E0100, n0 := 2, s0 := 0x40, rw := 0x1FFFF, resv := 0xFFFE0000 },
    { base := 0x300E0104, n0 := 2, s0 := 0x40, w1c := 0x1C, resv := 0xFFFFFFE0 },
    { base := 0x300E0108, n0 := 2, s0 := 0x40 },
    { base := 0x300E010C, n0 := 2, s0 := 0x40 },
    { base := 0x300E0110, n0 := 2, s0 := 0x40 },
    { base := 0x300E0114, n0 := 2, s0 := 0x40 },
    { base := 0x300E0118, n0 := 2, s0 := 0x40, rw := 0x3F, resv := 0xFFFFC0C0 },
    { base := 0x300E011C, n0 := 2, s0 := 0x40, rw := 0x3F, resv := 0xFFFFC0C0 } ] ++
  [
    { base := 0x300E0200, resv := 0xFFFFFFF8 },
    { base := 0x300E0204 },
    { base := 0x300E0208 } ]

/-- The registers of the window at 0x300F_0000. -/
def regs300F : List RegDesc :=
  [
    { base := 0x300F0000, reset := 0x1C00003 },
    { base := 0x300F0010, reset := 0x1FF, rc := 0x1FF, resv := 0xFFFFFE00 },
    { base := 0x300F0014, reset := 0x1FF, rc := 0x1FF, resv := 0xFFFFFE00 },
    { base := 0x300F0100, n0 := 256, s0 := 0x4, rw := 0x1F, resv := 0xFFFFFFC0 } ]

/-- The registers of the window of an address. -/
def winRegs (addr : Nat) : List RegDesc :=
  match addr / 0x10000 with
  | 0x3000 => regs3000
  | 0x3001 => regs3001
  | 0x3002 => regs3002
  | 0x3003 => regs3003
  | 0x3004 => regs3004
  | 0x3005 => regs3005
  | 0x3006 => regs3006
  | 0x3007 => regs3007
  | 0x3008 => regs3008
  | 0x3009 => regs3009
  | 0x300A => regs300A
  | 0x300B => regs300B
  | 0x300C => regs300C
  | 0x300D => regs300D
  | 0x300E => regs300E
  | 0x300F => regs300F
  | _ => []

/-- Whether an address is one of the registers that a description names. -/
def RegDesc.has (d : RegDesc) (addr : Nat) : Bool :=
  Nat.ble d.base addr &&
    (let o := addr - d.base
     let i := o / d.s0
     let r := o - i * d.s0
     if d.n1 = 1 then Nat.blt i d.n0 && r == 0
     else if Nat.blt (d.s1 * d.n1) d.s0 || d.s1 * d.n1 == d.s0 then
       Nat.blt i d.n0 && Nat.blt (r / d.s1) d.n1 && r % d.s1 == 0
     else false)

/-- The description of a register, if the address is one. -/
def regDesc? (addr : Nat) : Option RegDesc :=
  (winRegs addr).find? (·.has addr)

/-- The fault sources of R228, R229 and R222 with the levels of their own chapters (R227), as the reset value of
their FC_SRC_CFG: level, minimum, domain, PROOF bit and class. Other numbers are reserved. -/
def fcSrcTable : List (Nat × Word) :=
  [(0, 0x90), (1, 0x9A), (2, 0xA0), (3, 0xAA), (4, 0xB0), (5, 0xBA), (6, 0xC0), (7, 0xCA), (8, 0x90), (9, 0x9A), (10, 0x50), (11, 0x5F), (12, 0x85), (13, 0x15), (14, 0x15), (16, 0x19A), (17, 0x1AA), (18, 0x15F), (19, 0x10A), (32, 0x20F), (33, 0x20F), (34, 0x28A), (35, 0x20F), (36, 0x20F), (37, 0x28A), (40, 0x380), (41, 0x380), (42, 0x385), (43, 0x385), (44, 0x39A)] ++
  [(45, 0x3AA), (46, 0x3BA), (47, 0x3CA), (48, 0x35F), (49, 0x3EA), (50, 0x3FA), (51, 0x385), (52, 0x30A), (56, 0x490), (57, 0x490), (58, 0x495), (59, 0x405), (60, 0x490), (61, 0x415), (62, 0x415), (63, 0x415), (64, 0x405), (65, 0x41A), (66, 0x405), (67, 0x415), (68, 0x415), (69, 0x410), (70, 0x410), (72, 0x5E0), (73, 0x5E0), (74, 0x5E0), (75, 0x5E0), (76, 0x5E0), (77, 0x5E5), (78, 0x5E5)] ++
  [(79, 0x5E0), (80, 0x5F0), (81, 0x5F0), (82, 0x5F5), (83, 0x5F0), (84, 0x5F0), (85, 0x5F0), (86, 0x5F5), (87, 0x5F5), (88, 0x6B5), (89, 0x6B5), (90, 0x6B5), (91, 0x6B0), (92, 0x6E0), (93, 0x6E5), (94, 0x6E5), (95, 0x6E0), (96, 0x7C0), (97, 0x7C0), (98, 0x7C0), (99, 0x7C5), (100, 0x7C0), (101, 0x7C5), (102, 0x7C0), (103, 0x7C0), (104, 0x89A), (105, 0x8A5), (106, 0x8AA), (107, 0x8A5), (108, 0x81A)] ++
  [(109, 0x815), (110, 0x810), (112, 0x95F), (113, 0x955), (114, 0x95F), (115, 0x950), (116, 0x95F), (117, 0x95F), (118, 0x950), (119, 0x950), (120, 0xA85), (121, 0xA0A), (122, 0xB85), (123, 0xB8A), (124, 0xB80), (125, 0xB85), (126, 0xA0A)]

/-- The reset value of FC_SRC_CFG of a source; 0 for a reserved number (R228). -/
def fcSrcReset (s : Nat) : Word :=
  match fcSrcTable.find? (·.1 == s) with
  | some p => p.2
  | none => 0

/-- The reset value of FC_CLASS_CFG: WINDOW 100, QUIET_L1 10, QUIET_L2 60, HOLD 0 for classes 0, 1, 2, 3, 9 (R245). -/
def fcClassReset (c : Nat) : Word :=
  if c = 0 || c = 1 || c = 2 || c = 3 || c = 9 then 0x3C0A0064 else 0x3C0A4064

/-- The reset value of the register at an address; 0 where none is. -/
def regReset (addr : Nat) : Word :=
  if Nat.ble 0x30010400 addr && Nat.blt addr 0x30010600 then fcSrcReset ((addr - 0x30010400) / 4)
  else if Nat.ble 0x30010100 addr && Nat.blt addr 0x30010130 then fcClassReset ((addr - 0x30010100) / 4)
  else match regDesc? addr with
    | some d => d.reset
    | none => 0

end Sys2Proof.Machine
end

