-- ==== Sys2Proof/Machine/Mem.lean ====
section
/-! DEFINITION. The register file of a half as a canonical sparse list of (address, word) pairs, the byte
memories in the same form, and the sparse tables that hold the typed records of memories (chains, sections, objects, recorder channels). -/
namespace Sys2Proof.Machine

/-- A register file: addresses strictly rising, and no entry equal to the register's reset value. -/
abbrev RegFile := List (Nat × Word)

/-- The content of the register at an address: the listed word, or the reset value (R9). -/
def RegFile.get : RegFile → Nat → Word
  | [], a => regReset a
  | (k, v) :: t, a => if k = a then v else RegFile.get t a

/-- A write that keeps the canonical form: writing the reset value removes the entry. -/
def RegFile.put : RegFile → Nat → Word → RegFile
  | [], a, v => if v = regReset a then [] else [(a, v)]
  | (k, w) :: t, a, v =>
    if k = a then (if v = regReset a then t else (a, v) :: t)
    else if Nat.blt a k then (if v = regReset a then (k, w) :: t else (a, v) :: (k, w) :: t)
    else (k, w) :: RegFile.put t a v

/-- The canonical form: rising addresses, no entry at its reset value. -/
def RegFile.wf : RegFile → Bool
  | [] => true
  | [(k, v)] => v != regReset k
  | (k, v) :: (k', v') :: t => v != regReset k && Nat.blt k k' && RegFile.wf ((k', v') :: t)

/-- A register file with every register of the addresses that `p` names back at its reset value. -/
def RegFile.clear (p : Nat → Bool) (r : RegFile) : RegFile := r.filter fun e => !p e.1

/-- A byte memory: addresses strictly rising, and no entry of zero, which is what an unlisted address reads as (R500: the
memories of a domain are zeroed before it leaves reset). -/
abbrev Memory := List (Nat × Byte)

/-- The byte at an address. -/
def Memory.get : Memory → Nat → Byte
  | [], _ => 0
  | (k, v) :: t, a => if k = a then v else Memory.get t a

/-- A write of one byte that keeps the canonical form: writing zero removes the entry. -/
def Memory.put : Memory → Nat → Byte → Memory
  | [], a, v => if v = 0 then [] else [(a, v)]
  | (k, w) :: t, a, v =>
    if k = a then (if v = 0 then t else (a, v) :: t)
    else if Nat.blt a k then (if v = 0 then (k, w) :: t else (a, v) :: (k, w) :: t)
    else (k, w) :: Memory.put t a v

/-- The canonical form: rising addresses, no entry of zero. -/
def Memory.wf : Memory → Bool
  | [] => true
  | [(_, v)] => v != 0
  | (k, v) :: (k', v') :: t => v != 0 && Nat.blt k k' && Memory.wf ((k', v') :: t)

/-- Bytes written from an address on. -/
def Memory.write (m : Memory) (a : Nat) : List Byte → Memory
  | [] => m
  | b :: bs => Memory.write (m.put a b) (a + 1) bs

/-- The n bytes from an address on. -/
def Memory.read (m : Memory) (a n : Nat) : List Byte := (List.range n).map fun i => m.get (a + i)

/-- A sparse table of records; an index not listed holds the default `d` its reader names. -/
abbrev Tab (α : Type) := List (Nat × α)

/-- The record at an index. -/
def Tab.get {α : Type} (d : α) : Tab α → Nat → α
  | [], _ => d
  | (k, v) :: t, i => if k = i then v else Tab.get d t i

/-- The record at an index, if one is listed. -/
def Tab.get? {α : Type} : Tab α → Nat → Option α
  | [], _ => none
  | (k, v) :: t, i => if k = i then some v else Tab.get? t i

/-- A table with the record at an index replaced; indices stay rising. -/
def Tab.put {α : Type} : Tab α → Nat → α → Tab α
  | [], i, v => [(i, v)]
  | (k, w) :: t, i, v =>
    if k = i then (i, v) :: t
    else if Nat.blt i k then (i, v) :: (k, w) :: t
    else (k, w) :: Tab.put t i v

/-- A table without the record at an index. -/
def Tab.del {α : Type} (t : Tab α) (i : Nat) : Tab α := t.filter fun e => e.1 != i

/-- A record changed in place. -/
def Tab.upd {α : Type} (d : α) (t : Tab α) (i : Nat) (f : α → α) : Tab α := Tab.put t i (f (Tab.get d t i))

end Sys2Proof.Machine
end

