-- ==== Sys2Proof/Machine/State.lean ====
section
/-! DEFINITION. The state of a station: two halves, the shared baseplate and the queue of waiting commands; the
reasons a step can stop; the state right after reset. Registers live in each half's register file; the typed blocks
below hold what the manual gives the machine beside its registers. -/
namespace Sys2Proof.Machine

/-! ### Sequencer, boot and roles (chapters 20, 21, 7) -/

/-- Power and the counters of PD0 (R462, R491 to R496) that no register shows. -/
structure SysBlk where
  /-- Cartridge in its slot with its logic input powered. -/
  powered : Bool := false
  /-- Both logic feeds below 18 V: the half runs from its store (R495). -/
  onStore : Bool := false
  /-- The power-fail sequence runs (R495). -/
  powerFail : Bool := false
  /-- Seconds of the operating minute not yet counted (R462), held in MRAM. -/
  seconds : Nat := 0
  /-- Powered time of PD0 since its power-on, ns: PD0 counts it whether or not the time unit runs (R462). -/
  up : DWord := 0
  /-- Seconds of the running minute counted before `minuteAt`. -/
  partBase : Nat := 0
  /-- Powered time at the last whole operating minute, or at the power-on. -/
  minuteAt : DWord := 0
  /-- Powered time at the power-on (R531). -/
  onAt : DWord := 0
  /-- Powered time at the last domain rail coming into range (R492), at the fall of both logic feeds and at source 52 (R495),
  and at the start of each domain's reset (R499). -/
  railAt : DWord := 0
  storeAt : DWord := 0
  failAt : DWord := 0
  rstAt : Tab DWord := []
  /-- How long neither half's claim has been valid, ns (R483, R485). -/
  noClaim : DWord := 0
  /-- The slot code read at power-on is neither slot's (R527). -/
  slotBad : Bool := false
  /-- Operating minutes, power cycles and station time as held in MRAM (R382, R462). -/
  mramOpmin : Word := 0
  mramPcyc : Word := 0
  mramTime : DWord := 0
  deriving DecidableEq, Repr, Inhabited

/-- The header of a firmware or native image as far as the half acts on it (R510). -/
structure Image where
  kind : Nat := 0
  target : Nat := 0
  length : Nat := 0
  version : Word := 0
  secVer : Nat := 0
  keyId : Nat := 0
  limit : Nat := 0
  body : List Byte := []
  check : DWord := 0
  wellFormed : Bool := true
  deriving DecidableEq, Repr, Inhabited

/-- A firmware slot in NOR: the bytes staged so far, the image it holds, and whether it may be activated (R323). -/
structure FwSlot where
  staged : List Byte := []
  image : Option Image := none
  complete : Bool := false
  verified : Bool := false
  deriving DecidableEq, Repr, Inhabited

/-- Boot and native code (R506 to R519). -/
structure BootBlk where
  slot0 : FwSlot := {}
  slot1 : FwSlot := {}
  /-- The boot record: none when absent or invalid; else the current slot and a pending trial (R506). -/
  record : Option (Nat × Option Nat) := none
  /-- Slot under verification and whether it is the second one tried. -/
  trying : Option (Nat × Bool) := none
  /-- No slot has verified (R509). -/
  noSlot : Bool := false
  /-- Powered time at which no slot verified (R509). -/
  noSlotAt : DWord := 0
  /-- Slot whose firmware runs, and whether it runs as a trial not yet confirmed (R508). -/
  running : Nat := 0
  trial : Bool := false
  version : Word := 0
  stateFormat : BitVec 16 := 1
  /-- Images still to run in the order of R513, once the list has been made, and the one that runs. -/
  imgInit : Bool := false
  images : List Image := []
  current : Option Image := none
  /-- Powered time at which it started, and the time that integrator start-up images have used, ns (R512, R513). -/
  startedAt : DWord := 0
  intUsed : DWord := 0
  /-- Recovery and its cause (R516): 1 no configuration, 2 failed image, 3 RELEASE. -/
  recovery : Option Nat := none
  startupDone : Bool := false
  /-- The station key, by its public identity (R440); in the die's key store. -/
  key : Option DWord := none
  deriving DecidableEq, Repr, Inhabited

/-- A controlled handover in progress, as one half knows it (R205 to R207). -/
structure Handover where
  outgoing : Bool := false
  offerId : Word := 0
  cause : Cause := .roleSwap
  h : DWord := 0
  hv : DWord := 0
  accepted : Bool := false
  /-- Monotonic time of the OFFER on the half that made it. -/
  at_ : DWord := 0
  /-- Stage reached: 0 before H, 1 H, 2 H_V, 3 outputs released, 4 claimed. -/
  stage : Nat := 0
  deriving DecidableEq, Repr, Inhabited

/-- Roles and the claim line (R180 to R190, R199 to R216). -/
structure RoleBlk where
  /-- The half drives the DO, DI sink and AO circuits of the field (R181). -/
  drives : Bool := false
  /-- Its valve-drive levels run (R127, R128). -/
  vdRun : Bool := false
  holdWindow : Bool := false
  /-- Monotonic time at which the hold window began (R202). -/
  holdAt : DWord := 0
  claimLine : Bool := false
  /-- Monotonic times of the partner's claim becoming valid, of the last accepted heartbeat, of the last one that showed
  an armed STANDBY, and of the wait for a ready partner (R187, R188, R190, R234). -/
  claimAt : DWord := 0
  hbAt : DWord := 0
  armedAt : DWord := 0
  negAt : DWord := 0
  armed : Bool := false
  synced : Bool := false
  /-- A valid RELINQUISH has been received since the partner's claim was last valid (R187). -/
  relinq : Bool := false
  /-- RELEASED of R214. -/
  released : Bool := false
  everStandby : Bool := false
  /-- The hardware actions of a takeover have been done and the decision is pending (R201). -/
  takeover : Bool := false
  cold : Bool := false
  negotiating : Bool := false
  loading : Bool := false
  ho : Option Handover := none
  nextOffer : Word := 0
  /-- The mailbox command that waits for the handover: channel, tag. -/
  cmd : Option (Nat × Nat) := none
  /-- The last accepted heartbeat of the partner. -/
  partner : Option Heartbeat := none
  hbCount : Word := 0
  /-- Monotonic time of the last completed swap, and the next due (R208). -/
  lastSwap : DWord := 0
  nextSwap : DWord := 0
  proofTest : Bool := false
  /-- The proof test that follows next, 1 to 5 (R209). -/
  proofStep : Nat := 0
  /-- Monotonic time of the last entry into NATIVE, from which background activities are counted (R454). -/
  nativeAt : DWord := 0
  /-- Tasks start no cycle before this monotonic time (R206, R207). -/
  startAt : DWord := 0
  /-- Monotonic time of the last refused RELEASE press, whose ROLE LED flashes for 2 s (R530). -/
  refusedAt : Option DWord := none
  /-- Station time of the last completed handover, and how many (R325). -/
  lastHandover : DWord := 0
  handovers : Word := 0
  deriving DecidableEq, Repr, Inhabited

/-- A REL item waiting for its acknowledgement (R192). -/
structure RelItem where
  item : BitVec 16 := 0
  sent : Sent := .role 0 0 {}
  retries : Nat := 0
  /-- Monotonic time at which it was last sent. -/
  at_ : DWord := 0
  deriving DecidableEq, Repr, Inhabited

/-- What a REL frame carries to its receiver. -/
inductive RelLoad where
  | cfg (c : CfgItem)
  | mbx (reply : Bool) (e : Entry)
  /-- A ROLE frame, whose effect its own row gives. -/
  | role
  deriving DecidableEq, Repr, Inhabited

/-- The Span link (R191, R192). -/
structure SpanBlk where
  nextItem : BitVec 16 := 1
  rxItem : BitVec 16 := 0
  unacked : List RelItem := []
  held : List (Nat × RelLoad) := []
  lost : Bool := false
  rxAny : Bool := false
  /-- The bytes of the frames sent, oldest first (R191). -/
  wire : List (List Byte) := []
  deriving DecidableEq, Repr, Inhabited

/-- The standby half's copy of one task's region (R194 to R197). `region` maps block offsets to 256 bytes. -/
structure TaskCopy where
  pend : List StateDelta := []
  frames : Nat := 0
  region : List (Nat × List Byte) := []
  shadow : List (Nat × List Byte) := []
  confirmed : Bool := false
  unconfirmed : Bool := false
  cycle : Word := 0
  /-- The last chunk of the running full copy has arrived (R197). -/
  chunks : Bool := false
  divergences : List DWord := []
  deriving DecidableEq, Repr, Inhabited

/-- The standby half's copy and the active half's copy requests. -/
structure CopyBlk where
  tasks : Tab TaskCopy := []
  resync : BitVec 16 := 0
  /-- The partner's resync_mask as last answered, and the commit counter last sent to it in a full copy (R197, R200). -/
  peerMask : BitVec 16 := 0
  cfgSent : Option Word := none
  storeDone : Bool := false
  /-- Blocks of each task written in the running cycle: offset and content (R194). -/
  dirty : Tab (List (Nat × List Byte)) := []
  /-- Blocks of each task's region as last sent. -/
  sentRegion : Tab (List (Nat × List Byte)) := []
  deriving DecidableEq, Repr, Inhabited

/-! ### Fault collector (chapter 8) -/

/-- An event FIFO entry (R244): the four words of FC_EVT_W0 to W3. -/
structure FcEvt where
  w0 : Word := 0
  time : DWord := 0
  opmin : Word := 0
  deriving DecidableEq, Repr, Inhabited

/-- A reaction window (R231): its source, and whether PEND has been cleared since the raise. -/
structure FcWindow where
  src : Nat
  handled : Bool := false
  /-- The level of the raise that opened it, and the monotonic time then. -/
  level : Nat := 1
  at_ : DWord := 0
  deriving DecidableEq, Repr, Inhabited

/-- The fault collector's state beside its registers (R219 to R243). -/
structure FcBlk where
  fifo : List FcEvt := []
  /-- Level at which each pending source was taken. -/
  level : Tab Nat := []
  windows : List FcWindow := []
  /-- Domains to reset after the hold window, and whether their reset runs (R237). -/
  domains : List Nat := []
  resetting : Bool := false
  /-- Classes with a source raised at L2 or L3 whose quiet period runs, and the first of them (R237). -/
  quiet : List Nat := []
  first : Option Nat := none
  /-- Classes that have reached L2 or L3 since the half entered FAULT (R237). -/
  reached : List Nat := []
  /-- Monotonic times per class: of its last raise, and of the start of its quiet period (R236, R237); and of PEER_ARMED
  setting (R235). -/
  lastRaise : Tab DWord := []
  quietAt : Tab DWord := []
  peerAt : DWord := 0
  /-- PD1 has been reset in FAULT, so the boot ROM is to verify the firmware slot again (R237). -/
  bootDue : Bool := false
  /-- Operating-minute stamps of the last two recoveries per class, in MRAM (R238). -/
  stamps : Tab (List Word) := []
  /-- The latch mark in MRAM: its class (R239). -/
  latch : Option Nat := none
  /-- The configuration registers as latched at LOCK (R228, source 121). -/
  locked : List Word := []
  haltSup : Bool := false
  haltApp : Bool := false
  haltScr : Bool := false
  /-- Correctable errors per memory within 1,440 operating minutes: operating-minute stamps (R228, source 14). -/
  ceStamps : Tab (List Word) := []
  /-- Monotonic time of the last flush of each pair: 0 supervisor, 1 application, 2 Scruple (R224). -/
  lastFlush : Tab DWord := []
  deriving DecidableEq, Repr, Inhabited

/-! ### Time unit (chapter 14) -/

/-- A segment of the VIRT counter mode (R384, R385): base, rate (2^-40) and step accumulator. -/
structure Segment where
  mBase : BitVec 96 := 0
  cBase : DWord := 0
  rho : Int := 0
  acc : DWord := 0
  deriving DecidableEq, Repr, Inhabited

/-- A captured edge (R402): station time, or the raw tick count in VIRT mode (R385). -/
structure Capture where
  t : DWord := 0
  tick : DWord := 0
  seq : Byte := 0
  rising : Bool := false
  halfNs : Bool := false
  stepped : Bool := false
  deriving DecidableEq, Repr, Inhabited

/-- One PTP port (R391 to R398). -/
structure PtpPort where
  master : Option PtpAnnounce := none
  /-- The last Announce of each sender, with the monotonic time of its arrival. -/
  foreign : List (PtpAnnounce × DWord) := []
  lastSync : Option PtpSync := none
  /-- The monotonic time of the last Sync taken. -/
  syncAt : DWord := 0
  /-- A two-step Sync that waits for its Follow_Up. -/
  waitFollow : Option PtpSync := none
  /-- Path delays of the last 16 measurements and the last offset, in units of 2^-16 ns. -/
  delays : List Int := []
  offset : Option Int := none
  better : Nat := 0
  /-- The coarse originTimestamp of the queued one-step frame, and its kind. -/
  queued : Option (PtpKind × DWord) := none
  /-- The monotonic time at which a message of each kind was last queued (R392), the sequence of the next Delay_Req, and
  the sequence and originTimestamp of the last one that departed. -/
  sentAt : List (PtpKind × DWord) := []
  reqSeq : BitVec 16 := 0
  req : Option (BitVec 16 × DWord) := none
  deriving DecidableEq, Repr, Inhabited

/-- The time unit and the time firmware (R381 to R402). -/
structure TsBlk where
  /-- Monotonic time in units of 2^-32 ns (ADJ mode), and the tick count. -/
  mono : BitVec 96 := 0
  tick : DWord := 0
  acc : DWord := 0
  /-- Station time right after the last forward step: earlier release instants are passed over (R21). -/
  stepTo : DWord := 0
  segs : List Segment := []
  /-- The integral term I of the servo, in units of 2^-40 (R388), and the monotonic time of the last offset. -/
  integ : Int := 0
  lastOfs : DWord := 0
  /-- The last offset applied, in units of 2^-8 ns (R546). -/
  offset : Int := 0
  anyOfs : Bool := false
  /-- Consecutive offsets within 1 µs, and consecutive offsets beyond it while locked (R390). -/
  within : Nat := 0
  beyond : Nat := 0
  /-- The source of TIME_SOURCE, and the one in use (R334, R399, R400). -/
  selected : Option Nat := none
  source : Nat := 0
  port : Nat := 0
  utcOffset : BitVec 16 := 0
  gm : DWord := 0
  /-- The monotonic time since when the two ports' offsets differ by more than 1 µs (R395). -/
  abSince : Option DWord := none
  ports : Tab PtpPort := []
  fifos : Tab (List Capture) := []
  capSeq : Tab Byte := []
  deriving DecidableEq, Repr, Inhabited

/-! ### Event recorder (chapter 18) -/

/-- A recorder record (R463 to R466). -/
structure EvrRec where
  kind : Nat := 0
  ovf : Bool := false
  nan : Bool := false
  restarted : Bool := false
  opmin : Word := 0
  pcycle : Word := 0
  opminStart : Word := 0
  pcycleStart : Word := 0
  src : Nat := 0
  lo : F32 := 0
  width : F32 := 0
  bins : List (Nat × Word) := []
  seen : Bool := false
  min : F64 := 0
  max : F64 := 0
  tMin : DWord := 0
  tMax : DWord := 0
  opMin : Word := 0
  opMax : Word := 0
  count : Word := 0
  deriving DecidableEq, Repr, Inhabited

/-- One MRAM slot of a channel (R466, R467). -/
structure EvrSlot where
  valid : Bool := false
  checkOk : Bool := false
  seq : Word := 0
  rec_ : EvrRec := {}
  deriving DecidableEq, Repr, Inhabited

/-- Events that are logged or recorded by name (R189, R196, R256, R395). -/
inductive LogEvt where
  /-- Both claims valid, on Half A (R189). -/
  | roleConflict
  /-- DIVERGENCE: a task and its cycle (R196). -/
  | divergence (task : Nat) (cycle : Word)
  /-- LAN A and LAN B disagree (R395). -/
  | abDisagree
  /-- A JOIN that the manager refused, with the result (R256). -/
  | joinRefused (station result : Nat)
  /-- A panel rail out of its range, a waveform table whose check failed, and a recovery of the panel (R474, R486). -/
  | panelRail
  | panelTable
  | panelRecovery
  deriving DecidableEq, Repr, Inhabited

/-- The event recorder: live records in DRAM, slots in MRAM, dirty channels with the monotonic time of their first
change (R459 to R470). -/
structure EvrBlk where
  live : Tab EvrRec := []
  slot0 : Tab EvrSlot := []
  slot1 : Tab EvrSlot := []
  dirty : Tab DWord := []
  /-- Events recorded with no channel of their own, oldest first, with their monotonic time. -/
  log : List (DWord × LogEvt) := []
  deriving DecidableEq, Repr, Inhabited

/-! ### Mailboxes (chapter 10) -/

/-- A command context (R277): the command it holds and how far it has come. -/
structure Ctx where
  ch : Nat
  tag : Nat
  op : Nat
  gen : Nat := 2
  role : Nat := 1
  payload : List Byte := []
  /-- Execution has begun and the command waits for an event. -/
  started : Bool := false
  /-- The last abort point is passed (R287). -/
  past : Bool := false
  /-- The completion that waits for a free completion slot: status and payload (R276). -/
  done : Option (Nat × List Byte) := none
  /-- Word 0 of an entry has a reserved bit set, or a length field is above 52 (R280, R305). -/
  malformed : Bool := false
  /-- Tags of the ABORTs whose completions follow this one's, and their statuses (R287). -/
  aborters : List (Nat × Nat) := []
  /-- The REL item whose acknowledgement completes the command, and the completion it then has (R318). -/
  item : Option (BitVec 16 × Nat × List Byte) := none
  /-- The tag on channel 7 of the forwarded command (R300). -/
  fwd : Option Nat := none
  /-- The firmware version that a restarted partner is awaited with (R324, R508). -/
  expect : Option Word := none
  /-- When the command started, or the partner that it awaits restarted (R318, R324, R336). -/
  at_ : DWord := 0
  /-- A number that no other command of the half has; what waits for the command names it so. -/
  uid : Nat := 0
  deriving DecidableEq, Repr, Inhabited

/-- A completion of a command that has no context and waits for a free completion slot (R276, R278). -/
structure LateDone where
  op : Nat := 0
  tag : Nat := 0
  status : Nat := 0
  gen : Nat := 2
  payload : List Byte := []
  deriving DecidableEq, Repr, Inhabited

/-- A channel's state beside its registers (R272 to R299). -/
structure Chan where
  /-- Submission entries received and not consumed, and completions posted and not consumed, oldest first; channel 0's
  submission ring and a copy of its completion ring lie in the MBX window (R301). `owned` lists the owned tags. -/
  sq : List Entry := []
  cq : List Entry := []
  owned : List Nat := []
  late : List LateDone := []
  lastHeard : DWord := 0
  lastSent : DWord := 0
  /-- When completions were last sent (R293), and since when, and for how many records, the session's key serves
  (R290). -/
  cqAt : DWord := 0
  keyAt : DWord := 0
  records : Nat := 0
  addr : Word := 0
  notAfter : DWord := 0
  serial : DWord := 0
  role : Nat := 0
  /-- A handshake has completed and OPEN is awaited. -/
  shaken : Bool := false
  /-- End of the previous accepted CFG_STAGE and FW_STAGE of the session (R318). -/
  cfgEnd : Option Nat := none
  fwEnd : Option Nat := none
  mp1 : Bool := false
  mp1Port : BitVec 16 := 0
  mp1Txid : Option Byte := none
  mp1Reply : List Byte := []
  deriving DecidableEq, Repr, Inhabited

/-- One object of a subscription (R288, R289, R313). -/
structure SubItem where
  oid : Word
  due : Bool := true
  initial : Bool := true
  lastSent : DWord := 0
  deriving DecidableEq, Repr, Inhabited

/-- A subscription. -/
structure Sub where
  num : Nat
  ch : Nat
  minInterval : Nat := 0
  items : List SubItem := []
  ended : Bool := false
  overrun : Bool := false
  deriving DecidableEq, Repr, Inhabited

/-- An ABORT here that the partner is to answer (R287, R300): its channel and tag, and the context of its target. -/
structure PeerAbort where
  ch : Nat
  tag : Nat
  gen : Nat
  uid : Nat
  deriving DecidableEq, Repr, Inhabited

/-- The mailbox block: channels, contexts in order of consumption, subscriptions, and the supervisor's
side of the Scruple request queue, whose ring is channel 1's. -/
structure MbxBlk where
  chans : Tab Chan := []
  ctxs : List Ctx := []
  subs : List Sub := []
  nextUid : Nat := 0
  /-- The half as the producer on the partner's channel 7 (R300): the next submission seq, the next completion seq
  expected, the completion chain being received, and the tags whose completion no context takes: an ABORT sent on, or none
where nobody waits any more. -/
  fwdSeq : Word := 0
  fwdCqSeq : Word := 0
  fwdBuf : List Byte := []
  fwdAborts : List (Nat × Option PeerAbort) := []
  /-- The submission head that the partner has told (R276), and the ABORTs that wait for room in its ring or for a free
  tag (R274, R285): the partner's tag of the target, the generation, and who waits. -/
  fwdHead : Word := 0
  fwdWait : List (Nat × Nat × Option PeerAbort) := []
  /-- A completion from the partner failed its check or its sequence (R283), and the code of that error. -/
  fwdBroken : Bool := false
  fwdErr : Nat := 0
  /-- Entries of the supervisor that wait for room in channel 1's ring: opcode and payload (R145, log 35). -/
  scrWait : List (Nat × List Byte) := []
  scrSeq : Word := 0
  wasFull : Bool := false
  /-- Channels whose head entry found no context (R279). -/
  waits : List Nat := []
  /-- Failed authentications per source address, ignored addresses, and the handshakes of the last second (R442). -/
  authFails : Tab (List DWord) := []
  blocked : List Nat := []
  shakes : List DWord := []
  deriving DecidableEq, Repr, Inhabited

/-! ### Scruple (chapter 6) -/

/-- A safety function (R160): its state, its diagnostic, and the stamp of the change that it acts on. -/
structure SafFn where
  state : FuncState := .resetWait
  diag : Nat := 0
  stamp : DWord := 0
  deriving DecidableEq, Repr, Inhabited

/-- A filter of a safety input (R149): counter, the sample that waits for the next tick, output, stamp of the last
change. -/
structure SafFilter where
  count : Nat := 0
  sample : Bool := false
  out : Bool := false
  stamp : DWord := 0
  deriving DecidableEq, Repr, Inhabited

/-- A reset input (R172): its state, RESET_HELD, its level, and the stamp of the change that made that level. -/
structure SafSrs where
  state : SrsState := .recover
  held : Bool := true
  level : Bool := false
  stamp : DWord := 0
  deriving DecidableEq, Repr, Inhabited

/-- A fault of a pair, or of a channel of a pair used as two single channels (R151, R153): its diagnostic, and whether
the demand that must precede its clearing has been seen. -/
structure SafInFault where
  diag : Nat := 0
  demand : Bool := false
  deriving DecidableEq, Repr, Inhabited

/-- Dark pulses of an assigned input (R153): missing ones in a row, and low ones in a row. -/
structure SafDark where
  missing : Nat := 0
  low : Nat := 0
  deriving DecidableEq, Repr, Inhabited

/-- A speed channel (R163): the last edge and the speed in rpm of the last edge interval. -/
structure SafFi where
  last : Option DWord := none
  speed : F32 := 0
  deriving DecidableEq, Repr, Inhabited

/-- Scruple of one half: the controller and its clock, the set, the seal, the queue's acceptance, the inputs, the
matrices, the functions, the outputs, the cross-trip, and the proof test. Masks have bit j for output SOj; a filter's
index is i for SIi and 16 + k for SRSk. -/
structure SafBlk where
  /-- The controller executes its safety task; it stops at its watchdog (R36), which holds the paths open. -/
  run : Bool := false
  wdg : Bool := false
  /-- Scruple's own time, ns. -/
  clk : DWord := 0
  /-- No set has been delivered since the start (R145). -/
  startUp : Bool := false
  /-- The set being received, and the set held: its check, profile and body. -/
  stage : List Byte := []
  held : Option (Word × Nat × SafBody) := none
  sealWord : BitVec 12 := 0
  sealOk : Bool := false
  /-- Entries taken in the running cycle, and the outputs that its TRIP entries named (R148). -/
  taken : Nat := 0
  cycTrips : Byte := 0
  /-- An entry has been accepted, and the mirror shows it. -/
  anyAcc : Bool := false
  accepted : Bool := false
  lastSeq : Word := 0
  invalid : BitVec 15 := 0
  invOvf : Bool := false
  /-- Station time of the last TIME entry, and Scruple's clock then. -/
  station : DWord := 0
  stationAt : DWord := 0
  /-- When the safety inputs were last sampled (R149). -/
  siAt : Option DWord := none
  fltA : Tab SafFilter := []
  fltB : Tab SafFilter := []
  pairFault : Tab SafInFault := []
  chanFault : Tab SafInFault := []
  dark : Tab SafDark := []
  tpMaster : Bool := false
  /-- The TP drivers that the half holds on (R154). -/
  tpDrive : Byte := 0
  srs : Tab SafSrs := []
  fi : Tab SafFi := []
  latchA : Byte := 0
  latchB : Byte := 0
  backA : Byte := 0
  backB : Byte := 0
  /-- When each running backstop delay started: output, plus 8 for matrix B (R156). -/
  backAt : Tab DWord := []
  /-- Outputs whose latches disagree, with the instant at which that was first seen (R157). -/
  skew : Tab DWord := []
  funcs : Tab SafFn := []
  qtrip : Byte := 0
  permit : Byte := 0
  /-- Switches held off by a running test (R167), and the readback. -/
  testHs : Byte := 0
  testLs : Byte := 0
  energised : Byte := 0
  /-- Since when each output reads energised (R174), and since when the half's own path of it is open (R170). -/
  enAt : Tab DWord := []
  openAt : Tab DWord := []
  /-- Since when the two speeds of a function disagree (R164). -/
  fiAt : Tab DWord := []
  /-- The end of the last completed cycle (R36), and the start of a received cross-trip (R171). -/
  cycAt : DWord := 0
  xinAt : DWord := 0
  xout : Byte := 0
  xin : Bool := false
  xforce : Bool := false
  xlatch : Bool := false
  xtests : Nat := 0
  proof : Bool := false
  /-- Cycles since the proof test started (R176). -/
  proofMs : Nat := 0
  /-- Operating minute of the last completed proof test, and whether PROOF_OVERDUE has been raised since (R178). -/
  proofAt : Word := 0
  overdue : Bool := false
  deriving DecidableEq, Repr, Inhabited

/-! ### CAN controllers (chapter 15) -/

/-- A controller beside its registers: whether it may transmit (R408, R424), the rate candidate under test and its good
frames, the mode that it entered when it accepted a rate, 0 before (R420), the operating minutes of its releases (R419),
the send objects one of which may be in transmission on a bus that the half has left (R424), whether its sleep point has
risen and the bus has not been idle since (R421); the monotonic times of its last bus wake (R422), of its bus off (R419),
of the start of its recovery (R418), of the candidate's start or last frame with no error, and of the detection's start or
last NONE (R420); and whether it stays bus off until its restart point is written (R419). -/
structure CanCtl where
  drives : Bool := false
  cand : Nat := 0
  good : Nat := 0
  found : Nat := 0
  releases : List Word := []
  finishing : List Nat := []
  sleepReq : Bool := false
  wokeAt : Option DWord := none
  offAt : DWord := 0
  recovAt : DWord := 0
  candAt : DWord := 0
  detAt : DWord := 0
  stuck : Bool := false
  deriving DecidableEq, Repr, Inhabited

/-- The CAN controllers: the message RAM by byte address (R411); by controller × 128 + object: the FIFO member to fill
next, and the data and monotonic time of the last frame seen with a send object's identifier (R414, R423); by
controller × 64 + group: the points received since the last closing message (R30). -/
structure CanBlk where
  ctl : Tab CanCtl := []
  ram : Memory := []
  fifo : Tab Nat := []
  seen : Tab (List Byte × DWord) := []
  group : Tab (List (Nat × DWord)) := []
  deriving DecidableEq, Repr, Inhabited

/-! ### Ethernet and serial ports (chapter 16) -/

/-- A node of the PRP node table (R428): when it was last heard, and on each LAN; the sequences seen, newest first;
whether NET_LAN_PORT has been raised for it since both LANs last carried its frames. -/
structure PrpNode where
  heard : DWord := 0
  onA : DWord := 0
  onB : DWord := 0
  seqs : List (BitVec 16 × DWord) := []
  oneLan : Bool := false
  deriving DecidableEq, Repr, Inhabited

/-- A serial bus beside its registers: whether the half has the bus's role (R435, R438), the master's pending request
with its failed attempts, the monotonic time of its last attempt, and the requests that wait for the bus (R437), and the
frames and errors of the running 10 s (R444). -/
structure SerBus where
  drives : Bool := false
  pend : Option (Nat × Nat) := none
  pendAt : DWord := 0
  queue : List Nat := []
  since : DWord := 0
  total : Nat := 0
  bad : Nat := 0
  deriving DecidableEq, Repr, Inhabited

/-- The ports: the node table by MAC address, the frames in receive queue 4p + q, the echoes answered in the running
second (R430), the line count of each transmission group (R433), discarded sentences of the instrument LAN (R434), the
values each sentence last sent, when each mapped sentence was last received or timed out, with whether it has timed out since
(R434), when the link of each port last went down (R444), and the serial buses. -/
structure NetBlk where
  nodes : Tab PrpNode := []
  queued : Tab Nat := []
  echoSec : Nat := 0
  echoes : Nat := 0
  lines : Tab Nat := []
  badSentences : Word := 0
  sentVals : Tab (List DWord) := []
  heard : Tab (DWord × Bool) := []
  downAt : Tab DWord := []
  ser : Tab SerBus := []
  deriving DecidableEq, Repr, Inhabited

/-! ### Check values and background work (chapter 17) -/

/-- A job slot's run (R449, R453, R458): the configuration registers as its start took them, its start, whether a
restart waits for its end, and the background tokens at its start (R450). -/
structure CvJob where
  cfg : Word := 0
  addr : Nat := 0
  len : Nat := 0
  base : Word := 0
  ref : DWord := 0
  start : DWord := 0
  again : Bool := false
  deriving DecidableEq, Repr, Inhabited

/-- The scan engine beside its registers: the run of each slot, the bucket of background tokens and the time it was last
counted (R450). -/
structure CvBlk where
  jobs : Tab CvJob := []
  tokens : Nat := 65536
  tokensAt : DWord := 0
  deriving DecidableEq, Repr, Inhabited

/-- Wear of the NOR flash, in MRAM (R456): erase counts of blocks, those that saturated, and retired blocks. -/
structure NorBlk where
  erases : Tab Word := []
  ovf : List Nat := []
  retired : List Nat := []
  deriving DecidableEq, Repr, Inhabited

/-! ### Bistable display (chapter 19) -/

/-- A pixel that a waveform runs on or that waits for one (R478): the journal slot it is driven for, the waveforms still
to run as old and new level, the running one with its frame, and the pending level: slot, clear mode, level. -/
structure Pix where
  slot : Nat
  steps : List (Nat × Nat) := []
  wave : Option (BitVec 128 × Nat) := none
  pend : Option (Nat × Bool × Nat) := none
  deriving DecidableEq, Repr, Inhabited

/-- A pending region beside its journal entry (R480, R481, R484): the CFG item whose acknowledgement it awaits, whether
it waits no more, whether it has started, the recovery phase (0 none, 1 clearing, 2 driving), the monotonic time of its
entry, its new levels row by row, and its command. -/
structure Region where
  item : Option (BitVec 16) := none
  ready : Bool := false
  started : Bool := false
  phase : Nat := 0
  at_ : DWord := 0
  levels : List Nat := []
  cmd : Option (Nat × Nat) := none
  deriving DecidableEq, Repr, Inhabited

/-- The display. MRAM holds the target image T, the journal, the stress counters and the serial they belong to (R480);
pixels are numbered 1872 y + x and one not listed is 0. `shown` is L (R473), `pix` the busy pixels, `recov` the slots
still to recover in order, `clearAll` a new cover's clearing sequence that awaits a slot (R481), `staging` the staging
buffer's bytes, `page` the page shown last. -/
structure DspBlk where
  cover : Option CoverId := none
  target : Tab Nat := []
  shown : Tab Nat := []
  pix : Tab Pix := []
  journal : Tab JournalEntry := []
  regions : Tab Region := []
  recov : List Nat := []
  clearAll : Bool := false
  nextSeq : Word := 0
  stress : Tab Word := []
  serial : DWord := 0
  staging : Memory := []
  page : BitVec 16 := 0xFFFF
  deriving DecidableEq, Repr, Inhabited

/-! ### Configuration slots (R45 to R50, R318) -/

/-- A configuration slot in NOR: the bytes staged so far, the content of a complete image, its commit counter. -/
structure CfgSlot where
  bytes : List Byte := []
  complete : Bool := false
  verified : Bool := false
  cfg : Option StationCfg := none
  commit : Word := 0
  /-- The slot has been current: it can be the rollback target (R50). -/
  wasCurrent : Bool := false
  /-- The content in NOR failed the flash scan; the configuration already loaded runs on (R455). -/
  bad : Bool := false
  deriving DecidableEq, Repr, Inhabited

/-- A commit or rollback in progress (R46, R49, R50): the command that waits, the tasks not yet switched, and the
tasks whose first cycle under the new configuration has not ended. -/
structure Commit where
  rollback : Bool := false
  cmd : Option (Nat × Nat) := none
  slot : Nat := 0
  mask : BitVec 16 := 0
  waiting : List Nat := []
  first : List Nat := []
  switched : Bool := false
  /-- Monotonic time of its acceptance (R46). -/
  at_ : DWord := 0
  /-- The check of the safety set delivered with it, and the halves whose SAF_PCRC has yet to show it (R145). -/
  pcrc : Option Word := none
  safWait : List HalfId := []
  deriving DecidableEq, Repr, Inhabited

/-- The configuration slots. -/
structure CfgBlk where
  slot0 : CfgSlot := {}
  slot1 : CfgSlot := {}
  cur : Option Nat := none
  pend : Option Commit := none
  /-- The configuration image of each worker that the manager has been given (R258). -/
  images : Tab (List Byte) := []
  deriving DecidableEq, Repr, Inhabited

/-! ### Tasks (chapter 2) -/

/-- An instance's data beside its parameters (R39): inputs as last resolved, outputs, internal state; the monotonic
time of the last cycle that reached it (R54, R55); an acknowledgement routed to it (ALM_ACK); what an engine link
reads, as the input image was filled (R74). -/
structure InstSt where
  ins : List Val := []
  outs : List Val := []
  st : List DWord := []
  initDone : Bool := false
  last : Option DWord := none
  ack : Bool := false
  link : List DWord := []
  deriving DecidableEq, Repr, Inhabited

/-- What a block asks of the outside beside its outputs; it acts at the update instant (R74, R75, R76). -/
inductive Effect where
  | chainIo (chain : Nat) (sp ff : Val) (mode : Option Nat)
  | chainSwap (inst chain : Nat) (bankB bumpless : Bool)
  | vdSet (vd : Nat) (ref : F32)
  | safeReq (inst func : Nat) (outs : Byte)
  | traceArm (tc : Nat)
  deriving DecidableEq, Repr, Inhabited

/-- Statistics of a task (R37). -/
structure TaskStats where
  cycles : Word := 0
  skips : Word := 0
  consec : Byte := 0
  merged : Word := 0
  execLast : Word := 0
  execMax : Word := 0
  startDelayMax : Word := 0
  ovf : BitVec 5 := 0
  deriving DecidableEq, Repr, Inhabited

/-- One task (R24). `slot` is the configuration slot it runs. -/
structure TaskSt where
  slot : Nat := 0
  state : TaskState := .stopped
  /-- Release: station time and monotonic time; start: monotonic time. -/
  relTime : DWord := 0
  relMono : DWord := 0
  startMono : DWord := 0
  /-- Station time of the release of the last started cycle (R21). -/
  lastRel : DWord := 0
  started : Bool := false
  pendAct : Bool := false
  sep : Bool := false
  /-- The running cycle overran (R32 to R34). -/
  overran : Bool := false
  /-- Commands that wait: for a start at the next release instant, for the end of the cycle (R316). -/
  startCmd : List (Nat × Nat) := []
  startDue : Bool := false
  stopCmd : List (Nat × Nat) := []
  stopDue : Bool := false
  pos : Nat := 0
  image : List Val := []
  effects : List Effect := []
  outImage : List (Option Val) := []
  outSet : List Effect := []
  outEnd : DWord := 0
  outCycle : Word := 0
  updDue : Bool := false
  stopAtUpd : Bool := false
  firstCycle : Bool := true
  cycle : Word := 0
  insts : Tab InstSt := []
  stats : TaskStats := {}
  /-- An event of a TRACKING event task since its last confirmed cycle (R204). -/
  missedEvent : Bool := false
  /-- The overrun diagnostic, set as the firmware handles SW_OVERRUN (R34). -/
  overDiag : Bool := false
  /-- The last release instant dealt with, and the monotonic time then (R20, R21). -/
  instAt : Option (DWord × DWord) := none
  /-- An online change deleted the task (R46). -/
  gone : Bool := false
  /-- An online change: the slot to switch to, due at the cycle now released, the instances whose effects
  FIRST_SCAN_HOLD withholds in the running cycle, and whether the new configuration drops the task. -/
  switchTo : Option Nat := none
  switchDue : Bool := false
  withheld : List Nat := []
  deleting : Bool := false
  deriving DecidableEq, Repr, Inhabited

/-- The fields of a RETAIN instance in MRAM (R42): its task and key, inputs, outputs and state. -/
structure Retained where
  task : Nat
  key : Word
  ins : List Val := []
  outs : List Val := []
  st : List DWord := []
  deriving DecidableEq, Repr, Inhabited

/-- The tasks, the retained-object area of MRAM (R42), and the parameters to restore. -/
structure TaskBlk where
  tasks : Tab TaskSt := []
  retain : List Retained := []
  /-- Instances whose parameter field is corrupt, by task and instance (R41). -/
  badParams : List (Nat × Nat) := []
  deriving DecidableEq, Repr, Inhabited

/-! ### Digital and frequency I/O (chapter 12) -/

/-- A frequency input (R355): stamps of the measured edges in units of 0.5 ns, newest first, and the last stamped
edge. `edgeAt` and `updAt` are the monotonic times of the last measured edge and of the last update of the speed. -/
structure FiSt where
  edges : List DWord := []
  last : Option DWord := none
  edgeAt : DWord := 0
  updAt : DWord := 0
  deriving DecidableEq, Repr, Inhabited

/-- Filters of the digital inputs (R343, R345): counters, the sample at which a counter reached a limit, the last
captured edge of each direction with its sequence, and the edge latched when the counter last left a limit. -/
structure DioBlk where
  count : Tab Nat := []
  reached : Tab DWord := []
  rise : Tab (DWord × Byte) := []
  fall : Tab (DWord × Byte) := []
  leave : Tab (DWord × Byte) := []
  fi : Tab FiSt := []
  /-- Channels turned off by R349 that wait for their restart, and since when. -/
  groupOff : List (Nat × DWord) := []
  /-- The sample instant last taken, as a count of 250 µs (R338). -/
  sampled : Option Nat := none
  deriving DecidableEq, Repr, Inhabited

/-! ### Current loops (chapter 13) -/

/-- A calibration whose gaps are being taken (R377): bin, offset, gain, limits kept, V_OC, whether it was
measured, and burden ratio measured. -/
structure AiCal where
  bin : Nat := 0
  offset : F32 := 0
  gain : F32 := 0
  limitsOk : Bool := true
  voc : F32 := 0
  vocSeen : Bool := false
  ratio : F32 := 0
  deriving DecidableEq, Repr, Inhabited

/-- One loop input (R361 to R367, R375 to R377). Bands are numbered −2 failure low to 2 failure high. `band` is the band
of the last conversion, `sideAt` and `farAt` the times since when the current has been on its present side of the signal
range and in its failure band, and `shown` the band whose quality the channel has, once `settled`. `cond` says that a
compliance condition holds, and `condAt` since when it does or does not. `gap` counts the conversions down to the end of
a pair of calibration gaps, and `cal` is what they measure. `bins` are the calibrations in MRAM: bin, offset, gain;
`calAt` is the time of the last one, and `slot` the conversion instant last taken. -/
structure AiSt where
  converted : Bool := false
  band : Int := 0
  sideAt : DWord := 0
  farAt : DWord := 0
  shown : Int := 0
  settled : Bool := false
  cond : Bool := false
  condAt : DWord := 0
  gap : Nat := 0
  cal : AiCal := {}
  calAt : Option DWord := none
  slot : Option Nat := none
  bins : List (Nat × F32 × F32) := []
  deriving DecidableEq, Repr, Inhabited

/-- Analogue inputs and outputs. `held` is the drive an output holds while it has lost compliance (R373). -/
structure AioBlk where
  ai : Tab AiSt := []
  held : Tab F32 := []
  deriving DecidableEq, Repr, Inhabited

/-! ### Signal objects and the League (chapter 9) -/

/-- A point of the station: the value its writer keeps, a force, and its last publication (R16, R252, R310, R314). -/
structure PointSt where
  kept : Val := { v := 0, q := 0x20 }
  force : Option Val := none
  pub : Val := { v := 0, q := 0x20 }
  seq : BitVec 16 := 0
  tPub : DWord := 0
  deriving DecidableEq, Repr, Inhabited

/-- A frame whose fragments are still arriving (R260). -/
structure PartFrame where
  station : Nat
  task : Nat
  cycle : Word
  origin : Nat := 0
  cnt : Nat
  got : List (Nat × List ObjRec) := []
  /-- The frame is spoiled or discarded whole, and has been counted (R251, R269). -/
  bad : Bool := false
  /-- Monotonic time of its first fragment (R260). -/
  at_ : DWord := 0
  deriving DecidableEq, Repr, Inhabited

/-- A station as the manager sees it (R256, R257, R261). -/
structure StationSt where
  present : Bool := false
  lost : Bool := false
  mismatch : Bool := false
  /-- Half A or Half B reported ACTIVE. -/
  actA : Bool := false
  actB : Bool := false
  cert : Option DWord := none
  /-- Tasks with a refresh requested and not yet applied. -/
  wait : List Nat := []
  /-- The newest cycle of each task for which a refresh has been requested (R261). -/
  asked : Tab Word := []
  /-- Its halves that have joined on their sessions with this half (R255, R256). -/
  halves : List HalfId := []
  /-- Monotonic time of the last HEARTBEAT from either of its halves (R257). -/
  hbAt : DWord := 0
  deriving DecidableEq, Repr, Inhabited

/-- Points, the import table or the manager's store by object id, and League membership. -/
structure ObjBlk where
  points : Tab PointSt := []
  recs : Tab ObjRec := []
  /-- Last applied cycle per source, by station × 16 + task (R261, R264). -/
  cycles : Tab Word := []
  parts : List PartFrame := []
  stations : Tab StationSt := []
  /-- Tasks whose first EXCHANGE after a takeover is a full publication (R262). -/
  fullPub : List Nat := []
  /-- Tasks that refresh at their next cycle end (R261, R263, R266). -/
  refresh : List Nat := []
  /-- Tasks of the full REFRESH still to be sent (R266). -/
  fullRefresh : List Nat := []
  managerLost : Bool := false
  joined : Bool := false
  /-- The manager's active half as its HEARTBEATs name it: EXCHANGE and REFRESH go there (R255, R271). -/
  managerHalf : HalfId := .a
  /-- Monotonic times: of the manager's last HEARTBEAT, of the accepted JOIN, of the start of the full REFRESH (R257,
  R266); and the millisecond of the last store batch (R270). -/
  managerAt : DWord := 0
  joinAt : DWord := 0
  fullAt : DWord := 0
  batchMs : Option Nat := none
  /-- The bytes of the EXCHANGE, REFRESH and RELAY frames sent, oldest first (R259). -/
  wire : List (List Byte) := []
  epoch : Word := 0
  mramEpoch : Word := 0
  crcErr : Word := 0
  ingestDrop : Word := 0
  refreshFix : Word := 0
  gaps : Word := 0
  ovf : Bool := false
  /-- The task whose frame last carried an object of another station (R261, R264). -/
  srcTask : Tab Nat := []
  /-- Records applied: the second of monotonic time, its count, the count of the second before (R333). -/
  ingestSec : Nat := 0
  ingestNow : Nat := 0
  ingestLast : Nat := 0
  /-- Store batch number and the blocks of 8 records changed since the last batch (R270). -/
  batch : Word := 0
  dirty : List Nat := []
  joinCmd : Option (Nat × Nat) := none
  lastSent : Tab Word := []
  /-- Stations whose records that never arrived are stale (R265). -/
  staleNew : List Nat := []
  deriving DecidableEq, Repr, Inhabited

/-! ### Control engine (chapter 4) -/

/-- A section descriptor (R80): both coefficient banks as b0, b1, b2, a1, a2; states; limits; flags. -/
structure Sect where
  a : List F64 := [0, 0, 0, 0, 0]
  b : List F64 := [0, 0, 0, 0, 0]
  s1 : F64 := 0
  s2 : F64 := 0
  lo : F64 := 0
  hi : F64 := 0
  flags : BitVec 16 := 0
  chain : Nat := 0
  yLast : F64 := 0
  deriving DecidableEq, Repr, Inhabited

/-- A chain descriptor (R82). -/
structure Desc where
  ctrl : Word := 0
  nSect : Nat := 0
  first : Nat := 0
  trigger : Word := 0
  pv : Word := 0
  sp : Word := 0
  dst : Word := 0
  spConst : F32 := 0
  check : Word := 0
  outMin : F64 := 0
  outMax : F64 := 0
  kff : F64 := 0
  rampRate : F64 := 0
  rampAcc : F64 := 0
  deriving DecidableEq, Repr, Inhabited

/-- A swap request (R100): the mailbox command or the CHAIN_SWAP instance (task, instance) that waits for it. -/
structure Swap where
  bankB : Bool := false
  bumpless : Bool := false
  cmd : Option (Nat × Nat) := none
  inst : Option (Nat × Nat) := none
  deriving DecidableEq, Repr, Inhabited

/-- What a dispatched sample has latched (R86): monotonic and station time of its trigger, its sources, feed-forward,
injections, swap, re-targeting, whether its output may be applied, whether it is not evaluated (`skip`, R87) or
repeats a held value (`held`, R135), and the quality of its PV source. -/
structure Latch where
  trig : DWord := 0
  tTrig : DWord := 0
  pv : F32 := 0
  sp : F32 := 0
  ff : F32 := 0
  m : F64 := 0
  gIn : F32 := 0
  gOut : F32 := 0
  swap : Option Swap := none
  /-- The bank of the sample: the target bank where it takes a swap (R86, R100). -/
  bankB : Bool := false
  bump : Bool := false
  outEn : Bool := false
  held : Bool := false
  /-- The lane whose entry the evaluation occupies (R90). -/
  lane : Nat := 0
  q : Byte := 0xC0
  deriving DecidableEq, Repr, Inhabited

/-- A chain's state: the status record of R110, the ramp of R548, and what its samples keep between boundaries. -/
structure ChainSt where
  present : Bool := false
  mode : ChainMode := .off
  satLo : Bool := false
  satHi : Bool := false
  bankB : Bool := false
  swap : Option Swap := none
  nonfinite : Bool := false
  badq : Bool := false
  missedOvf : Bool := false
  latOvf : Bool := false
  missed : Word := 0
  latLast : Word := 0
  latMax : Word := 0
  samples : Word := 0
  out : F32 := 0
  in_ : F32 := 0
  sp : F32 := 0
  spCmd : F32 := 0
  ffTask : F32 := 0
  tLast : DWord := 0
  /-- The station time of the trigger of the last completed sample (R107). -/
  tDone : DWord := 0
  swapCnt : BitVec 16 := 0
  r : F64 := 0
  v : F64 := 0
  r1 : F64 := 0
  r2 : F64 := 0
  /-- The next evaluated sample starts the ramp at its target (R548). -/
  rampStart : Bool := true
  /-- The next evaluated sample is re-targeted (R88, R102, R549). -/
  retarget : Bool := false
  lastPv : Option F32 := none
  lastSp : Option F32 := none
  spIo : F32 := 0
  spCascade : F32 := 0
  /-- The monotonic time of the chain's last trigger, lost or not (R85, R91, R106). -/
  lastTrig : Option DWord := none
  /-- The measured interval between its last two FI edges, in ns (R84). -/
  edgeGap : Option Nat := none
  flight : Option Latch := none
  track : Option TrackChain := none
  devCount : Nat := 0
  /-- A descriptor to be taken at the next sample boundary: of this configuration slot (R50, R549). -/
  take : Option Nat := none
  /-- The next sample is held, after a repair of the descriptor (R111). -/
  holdOne : Bool := false
  deriving DecidableEq, Repr, Inhabited

/-- The control engine: chain and section descriptors, chain states, ready queue (chain, monotonic and station time of
the trigger), the overlay of accepted writes in NOR (R331), and the 1 ms counters. -/
structure CeBlk where
  descs : Tab Desc := []
  sects : Tab Sect := []
  chains : Tab ChainSt := []
  queue : List (Nat × DWord × DWord) := []
  lastOverload : Option DWord := none
  loadMs : Nat := 0
  loadCount : Nat := 0
  ovDesc : Tab Desc := []
  ovSect : Tab Sect := []
  deriving DecidableEq, Repr, Inhabited

/-! ### Valve drives, generators, traces (chapter 5) -/

/-- A valve-drive channel beside its registers (R118 to R126). -/
structure VdSt where
  iref : F32 := 0
  lastOn : DWord := 0
  lastSwitch : DWord := 0
  started : Bool := false
  /-- A comparator decision deferred by a minimum time: on or off. -/
  deferred : Option Bool := none
  outside : Bool := false
  lastChange : Option DWord := none
  upMove : F64 := 0
  loMove : F64 := 0
  mismatches : Nat := 0
  /-- Feed-forward is suspended until FF_EN is written again (R123). -/
  ffHeld : Bool := false
  sar : List F32 := []
  msIdx : Nat := 0
  msSum : F64 := 0
  msCount : Nat := 0
  msOns : Nat := 0
  retries : Nat := 0
  retrying : Bool := false
  /-- The current last seen, by the comparators or by a conversion (R117). -/
  cur : F32 := 0
  /-- When an open load or a short last arose or was retried (R126). -/
  condAt : Option DWord := none
  /-- Since when the mean current lies outside its band (R126). -/
  farAt : Option DWord := none
  deriving DecidableEq, Repr, Inhabited

/-- A test generator beside its registers (R129 to R132). -/
structure TgSt where
  start : DWord := 0
  t0 : DWord := 0
  prbs : Word := 1
  k : Nat := 0
  mask : Byte := 0
  cmd : Option (Nat × Nat) := none
  deriving DecidableEq, Repr, Inhabited

/-- A trace channel beside its registers (R134 to R137): entries as value, monotonic time and HELD, oldest first. -/
structure TcSt where
  entries : List (Word × DWord × Bool) := []
  writes : Nat := 0
  updates : Nat := 0
  post : Nat := 0
  ref : DWord := 0
  last : Option Word := none
  deriving DecidableEq, Repr, Inhabited

/-- Valve drives, generators and trace channels. -/
structure VdBlk where
  vd : Tab VdSt := []
  tg : Tab TgSt := []
  tc : Tab TcSt := []
  deriving DecidableEq, Repr, Inhabited

/-- One half (00_scope, Vocabulary). -/
structure Half where
  id : HalfId := .a
  st : HState := .off
  regs : RegFile := []
  /-- The word the last register read returned (log 4). -/
  rdata : Word := 0
  /-- What the half has sent, oldest first (log 4). -/
  tx : List Sent := []
  /-- How many free values the half has taken (log 2). -/
  fresh : Nat := 0
  sys : SysBlk := {}
  boot : BootBlk := {}
  cfg : CfgBlk := {}
  role : RoleBlk := {}
  span : SpanBlk := {}
  copy : CopyBlk := {}
  fc : FcBlk := {}
  ts : TsBlk := {}
  evr : EvrBlk := {}
  mbx : MbxBlk := {}
  task : TaskBlk := {}
  dio : DioBlk := {}
  aio : AioBlk := {}
  obj : ObjBlk := {}
  ce : CeBlk := {}
  vd : VdBlk := {}
  saf : SafBlk := {}
  can : CanBlk := {}
  net : NetBlk := {}
  cv : CvBlk := {}
  nor : NorBlk := {}
  dsp : DspBlk := {}
  /-- The monotonic times at which the half's periodic jobs last ran, by job. -/
  jobs : Tab DWord := []
  deriving DecidableEq, Repr, Inhabited

/-- What the baseplate and its surroundings hold once for the station (R10, chapter 22). -/
structure Station where
  coverOn : Bool := true
  /-- The seal switch bank S1 (R532). -/
  s1 : BitVec 12 := 0
  /-- PSA, PSB, FLDA and FLDB in range (R488, R489). -/
  feeds : BitVec 4 := 0xF
  /-- The identification memory: readable with a good check, baseplate serial, variant -DX (R526). -/
  identOk : Bool := true
  serial : DWord := 0
  variantDx : Bool := true
  deriving DecidableEq, Repr, Inhabited

/-- The station: both halves, the baseplate, and the waiting commands, first in first out. -/
structure State where
  a : Half := { id := .a }
  b : Half := { id := .b }
  stn : Station := {}
  pending : List Instr := []
  deriving DecidableEq, Repr, Inhabited

/-- Why a command stops. -/
inductive Fault where
  /-- REGISTER_WRITE: a write of a non-zero value to reserved bits; its effect is unspecified (R8). Safe. -/
  | reservedBits (addr : Nat)
  /-- REGISTER_WRITE: the address lies in no peripheral window or is not a word address, so it names no register (R9,
  R505); no rule gives such a write an effect. Safe. -/
  | notRegister (addr : Nat)
  deriving DecidableEq, Repr

/-- Why a command has no meaning in the model. -/
inductive Refusal where
  /-- An arm of exec whose meaning is not written. Safe. -/
  | notModelled (mnemonic : String)
  deriving DecidableEq, Repr

/-- The firmware slot 0 of a new cartridge (R534). -/
def factorySlot : FwSlot :=
  { image := some { kind := 1, target := 0, version := Config.factoryVersion, secVer := Config.minSecVer
                    body := Config.factoryBody }
    complete := true, verified := true }

/-- The station with both cartridges fitted and PD0 of neither half powered yet: both halves OFF (R180), every register at its
reset value, memories empty but for the firmware that a cartridge is delivered with (R534, log 5). Half B's slot shows
in SYS_STAT.HALF. -/
def State.reset : State :=
  { a := { id := .a, boot := { slot0 := factorySlot } }
    b := { id := .b, regs := [(0x30000008, 1)], boot := { slot0 := factorySlot } } }

end Sys2Proof.Machine
end

