-- ==== Sys2Proof/Machine/Bits.lean ====
section
/-! DEFINITION. Reading and writing the registers of a half: whole, by field and by bit; saturating counters;
interrupt requests; the outbox; free values. -/
namespace Sys2Proof.Machine

/-- The half of a station. -/
def State.half (s : State) : HalfId → Half
  | .a => s.a
  | .b => s.b

/-- A station with one half changed. -/
def State.mod (s : State) (h : HalfId) (f : Half → Half) : State :=
  match h with
  | .a => { s with a := f s.a }
  | .b => { s with b := f s.b }

/-- A station with the baseplate's state changed. -/
def State.modStn (s : State) (f : Station → Station) : State := { s with stn := f s.stn }

/-- A half changed while it has power: a half in OFF has no logic, and nothing acts on it (R180). -/
def Half.live (f : Half → Half) (x : Half) : Half := if x.st == .off then x else f x

/-- The outcome of a command that acts on one half. -/
def onHalf (s : State) (h : HalfId) (f : Half → Half) : Host.Outcome State Fault Refusal := .next (s.mod h (Half.live f))

/-- The content of a register. -/
def Half.rd (x : Half) (a : Nat) : Word := x.regs.get a
/-- A half with one register replaced. -/
def Half.wr (x : Half) (a : Nat) (v : Word) : Half := { x with regs := x.regs.put a v }

/-- A word with the bits hi to lo replaced. -/
def putField (w : Word) (hi lo : Nat) (v : Nat) : Word :=
  let m : Nat := 2 ^ (hi - lo + 1)
  let mask : Word := BitVec.ofNat 32 ((m - 1) * 2 ^ lo)
  (w &&& ~~~mask) ||| BitVec.ofNat 32 (v % m * 2 ^ lo)

/-- The bits hi to lo of a word. -/
def getField (w : Word) (hi lo : Nat) : Nat := w.toNat / 2 ^ lo % 2 ^ (hi - lo + 1)

/-- A field of a register. -/
def Half.fld (x : Half) (a hi lo : Nat) : Nat := getField (x.rd a) hi lo
/-- A half with one field of a register replaced. -/
def Half.setFld (x : Half) (a hi lo v : Nat) : Half := x.wr a (putField (x.rd a) hi lo v)
/-- One bit of a register. -/
def Half.bit (x : Half) (a i : Nat) : Bool := (x.rd a).getLsbD i
/-- A half with one bit of a register set or cleared. -/
def Half.setBit (x : Half) (a i : Nat) (b : Bool) : Half := x.setFld a i i (if b then 1 else 0)
/-- A half with the bits of a mask set in a register. -/
def Half.orReg (x : Half) (a : Nat) (m : Word) : Half := x.wr a (x.rd a ||| m)
/-- A half with the bits of a mask cleared in a register. -/
def Half.clrReg (x : Half) (a : Nat) (m : Word) : Half := x.wr a (x.rd a &&& ~~~m)

/-- A word counted up by n, stopping at its largest value. -/
def satAdd (w : Word) (n : Nat) : Word := if 0xFFFFFFFF ≤ w.toNat + n then 0xFFFFFFFF else BitVec.ofNat 32 (w.toNat + n)
/-- A saturating 32-bit counter register counted up. -/
def Half.incSat (x : Half) (a : Nat) : Half := x.wr a (satAdd (x.rd a) 1)

/-- An interrupt request (R504, R505): the bit of the block's status register sets, and with the matching enable bit
set the source is pending in the interrupt controller. -/
def Half.irq (x : Half) (stat en bit src : Nat) : Half :=
  let y := x.setBit stat bit true
  if y.bit en bit then y.setBit (Reg.ICU_SRC src) 5 true else y

/-- The Ethernet ports that a message leaves by: both LANs, PTP its own port, the instrument LAN (R428, R429, R431). -/
def sentPorts : Sent → List Nat
  | .heartbeat .. => []
  | .stateDelta .. => []
  | .cycleEnd .. => []
  | .ceTrack .. => []
  | .cfg .. => []
  | .time .. => []
  | .peerMbx .. => []
  | .role .. => []
  | .retransmit .. => []
  | .exchange .. => [0, 1]
  | .refresh .. => [0, 1]
  | .relay .. => [0, 1]
  | .leagueHeartbeat .. => [0, 1]
  | .join .. => [0, 1]
  | .joinReply .. => [0, 1]
  | .refreshReq .. => [0, 1]
  | .stationState .. => [0, 1]
  | .transport ch _ => if ch = 6 then [] else [0, 1]
  | .alert ch _ => if ch = 6 then [] else [0, 1]
  | .keyUpdate ch => if ch = 6 then [] else [0, 1]
  | .mp1Reply .. => [0, 1]
  | .ptp port .. => [port % 2]
  | .ptpAnnounce port _ => [port % 2]
  | .ptpDelayResp port .. => [port % 2]
  | .prpSupervision => [0, 1]
  | .canFrame .. => []
  | .sentence bus .. => if bus.isSome then [] else [2]
  | .modbusRequest .. => []
  | .modbusReply .. => []
  | .icmpReply => [0, 1]
  | .cfgForward .. => [0, 1]

/-- A frame sent on an Ethernet port with its link up: the transmit ring moves on and the frame counts (R445, log 41). -/
def Half.portSent (x : Half) (p : Nat) : Half :=
  if x.bit Reg.ETH_CTRL 0 && x.bit (Reg.ETH_P_STAT p) 0 then
    let t := x.fld (Reg.ETH_P_TQ p) 7 0 + 1
    ((x.setFld (Reg.ETH_P_TQ p) 7 0 t).setFld (Reg.ETH_P_TQ p) 15 8 t).incSat (Reg.ETH_P_TXCNT p)
  else x

/-- A free value, and the half with its counter advanced (log 2). -/
def Half.free (x : Half) : DWord × Half := (Config.freeValue x.id x.fresh, { x with fresh := x.fresh + 1 })

/-- Whether a message leaves by the maintenance port (R297). -/
def sentUsb : Sent → Bool
  | .transport ch _ => ch == 6
  | .alert ch _ => ch == 6
  | .keyUpdate ch => ch == 6
  | _ => false

/-- A byte counter of the maintenance port after traffic: no row gives a datagram's length, so the count added is
free (log 50). -/
def Half.usbCount (x : Half) (a : Nat) : Half := let (n, y) := x.free; y.wr a (satAdd (y.rd a) (n.toNat % 65536))

/-- A frame or message put on one of the half's links. -/
def Half.send (x : Half) (m : Sent) : Half :=
  let y : Half := (sentPorts m).foldl Half.portSent x
  let y : Half := if sentUsb m && (y.bit Reg.SYS_PD 4 && !y.bit Reg.SYS_PD 12) then y.usbCount Reg.USB_TXCNT else y
  { y with tx := y.tx ++ [m] }

/-- The measured voltage of a feed, which no command delivers: a free value in 10 mV (log 30). -/
def Half.feedSeen (x : Half) (a i : Nat) : Half := let (v, y) := x.free; y.setFld a (16 * i + 15) (16 * i) (v.toNat % 65536)

/-- Interrupt requests of the blocks, by the bit of the block's status register (R245, R301, R357, R380, R406, R505). -/
def Half.sysIrq (x : Half) (k : Nat) : Half := x.irq Reg.SYS_IRQ_STAT Reg.SYS_IRQ_EN k k
def Half.spanIrq (x : Half) (k : Nat) : Half := x.irq Reg.SPAN_IRQ_STAT Reg.SPAN_IRQ_EN k (240 + k)
def Half.tsIrq (x : Half) (k : Nat) : Half := x.irq Reg.TS_IRQ_STAT Reg.TS_IRQ_EN k (144 + k)
def Half.dioIrq (x : Half) (k : Nat) : Half := x.irq Reg.DI_IRQ_STAT Reg.DI_IRQ_EN k (96 + k)
def Half.aioIrq (x : Half) (k : Nat) : Half := x.irq Reg.AIO_IRQ_STAT Reg.AIO_IRQ_EN k (128 + k)

/-- The content of a configuration slot (R45). -/
def Half.cfgSlot (x : Half) (k : Nat) : CfgSlot := if k = 0 then x.cfg.slot0 else x.cfg.slot1
/-- A half with a configuration slot replaced. -/
def Half.setCfgSlot (x : Half) (k : Nat) (s : CfgSlot) : Half :=
  if k = 0 then { x with cfg := { x.cfg with slot0 := s } } else { x with cfg := { x.cfg with slot1 := s } }
/-- The current configuration; the empty one where no slot is current. -/
def Half.conf (x : Half) : StationCfg :=
  match x.cfg.cur with
  | some k => (x.cfgSlot k).cfg.getD {}
  | none => {}
/-- The commit counter of the current configuration. -/
def Half.cfgCommit (x : Half) : Word :=
  match x.cfg.cur with
  | some k => (x.cfgSlot k).commit
  | none => 0

/-- The half runs the station: ACTIVE, or RELINQUISHING until a handover's H (R180, R205). -/
def Half.isActive (x : Half) : Bool :=
  x.st == .active || (x.st == .relinquishing && x.role.ho.elim true fun k => k.stage == 0)

/-- A half changed where a condition holds. -/
def Half.when (c : Bool) (f : Half → Half) (x : Half) : Half := if c then f x else x

/-- A power domain's rail is in range and the domain is out of reset (R492, R499). -/
def Half.domainOn (x : Half) (d : Nat) : Bool := x.bit Reg.SYS_PD d && !x.bit Reg.SYS_PD (8 + d)

/-! ### Times (R381, R384, R387) -/

/-- Whether the time unit counts in VIRT mode (R384). -/
def Half.virt (x : Half) : Bool := x.bit Reg.TS_CTRL 1

/-- Monotonic time of a segment at a tick count, in units of 2^-32 ns (R384). -/
def Segment.at_ (g : Segment) (c : DWord) : BitVec 96 :=
  let d : Int := ((c - g.cBase).toNat * 4 * 2 ^ 32 : Nat)
  g.mBase + BitVec.ofInt 96 (d + d * g.rho / 2 ^ 40)

/-- Monotonic time, ns (R381). -/
def Half.mono (x : Half) : DWord :=
  let q : BitVec 96 := match x.virt, x.ts.segs with
    | true, g :: _ => g.at_ x.ts.tick
    | _, _ => x.ts.mono
  (q >>> 32).setWidth 64

/-- Station time: monotonic time plus the step accumulator (R381). -/
def Half.now (x : Half) : DWord := x.mono + x.ts.acc

/-- What one tick of CD6 adds in units of 2^-32 ns: INC in ADJ mode, 4 ns in a VIRT segment not yet corrected (R384). -/
def Half.tickInc (x : Half) : BitVec 96 :=
  if x.virt then BitVec.ofNat 96 (4 * 2 ^ 32) else BitVec.ofNat 96 (x.fld Reg.TS_INC_HI 3 0 * 2 ^ 32 + (x.rd Reg.TS_INC_LO).toNat)

/-- A time is a whole multiple of `ns` nanoseconds, within one tick (R338, R358, R386, R406). -/
def Half.onMultiple (x : Half) (t : DWord) (ns : Nat) : Bool := Nat.blt (t.toNat % ns * 2 ^ 32) (max 1 x.tickInc.toNat)

/-- A half in SYNCING adopts its partner's time before it samples, triggers and dithers (R383). -/
def Half.timed (x : Half) : Bool := x.st != .syncing || x.bit Reg.TS_STAT 6

/-! ### The Span link (R191, R192) -/

/-- The half's Span controller runs: its domain is on and the link enabled. -/
def Half.linked (x : Half) : Bool := x.domainOn 1 && x.bit Reg.SPAN_CTRL 0

/-- A counter of the Span block, saturating with CNT_OVF (R505). -/
def Half.spanCount (x : Half) (a : Nat) : Half := (x.setBit Reg.SPAN_STAT 4 (x.bit Reg.SPAN_STAT 4 || x.rd a == 0xFFFFFFFF)).incSat a

/-- A frame put on the lane: the next sequence number, the last REL item accepted in order, and the bytes of `body` with
its check (R191). No row gives the traffic of the last 1 ms, so SPAN_LOAD is free (log 50). -/
def Half.spanOut (x : Half) (f : Word → Sent) (body : Sent) (retx last : Bool) : Half :=
  let seq := x.rd Reg.SPAN_TX_SEQ
  let (v, y) := x.free
  let y : Half := { y with span := { y.span with wire := y.span.wire ++ [spanFrame body seq y.span.rxItem retx last] } }
  (((y.setFld Reg.SPAN_LOAD 23 0 v.toNat).send (f seq)).wr Reg.SPAN_TX_SEQ (seq + 1))

/-- A frame without REL is sent. -/
def Half.spanPut (x : Half) (f : Word → Sent) (last : Bool := false) : Half :=
  if x.linked then x.spanOut f (f (x.rd Reg.SPAN_TX_SEQ)) false last else x

/-- A REL frame is sent and waits for its acknowledgement. -/
def Half.spanRel (x : Half) (f : Word → BitVec 16 → Sent) : Half :=
  if x.linked then
    let n := x.span.nextItem
    let m := f (x.rd Reg.SPAN_TX_SEQ) n
    ({ x with span := { x.span with nextItem := n + 1, unacked := x.span.unacked ++ [{ item := n, sent := m, at_ := x.mono }] } } : Half).spanPut
      fun _ => m
  else x

/-- An unacknowledged item sent again, with RETX and a new sequence number (R192). -/
def Half.spanAgain (x : Half) (u : RelItem) : Half :=
  if x.linked then x.spanOut (fun seq => .retransmit seq u.item) u.sent true false else x

end Sys2Proof.Machine
end

