-- ==== Sys2Proof/Machine/MbxOps.lean ====
section
/-! DEFINITION. The operations every mailbox command shares: ring pointers, contexts, the posting of completions and
the end of a session (R274 to R287), and the status codes of R303. -/
namespace Sys2Proof.Machine

/-! ### Status codes (R303) -/

abbrev ST_OK : Nat := 0x00
abbrev ST_ABORTED : Nat := 0x02
abbrev ST_NOT_PENDING : Nat := 0x03
abbrev ST_BAD_OPCODE : Nat := 0x04
abbrev ST_BAD_LENGTH : Nat := 0x05
abbrev ST_DENIED : Nat := 0x06
abbrev ST_NO_OBJECT : Nat := 0x08
abbrev ST_STALE : Nat := 0x09
abbrev ST_NOT_ACTIVE : Nat := 0x0A
abbrev ST_CHECK_FAIL : Nat := 0x0B
abbrev ST_SEALED : Nat := 0x0C
abbrev ST_CONFLICT : Nat := 0x0D
abbrev ST_TIMEOUT : Nat := 0x0E
abbrev ST_INTERNAL : Nat := 0x0F

/-! ### Payload bytes -/

/-- The number that n bytes of a payload spell, from an offset; bytes beyond the end read zero. -/
def leGet (bs : List Byte) (ofs n : Nat) : Nat :=
  ((bs.drop ofs).take n).foldr (fun b acc => b.toNat + 256 * acc) 0

/-! ### Rings and contexts -/

/-- The state of a channel. -/
def Half.chan (x : Half) (ch : Nat) : Chan := x.mbx.chans.get {} ch
/-- A half with a channel's state changed. -/
def Half.modChan (x : Half) (ch : Nat) (f : Chan → Chan) : Half :=
  { x with mbx := { x.mbx with chans := x.mbx.chans.upd {} ch f } }

/-- tail − head of a ring, modulo 65,536 (R274). -/
def Half.sqUsed (x : Half) (ch : Nat) : Nat := (x.rd (Reg.MBX_CH_SQ_TAIL ch) - x.rd (Reg.MBX_CH_SQ_HEAD ch)).toNat % 65536
def Half.cqUsed (x : Half) (ch : Nat) : Nat := (x.rd (Reg.MBX_CH_CQ_TAIL ch) - x.rd (Reg.MBX_CH_CQ_HEAD ch)).toNat % 65536

/-- A 16-bit free-running count advanced (R274). -/
def Half.advance (x : Half) (a n : Nat) : Half := x.wr a (BitVec.ofNat 32 (((x.rd a).toNat + n) % 65536))

def Half.chOpen (x : Half) (ch : Nat) : Bool := x.bit (Reg.MBX_CH_CTRL ch) 0
def Half.chGen (x : Half) (ch : Nat) : Nat := x.fld (Reg.MBX_CH_CTRL ch) 7 4

/-- The context of a command. -/
def Half.ctx (x : Half) (ch tag : Nat) : Option Ctx := x.mbx.ctxs.find? fun c => c.ch == ch && c.tag == tag

/-- A context changed in place. -/
def Half.modCtx (x : Half) (ch tag : Nat) (f : Ctx → Ctx) : Half :=
  { x with mbx := { x.mbx with ctxs := x.mbx.ctxs.map fun c => if c.ch == ch && c.tag == tag then f c else c } }

/-- Contexts held by channels 0 and 7, and by channels 2 to 6 (R277). -/
def Half.ctxReserve (x : Half) : Nat := (x.mbx.ctxs.filter fun c => c.ch == 0 || c.ch == 7).length
def Half.ctxShared (x : Half) : Nat := (x.mbx.ctxs.filter fun c => !(c.ch == 0 || c.ch == 7)).length
def Half.ctxHeld (x : Half) (ch : Nat) : Nat := (x.mbx.ctxs.filter fun c => c.ch == ch).length

/-- The pool registers after a change (R301). -/
def Half.poolStatus (x : Half) : Half :=
  let n := x.mbx.ctxs.length
  let y := x.setFld Reg.MBX_STAT 24 16 n
  let y := if y.fld Reg.MBX_POOL_MAX 8 0 < n then y.setFld Reg.MBX_POOL_MAX 8 0 n else y
  let y := (List.range 8).foldl (fun (y : Half) ch => y.setFld (Reg.MBX_CH_CTX ch) 6 0 (x.ctxHeld ch)) y
  let y := (List.range 8).foldl (fun (y : Half) ch =>
    y.setFld (Reg.MBX_CH_CTX ch) 14 8 (x.mbx.subs.filter fun b => b.ch == ch).length) y
  let y := y.setFld Reg.MBX_POOL_MAX 24 16 x.mbx.subs.length
  let onPool := x.mbx.waits.any fun c => c != 0 && c != 7
  let onReserve := x.mbx.waits.any fun c => c == 0 || c == 7
  let y := if x.ctxShared + (x.ctxReserve - 32) < 224 || !onPool then y.setBit Reg.MBX_STAT 0 false else y
  let y := if n < 256 || !onReserve then y.setBit Reg.MBX_STAT 1 false else y
  if y.mbx.wasFull && n < 224 then
    ({ y with mbx := { y.mbx with wasFull := false } } : Half).irq Reg.MBX_IRQ_STAT Reg.MBX_IRQ_EN 18 50
  else y

/-- Slot k mod 64 of a ring in the MBX window, word i (R301). -/
def ringAddr (base k i : Nat) : Nat := base + 64 * (k % 64) + 4 * i

/-- The bytes 0 to 59 of an entry with their check, the sequence folded in (R280, R448). -/
def sealEntry (seq : Word) (ws : List Word) : Entry := ws ++ [cv0 (foldSeq seq (wordsBytes ws))]

/-- A single submission entry of generation 2 without a tag (R280). -/
def subEntry (op : Nat) (seq : Word) (payload : List Byte) : Entry :=
  let w0 : Word := BitVec.ofNat 32 (op % 256 + payload.length % 256 * 0x10000 + 0x2000000)
  let ws := bytesWords payload
  sealEntry seq ([w0, seq] ++ ws ++ List.replicate (13 - ws.length) 0)

/-- Channel 1's ring has room (R274). -/
def Half.scrRoom (x : Half) : Bool := x.sqUsed 1 < 64

/-- The supervisor puts an entry at the tail of channel 1 (R273, R274). -/
def Half.scrPlace (x : Half) (op : Nat) (payload : List Byte) : Half :=
  let seq := x.mbx.scrSeq
  let tail := (x.rd (Reg.MBX_CH_SQ_TAIL 1)).toNat
  let y : Half := ((subEntry op seq payload).zipIdx).foldl (fun (y : Half) p => y.wr (ringAddr 0x30026000 tail p.2) p.1) x
  let y : Half := { y with mbx := { y.mbx with scrSeq := seq + 1 } }
  (y.advance (Reg.MBX_CH_SQ_TAIL 1) 1).irq Reg.MBX_IRQ_STAT Reg.MBX_IRQ_EN 1 33

/-- Entries that wait enter the ring in order while it has room. -/
def Half.scrFill (x : Half) : Half :=
  x.mbx.scrWait.foldl
    (fun (y : Half) e => if y.scrRoom then y.scrPlace e.1 e.2
      else { y with mbx := { y.mbx with scrWait := y.mbx.scrWait ++ [e] } })
    { x with mbx := { x.mbx with scrWait := [] } }

/-- The supervisor sends entries to Scruple; those that find no room wait (log 35). -/
def Half.scrSend (x : Half) (es : List (Nat × List Byte)) : Half :=
  ({ x with mbx := { x.mbx with scrWait := x.mbx.scrWait ++ es } } : Half).scrFill

/-- The PARAM_CHUNK and PARAM_END entries that deliver a set (R145). -/
def setEntries : Nat → Nat → List Byte → List (Nat × List Byte)
  | 0, _, _ => []
  | fuel + 1, ofs, bs =>
    if bs.isEmpty then [] else (0xD1, leNat 4 ofs ++ bs.take 48) :: setEntries fuel (ofs + 48) (bs.drop 48)

/-- The supervisor delivers a safety parameter set; a configuration without one delivers nothing (R145). -/
def Half.deliverSet (x : Half) (bs : List Byte) : Half :=
  if bs.isEmpty then x
  else x.scrSend (setEntries bs.length 0 bs ++ [(0xD2, leNat 4 bs.length ++ bs.drop (bs.length - 4))])

/-- A completion or notification entry (R281). -/
def cqEntry (op tag status words gen chain kind : Nat) (seq : Word) (payload : List Byte) : Entry :=
  let w0 : Word := BitVec.ofNat 32 (op % 256 + tag % 64 * 0x100 + status % 64 * 0x4000 + words % 16 * 0x100000 +
    gen % 16 * 0x1000000 + chain % 4 * 0x10000000 + kind % 4 * 0x40000000)
  let ws := bytesWords payload
  sealEntry seq ([w0, seq] ++ ws ++ List.replicate (13 - ws.length) 0)

/-- The 16-byte header of a datagram of the station (R291): the submission tail up to which entries have arrived, the
submission head, the completion tail, and the number of entries that follow. -/
def Half.transportHeader (x : Half) (ch kind gen code count : Nat) : List Byte :=
  leNat 2 0x4D42 ++ leNat 1 kind ++ leNat 1 (gen % 16 + code % 16 * 16) ++ leNat 2 (x.rd (Reg.MBX_CH_SQ_TAIL ch)).toNat ++
    leNat 2 (x.rd (Reg.MBX_CH_SQ_HEAD ch)).toNat ++ leNat 2 (x.rd (Reg.MBX_CH_CQ_TAIL ch)).toNat ++ leNat 2 count ++ leNat 4 0

/-- A datagram sent in a session (R291). -/
def Half.sendTr (x : Half) (ch kind gen code : Nat) (es : List Entry) : Half :=
  (x.send (.transport ch (x.transportHeader ch kind gen code es.length ++ es.flatMap wordsBytes))).modChan ch
    fun c => { c with lastSent := x.mono, records := c.records + 1 }

/-- The datagrams that carry entries, 21 at most in each (R291). -/
def Half.sendEntries (x : Half) (ch : Nat) (es : List Entry) : Half :=
  let y : Half := (List.range ((es.length + 20) / 21)).foldl (fun (y : Half) i =>
    y.sendTr ch 2 (y.chGen ch) 0 ((es.drop (21 * i)).take 21)) x
  y.modChan ch fun c => { c with cqAt := x.mono }

/-- One entry put at the completion tail (R276); channels 2 to 7 send it on (R291, R300). -/
def Half.putCq (x : Half) (ch op tag status gen chain kind : Nat) (payload : List Byte) : Half :=
  let seq := x.rd (Reg.MBX_CH_CQ_SEQ ch)
  let e := cqEntry op tag status ((payload.length + 3) / 4) gen chain kind seq payload
  let tail := (x.rd (Reg.MBX_CH_CQ_TAIL ch)).toNat
  let y := x.modChan ch fun c => { c with cq := c.cq ++ [e] }
  let y := if ch = 0 then
      (e.zipIdx.foldl (fun (y : Half) p => y.wr (ringAddr 0x30025000 tail p.2) p.1) y).irq
        Reg.MBX_IRQ_STAT Reg.MBX_IRQ_EN 16 48
    else y
  let y := if ch = 7 then y.spanRel fun n i => .peerMbx n i true e else y
  let y := (y.advance (Reg.MBX_CH_CQ_TAIL ch) 1).wr (Reg.MBX_CH_CQ_SEQ ch) (seq + 1)
  if 2 ≤ ch && ch ≤ 6 then y.sendEntries ch [e] else y

/-- A payload cut into pieces of 52 bytes; at least one piece (R286). -/
def pieces : Nat → List Byte → List (List Byte)
  | 0, _ => []
  | fuel + 1, bs => if bs.length ≤ 52 then [bs] else bs.take 52 :: pieces fuel (bs.drop 52)

/-- The chain code of piece i of n (R280). -/
def chainCode (i n : Nat) : Nat := if n = 1 then 0 else if i = 0 then 1 else if i + 1 = n then 3 else 2

/-- All entries of one completion put at the completion tail (R276, R286). -/
def Half.putCompletion (x : Half) (ch op tag status gen : Nat) (payload : List Byte) : Half :=
  let ps := pieces 32 payload
  let y := ps.zipIdx.foldl (fun (y : Half) p => y.putCq ch op tag status gen (chainCode p.2 ps.length) 0 p.1) x
  let a := Reg.MBX_CH_DONE ch
  let y := if y.rd a = 0xFFFFFFFF then y.setBit (Reg.MBX_CH_CTX ch) 16 true else y
  y.incSat a

/-- A completion of n entries finds room in the completion ring (R276). -/
def Half.cqRoom (x : Half) (ch : Nat) (payload : List Byte) : Bool := x.cqUsed ch + (pieces 32 payload).length ≤ 64

/-- The tag that the consumption of a completion entry frees: a notification and all but the last entry of a chain free
none (R285, R286). -/
def freedTag (e : Entry) : Option Nat :=
  let w := e.getD 0 0
  if getField w 31 30 = 0 && (getField w 29 28 = 0 || getField w 29 28 = 3) then some (getField w 13 8) else none

/-- The consumer's completion head passes n entries (R276, R285). -/
def Half.cqTake (x : Half) (ch n : Nat) : Half :=
  let n := min n (x.cqUsed ch)
  let free := ((x.chan ch).cq.take n).filterMap freedTag
  (x.modChan ch fun c => { c with cq := c.cq.drop n, owned := c.owned.filter fun t => !free.contains t }).advance
    (Reg.MBX_CH_CQ_HEAD ch) n

/-- Completions without a context, in order, while the ring has room for them (R276). -/
def Half.postLate (x : Half) (ch : Nat) : Half :=
  (x.chan ch).late.foldl
    (fun (y : Half) d =>
      if (y.chan ch).late.isEmpty && y.cqRoom ch d.payload then y.putCompletion ch d.op d.tag d.status d.gen d.payload
      else y.modChan ch fun c => { c with late := c.late ++ [d] })
    (x.modChan ch fun c => { c with late := [] })

/-- A completion of a command without a context (R278). -/
def Half.lateDone (x : Half) (ch : Nat) (d : LateDone) : Half :=
  (x.modChan ch fun c => { c with late := c.late ++ [d] }).postLate ch

/-- The completion of a context is posted if the ring has room for it, and the context returns to the pool; the
completions of ABORTs that wait for it follow (R276, R277, R287). -/
def Half.tryPost (x : Half) (ch tag : Nat) : Half :=
  match x.ctx ch tag with
  | none => x
  | some c =>
    match c.done with
    | none => x
    | some (st, pl) =>
      if x.cqRoom ch pl then
        let y : Half := { x with mbx := { x.mbx with ctxs := x.mbx.ctxs.filter fun d => !(d.ch == ch && d.tag == tag) } }
        let y := y.putCompletion ch c.op tag st c.gen pl
        (c.aborters.foldl (fun (z : Half) a => z.lateDone ch { op := 0xF0, tag := a.1, status := a.2, gen := c.gen }) y).poolStatus
      else x

/-- A command completes with a status and a response (R285). -/
def Half.finish (x : Half) (ch tag status : Nat) (payload : List Byte) : Half :=
  match x.ctx ch tag with
  | none => x
  | some c =>
    if c.done.isSome then x
    else (x.modCtx ch tag fun c => { c with done := some (status, payload), past := true }).tryPost ch tag

/-- Commands that wait for the acknowledgement of a REL item complete once it is no longer outstanding (R318). -/
def Half.itemsAcked (x : Half) : Half :=
  (x.mbx.ctxs.filter fun c => c.done.isNone).foldl (fun (y : Half) c =>
    match c.item with
    | some (i, st, pl) => if x.span.unacked.any fun u => u.item == i then y else y.finish c.ch c.tag st pl
    | none => y) x

/-- A REL item is given up: the command that waits for it completes with ST_TIMEOUT. -/
def Half.itemLost (x : Half) (i : BitVec 16) : Half :=
  (x.mbx.ctxs.filter fun c => c.done.isNone && c.item.any fun k => k.1 == i).foldl
    (fun (y : Half) c => y.finish c.ch c.tag ST_TIMEOUT []) x

/-- A command that waits for an event completes, if one waits: it is named by its channel and its number. -/
def Half.finishCmd (x : Half) (cmd : Option (Nat × Nat)) (status : Nat) (payload : List Byte) : Half :=
  match cmd.bind fun r => x.mbx.ctxs.find? fun c => c.ch == r.1 && c.uid == r.2 with
  | some c => x.finish c.ch c.tag status payload
  | none => x

/-! ### The partner's channel 7 (R300) -/

/-- Entries that the partner's submission ring can take (R274). -/
def Half.peerRoom (x : Half) : Nat := 64 - (x.mbx.fwdSeq - x.mbx.fwdHead).toNat

/-- A tag of the partner's channel 7 that the half does not own (R285). -/
def Half.peerTag (x : Half) : Option Nat :=
  (List.range 64).find? fun t => !(x.mbx.ctxs.any fun c => c.fwd == some t) && !(x.mbx.fwdAborts.any fun a => a.1 == t)

/-- A submission of the half to the partner's channel 7 (R300), as REL items in order. -/
def Half.peerSubmit (x : Half) (op tag gen : Nat) (payload : List Byte) : Half :=
  let ps := pieces 32 payload
  ps.zipIdx.foldl (fun (y : Half) p =>
    let seq := y.mbx.fwdSeq
    let w0 : Word := BitVec.ofNat 32 (op % 256 + tag % 64 * 0x100 + chainCode p.2 ps.length * 0x4000 + p.1.length * 0x10000 +
      gen * 0x1000000)
    let ws := bytesWords p.1
    let e := sealEntry seq ([w0, seq] ++ ws ++ List.replicate (13 - ws.length) 0)
    ({ y with mbx := { y.mbx with fwdSeq := seq + 1 } } : Half).spanRel fun n i => .peerMbx n i false e) x

/-- ABORTs for the partner's commands go out while its ring has room and a tag is free; the others wait (R274, R285). -/
def Half.sendAborts (x : Half) : Half :=
  x.mbx.fwdWait.foldl
    (fun (y : Half) a =>
      match y.peerTag with
      | some k =>
        if y.peerRoom = 0 || !y.mbx.fwdWait.isEmpty then { y with mbx := { y.mbx with fwdWait := y.mbx.fwdWait ++ [a] } }
        else ({ y with mbx := { y.mbx with fwdAborts := y.mbx.fwdAborts ++ [(k, a.2.2)] } } : Half).peerSubmit 0xF0 k a.2.1
          [BitVec.ofNat 8 a.1]
      | none => { y with mbx := { y.mbx with fwdWait := y.mbx.fwdWait ++ [a] } })
    ({ x with mbx := { x.mbx with fwdWait := [] } } : Half)

/-- An ABORT sent on to the partner's command under tag t (R287, R300). -/
def Half.abortPeer (x : Half) (t gen : Nat) (who : Option PeerAbort) : Half :=
  ({ x with mbx := { x.mbx with fwdWait := x.mbx.fwdWait ++ [(t, gen, who)] } } : Half).sendAborts

/-- The partner's submission head moves to n (R276): what waited for room goes out. -/
def Half.peerHead (x : Half) (n : Word) : Half := ({ x with mbx := { x.mbx with fwdHead := n } } : Half).sendAborts

/-- An ABORT completes, after the completion of its target where that one still waits (R287). -/
def Half.abortDone (x : Half) (w : PeerAbort) (status : Nat) : Half :=
  match x.mbx.ctxs.find? fun c => c.ch == w.ch && c.uid == w.uid with
  | some c => x.modCtx c.ch c.tag fun d => { d with aborters := d.aborters ++ [(w.tag, status)] }
  | none => x.lateDone w.ch { op := 0xF0, tag := w.tag, status := status, gen := w.gen }

/-- What a channel that ends still awaits from the partner: nobody waits for those completions any more (R284, R300). -/
def Half.orphan (x : Half) (ch : Nat) : Half :=
  let gone := (x.mbx.ctxs.filter fun c => c.ch == ch).filterMap (·.fwd)
  { x with mbx := { x.mbx with
      fwdWait := x.mbx.fwdWait.filter fun a => !a.2.2.any fun w => w.ch == ch
      fwdAborts := (x.mbx.fwdAborts.map fun a => (a.1, a.2.filter fun w => w.ch != ch)) ++
        ((gone.filter fun t => !x.mbx.fwdAborts.any fun a => a.1 == t).map fun t => (t, none)) } }

/-- ABORTs for the partner's commands that get no answer from it: their targets pass them on (R287). -/
def Half.abortsLost (x : Half) : Half :=
  ((x.mbx.fwdAborts.filterMap (·.2)) ++ x.mbx.fwdWait.filterMap (·.2.2)).foldl
    (fun (y : Half) w => y.abortDone w ST_NOT_PENDING)
    ({ x with mbx := { x.mbx with fwdAborts := [], fwdWait := [] } } : Half)

/-- ABORTs that still wait for a target of the partner that has completed (R287). -/
def Half.abortsLate (x : Half) (t : Nat) : Half :=
  (x.mbx.fwdWait.filterMap fun a => if a.1 = t then a.2.2 else none).foldl
    (fun (y : Half) w => y.abortDone w ST_NOT_PENDING)
    ({ x with mbx := { x.mbx with fwdWait := x.mbx.fwdWait.filter fun a => a.1 != t } } : Half)

/-- A channel back at its reset content: rings empty, pointers and sequences 0, contexts and subscriptions gone
(R283, R284, R288). On channel 7 the half starts anew as the partner's producer too. -/
def Half.clearChan (x : Half) (ch : Nat) : Half :=
  let x : Half := if ch = 7 then x.abortsLost else x.orphan ch
  let y := ([Reg.MBX_CH_SQ_TAIL ch, Reg.MBX_CH_SQ_HEAD ch, Reg.MBX_CH_CQ_TAIL ch, Reg.MBX_CH_CQ_HEAD ch,
    Reg.MBX_CH_SQ_SEQ ch, Reg.MBX_CH_CQ_SEQ ch]).foldl (fun (y : Half) a => y.wr a 0) x
  let b : MbxBlk := { y.mbx with
      chans := y.mbx.chans.put ch {}
      ctxs := y.mbx.ctxs.filter fun c => c.ch != ch
      waits := y.mbx.waits.filter fun c => c != ch
      subs := y.mbx.subs.filter fun b => b.ch != ch }
  let b : MbxBlk := if ch = 7 then { b with fwdSeq := 0, fwdHead := 0, fwdCqSeq := 0, fwdBuf := [] } else b
  ({ y with mbx := b } : Half).poolStatus

/-- The end of a session of channels 2 to 6 (R284, R291): CLOSE with a code; the channel closes. -/
def Half.endSession (x : Half) (ch code : Nat) : Half :=
  let y := (x.sendTr ch 4 (x.chGen ch) code []).clearChan ch
  let y := y.wr (Reg.MBX_CH_CTRL ch) (BitVec.ofNat 32 (code % 16 * 0x1000))
  let y := if ch = 6 then y.setBit Reg.USB_STAT 2 false else y
  y.irq Reg.MBX_IRQ_STAT Reg.MBX_IRQ_EN (8 + ch) (40 + ch)

/-- The reference of a context by which what it waits for names it. -/
def Ctx.ref (c : Ctx) : Nat × Nat := (c.ch, c.uid)

/-- An ABORT for a forwarded command, whose answer nobody awaits (R284, R300). -/
def Half.stopPeer (x : Half) (c : Ctx) : Half :=
  match c.fwd with
  | none => x
  | some t => x.abortPeer t c.gen none

/-- A stop of a task that the command no longer asks for (R315). -/
def Half.dropStop (x : Half) (r : Nat × Nat) : Option Half :=
  match x.task.tasks.find? fun e => e.2.stopCmd.contains r with
  | none => none
  | some (t, k) =>
    let l := k.stopCmd.filter fun q => q != r
    let k : TaskSt := { k with stopCmd := l, stopDue := k.stopDue && !l.isEmpty }
    some { x with task := { x.task with tasks := x.task.tasks.put t k } }

/-- A coefficient swap that has not taken place ends without effect, on the standby half too (R100, R107, R284). -/
def Half.dropSwap (x : Half) (r : Nat × Nat) : Half :=
  match x.ce.chains.find? fun e => e.2.swap.any fun w => w.cmd == some r with
  | none => x
  | some (k, m) =>
    let y : Half := { x with ce := { x.ce with chains := x.ce.chains.put k { m with swap := none } } }
    let y : Half := y.setBit (Reg.CE_SWAP_PEND (k / 32)) (k % 32) (m.flight.bind (·.swap)).isSome
    let bank := ((m.flight.bind (·.swap)).map (·.bankB)).getD m.bankB
    if x.isActive then y.spanRel fun seq n => .cfg seq n (.swap k bank false) else y

/-- A pending command stops without effect as the half loses its role (R284, R304): a stop of a task and a coefficient
swap are taken back; injections and handovers end with the role (R133, R206), and a commit goes on (R320). -/
def Half.takeBack (x : Half) (c : Ctx) : Half :=
  if c.done.isSome then x
  else if c.op = 0x20 then (x.dropStop c.ref).getD x
  else if c.op = 0x81 then x.dropSwap c.ref
  else x

/-- The opcodes that only an active half executes (R308 to R337). -/
def activeOps : List Nat :=
  [0x10, 0x11, 0x12, 0x13, 0x15, 0x21, 0x30, 0x31, 0x32, 0x33, 0x51, 0x52, 0x80, 0x81, 0x83, 0x84, 0x91, 0xA0, 0xB0, 0xB1]

/-- Every subscription is to send its last notification (R313). -/
def Half.endSubs (x : Half) : Half :=
  { x with mbx := { x.mbx with subs := x.mbx.subs.map fun b => { b with ended := true } } }

/-- Commands that need the active half complete without effect where they have not passed their last abort point, as do
starts of tasks whose release instant has not come (R304, R306, log 98). -/
def Half.dropActiveCmds (x : Half) : Half :=
  let cs := x.mbx.ctxs.filter fun c => c.done.isNone &&
    ((!c.past && activeOps.contains c.op) || (c.op = 0x20 && c.payload.getD 1 0 != 0))
  (cs.foldl (fun (y : Half) c => (y.takeBack c).finish c.ch c.tag ST_NOT_ACTIVE []) x).endSubs


/-- Every network session ends with no completion posted, as after an unplanned loss of the role (R203, R284). -/
def Half.dropSessions (x : Half) : Half :=
  ([2, 3, 4, 5].filter x.chOpen).foldl (fun (y : Half) ch =>
    ((y.mbx.ctxs.filter fun c => c.ch == ch && c.started).foldl (fun (z : Half) c => (z.stopPeer c).takeBack c) y).endSession
      ch 0) x

/-- The commands of a half that loses its role unplanned: its network sessions end, and elsewhere what needs the active
half completes (R203, R284, R306). -/
def Half.dropRole (x : Half) : Half := x.dropSessions.dropActiveCmds

end Sys2Proof.Machine
end

