-- ==== Sys2Proof/Machine/Ops.lean ====
section
/-! DEFINITION. The operations the families share: times, the event recorder's counters, the fault collector's raise
with its reactions (R226 to R239), the loss of the claim (R183, R185, R202) and resets (R499 to R502). -/
namespace Sys2Proof.Machine

/-- The operating-minute and power-cycle counters (R462). -/
def Half.opmin (x : Half) : Word := x.rd Reg.SYS_OPMIN
def Half.pcyc (x : Half) : Word := x.rd Reg.SYS_PCYC

/-! ### Event recorder counters (R460, R465) -/

/-- The fixed kind of a recorder channel: 1 HIST, 2 EXT, 3 COUNT; 0 where the manual assigns none (R460). -/
def evrFixedKind (ch : Nat) : Nat :=
  if ch < 0x80 then 3 else if ch < 0x100 then 2 else if ch < 0x180 then 1 else if ch < 0x1C0 then 3
  else if ch < 0x2D0 then 1 else 0

/-- The live record of a channel; an assigned channel without one starts a record. -/
def Half.evrRec (x : Half) (ch : Nat) : EvrRec :=
  match x.evr.live.get? ch with
  | some r => r
  | none => { kind := evrFixedKind ch, opminStart := x.opmin, pcycleStart := x.pcyc }

/-- A change of a channel's live record: stamps and dirty mark (R462, R468). -/
def Half.evrPut (x : Half) (ch : Nat) (r : EvrRec) : Half :=
  let r := { r with opmin := x.opmin, pcycle := x.pcyc }
  let d := match x.evr.dirty.get? ch with
    | some _ => x.evr.dirty
    | none => x.evr.dirty.put ch x.mono
  { x with evr := { x.evr with live := x.evr.live.put ch r, dirty := d } }.setFld Reg.EVR_DIRTY 14 0 d.length

/-- A COUNT counts up, saturating with OVF (R465). -/
def Half.evrCount (x : Half) (ch : Nat) : Half :=
  let r := x.evrRec ch
  if r.kind = 3 then
    x.evrPut ch { r with count := satAdd r.count 1, ovf := r.ovf || r.count == 0xFFFFFFFF }
  else x

/-- Station event k of R460, at channel 0x0180 + k (log 20). -/
def Half.evrEvent (x : Half) (k : Nat) : Half := x.evrCount (0x180 + k)

/-- The newer slot of a channel that is valid with a good check: whether it is slot 1, and its content (R469). -/
def EvrBlk.newest (b : EvrBlk) (ch : Nat) : Option (Bool × EvrSlot) :=
  let ok (o : Option EvrSlot) : Option EvrSlot := o.filter fun s => s.valid && s.checkOk
  match ok (b.slot0.get? ch), ok (b.slot1.get? ch) with
  | some p, some q => if p.seq != q.seq && (p.seq - q.seq).toNat < 0x80000000 then some (false, p) else some (true, q)
  | some p, none => some (false, p)
  | none, some q => some (true, q)
  | none, none => none

/-- The channels with a slot written, rising. -/
def EvrBlk.written (b : EvrBlk) : List Nat := ((b.slot0.foldl (fun m e => Tab.put m e.1 ()) (b.slot1.map fun e => (e.1, ()))).map (·.1))

/-- The live records as the slots give them (R469). -/
def EvrBlk.reload (b : EvrBlk) : EvrBlk :=
  { b with live := b.written.filterMap fun ch => (b.newest ch).map fun s => (ch, s.2.rec_), dirty := [] }

/-! ### Resets (R491, R499 to R501) -/

/-- The power domain of a register by its address, as log 21 assigns the windows; 0 for PD0. -/
def regDomain (a : Nat) : Nat :=
  match a / 0x10000 with
  | 0x3002 => 1
  | 0x300D => 1
  | 0x300A => 1
  | 0x300F => 1
  | 0x3004 => if Nat.ble 0x30048000 a && Nat.blt a 0x30049000 then 6 else 3
  | 0x3006 => 6
  | 0x300C => 6
  | 0x3005 => 7
  | 0x3007 => 5
  | 0x3008 => 4
  | 0x3009 => 4
  | 0x300E => 4
  | _ => 0

/-- The contents of a domain after its reset: registers at their reset values, SRAM zero, with PD1 the DRAM (R499,
R500); MRAM and NOR keep theirs. -/
def Half.resetDomain (x : Half) (d : Nat) : Half :=
  let y : Half := { x with regs := x.regs.clear fun a => regDomain a == d }
  match d with
  | 1 => { y with span := { wire := y.span.wire }, copy := {}, mbx := { nextUid := y.mbx.nextUid }, cv := {}, evr := y.evr.reload,
                  obj := { mramEpoch := y.obj.mramEpoch, wire := y.obj.wire }, task := { retain := y.task.retain },
                  cfg := { y.cfg with pend := none },
                  fc := { y.fc with haltSup := false }, dsp := { y.dsp with staging := [] } }.setFld Reg.FC_LS_CAUSE 1 0 0
  | 2 => { y with fc := { y.fc with haltApp := false } }.setFld Reg.FC_LS_CAUSE 3 2 0
  | 3 => { y with ce := { ovDesc := y.ce.ovDesc, ovSect := y.ce.ovSect }, vd := { y.vd with tg := [], tc := [] } }
  | 4 => { y with can := {}, net := {} }
  | 5 => { y with saf := { proofAt := y.saf.proofAt, overdue := y.saf.overdue } }
  | 6 => { y with dio := {}, vd := { y.vd with vd := [] },
                  dsp := { y.dsp with cover := none, pix := [], recov := [],
                                       regions := y.dsp.regions.map fun e => (e.1, { e.2 with started := false, phase := 0 }) } }
  | 7 => { y with aio := { ai := y.aio.ai.map fun e => (e.1, { bins := e.2.bins }) } }
  | _ => y

/-- The domains of a half reset (R499). -/
def halfDomains : List Nat := [1, 2, 3, 4, 6, 7]

/-- The fault sources of register i whose domain is held in reset. -/
def domainMask (ds : List Nat) (i : Nat) : Word :=
  fcSrcTable.foldl (init := 0) fun m p =>
    if p.1 / 32 = i && ds.contains (getField p.2 6 4) && getField p.2 6 4 != 0 then m ||| (1#32 <<< (p.1 % 32)) else m

/-- The seconds of the operating minute not yet counted (R462). -/
def Half.partMinute (x : Half) : Nat := min 59 (x.sys.partBase + (x.sys.up - x.sys.minuteAt).toNat / 1000000000)

/-- At least `us` microseconds of powered time have gone since `m`. -/
def Half.upGone (x : Half) (m : DWord) (us : Nat) : Bool := Nat.ble (us * 1000) (x.sys.up - m).toNat

/-- Restart of the time unit, as at power-on (R382, R501). -/
def Half.restartTime (x : Half) : Half :=
  let y : Half := { x with
    ts := { x.ts with mono := 0, tick := 0, acc := x.sys.mramTime, segs := [], integ := 0, within := 0, beyond := 0, stepTo := 0
                      anyOfs := false } }
  (y.setBit Reg.TS_STAT 0 false).setBit Reg.TS_STAT 6 false

/-- The registers of the collector that a half reset puts back (R499). -/
def Half.resetFcConfig (x : Half) : Half :=
  { x with regs := x.regs.clear fun a =>
      a == Reg.FC_CTRL || (Nat.ble 0x30010400 a && Nat.blt a 0x30010600) || (Nat.ble 0x30010100 a && Nat.blt a 0x30010130) }

/-- Domains go into reset: RST bits, inhibited sources and contents (R237, R499). -/
def Half.enterReset (x : Half) (ds : List Nat) : Half :=
  let m : Word := ds.foldl (fun m d => m ||| (1#32 <<< (8 + d))) 0
  let y : Half := x.orReg Reg.SYS_PD m
  let y : Half := (List.range 4).foldl (fun y i => y.orReg (Reg.FC_INHIB i) (domainMask ds i)) y
  let y : Half := { y with sys := { y.sys with rstAt := ds.foldl (fun t d => t.put d x.sys.up) y.sys.rstAt } }
  ds.foldl Half.resetDomain y

/-- A half reset with its cause code in SYS_RCAUSE (R499, R505). -/
def Half.halfReset (x : Half) (cause : Nat) : Half :=
  (x.enterReset halfDomains).resetFcConfig.setFld Reg.SYS_RCAUSE 3 0 cause

/-! ### The collector's registers (R245) -/

/-- Whether a source's bit is set in one of the five source bit sets, given the set's register 0. -/
def Half.srcBit (x : Half) (base src : Nat) : Bool := x.bit (base + 4 * (src / 32)) (src % 32)
/-- A source's bit set or cleared. -/
def Half.setSrc (x : Half) (base src : Nat) (b : Bool) : Half := x.setBit (base + 4 * (src / 32)) (src % 32) b

def Half.srcClass (x : Half) (src : Nat) : Nat := x.fld (Reg.FC_SRC_CFG src) 11 8
def Half.srcDomain (x : Half) (src : Nat) : Nat := x.fld (Reg.FC_SRC_CFG src) 6 4
/-- The initial level of a source; one written below the minimum takes the minimum (R227). -/
def Half.srcLevel (x : Half) (src : Nat) : Nat :=
  max (x.fld (Reg.FC_SRC_CFG src) 1 0) (x.fld (Reg.FC_SRC_CFG src) 3 2)
def Half.srcProof (x : Half) (src : Nat) : Bool := x.bit (Reg.FC_SRC_CFG src) 7
/-- Whether a number is a source that can raise (R228: others never raise). -/
def isSource (src : Nat) : Bool := fcSrcTable.any (·.1 == src)

/-- Whether any bit is set in one of the five source bit sets. -/
def Half.anySrc (x : Half) (base : Nat) : Bool := (List.range 4).any fun i => x.rd (base + 4 * i) != 0

/-- The highest level of the pending sources that `p` names. -/
def Half.pendLevel (x : Half) (p : Nat → Bool) : Option Nat :=
  (x.fc.level.filter fun e => p e.1 && x.srcBit (Reg.FC_PEND 0) e.1).foldl
    (fun m e => some (match m with | some k => max k e.2 | none => e.2)) none

/-- FC_STAT after a change: LEVEL the highest level pending or held, DEGRADED, WINDOW, LATCH_MARK (R245). -/
def Half.fcStatus (x : Half) : Half :=
  let p := (x.pendLevel fun _ => true).getD 0
  let held := x.anySrc (Reg.FC_HELD 0)
  x.setFld Reg.FC_STAT 1 0 (if held then max p 2 else p)
    |>.setBit Reg.FC_STAT 2 held
    |>.setBit Reg.FC_STAT 4 (!x.fc.windows.isEmpty)
    |>.setBit Reg.FC_STAT 7 x.fc.latch.isSome

/-- A FIFO entry; a full FIFO drops and counts it (R244). -/
def Half.fcEntry (x : Half) (w0 : Word) : Half :=
  let n := x.fc.fifo.length
  if n < 64 then
    let y : Half := { x with fc := { x.fc with fifo := x.fc.fifo ++ [{ w0 := w0, time := x.mono, opmin := x.opmin }] } }
    (y.irq Reg.FC_IRQ_STAT Reg.FC_IRQ_EN 0 16).when (48 ≤ n + 1) (·.irq Reg.FC_IRQ_STAT Reg.FC_IRQ_EN 2 18)
  else (x.incSat Reg.FC_EVT_LOST).irq Reg.FC_IRQ_STAT Reg.FC_IRQ_EN 3 19

/-- The first word of a FIFO entry (R245). -/
def evtWord (src level cls : Nat) (esc held inj invalid clear : Bool) : Word :=
  BitVec.ofNat 32 (src % 128 + level % 4 * 0x100 + esc.toNat * 0x400 + held.toNat * 0x800 + inj.toNat * 0x1000 +
    invalid.toNat * 0x2000 + clear.toNat * 0x4000 + cls % 16 * 0x10000)

/-! ### The claim and the roles -/

/-- Whether the half drives its claim. -/
def Half.claims (x : Half) : Bool := x.bit Reg.SYS_STAT 3
/-- The partner's claim counts as valid (R184). -/
def Half.partnerClaim (x : Half) : Bool := x.bit Reg.SYS_STAT 2
def Half.partnerPresent (x : Half) : Bool := x.bit Reg.SYS_STAT 1
def Half.peerArmed (x : Half) : Bool := x.bit Reg.FC_STAT 3
/-- The partner's heartbeats arrive (R187). -/
def Half.hbOk (x : Half) : Bool := x.bit Reg.SPAN_STAT 1
/-- The partner as its heartbeats show it; none while it is silent. -/
def Half.peer (x : Half) : Option Heartbeat := if x.hbOk then x.role.partner else none
/-- The partner is fitted and in STANDBY with SYNCED set (R199). -/
def Half.peerSynced (x : Half) : Bool := x.partnerPresent && x.peer.any fun p => p.state == 4 && p.synced
/-- At least `ms` milliseconds of monotonic time have gone since `m` (R381). -/
def Half.gone (x : Half) (m : DWord) (ms : Nat) : Bool := Nat.ble (ms * 1000000) (x.mono - m).toNat
/-- PEER_ARMED set or cleared, its change on FC_IRQ_STAT.PEER (R234, R245). -/
def Half.setPeerArmed (x : Half) (b : Bool) : Half :=
  if x.peerArmed == b then x
  else
    let y : Half := { x with fc := { x.fc with peerAt := x.mono } }
    (y.setBit Reg.FC_STAT 3 b).irq Reg.FC_IRQ_STAT Reg.FC_IRQ_EN 7 23
/-- At least `us` microseconds of monotonic time have gone since `m`; while its time unit does not run, a half cannot
tell, and the event itself says so (log 94). -/
def Half.goneUs (x : Half) (m : DWord) (us : Nat) : Bool :=
  !x.bit Reg.TS_CTRL 0 || Nat.ble (us * 1000) (x.mono - m).toNat
/-- The periodic jobs of a half whose last run the state keeps: Span HEARTBEAT (R192), CE_TRACK (R107), TIME (R399), the
League HEARTBEAT (R257), PRP supervision (R428), the stress counters (R484), the display's frame (R472), station time
to MRAM (R382), the feed-forward refresh of VD n (R123), a periodic sentence (R434) and a poll request (R437). -/
inductive Job where
  | heartbeat | track | time | league | prp | stress | frame | saveTime
  | refresh (vd : Nat)
  | sentence (i : Nat)
  | poll (bus req : Nat)
  deriving DecidableEq, Repr

/-- The key of a job in the state. -/
def Job.key : Job → Nat
  | .heartbeat => 0
  | .track => 1
  | .time => 2
  | .league => 3
  | .prp => 4
  | .stress => 5
  | .frame => 6
  | .saveTime => 7
  | .refresh vd => 8 + vd
  | .sentence i => 100 + 2 * i
  | .poll bus req => 101 + 2 * (2 * req + bus % 2)

/-- A job is due: it never ran, or `us` microseconds have gone since it last ran (log 99). -/
def Half.due (x : Half) (j : Job) (us : Nat) : Bool := (x.jobs.get? j.key).all fun m => x.goneUs m us
/-- A job runs now. -/
def Half.ran (x : Half) (j : Job) : Half := { x with jobs := x.jobs.put j.key x.mono }
/-- A job runs where it is due. -/
def Half.every (x : Half) (j : Job) (us : Nat) (f : Half → Half) : Half := if x.due j us then f (x.ran j) else x

/-- The monotonic time `m` has come. -/
def Half.reached (x : Half) (m : DWord) : Bool := !x.bit Reg.TS_CTRL 0 || Nat.ble m.toNat x.mono.toNat
/-- An event recorded by name. -/
def Half.logEvt (x : Half) (e : LogEvt) : Half := { x with evr := { x.evr with log := x.evr.log ++ [(x.mono, e)] } }
/-- The ROLE payload of a kind, with the handover under way (R205). -/
def Half.rolePay (x : Half) (k : RoleKind) : RolePayload :=
  match x.role.ho with
  | some o => { kind := k, cause := BitVec.ofNat 8 o.cause.code, offerId := o.offerId, h := o.h, hv := o.hv }
  | none => { kind := k }
/-- A ROLE frame sent with REL. -/
def Half.sendRole (x : Half) (k : RoleKind) : Half :=
  let p := x.rolePay k
  x.spanRel fun seq n => .role seq n p
/-- ROLE RELINQUISH, sent without REL if PD1 is powered (R185); its repetitions for 100 µs are one message here
(log 22), and one outside a handover carries zeros (log 94). -/
def Half.relinquish (x : Half) : Half :=
  let f (seq : Word) : Sent := .role seq 0 (x.rolePay .relinquish)
  if x.domainOn 1 then x.spanOut f (f (x.rd Reg.SPAN_TX_SEQ)) false false else x

/-- The claim stops outside a controlled handover: the hold window opens and the CE's field destinations stop
(R183, R202). -/
def Half.loseClaim (x : Half) : Half :=
  if x.claims then
    let y : Half := (x.setBit Reg.SYS_STAT 3 false).setBit Reg.CE_CTRL 2 false
    { y with role := { y.role with holdWindow := true, holdAt := x.mono } }
  else x

/-- The fall to FAULT from any of NATIVE to RELINQUISHING (R182). -/
def fallToFault : HState → HState
  | .native => .fault
  | .syncing => .fault
  | .standby => .fault
  | .active => .fault
  | .relinquishing => .fault
  | s => s

/-- The domain reset that follows a raise at L2 or L3 begins (R230, R237), for the domains not yet in it; one of the
whole half starts over. In the power-fail sequence the sequencer switches PD2, PD3, PD4, PD6 and PD7 off instead
(R495). -/
def Half.beginReset (x : Half) : Half :=
  let whole := halfDomains.all x.fc.domains.contains
  let ds := x.fc.domains.filter fun d => whole || !x.fc.resetting || !x.bit Reg.SYS_PD (8 + d)
  if ds.isEmpty then x
  else if x.sys.powerFail then
    let y : Half := x.enterReset [2, 3, 4, 6, 7]
    ({ y with fc := { y.fc with domains := [], resetting := false } } : Half).clrReg Reg.SYS_PD 0xDC
  else
    let y : Half := x.enterReset ds
    let y : Half := if whole then
        y.resetFcConfig.setFld Reg.SYS_RCAUSE 3 0 (if x.bit Reg.FC_STAT 6 then 1 else 2)
      else y.setFld Reg.SYS_RCAUSE 15 8 (x.fc.domains.foldl (fun m d => m + 2 ^ d) 0)
    let y : Half := if whole && (x.srcBit (Reg.FC_ACTIVE 0) 32 || x.srcBit (Reg.FC_ACTIVE 0) 33 || x.srcBit (Reg.FC_ACTIVE 0) 34)
      then y.restartTime.setFld Reg.SYS_RCAUSE 3 0 4 else y
    { y with fc := { y.fc with resetting := true, bootDue := y.fc.bootDue || ds.contains 1 } }

/-- A safety function at the assertion of the L3 line (R232). -/
def safAtL3 (f : SafFn) : SafFn :=
  match f.state with
  | .armed => { f with state := .resetWait }
  | .delay => { f with state := .resetWait }
  | .sync => { f with state := .resetWait }
  | .engaged => { f with state := .resetWait }
  | _ => f

/-- What a raise at L3 adds: the L3 line, which only de-energises (R232). -/
def Half.assertL3 (x : Half) : Half :=
  if x.bit Reg.FC_STAT 6 then x
  else
    let y : Half := { x with saf := { x.saf with permit := 0, funcs := x.saf.funcs.map fun e => (e.1, safAtL3 e.2) } }
    y.setBit Reg.FC_STAT 6 true

/-- The reaction of a raise taken at L2 or L3 (R230): claim, RELINQUISH, FAULT, and the domains to reset. -/
def Half.reactL2 (x : Half) (src level : Nat) : Half :=
  if x.st = .latched then x
  else
    let dom := x.srcDomain src
    let ds := if level = 3 || dom = 0 then halfDomains else if dom = 5 then [] else [dom]
    let cls := x.srcClass src
    let mark := if src = 126 then x.fc.latch.getD cls else cls
    let y : Half := { x with fc := { x.fc with
        domains := x.fc.domains ++ ds.filter fun d => !x.fc.domains.contains d
        quiet := if x.fc.quiet.contains cls then x.fc.quiet else x.fc.quiet ++ [cls]
        quietAt := x.fc.quietAt.put cls x.mono
        first := some (x.fc.first.getD mark)
        reached := if x.fc.reached.contains cls then x.fc.reached else x.fc.reached ++ [cls] } }
    let y : Half := y.when (level = 3) Half.assertL3
    let y : Half := if y.st = .active || y.st = .relinquishing then y.dropRole else y
    let y : Half := y.relinquish.loseClaim
    let y : Half := { y with st := fallToFault y.st, role := { y.role with ho := none, takeover := false } }
    if y.role.holdWindow || ds.isEmpty then y else y.beginReset

/-- Scruple's own reset of PD5 (R141, R222). -/
def Half.resetScruple (x : Half) : Half := x.enterReset [5]

/-! ### Raises (R226 to R234) -/

/-- The classes whose HOLD is fixed at 0: LOCKSTEP, CLOCK, POWER and SAFE (R234). -/
def noHold : List Nat := [1, 2, 3, 9]

/-- The level a raise takes, whether it is escalated and whether it is held (R233, R234). -/
def Half.decision (x : Half) (src initial : Nat) : Nat × Bool × Bool :=
  if src = 65 then (2, false, false)
  else
    let cls := x.srcClass src
    let base := match x.pendLevel (fun s => x.srcClass s == cls) with
      | some k => k + 1
      | none => 0
    let level := min 3 (max initial base)
    let esc := initial < level
    if level = 2 && x.st = .active && !x.peerArmed then
      (if x.bit (Reg.FC_CLASS_CFG cls) 14 && !noHold.contains cls then (2, esc, true) else (3, esc, false))
    else (level, esc, false)

/-- In FAULT a raise of a class that has reached L2 or L3 restarts its quiet period, an elapsed one too (R237). -/
def Half.restartQuiet (x : Half) (cls : Nat) : Half :=
  if x.st = .fault && x.fc.reached.contains cls then
    { x with fc := { x.fc with quiet := if x.fc.quiet.contains cls then x.fc.quiet else x.fc.quiet ++ [cls]
                               quietAt := x.fc.quietAt.put cls x.mono } }
  else x

/-- An interrupt source of Scruple becomes pending (R179). -/
def Half.icuPend (x : Half) (src : Nat) : Half := x.setBit (Reg.ICU_SRC src) 5 true

/-- The effects of a raise of a source at the level decided for it (R230): the level's latches, the FIFO entry, the
recorder's count and the class's quiet period, the coalescing window with L1's interrupt from level 1 up, and either the
held state or the L2 reaction. -/
def Half.takeAt (x : Half) (src level : Nat) (esc held invalid : Bool) : Half :=
  let cls := x.srcClass src
  let y : Half := { x with fc := { x.fc with lastRaise := x.fc.lastRaise.put cls x.mono } }
  let y : Half := y.setSrc (Reg.FC_ACTIVE 0) src true
  let y : Half := if Nat.ble 112 src && Nat.ble src 119 then y.icuPend 250 else y
  let y : Half := if 1 ≤ level then
      { y.setSrc (Reg.FC_PEND 0) src true with fc := { y.fc with level := y.fc.level.put src level } }
    else y
  let y : Half := ((y.fcEntry (evtWord src level cls esc held false invalid false)).evrCount src).restartQuiet cls
  let y : Half := if 1 ≤ level then
      ({ y with fc := { y.fc with windows := y.fc.windows ++ [{ src := src, level := level, at_ := x.mono }] } } : Half).irq
        Reg.FC_IRQ_STAT Reg.FC_IRQ_EN 1 17
    else y
  let y : Half := if held then (y.setSrc (Reg.FC_HELD 0) src true).irq Reg.FC_IRQ_STAT Reg.FC_IRQ_EN 6 22
    else if 2 ≤ level then y.reactL2 src level
    else y
  y.fcStatus

/-- A raise of a source at an initial level (R230, R231, R233, R234); each level includes those below it, so a window
opens with every raise from L1 up (log 95). A source that the manual reserves never raises,
a half in OFF has no collector, and a source in a domain held in reset is inhibited (R237). A SAFE-class fault is
signalled on interrupt 250 (R179). -/
def Half.take (x : Half) (src initial : Nat) (invalid : Bool) : Half :=
  if !isSource src || x.st = .off || x.srcBit (Reg.FC_INHIB 0) src then x
  else x.takeAt src (x.decision src initial).1 (x.decision src initial).2.1 (x.decision src initial).2.2 invalid

/-- A detector raises its source at its initial level (R227). -/
def Half.raise (x : Half) (src : Nat) : Half := x.take src (x.srcLevel src) false

/-- A raise where a condition holds. -/
def Half.raiseIf (x : Half) (c : Bool) (src : Nat) : Half := if c then x.raise src else x

/-- The header of an accepted Span frame (R192): a gap is counted and raises source 57; the partner's acknowledgement
frees the REL items up to it. -/
def Half.spanAccept (x : Half) (hdr : SpanHdr) : Half :=
  let gap := x.span.rxAny && hdr.seq != x.rd Reg.SPAN_RX_SEQ + 1
  let y : Half := if gap then ((x.spanCount Reg.SPAN_GAPS).spanIrq 3).raise 57 else x
  let y : Half := y.wr Reg.SPAN_RX_SEQ hdr.seq
  ({ y with span := { y.span with
      rxAny := true
      unacked := y.span.unacked.filter fun u => (hdr.ackItem - u.item).toNat ≥ 0x8000 } } : Half).itemsAcked

end Sys2Proof.Machine
end

