-- ==== Sys2Proof/Machine/TaskOps.lean ====
section
/-! DEFINITION. Releases of tasks and the events that release event tasks (R19, R22, R23, R24, R37). -/
namespace Sys2Proof.Machine

/-- The state of a task. -/
def Half.tsk (x : Half) (t : Nat) : TaskSt := x.task.tasks.get {} t
/-- A half with a task's state changed; a task not present stays absent. -/
def Half.modTsk (x : Half) (t : Nat) (f : TaskSt → TaskSt) : Half :=
  match x.task.tasks.get? t with
  | some k => { x with task := { x.task with tasks := x.task.tasks.put t (f k) } }
  | none => x

/-- The configuration a task runs under (R46). -/
def Half.taskConf (x : Half) (t : Nat) : StationCfg := (x.cfgSlot (x.tsk t).slot).cfg.getD {}

/-- A task's configuration in a station configuration. -/
def taskIn (c : StationCfg) (t : Nat) : Option TaskCfg := (c.tasks.find? fun e => e.1 == t).map (·.2)

/-- A task's configuration, if it is configured. -/
def Half.taskCfg (x : Half) (t : Nat) : Option TaskCfg := taskIn (x.taskConf t) t

/-- The tasks present on the half. -/
def Half.taskIds (x : Half) : List Nat := x.task.tasks.map (·.1)

/-- A counter of the statistics, with its sticky flag (R37). -/
def statAdd (w : Word) (n : Nat) : Word × Bool := (satAdd w n, 0xFFFFFFFF < w.toNat + n)

/-- A cycle's release: the task is READY from now (R22). -/
def Half.release (x : Half) (t : Nat) (at_ : DWord) : Half :=
  x.modTsk t fun k => { k with state := .ready, relTime := at_, relMono := x.mono, overran := false }

/-- A cycle of the task is under way or released (R24). -/
def inCycle (k : TaskSt) : Bool := k.state == .ready || k.state == .running || k.state == .preempted

/-- The release of an event task: its minimum separation runs, and its online change is due (R23, R46). -/
def Half.activateTask (x : Half) (t : Nat) : Half :=
  (x.release t x.now).modTsk t fun k => { k with
    sep := true, pendAct := false, missedEvent := false, switchDue := k.switchTo.isSome }

/-- An event for an event task (R23): a release, a pending activation, or a merge into the one pending. A TRACKING task
of the half that has become active is released by its first event (R24). -/
def Half.taskEvent (x : Half) (t : Nat) : Half :=
  let k := x.tsk t
  let merge (y : Half) : Half := y.modTsk t fun k =>
    let (m, o) := statAdd k.stats.merged 1
    { k with stats := { k.stats with merged := m, ovf := if o then k.stats.ovf ||| 8 else k.stats.ovf } }
  let pend (y : Half) : Half := if k.pendAct then merge y else y.modTsk t fun k => { k with pendAct := true }
  match k.state with
  | .stopped => x
  | .tracking => if x.isActive then x.activateTask t else x.modTsk t fun k => { k with missedEvent := true }
  | .waiting => if k.sep then pend x else x.activateTask t
  | .ready => merge x
  | .running => pend x
  | .preempted => pend x

/-- The event tasks that a filtered DI change releases (R19). -/
def Half.diEvent (x : Half) (di : Nat) (rising : Bool) : Half :=
  x.taskIds.foldl (fun (y : Half) t =>
    match y.taskCfg t with
    | some c => match c.event, c.evDi with
      | true, some (d, r, f) => if d = di && (if rising then r else f) then y.taskEvent t else y
      | _, _ => y
    | none => y) x

/-- The event tasks that a change of an object's value or quality byte releases (R19). -/
def Half.objEvent (x : Half) (oid : Nat) : Half :=
  x.taskIds.foldl (fun (y : Half) t =>
    match y.taskCfg t with
    | some c => if c.event && c.evObj == some oid then y.taskEvent t else y
    | none => y) x

/-- A task's period, or its minimum separation, in ns (R19, R44). -/
def taskTi (c : TaskCfg) : Nat := (if c.event then c.minSep else c.period) * 1000000

/-- The response of TASK_STATE (R315). -/
def Half.taskReply (x : Half) (t : Nat) : List Byte :=
  let k := x.tsk t
  let c := ((x.taskCfg t).orElse fun _ => taskIn x.conf t).getD {}
  let flags := c.event.toNat + 2 * (x.copy.tasks.get {} t).unconfirmed.toNat + 4 * k.stopDue.toNat
  leNat 1 t ++ leNat 1 k.state.code ++ leNat 1 c.prio ++ leNat 1 flags ++
    leNat 4 (if c.event then c.minSep else c.period) ++ leNat 4 k.cycle.toNat

end Sys2Proof.Machine
end

