-- ==== Sys2Proof/Machine/ObjOps.lean ====
section
/-! DEFINITION. Points and object records: encoding, forces, comparison and publication (R16, R246 to R253, R288,
R310, R313), and staleness (R265). -/
namespace Sys2Proof.Machine

/-! ### Records -/

/-- Bytes 0 to 29 of a record (R248). -/
def recBody (r : ObjRec) : List Byte :=
  leBytes 8 r.value ++ leBytes 8 r.tStamp ++ [r.quality, 0] ++ leNat 2 r.seq.toNat ++ leNat 4 r.oid.toNat ++
    List.replicate 6 0

/-- A record with its crc (R248). -/
def sealRec (r : ObjRec) : ObjRec := { r with crc := cv2 (recBody r) }

/-- The 32 bytes of a record. -/
def recBytes (r : ObjRec) : List Byte := recBody r ++ leNat 2 r.crc.toNat

/-- The fill and encoding of a value field (R249). -/
def fillOk (t : PType) (v : DWord) : Bool :=
  match t with
  | .bool => v.toNat < 2
  | .dint => v == (v.setWidth 32).signExtend 64
  | .time => v == (v.setWidth 32).signExtend 64
  | .real => v.toNat < 2 ^ 32
  | .dword => v.toNat < 2 ^ 32
  | .lreal => true

/-- The class of a quality byte, the reserved class counted as bad (R250): 0 bad, 1 uncertain, 2 good. -/
def qClass (q : Byte) : Nat :=
  match q.toNat / 64 with
  | 3 => 2
  | 1 => 1
  | _ => 0

/-- A quality byte of a class and a substatus (R250). -/
def qByte (cls sub : Nat) : Byte := BitVec.ofNat 8 ((if cls = 2 then 3 else cls) * 64 + sub % 16 * 4)

/-- Quality good. -/
abbrev qGood : Byte := 0xC0#8

/-- Staleness sets the stale bit and lowers good to uncertain (R265). -/
def staleQ (q : Byte) : Byte := (if qClass q = 2 then (q &&& 0x3F) ||| 0x40 else q) ||| 1

/-- A value as the number that the deadband compares (R252). -/
def pointNum (t : PType) (v : DWord) : F64 :=
  match t with
  | .real => f64of32 (v.setWidth 32)
  | _ => v

/-- Whether a value counts as changed against the last published one (R252). -/
def valueChanged (c : PointCfg) (new old : DWord) : Bool :=
  let real := c.typ == .real || c.typ == .lreal
  if !real || f64eq c.deadband 0 then new != old
  else
    let a := pointNum c.typ new
    let b := pointNum c.typ old
    if f64nan a || f64nan b then f64nan a != f64nan b
    else f64lt c.deadband (f64abs (f64sub a b))

/-! ### Points -/

/-- The object id of a point of the half's own station (R246). -/
def Half.oidOf (x : Half) (p : Nat) : Nat := x.conf.station * 8192 + p

/-- A point's configuration. -/
def Half.pointCfg (x : Half) (p : Nat) : Option PointCfg := (x.conf.points.find? fun e => e.1 == p).map (·.2)

/-- A point's state. -/
def Half.point (x : Half) (p : Nat) : PointSt := x.obj.points.get {} p

/-- The value and quality applied to a point at present (R16, R310). -/
def pointVal (k : PointSt) : Val := k.force.getD k.kept

/-- Notifications of subscriptions for an object fall due (R313). -/
def Half.notifyDue (x : Half) (oid : Nat) : Half :=
  { x with mbx := { x.mbx with subs := x.mbx.subs.map fun b =>
      let full := Nat.blt 56 (x.cqUsed b.ch)
      { b with overrun := b.overrun || (full && b.items.any fun i => i.oid.toNat == oid && i.due)
               items := b.items.map fun i => if i.oid.toNat == oid then { i with due := true } else i } } }

/-- A point's state replaced: a change of the applied value or quality releases event tasks, and a change of quality
notifies (R19, R313). -/
def Half.putPoint (x : Half) (p : Nat) (k : PointSt) : Half :=
  let old := pointVal (x.point p)
  let y : Half := { x with obj := { x.obj with points := x.obj.points.put p k } }
  let y : Half := if old.q != (pointVal k).q then y.notifyDue (x.oidOf p) else y
  if old != pointVal k then y.objEvent (x.oidOf p) else y

/-- The normal writer's value of a point (R16): kept, and applied unless a force holds. -/
def Half.writePoint (x : Half) (p : Nat) (v : Val) : Half := x.putPoint p { x.point p with kept := v }

/-- The local record of a point (R310). -/
def Half.pointRec (x : Half) (p : Nat) : ObjRec :=
  let k := x.point p
  let v := k.force.getD k.kept
  sealRec { value := v.v, tStamp := k.tPub, quality := v.q, seq := k.seq, oid := BitVec.ofNat 32 (x.oidOf p) }

/-- The last published record of a point (R263). -/
def Half.pubRec (x : Half) (p : Nat) : ObjRec :=
  let k := x.point p
  sealRec { value := k.pub.v, tStamp := k.tPub, quality := k.pub.q, seq := k.seq, oid := BitVec.ofNat 32 (x.oidOf p) }

/-- The comparison of a point against its last publication (R252, R253): a publication takes the next seq, in a full
publication after a takeover always and by 2 (R262). Answers whether it published. -/
def Half.compare (x : Half) (p : Nat) (tEnd : DWord) (full : Bool) : Bool × Half :=
  match x.pointCfg p with
  | none => (false, x)
  | some c =>
    let k := x.point p
    let v := k.force.getD k.kept
    if full || v.q != k.pub.q || valueChanged c v.v k.pub.v then
      let k2 : PointSt := { k with pub := v, seq := k.seq + (if full then 2 else 1), tPub := tEnd }
      (true, ({ x with obj := { x.obj with points := x.obj.points.put p k2 } } : Half).notifyDue (x.oidOf p))
    else (false, x)

/-- Points compared in order; the published ones (R252). -/
def Half.compareAll (x : Half) (ps : List Nat) (tEnd : DWord) (full : Bool) : List Nat × Half :=
  ps.foldl (fun acc p =>
    let (b, y) := acc.2.compare p tEnd full
    (if b then acc.1 ++ [p] else acc.1, y)) ([], x)

/-! ### Records of other stations and the store -/

/-- A record of the import table or the store. -/
def Half.rec? (x : Half) (oid : Nat) : Option ObjRec := x.obj.recs.get? oid

/-- A record replaced: events and notifications follow, and the store block is dirty for the next batch
(R19, R270, R313). -/
def Half.putRec (x : Half) (r : ObjRec) : Half :=
  let oid := r.oid.toNat
  let old := x.rec? oid
  let y : Half := { x with obj := { x.obj with
      recs := x.obj.recs.put oid r
      dirty := if x.conf.manager && !x.obj.dirty.contains (oid / 8) then x.obj.dirty ++ [oid / 8] else x.obj.dirty } }
  let y : Half := match old with
    | some o => if o.seq != r.seq || o.quality != r.quality then y.notifyDue oid else y
    | none => y.notifyDue oid
  match old with
  | some o => if o.value != r.value || o.quality != r.quality then y.objEvent oid else y
  | none => y.objEvent oid

/-- A record of the import table or the store that never arrived: bad, not yet written (R250, R266), stale once its
station or the manager was lost (R265). -/
def Half.absentRec (x : Half) (oid : Nat) : ObjRec :=
  { quality := if x.obj.staleNew.contains (oid / 8192) then 0x21 else 0x20, oid := BitVec.ofNat 32 oid }

/-- A block of 8 records of the store to go with the next batch (R270). -/
def Half.dirtyBlock (x : Half) (oid : Nat) : Half :=
  if x.conf.manager && !x.obj.dirty.contains (oid / 8) then { x with obj := { x.obj with dirty := x.obj.dirty ++ [oid / 8] } } else x

/-- The objects that the configuration gives the half beside its own points, with their types: a worker's import table,
the points of the manager's League table (R251, R258, R264). -/
def Half.foreign (x : Half) : List (Nat × PType) :=
  if x.conf.manager then x.conf.league.flatMap fun e => e.points.map fun p => (e.station * 8192 + p.1, p.2)
  else x.conf.imports.map fun e => (e.1.toNat, e.2)

/-- A station's records that never arrived become stale (R265): their quality changes from 0x20 to 0x21, in the store
too (R270). -/
def Half.staleAbsent (x : Half) (station : Nat) : Half :=
  if x.obj.staleNew.contains station then x
  else
    let y : Half := { x with obj := { x.obj with staleNew := x.obj.staleNew ++ [station] } }
    (x.foreign.filter fun e => e.1 / 8192 == station && (x.rec? e.1).isNone).foldl (fun (z : Half) e =>
      ((z.dirtyBlock e.1).notifyDue e.1).objEvent e.1) y

/-- The stale bit set on every record that `p` names (R261, R264, R265). The stored crc stays the received one, which
a REFRESH is compared with (R263). -/
def Half.markStale (x : Half) (p : ObjRec → Bool) : Half :=
  (x.obj.recs.filter fun e => p e.2).foldl (fun (y : Half) e => y.putRec { e.2 with quality := staleQ e.2.quality }) x

/-- Serial-number order of 16 bits: a is newer than b (R248). -/
def serialNewer (a b : BitVec 16) : Bool := a != b && (a - b).toNat < 0x8000
/-- Serial-number order of 32 bits (R261). -/
def cycleNewer (a b : Word) : Bool := a != b && (a - b).toNat < 0x80000000

/-! ### Frames that leave (R259, R260, R263) -/

/-- Records cut into fragments of 43 (R259). -/
def fragments : Nat → List ObjRec → List (List ObjRec)
  | 0, _ => []
  | fuel + 1, rs => if rs.length ≤ 43 then [rs] else rs.take 43 :: fragments fuel (rs.drop 43)

/-- The fragments of a frame, each with the header `f` (R259). -/
def framesOf (f : LeagueFrame) (rs : List ObjRec) : List LeagueFrame :=
  let fs := fragments 193 rs
  fs.zipIdx.map fun p => { f with fragIdx := p.2, fragCnt := fs.length, recCnt := p.1.length, recs := p.1 }

/-- The header of a frame of the half's own station (R259). -/
def Half.ownHeader (x : Half) (kind task : Nat) (cycle : Word) (tEnd : DWord) : LeagueFrame :=
  { kind := kind, station := x.conf.station, half := x.id, task := task, cycle := cycle, tEnd := tEnd, cfgCommit := x.cfgCommit }

/-- The payload bytes of a League datagram: the 32-byte header and its records (R259). -/
def leagueBytes (f : LeagueFrame) : List Byte :=
  leNat 2 f.magic.toNat ++ [f.version] ++ leNat 1 f.kind ++ leNat 2 (f.station % 4096 + if f.half == .b then 0x8000 else 0) ++
    leNat 1 f.task ++ [0] ++ word32Bytes f.cycle ++ leNat 1 f.fragIdx ++ leNat 1 f.fragCnt ++ leNat 1 f.recCnt ++ leNat 1 f.origin ++
    leBytes 8 f.tEnd ++ word32Bytes f.cfgCommit ++ leNat 4 0 ++ f.recs.flatMap recBytes

/-- A header that R259 gives a frame of a kind; one with reserved values is not one (log 96). -/
def headerOk (kind : Nat) (f : LeagueFrame) : Bool :=
  f.magic == 0x4C47 && f.version == 1 && f.kind == kind && Nat.blt f.station 4096 && Nat.blt f.task 16 &&
    Nat.blt f.fragIdx f.fragCnt && Nat.ble f.fragCnt 192 && f.recCnt == f.recs.length && Nat.ble f.recCnt 43 &&
    (if kind = 3 then f.origin == 1 || f.origin == 2 else f.origin == 0)

/-- Frames sent, with their bytes. -/
def Half.sendFrames (x : Half) (m : LeagueFrame → Sent) (fs : List LeagueFrame) : Half :=
  fs.foldl (fun (y : Half) f => ({ y with obj := { y.obj with wire := y.obj.wire ++ [leagueBytes f] } } : Half).send (m f)) x

/-- RELAY frames to the importers of an applied frame's records: the source frame's header fields, with the kind of the
source frame as origin (R264). -/
def Half.relayOut (x : Half) (src : LeagueFrame) (origin : Nat) (rs : List ObjRec) : Half :=
  x.conf.league.foldl (fun (y : Half) w =>
    let mine := rs.filter fun r => w.imports.contains r.oid
    if mine.isEmpty || w.station == src.station then y
    else y.sendFrames .relay (framesOf { src with kind := 3, origin := origin } mine)) x

/-- The records of the points that leave the station, in an EXCHANGE frame (R251, R260): a worker sends it to the active
half of the manager (R255, R271); the manager applies its own publications to the store and relays them. -/
def Half.sendRecs (x : Half) (task : Nat) (cycle : Word) (tEnd : DWord) (full : Bool) (rs : List ObjRec) : Half :=
  let f := x.ownHeader 1 task cycle tEnd
  if x.conf.manager then (rs.foldl Half.putRec x).relayOut { f with station := 0 } 1 rs
  else x.sendFrames (.exchange x.obj.managerHalf full) (framesOf f rs)

/-- The records that leave the station for points just published: those with PUBLISH set (R251). -/
def Half.leaving (x : Half) (ps : List Nat) : List ObjRec :=
  (ps.filter fun p => (x.pointCfg p).any (·.publish)).map x.pubRec

/-- An EXCHANGE frame for the points published at a task's cycle end (R260). A cycle that publishes nothing sends
nothing. -/
def Half.sendExchange (x : Half) (task : Nat) (cycle : Word) (tEnd : DWord) (full : Bool) (ps : List Nat) : Half :=
  let rs := x.leaving ps
  if rs.isEmpty then x
  else
    let y : Half := x.sendRecs task cycle tEnd full rs
    if y.conf.manager then y else { y with obj := { y.obj with lastSent := y.obj.lastSent.put task cycle } }

/-- A task owns a point: it writes it, or it is the owning task of the chain that does (R28, R252, R547). -/
def ownsPoint (c : StationCfg) (t : Nat) (p : PointCfg) : Bool :=
  match p.writer with
  | .task k => k == t
  | .chain n => c.chains.any fun e => e.chain == n && e.owner == t
  | _ => false

/-- The points that a task owns, in point order. -/
def Half.ownedPoints (x : Half) (t : Nat) : List Nat := (x.conf.points.filter fun e => ownsPoint x.conf t e.2).map (·.1)

/-- The points that host software writes (R16), in point order. -/
def Half.hostPoints (x : Half) : List Nat := (x.conf.points.filter fun e => e.2.writer == .host).map (·.1)

/-- The last published records of the host-written points, in a REFRESH with the first task's (R263). The manual names
neither the task nor the cycle of the frame that carries them: both are free values (log 26). -/
def Half.refreshHost (x : Half) (tEnd : DWord) : Half :=
  let ps := x.hostPoints.filter fun p => (x.pointCfg p).any (·.publish)
  if ps.isEmpty then x
  else
    let (v, y) := x.free
    y.sendFrames (.refresh y.obj.managerHalf)
      (framesOf (y.ownHeader 2 (v.toNat % 16) ((v >>> 4).setWidth 32) tEnd) (ps.map y.pubRec))

/-- A REFRESH of a task: its last published records (R263). -/
def Half.sendRefresh (x : Half) (task : Nat) (cycle : Word) (tEnd : DWord) : Half :=
  let ps := (x.ownedPoints task).filter fun p => (x.pointCfg p).any (·.publish)
  if x.conf.manager then x
  else
    let y : Half := x.sendFrames (.refresh x.obj.managerHalf) (framesOf (x.ownHeader 2 task cycle tEnd) (ps.map x.pubRec))
    if (x.conf.tasks.map (·.1)).head? == some task then y.refreshHost tEnd else y

/-- A host-written point goes to the standby half, which may take over with it (R253; log 96). -/
def Half.mirrorPoint (x : Half) (p : Nat) : Half :=
  let k := x.point p
  if x.isActive then x.spanRel fun seq n => .cfg seq n (.point p (k.kept.v, k.kept.q) (k.pub.v, k.pub.q) k.tPub k.seq) else x

/-- The publication of a host-written point, at once (R252, R253). The manual names neither the task nor the cycle of
the frame that carries it: both are free values (log 26). -/
def Half.publishHost (x : Half) (p : Nat) : Half :=
  let (b, y) := x.compare p x.now false
  let rs := y.leaving [p]
  if !b || rs.isEmpty then y
  else
    let (f, z) := y.free
    z.sendRecs (f.toNat % 16) ((f >>> 4).setWidth 32) x.now false rs

end Sys2Proof.Machine
end

