-- ==== Sys2Proof/Machine/Aio.lean ====
section
/-! DEFINITION. Current loops: commands AI_CONVERSION to AO_SINK (chapter 13). Decimal constants are the binary64 or
binary32 numbers nearest to the manual's; a computed value is formed in binary64 and rounded once to binary32
(log 27). -/
namespace Sys2Proof.Machine

/-- The samples per second of an AI by its RATE (R359); 0 for the reserved code. -/
def aiRate (code : Nat) : Nat :=
  match code with
  | 0 => 100
  | 1 => 1000
  | 2 => 4000
  | _ => 0

/-! ### Inputs -/

/-- An input's state. -/
def Half.ai (x : Half) (n : Nat) : AiSt := x.aio.ai.get {} n
/-- A half with an input's state changed. -/
def Half.modAi (x : Half) (n : Nat) (f : AiSt → AiSt) : Half :=
  { x with aio := { x.aio with ai := x.aio.ai.upd {} n f } }

/-- The NE 43 band of a current in mA (R361). -/
def ne43 (i : F32) : Int :=
  if f32le i (f32rat 36 10) then -2
  else if f32lt i (f32rat 38 10) then -1
  else if f32le i (f32rat 205 10) then 0
  else if f32lt i (f32rat 21 1) then 1
  else 2

/-- The current clamped to 3.8–20.5 mA, from which the engineering value is computed (R361, R364). -/
def ne43Clamp (i : F32) : F64 := f64of32 (f32max (f32rat 38 10) (f32min (f32rat 205 10) i))

/-- An Ex channel: AI16–AI31 of the VK4800-DX (R365). -/
def Half.aiEx (x : Half) (n : Nat) : Bool := 16 ≤ n && x.bit Reg.AI_VAR 0

/-- A channel's loop is powered (R366). -/
def Half.aiPowered (x : Half) (n : Nat) : Bool := x.aiEx n || x.bit (Reg.AI_CFG n) 1

/-- The pair of table points that a current lies between, or the end pair it is extrapolated from (R364). -/
def tablePair (i : F64) : List (F64 × F64) → Option ((F64 × F64) × (F64 × F64))
  | p :: q :: [] => some (p, q)
  | p :: q :: r :: t => if f64le i q.1 then some (p, q) else tablePair i (q :: r :: t)
  | _ => none

/-- The engineering value (R364); a reserved characteristic or a table length outside 2–32 leaves it free. -/
def Half.aiEu (x : Half) (n : Nat) (i : F32) : F32 × Half :=
  let c := ne43Clamp i
  let lo := f64of32 (x.rd (Reg.AI_LO n))
  let hi := f64of32 (x.rd (Reg.AI_HI n))
  let u := f64div (f64sub c (f64int 4)) (f64int 16)
  let span := f64sub hi lo
  let k := x.fld (Reg.AI_CFG n) 13 8
  match x.fld (Reg.AI_CFG n) 5 4 with
  | 0 => (f32of64 (f64add lo (f64mul u span)), x)
  | 1 =>
    let r := f64sqrt u
    if f64le u 0 || f64lt r (f64rat (x.fld (Reg.AI_CUT n) 7 0) 1000) then (x.rd (Reg.AI_LO n), x)
    else (f32of64 (f64add lo (f64mul r span)), x)
  | 2 =>
    let pts := (List.range k).map fun j => (f64of32 (x.rd (Reg.AI_TBL_I n j)), f64of32 (x.rd (Reg.AI_TBL_Y n j)))
    match (if 2 ≤ k && k ≤ 32 then tablePair c pts else none) with
    | some (p, q) =>
      (f32of64 (f64add p.2 (f64div (f64mul (f64sub c p.1) (f64sub q.2 p.2)) (f64sub q.1 p.1))), x)
    | none => let (v, y) := x.free; (v.setWidth 32, y)
  | _ => let (v, y) := x.free; (v.setWidth 32, y)

/-- HEAD in V (R367): on an Ex channel V_S is V_OC − I × R_I, R_I by the sources present (R369). -/
def Half.aiHead (x : Half) (n : Nat) (i vs : F32) : F64 :=
  let a := f64div (f64of32 i) (f64int 1000)
  let v := if x.aiEx n then
      f64sub (f64rat 215 10) (f64mul a (if x.bit Reg.AI_VAR 1 then f64rat 2865 10 else f64int 573))
    else f64of32 vs
  let r := f64add (f64int 100) (f64rat (x.fld (Reg.AI_LINE n) 15 0) 10)
  f64sub (f64sub v (f64mul a r)) (f64rat (x.fld (Reg.AI_LINE n) 23 16) 10)

/-- The quality byte of a channel (R363). -/
def Half.aiQuality (x : Half) (n : Nat) : Byte :=
  let k := x.ai n
  if !x.bit (Reg.AI_CFG n) 0 then qByte 0 7
  else if !k.settled then qByte 0 8
  else if k.shown = -2 then qByte 0 2
  else if k.shown = 2 then qByte 0 3
  else if x.bit (Reg.AI_STAT n) 11 then qByte 1 1
  else if x.bit (Reg.AI_STAT n) 13 then qByte 1 4
  else if k.shown = 0 then qGood
  else qByte 1 0

/-- A channel's flags and quality byte after a change; a change of class is reported (R361, R363, R380). -/
def Half.aiShow (x : Half) (n : Nat) : Half :=
  let k := x.ai n
  let y : Half := x.setBit (Reg.AI_STAT n) 8 (k.settled && k.shown == -2)
  let y : Half := y.setBit (Reg.AI_STAT n) 9 (k.settled && k.shown == 2)
  let y : Half := y.setBit (Reg.AI_STAT n) 10 (k.settled && k.shown != 0)
  let q := y.aiQuality n
  let old : Byte := BitVec.ofNat 8 (y.fld (Reg.AI_STAT n) 7 0)
  let y : Half := y.setFld (Reg.AI_STAT n) 7 0 q.toNat
  if qClass q = qClass old then y else (y.setBit Reg.AI_QCHG n true).aioIrq 0

/-- A channel shows the quality of a band (R362); a failure band entered raises source 80 (R379). -/
def Half.aiBand (x : Half) (n : Nat) (b : Int) : Half :=
  let old := x.ai n
  let y : Half := (x.modAi n fun k => { k with shown := b, settled := true }).aiShow n
  y.raiseIf ((b == 2 || b == -2) && !(old.settled && old.shown == b)) 80

/-- Two bands lie on the same side of the signal range. -/
def sameSide (a b : Int) : Bool := (a < 0 && b < 0) || (0 < a && 0 < b) || (a == 0 && b == 0)

/-- A converted current in its registers: the current, the over-range bit and the engineering value (R360, R364). -/
def Half.aiScale (y : Half) (ai : Nat) (cur : F32) (high : Bool) : Half :=
  let y : Half := (y.wr (Reg.AI_I ai) cur).setBit (Reg.AI_STAT ai) 14 high
  let (eu, y) := y.aiEu ai cur
  y.wr (Reg.AI_EU ai) eu

/-! ### Calibration (R375 to R377) -/

/-- The middle of a bin of 5 K, from −30 °C (R375). -/
def binMid (k : Nat) : F64 := f64sub (f64int (5 * k)) (f64rat 55 2)

/-- How far a die temperature lies from the middle of a bin. -/
def binFar (t : F64) (k : Nat) : F64 := f64abs (f64sub t (binMid k))

/-- The filled bin nearest to a die temperature. -/
def binNear (t : F64) (l : List (Nat × F32 × F32)) : Option (Nat × F32 × F32) :=
  l.foldl (fun b e => match b with
    | none => some e
    | some c => if f64lt (binFar t e.1) (binFar t c.1) then some e else some c) none

/-- A coefficient interpolated between two bins (R376). -/
def binBetween (t : F64) (j k : Nat) (a b : F32) : F32 :=
  let w := f64div (f64sub t (binMid j)) (f64sub (binMid k) (binMid j))
  f32of64 (f64add (f64of32 a) (f64mul w (f64sub (f64of32 b) (f64of32 a))))

/-- The die temperature lies more than 5 K from every filled bin (R376). -/
def Half.aiCalAge (x : Half) (n : Nat) (temp : F32) : Bool :=
  (x.ai n).bins.all fun e => f64lt (f64rat 15 2) (binFar (f64of32 temp) e.1)

/-- Offset and gain of a channel at a die temperature (R376): interpolated between the two nearest filled bins, of the
nearest one where none is near or no other is filled; free values where none is filled. -/
def Half.aiCoeffs (x : Half) (n : Nat) (temp : F32) : (F32 × F32) × Half :=
  let l := (x.ai n).bins
  let t := f64of32 temp
  match binNear t l with
  | none =>
    let (o, y) := x.free
    let (g, y) := y.free
    ((o.setWidth 32, g.setWidth 32), y)
  | some a =>
    match (if x.aiCalAge n temp then none else binNear t (l.filter fun e => e.1 != a.1)) with
    | some b => ((binBetween t a.1 b.1 a.2.1 b.2.1, binBetween t a.1 b.1 a.2.2 b.2.2), x)
    | none => (a.2, x)

/-- A calibration's coefficients taken, and its checks (R375, R377, R379). -/
def Half.aiCalibrated (x : Half) (ai : Nat) (c : AiCal) : Half :=
  let y : Half := x.modAi ai fun k => { k with bins := (k.bins.filter fun e => e.1 != c.bin) ++ [(c.bin, c.offset, c.gain)] }
  let y : Half := (y.wr Reg.AI_SENSE c.ratio).aioIrq 1
  let dx := y.bit Reg.AI_VAR 0 && c.vocSeen
  let y : Half := if dx then y.wr Reg.AI_VOC c.voc else y
  let y : Half := if c.limitsOk then y else (y.aioIrq 3).raise 82
  if dx && !(f32le (f32rat 213 10) c.voc && f32le c.voc (f32rat 219 10)) then (y.aioIrq 3).raise 87 else y

/-- AI_CALIBRATION (R375 to R377, R379), every 10 min: a standby half stores the new entry of the bin at once; a half
without a SYNCED partner takes its pair of gaps first; an active half with one does not calibrate. `vocSeen` says that the
calibration measured V_OC. -/
def execAiCalibration (h : HalfId) (ai : Nat) (bin : Nat) (offset : F32) (gain : F32) (limitsOk : Bool) (voc : F32)
    (vocSeen : Bool) (ratio : F32) (s : State) : Host.Outcome State Fault Refusal :=
  onHalf s h fun x =>
    if 32 ≤ ai || 31 ≤ bin || !x.domainOn 7 || (x.isActive && x.peerSynced) ||
        (x.ai ai).calAt.any (fun m => !x.goneUs m 600000000) then x
    else
      let c : AiCal := { bin := bin, offset := offset, gain := gain, limitsOk := limitsOk, voc := voc, vocSeen := vocSeen, ratio := ratio }
      let y : Half := x.modAi ai fun k => { k with calAt := some x.mono }
      if x.st == .standby then y.aiCalibrated ai c else y.modAi ai fun k => { k with gap := 12, cal := c }

/-! ### Conversions -/

/-- The voltage in 0.1 V that a half's supply of a powered non-Ex channel regulates its terminal to (R365): half a volt
below that of the half that drives the field. -/
def Half.loopVolts (x : Half) : Nat := if x.role.drives then 240 else 235

/-- A conversion that is not held for a calibration (R358 to R367): `i` is the corrected current. -/
def Half.aiConvert (y : Half) (ai : Nat) (i vs : F32) (supLim calAge : Bool) : Half :=
  let k := y.ai ai
  let high := f32lt (f32int 24) i
  let cur := if high then f32int 24 else if f32lt i 0 then 0 else i
  let y : Half := y.aiScale ai cur high
  let head := y.aiHead ai cur vs
  let th := f64rat (y.fld (Reg.AI_LINE ai) 31 24) 10
  let pow := y.aiPowered ai
  let hw : Int := if pow then max (-32767) (min 32767 (fmt64.floor (f64mul head (f64int 100)).toNat)) else -32768
  let y : Half := (y.setFld (Reg.AI_STAT ai) 31 16 (BitVec.ofInt 16 hw).toNat).setBit (Reg.AI_STAT ai) 12 supLim
  let old := y.bit (Reg.AI_STAT ai) 15
  let y : Half := (y.setBit (Reg.AI_STAT ai) 15 calAge).raiseIf (calAge && !old && y.isActive) 83
  let b := ne43 cur
  let cond := pow && (f64lt head th || supLim)
  let y : Half := y.modAi ai fun k => { k with
    converted := true, band := b, cond := cond
    condAt := if k.converted && k.cond == cond then k.condAt else y.mono
    sideAt := if k.converted && sameSide k.band b then k.sideAt else y.mono
    farAt := if k.converted && k.band == b then k.farAt else y.mono }
  if k.settled && sameSide k.shown b && b.natAbs < k.shown.natAbs then y.aiBand ai b else y.aiShow ai

/-- The conversions of a channel per second come at whole multiples of its output period, once at each (R358, R359); a
reserved rate has none. -/
def Half.aiDue (x : Half) (ai : Nat) : Bool :=
  let r := aiRate (x.fld (Reg.AI_CFG ai) 3 2)
  r != 0 && x.timed && x.onMultiple x.mono (1000000000 / r) && (x.ai ai).slot != some (x.mono.toNat / (1000000000 / r))

/-- A conversion held for a calibration gap: the second gap ends the calibration (R377). -/
def Half.aiGap (y : Half) (ai gap : Nat) : Half :=
  if gap = 1 then (y.aiCalibrated ai (y.ai ai).cal).aiShow ai else y.aiShow ai

/-- AI_CONVERSION (R358 to R367, R376, R377): a conversion gives the modulator's reading `raw`, the supply voltage `vs`,
its supply in limit or not, and the die temperature. -/
def execAiConversion (h : HalfId) (ai : Nat) (raw : F32) (vs : F32) (supLim : Bool) (temp : F32) (s : State) :
    Host.Outcome State Fault Refusal :=
  onHalf s h fun x =>
    if 32 ≤ ai || !x.domainOn 7 || !x.aiDue ai then x
    else
      let x : Half := x.modAi ai fun k => { k with slot := some (x.mono.toNat / (1000000000 / aiRate (x.fld (Reg.AI_CFG ai) 3 2))) }
      if !x.bit (Reg.AI_CFG ai) 0 then (x.modAi ai fun k => { k with converted := false, settled := false }).aiShow ai
      else
        let gap := (x.ai ai).gap
        let held := gap = 12 || gap = 1
        let y : Half := (x.modAi ai fun k => { k with gap := k.gap - 1 }).setBit (Reg.AI_STAT ai) 13 held
        if held then y.aiGap ai gap
        else
          let ((o, g), y) := y.aiCoeffs ai temp
          y.aiConvert ai (Config.aiCorrect raw o g (y.rd Reg.AI_SENSE)) vs supLim (y.aiCalAge ai temp)

/-- AI_BAND_QUALITY (R362): the current has stayed in its failure band, or on its side of the signal range or within it,
for T_NE43. -/
def execAiBandQuality (h : HalfId) (ai : Nat) (s : State) : Host.Outcome State Fault Refusal :=
  onHalf s h fun x =>
    let k := x.ai ai
    let t := 1000 * x.fld (Reg.AI_CFG ai) 29 16
    if 32 ≤ ai || !k.converted then x
    else if k.band.natAbs = 2 && x.goneUs k.farAt t then x.aiBand ai k.band
    else if x.goneUs k.sideAt t then x.aiBand ai k.band.sign
    else x

/-- AI_COMPLY (R367): a compliance condition has held for 100 ms; the active half computes the headroom. -/
def execAiComply (h : HalfId) (ai : Nat) (s : State) : Host.Outcome State Fault Refusal :=
  onHalf s h fun x =>
    let k := x.ai ai
    if 32 ≤ ai || !k.cond || !x.isActive || x.bit (Reg.AI_STAT ai) 11 || !x.goneUs k.condAt 100000 then x
    else ((x.setBit (Reg.AI_STAT ai) 11 true).aiShow ai).raise 81

/-- AI_COMPLY_END (R367): neither condition has held for 1 s. -/
def execAiComplyEnd (h : HalfId) (ai : Nat) (s : State) : Host.Outcome State Fault Refusal :=
  onHalf s h fun x =>
    let k := x.ai ai
    if 32 ≤ ai || !x.domainOn 7 || k.cond || !x.goneUs k.condAt 1000000 then x
    else (x.setBit (Reg.AI_STAT ai) 11 false).aiShow ai

/-! ### Outputs -/

/-- A command outside 0–22 mA (R371). -/
def aoOutside (v : F32) : Bool := !(f32le 0 v && f32le v (f32int 22))

/-- The command that a sink regulates to: the one written, clamped (R371). -/
def Half.aoCommand (x : Half) (m : Nat) : F32 := f32max (f32min (x.rd (Reg.AO_CMD m)) (f32int 22)) 0

/-- The status of the outputs after a change (R371, R372, R374): a sink regulates while its half drives the field. -/
def Half.aoUpdate (x : Half) : Half :=
  (List.range 8).foldl (fun (y : Half) m =>
    let cmd := y.rd (Reg.AO_CMD m)
    let reg := y.role.drives && y.domainOn 7 && y.bit (Reg.AO_CFG m) 0
    let y : Half := (y.setBit (Reg.AO_STAT m) 0 reg).setBit (Reg.AO_STAT m) 4 (aoOutside cmd)
    if f32lt cmd (f32int 1) then y.setBit (Reg.AO_STAT m) 2 false else y) x

/-- A command to an output (R371, R373): one below the held drive ends the hold. -/
def Half.setAo (x : Half) (m : Nat) (v : F32) : Half :=
  let y : Half := x.wr (Reg.AO_CMD m) v
  let y : Half := match y.aio.held.get? m with
    | some d => if f32lt v d then { y with aio := { y.aio with held := y.aio.held.del m } } else y
    | none => y
  y.aoUpdate

/-- The readback object of an output (R373, R374). -/
def Half.aoReadback (x : Half) (m : Nat) : Val :=
  { v := (x.rd (Reg.AO_RB m)).setWidth 64
    q := if x.bit (Reg.AO_STAT m) 2 then qByte 0 7 else if x.bit (Reg.AO_STAT m) 1 then qByte 1 1 else qGood }

/-- AO_COMPLY (R373): the readback stayed more than 0.2 mA below the command for 50 ms. -/
def execAoComply (h : HalfId) (ao : Nat) (readback : F32) (drive : F32) (s : State) : Host.Outcome State Fault Refusal :=
  onHalf s h fun x =>
    let y : Half := x.wr (Reg.AO_RB ao) readback
    if 8 ≤ ao then x
    else if !x.bit (Reg.AO_STAT ao) 0 || !f32lt readback (f32sub (x.aoCommand ao) (f32rat 2 10)) then y
    else
      let y : Half := { y with aio := { y.aio with held := y.aio.held.put ao drive } }
      ((y.setBit (Reg.AO_STAT ao) 1 true).aioIrq 2).raise 84

/-- AO_COMPLY_RETURN (R373): the readback has been within 0.2 mA of the command for 1 s. -/
def execAoComplyReturn (h : HalfId) (ao : Nat) (readback : F32) (s : State) : Host.Outcome State Fault Refusal :=
  onHalf s h fun x =>
    if 8 ≤ ao || !x.domainOn 7 then x
    else
      let y : Half := x.wr (Reg.AO_RB ao) readback
      let near := f32le (f32sub (x.aoCommand ao) (f32rat 2 10)) readback && f32le readback (f32add (x.aoCommand ao) (f32rat 2 10))
      if !near then y
      else
        let y : Half := { y with aio := { y.aio with held := y.aio.held.del ao } }
        (y.setBit (Reg.AO_STAT ao) 1 false).setBit (Reg.AO_STAT ao) 2 false

/-- AO_OPEN (R374). -/
def execAoOpen (h : HalfId) (ao : Nat) (readback : F32) (s : State) : Host.Outcome State Fault Refusal :=
  onHalf s h fun x =>
    if 8 ≤ ao then x
    else
      let y : Half := x.wr (Reg.AO_RB ao) readback
      if f32lt (x.rd (Reg.AO_CMD ao)) (f32int 1) || !f32lt readback (f32rat 1 2) || !x.bit (Reg.AO_STAT ao) 0 then y
      else ((y.setBit (Reg.AO_STAT ao) 2 true).aioIrq 2).raise 85

/-- AO_SINK (R379). -/
def execAoSink (h : HalfId) (ao : Nat) (s : State) : Host.Outcome State Fault Refusal :=
  onHalf s h fun x =>
    if 8 ≤ ao || !x.bit (Reg.AO_STAT ao) 0 then x
    else ((x.setBit (Reg.AO_STAT ao) 3 true).aioIrq 2).raise 86

end Sys2Proof.Machine
end

