-- ==== Sys2Proof/Machine/EvrOps.lean ====
section
/-! DEFINITION. Values entering recorder channels (R463, R464) and the kinds of the channels (R460, R461). -/
namespace Sys2Proof.Machine

/-- The kind and histogram parameters that a channel has by assignment or configuration; kind 0 where it has none. -/
def Half.evrKind (x : Half) (ch : Nat) : Nat × F32 × F32 :=
  if 0x2000 ≤ ch then
    match x.conf.recs.find? fun r => r.chan == ch with
    | some r => (r.kind, r.lo, r.width)
    | none => (0, 0, 0)
  else match x.conf.hists.find? fun p => p.1 == ch with
    | some p => (evrFixedKind ch, p.2.1, p.2.2)
    | none => (evrFixedKind ch, 0, 0)

/-- A channel's live record with its parameters; a channel without one starts a record. -/
def Half.evrLive (x : Half) (ch : Nat) : EvrRec :=
  let (k, lo, w) := x.evrKind ch
  match x.evr.live.get? ch with
  | some r => r
  | none => { kind := k, lo := lo, width := w, opminStart := x.opmin, pcycleStart := x.pcyc
              src := ((x.conf.recs.find? fun r => r.chan == ch).map (·.point)).getD 0 }

/-- The bin of a value that is no NaN (R463): an infinity goes by its sign. -/
def histBin (lo w : F32) (v : F64) : Nat :=
  let l := f64of32 lo
  let d := f64of32 w
  if f64lt v l then 0
  else if f64le (f64add l (f64mul (f64int 62) d)) v then 63
  else min 62 (1 + (fmt64.floor (f64div (f64sub v l) d).toNat).toNat)

/-- A value enters a HIST or an EXT (R463, R464); a NaN only sets NAN. -/
def Half.evrValue (x : Half) (ch : Nat) (v : F64) : Half :=
  let r := x.evrLive ch
  if r.kind = 1 then
    if f64nan v then x.evrPut ch { r with nan := true }
    else
      let b := histBin r.lo r.width v
      let n : Word := Tab.get 0 r.bins b
      x.evrPut ch { r with bins := Tab.put r.bins b (satAdd n 1), ovf := r.ovf || n == 0xFFFFFFFF }
  else if r.kind = 2 then
    if f64nan v then x.evrPut ch { r with nan := true }
    else
      let lo := !r.seen || f64lt v r.min
      let hi := !r.seen || f64lt r.max v
      let r : EvrRec := if lo then { r with min := v, tMin := x.now, opMin := x.opmin } else r
      let r : EvrRec := if hi then { r with max := v, tMax := x.now, opMax := x.opmin } else r
      x.evrPut ch { r with seen := true }
  else x

/-- A configured COUNT counts up (R461, R465). -/
def Half.evrTally (x : Half) (ch : Nat) : Half :=
  let r := x.evrLive ch
  if r.kind = 3 then x.evrPut ch { r with count := satAdd r.count 1, ovf := r.ovf || r.count == 0xFFFFFFFF } else x

/-- The commit of one channel: the slot that does not hold its newest valid record (R467). -/
def EvrBlk.commit (b : EvrBlk) (ch : Nat) : EvrBlk :=
  match b.live.get? ch with
  | none => { b with dirty := b.dirty.del ch }
  | some r =>
    let (to1, seq) : Bool × Word := match b.newest ch with
      | some (one, s) => (!one, s.seq + 1)
      | none => (false, 1)
    let s : EvrSlot := { valid := true, checkOk := true, seq := seq, rec_ := r }
    let b : EvrBlk := { b with dirty := b.dirty.del ch }
    if to1 then { b with slot1 := b.slot1.put ch s } else { b with slot0 := b.slot0.put ch s }

/-- A pass over the dirty channels, in channel order (R468). -/
def Half.evrPass (x : Half) : Half :=
  let lim := 2 * x.fld Reg.EVR_CTRL 14 1 * 1000000
  let lag := x.evr.dirty.any fun e => lim < (x.mono - e.2).toNat
  let y : Half := { x with evr := (x.evr.dirty.map (·.1)).foldl EvrBlk.commit x.evr }
  let y : Half := y.wr Reg.EVR_DIRTY 0
  let y : Half := if lag then (y.setBit Reg.EVR_STAT 2 true).irq Reg.EVR_IRQ_STAT Reg.EVR_IRQ_EN 1 225 else y
  y.irq Reg.EVR_IRQ_STAT Reg.EVR_IRQ_EN 0 224

/-- The recorder at power-on: live records, and the channels that restart with RESTARTED set (R469, log 37). -/
def Half.evrPowerOn (x : Half) : Half :=
  let bad := x.evr.written.filter fun ch => (x.evr.newest ch).isNone
  let y : Half := { x with evr := x.evr.reload }
  let y : Half := bad.foldl (fun (z : Half) ch => (z.evrPut ch { z.evrLive ch with restarted := true }).evrEvent 19) y
  let y : Half := y.wr Reg.EVR_RESTART (BitVec.ofNat 32 bad.length)
  if bad.isEmpty then y else y.irq Reg.EVR_IRQ_STAT Reg.EVR_IRQ_EN 2 226

end Sys2Proof.Machine
end

