-- ==== Sys2Proof/Machine/Dio.lean ====
section
/-! DEFINITION. Digital and frequency I/O: commands DI_FILTER_CHANGE to FI_ZERO and DI_SAMPLE (chapter 12). -/
namespace Sys2Proof.Machine

/-! ### Outputs -/

/-- Own switches after a change (R346, R348, R349): on as commanded while the half drives the field, but for channels
off on temperature or by the group limit; limit and off-state reports of channels they no longer apply to end. -/
def Half.doUpdate (x : Half) : Half :=
  let off : Word := x.dio.groupOff.foldl (fun m c => m ||| (1#32 <<< c.1)) 0
  let on : Word := if x.role.drives && x.domainOn 6 then x.rd Reg.DO_CMD &&& ~~~(x.rd Reg.DO_OT) &&& ~~~off else 0
  let y : Half := (x.wr Reg.DO_ON on).wr Reg.DO_LIM (x.rd Reg.DO_LIM &&& on)
  (y.clrReg Reg.DO_OL (x.rd Reg.DO_CMD)).clrReg Reg.DO_S24 (x.rd Reg.DO_CMD)

/-- The commanded state of one output. -/
def Half.setDo (x : Half) (n : Nat) (b : Bool) : Half := (x.setBit Reg.DO_CMD n b).doUpdate

/-- The field feed of a group is in range: FLDA for group 0, FLDB for group 1 (R489, R490). -/
def Half.feedOk (x : Half) (group : Nat) : Bool := x.bit Reg.SYS_STAT (6 + group)

/-- A condition of R352 on an output channel: its register's bit, its source, the DO_COND interrupt. -/
def Half.doCond (x : Half) (reg ch src : Nat) : Half := ((x.setBit reg ch true).dioIrq 1).raise src

/-- Off-state detection runs on a channel (R350, R490). -/
def Half.doDiag (x : Half) (ch : Nat) : Bool :=
  ch < 32 && !x.bit Reg.DO_CMD ch && x.bit Reg.DO_DIAG_EN ch && x.role.drives && x.feedOk (ch / 16)

/-! ### Inputs -/

/-- N of a DI's filter; 0 is taken as 1 (R357). -/
def Half.diN (x : Half) (i : Nat) : Nat := max 1 (x.fld (Reg.DI_FILT (i / 4)) (8 * (i % 4) + 7) (8 * (i % 4)))

/-- A bit of a pair of 32-bit registers. -/
def Half.bit2 (x : Half) (r0 r1 i : Nat) : Bool := x.bit (if i < 32 then r0 else r1) (i % 32)
/-- A bit of a pair of 32-bit registers replaced. -/
def Half.setBit2 (x : Half) (r0 r1 i : Nat) (b : Bool) : Half := x.setBit (if i < 32 then r0 else r1) (i % 32) b

/-- A DI in continuous mode (R339). -/
def Half.diCont (x : Half) (i : Nat) : Bool := i < 16 && x.bit Reg.DI_MODE i

/-- One sample of one DI counted by its filter (R343, R345). -/
def Half.diCount (x : Half) (i : Nat) (v : Bool) : Half :=
  let n := x.diN i
  let c := min n (x.dio.count.get 0 i)
  let c' := if v then min n (c + 1) else c - 1
  let edge := if v then x.dio.rise.get? i else x.dio.fall.get? i
  let left := (c == 0 && v) || (c == n && !v)
  let leave := if left then (match edge with
      | some e => x.dio.leave.put i e
      | none => x.dio.leave.del i) else x.dio.leave
  let reached := if c' != c && (c' == 0 || c' == n) then x.dio.reached.put i x.now else x.dio.reached
  ({ x with dio := { x.dio with count := x.dio.count.put i c', leave := leave, reached := reached } } : Half).setBit2
    Reg.DI_RAW0 Reg.DI_RAW1 i v

/-- The half sinks the windows of a pulsed input (R340): it drives the field. -/
def Half.diSinks (x : Half) (i : Nat) : Bool := i < 64 && !x.diCont i && x.role.drives && x.domainOn 6

/-- DI_SAMPLE (R338, R340, R341, R343, R383): one sample of every input, once at each instant. A pulsed input counts only a window that the half
sank or through which it saw its partner's claim valid; `sunk` says that this held throughout the window. -/
def execDiSample (h : HalfId) (levels : DWord) (sunk : Bool) (s : State) : Host.Outcome State Fault Refusal :=
  onHalf s h fun x =>
    let slot := x.mono.toNat / 250000
    if !x.domainOn 6 || !x.timed || !x.onMultiple x.mono 250000 || x.dio.sampled == some slot then x
    else
      let x : Half := { x with dio := { x.dio with sampled := some slot } }
      let ok := sunk && (x.role.drives || x.partnerClaim)
      (List.range 64).foldl (fun (y : Half) i => if ok || y.diCont i then y.diCount i (levels.getLsbD i) else y) x

/-- A filtered level changes: its stamp, level, change flag and event (R343 to R345). -/
def Half.diChange (x : Half) (di : Nat) (new : Bool) : Half :=
  let edge := if x.diCont di then x.dio.leave.get? di else none
  let t : DWord := match edge with
    | some e => e.1
    | none => x.dio.reached.get x.now di
  let y : Half := if di < 16 then x.setBit Reg.DI_TSRC di edge.isSome else x
  let y : Half := (y.wr (Reg.DI_TS_LO di) (t.setWidth 32)).wr (Reg.DI_TS_HI di) ((t >>> 32).setWidth 32)
  let y : Half := (y.setBit2 Reg.DI_LEVEL0 Reg.DI_LEVEL1 di new).setBit2 Reg.DI_CHG0 Reg.DI_CHG1 di true
  (y.dioIrq 0).diEvent di new

/-- DI_FILTER_CHANGE (R343, R345): a counter at N or 0 changes the filtered value, with its stamp. -/
def execDiFilterChange (h : HalfId) (di : Nat) (s : State) : Host.Outcome State Fault Refusal :=
  onHalf s h fun x =>
    let c := x.dio.count.get 0 di
    let old := x.bit2 Reg.DI_LEVEL0 Reg.DI_LEVEL1 di
    let new := if x.diN di ≤ c then true else if c = 0 then false else old
    if 64 ≤ di || !x.domainOn 6 || new == old then x
    else
      x.diChange di new

/-- DI_SINK (R340, R352). -/
def execDiSink (h : HalfId) (di : Nat) (s : State) : Host.Outcome State Fault Refusal :=
  onHalf s h fun x => if x.diSinks di then (x.dioIrq 7).raise 78 else x

/-- DO_LIMIT (R348, R352). -/
def execDoLimit (h : HalfId) (ch : Nat) (s : State) : Host.Outcome State Fault Refusal :=
  onHalf s h fun x => if ch < 32 && x.bit Reg.DO_ON ch then x.doCond Reg.DO_LIM ch 72 else x

/-- DO_OVERTEMP (R348). -/
def execDoOvertemp (h : HalfId) (ch : Nat) (s : State) : Host.Outcome State Fault Refusal :=
  onHalf s h fun x => if ch < 32 && x.domainOn 6 then (x.doCond Reg.DO_OT ch 73).doUpdate else x

/-- A channel turned off by the group limit may turn on again (R349). -/
def Half.groupFree (x : Half) (ch : Nat) : Half :=
  { x with dio := { x.dio with groupOff := x.dio.groupOff.filter fun e => e.1 != ch } }

/-- DO_OVERTEMP_CLEAR (R348, R349): the switch turns on again while its command is still on. -/
def execDoOvertempClear (h : HalfId) (ch : Nat) (s : State) : Host.Outcome State Fault Refusal :=
  onHalf s h fun x =>
    if ch < 32 && x.bit Reg.DO_OT ch then ((x.groupFree ch).setBit Reg.DO_OT ch false).doUpdate else x

/-- DO_GROUP (R349): `count` channels in current limit are turned off, from the highest number down. -/
def execDoGroup (h : HalfId) (group : Nat) (count : Nat) (s : State) : Host.Outcome State Fault Refusal :=
  onHalf s h fun x =>
    if 2 ≤ group || !x.domainOn 6 then x
    else
      let chs := (((List.range 16).map fun i => 16 * group + 15 - i).filter (x.bit Reg.DO_LIM)).take count
      let y : Half := { x with dio := { x.dio with groupOff := x.dio.groupOff ++ chs.map fun c => (c, x.mono) } }
      ((y.setBit Reg.DO_GRP (30 + group) true).doUpdate.dioIrq 1).raise 76

/-- DO_GROUP_RESTART (R349): 100 ms without overheating. -/
def execDoGroupRestart (h : HalfId) (ch : Nat) (s : State) : Host.Outcome State Fault Refusal :=
  onHalf s h fun x =>
    if x.dio.groupOff.any fun e => e.1 == ch && x.goneUs e.2 100000 && !x.bit Reg.DO_OT (ch % 32) then (x.groupFree ch).doUpdate
    else x

/-- DO_OPEN_LOAD (R350). -/
def execDoOpenLoad (h : HalfId) (ch : Nat) (s : State) : Host.Outcome State Fault Refusal :=
  onHalf s h fun x => if x.doDiag ch then x.doCond Reg.DO_OL ch 74 else x

/-- DO_SHORT_24V (R350). -/
def execDoShort24v (h : HalfId) (ch : Nat) (s : State) : Host.Outcome State Fault Refusal :=
  onHalf s h fun x => if x.doDiag ch then x.doCond Reg.DO_S24 ch 75 else x

/-- DO_STUCK (R352): of a switch that is on, without limit or overtemperature. -/
def execDoStuck (h : HalfId) (ch : Nat) (s : State) : Host.Outcome State Fault Refusal :=
  onHalf s h fun x => if ch < 32 && x.domainOn 6 && !(x.bit Reg.DO_ON ch && x.bit Reg.DO_LIM ch) then x.doCond Reg.DO_STUCK ch 77 else x

/-! ### Frequency inputs -/

/-- A frequency input's state. -/
def Half.fi (x : Half) (f : Nat) : FiSt := x.dio.fi.get {} f

/-- 60 × k / (PPR × d) in rpm, with d in units of 0.5 ns (R355). -/
def fiRpm (k ppr d : Nat) : F32 := f32quot (120000000000 * k) (ppr * d)

/-- The speed from the edges held (R355). Averaging counts and pulse counts of 0 lie outside their ranges: the value
is then free. -/
def Half.fiSpeed (x : Half) (f : Nat) : F32 × Half :=
  let k := x.fld (Reg.FI_CFG f) 22 16
  let ppr := x.fld (Reg.FI_CFG f) 14 4
  if k = 0 || ppr = 0 then
    let (v, y) := x.free
    (v.setWidth 32, y)
  else match (x.fi f).edges.head?, (x.fi f).edges[k]? with
    | some t0, some tk => (fiRpm k ppr (t0 - tk).toNat, x)
    | _, _ => (0, x)

/-- A stamped edge of a frequency input (R354, R355). -/
def Half.fiStamp (x : Half) (fi : Nat) (t : DWord) (rising : Bool) : Half :=
  let k := x.fi fi
  let sel := x.fld (Reg.FI_CFG fi) 3 2
  if !(if rising then sel % 2 == 1 else 2 ≤ sel) then
    { x with dio := { x.dio with fi := x.dio.fi.put fi { k with last := some t } } }
  else
    let per := match k.edges.head? with
      | some t1 => min 0xFFFFFFFF ((t - t1).toNat / 8)
      | none => (x.rd (Reg.FI_PER fi)).toNat
    let y : Half := { x with dio := { x.dio with fi := x.dio.fi.put fi { last := some t, edges := (t :: k.edges).take 65, edgeAt := x.mono, updAt := x.mono } } }
    let y : Half := (y.wr (Reg.FI_PER fi) (BitVec.ofNat 32 per)).wr (Reg.FI_COUNT fi) (y.rd (Reg.FI_COUNT fi) + 1)
    let y : Half := if y.bit (Reg.FI_STAT fi) 0 then (y.setBit (Reg.FI_STAT fi) 0 false).dioIrq (2 + fi) else y
    let (v, y) := y.fiSpeed fi
    y.wr (Reg.FI_SPEED fi) v

/-- FI_EDGE (R354, R355): an edge less than 8 µs after the previous stamped edge is discarded. -/
def execFiEdge (h : HalfId) (fi : Nat) (rising : Bool) (halfNs : Bool) (s : State) : Host.Outcome State Fault Refusal :=
  onHalf s h fun x =>
    let mode := x.fld (Reg.FI_CFG fi) 1 0
    if 4 ≤ fi || mode = 0 || mode = 3 || !x.domainOn 6 then x
    else
      let k := x.fi fi
      let t : DWord := x.now * 2 + (if halfNs then 1 else 0)
      let fast := match k.last with
        | some l => decide ((t - l).toNat < 16000)
        | none => false
      if fast then ((((x.incSat (Reg.FI_DROP fi)).setBit (Reg.FI_STAT fi) 1 true).dioIrq 6).raise 79)
      else
        x.fiStamp fi t rising

/-- FI_SPEED_UPDATE (R355), every 100 µs between edges: once the time since the last edge exceeds the last interval, the speed falls with it. -/
def execFiSpeedUpdate (h : HalfId) (fi : Nat) (s : State) : Host.Outcome State Fault Refusal :=
  onHalf s h fun x =>
    match (x.fi fi).edges with
    | t0 :: t1 :: _ =>
      let d := (x.now * 2 - t0).toNat
      let ppr := x.fld (Reg.FI_CFG fi) 14 4
      let k := x.fi fi
      if 4 ≤ fi || !x.domainOn 6 || !x.goneUs k.updAt 100 then x
      else
        let x : Half := { x with dio := { x.dio with fi := x.dio.fi.put fi { k with updAt := x.mono } } }
        if d ≤ (t0 - t1).toNat || ppr = 0 then x
        else x.wr (Reg.FI_SPEED fi) (f32min (x.rd (Reg.FI_SPEED fi)) (fiRpm 1 ppr d))
    | _ => x

/-- FI_ZERO (R355): T_ZERO without an edge. -/
def execFiZero (h : HalfId) (fi : Nat) (s : State) : Host.Outcome State Fault Refusal :=
  onHalf s h fun x =>
    if 4 ≤ fi || !x.domainOn 6 || !x.goneUs (x.fi fi).edgeAt (1000 * x.fld (Reg.FI_TZERO fi) 13 0) then x
    else
      let y : Half := x.wr (Reg.FI_SPEED fi) 0
      if y.bit (Reg.FI_STAT fi) 0 then y else (y.setBit (Reg.FI_STAT fi) 0 true).dioIrq (2 + fi)

end Sys2Proof.Machine
end

