-- ==== Sys2Proof/Machine/OutOps.lean ====
section
/-! DEFINITION. The writing of an output terminal or a local object by its one writer (R16, R28, R347): a point that
names the terminal keeps the value, and a force takes precedence. -/
namespace Sys2Proof.Machine

/-- A value brought to its terminal; an object has none. -/
def Half.applyOut (x : Half) (d : Dst) (v : DWord) : Half :=
  match d with
  | .dout n => if n < 32 then x.setDo n (v != 0) else x
  | .ao n => if n < 8 then x.setAo n (v.setWidth 32) else x
  | .obj _ => x

/-- The point that names a terminal. -/
def Half.outPoint (x : Half) (d : Dst) : Option Nat := (x.conf.points.find? fun e => e.2.out == some d).map (·.1)

/-- A force or a release reaches the terminal of its point (R16, R314). -/
def Half.driveForced (x : Half) (p : Nat) : Half :=
  match (x.pointCfg p).bind (·.out) with
  | some d => x.applyOut d (pointVal (x.point p)).v
  | none => x

/-- The writer's value for a destination. -/
def Half.drive (x : Half) (d : Dst) (v : Val) : Half :=
  match d with
  | .obj p => (x.writePoint p v).driveForced p
  | .dout _ => match x.outPoint d with
    | some p => let y : Half := x.writePoint p v; y.applyOut d (pointVal (y.point p)).v
    | none => x.applyOut d v.v
  | .ao _ => match x.outPoint d with
    | some p => let y : Half := x.writePoint p v; y.applyOut d (pointVal (y.point p)).v
    | none => x.applyOut d v.v

/-- A value of a host-written point (R16, R252, R311): written, published at once, and brought to its terminal. -/
def Half.hostWrite (x : Half) (p : Nat) (v : Val) : Half := (((x.writePoint p v).publishHost p).driveForced p).mirrorPoint p

end Sys2Proof.Machine
end

