-- ==== Sys2Proof/Machine/TraceOps.lean ====
section
/-! DEFINITION. Test generators and trace channels: values, states, recording and triggers (R129 to R138). -/
namespace Sys2Proof.Machine

/-- An interrupt request of the valve-drive block (R139). -/
def Half.vdIrq (x : Half) (bit : Nat) : Half :=
  x.irq Reg.VD_IRQ_STAT Reg.VD_IRQ_EN bit (if bit < 8 then 69 else if bit < 12 then 70 else 71)

def Half.tg (x : Half) (g : Nat) : TgSt := x.vd.tg.get {} g
def Half.modTg (x : Half) (g : Nat) (f : TgSt → TgSt) : Half := { x with vd := { x.vd with tg := x.vd.tg.upd {} g f } }
def Half.tc (x : Half) (c : Nat) : TcSt := x.vd.tc.get {} c
def Half.modTc (x : Half) (c : Nat) (f : TcSt → TcSt) : Half := { x with vd := { x.vd with tc := x.vd.tc.upd {} c f } }

/-- The state codes in TG_STAT and TC_STAT (R139). -/
def Half.tgState (x : Half) (g : Nat) : Nat := x.fld (Reg.TG_STAT g) 1 0
def Half.tcState (x : Half) (c : Nat) : Nat := x.fld (Reg.TC_STAT c) 2 0

/-! ### Trace channels -/

/-- DEPTH of a channel. -/
def Half.tcDepth (x : Half) (c : Nat) : Nat := x.fld (Reg.TC_DEPTH c) 16 0

/-- COUNT and OLDEST after a change (R139). -/
def Half.tcShow (x : Half) (c : Nat) : Half :=
  let k := x.tc c
  let n := k.entries.length
  (x.wr (Reg.TC_COUNT c) (BitVec.ofNat 32 n)).wr (Reg.TC_OLDEST c)
    (BitVec.ofNat 32 (if x.tcDepth c = 0 then 0 else (k.writes - n) % x.tcDepth c))

/-- The offset of an entry from the reference in TBASE units, saturated to 31 bits, and whether it saturated (R135). -/
def Half.tcOffset (x : Half) (c : Nat) (t : DWord) : Int × Bool :=
  let d : Int := (t - (x.tc c).ref).toInt / (if x.bit (Reg.TC_CFG c) 1 then 1000 else 10)
  if d < -(2 ^ 30) then (-(2 ^ 30), true) else if 2 ^ 30 ≤ d then (2 ^ 30 - 1, true) else (d, false)

/-- The two words of an entry: value, and time with HELD (R134, R135). -/
def Half.tcEntry (x : Half) (c : Nat) (e : Word × DWord × Bool) : Word × Word :=
  (e.1, BitVec.ofInt 32 ((x.tcOffset c e.2.1).1 * 2 + e.2.2.toNat))

/-- A channel enters DONE (R136). -/
def Half.tcDone (x : Half) (c : Nat) (aborted : Bool) : Half :=
  let trunc := (x.tc c).entries.any fun e => (x.tcOffset c e.2.1).2
  let y : Half := ((x.setFld (Reg.TC_STAT c) 2 0 4).setBit (Reg.TC_STAT c) 4 aborted).setBit (Reg.TC_STAT c) 3 trunc
  (y.tcShow c).vdIrq (12 + c)

/-- The reference instant of a channel: now (R135, R136). -/
def Half.tcRef (x : Half) (c : Nat) : Half :=
  let y : Half := x.modTc c fun k => { k with ref := x.mono, post := 0 }
  (y.wr (Reg.TC_T_REF_LO c) (x.now.setWidth 32)).wr (Reg.TC_T_REF_HI c) ((x.now >>> 32).setWidth 32)

/-- A trigger of one channel (R136, R137): in ARMED it is ignored and sets EARLY; in READY it starts the capture.
Answers whether it triggered. -/
def Half.tcTrigOne (x : Half) (c : Nat) : Bool × Half :=
  if x.tcState c = 1 then (false, x.setBit (Reg.TC_STAT c) 5 true)
  else if x.tcState c = 2 then
    let y : Half := (x.tcRef c).setFld (Reg.TC_STAT c) 2 0 3
    (true, if y.tcDepth c ≤ y.fld (Reg.TC_PRE c) 15 0 then y.tcDone c false else y)
  else (false, x)

/-- A trigger of the channels in a list, and in turn of those whose trigger names a triggered channel (R137). -/
def Half.tcTrigger : Nat → Half → List Nat → Half
  | 0, x, _ => x
  | _, x, [] => x
  | fuel + 1, x, c :: rest =>
    let (b, y) := x.tcTrigOne c
    let more := if b then (List.range 8).filter fun d =>
        y.fld (Reg.TC_CFG d) 4 2 == 5 && y.fld (Reg.TC_CFG d) 15 8 == c && d != c else []
    Half.tcTrigger fuel y (rest ++ more)

/-- Channels whose trigger is an event of a kind and an index (R137). -/
def Half.tcWith (x : Half) (trig idx : Nat) : List Nat :=
  (List.range 8).filter fun c => x.fld (Reg.TC_CFG c) 4 2 == trig && x.fld (Reg.TC_CFG c) 15 8 == idx

/-- An event that triggers channels. -/
def Half.tcEvent (x : Half) (trig idx : Nat) : Half := Half.tcTrigger 64 x (x.tcWith trig idx)

/-- ARM (R136): the buffer is discarded; a channel needing no pre-trigger entry passes ARMED at once. -/
def Half.tcArmed (x : Half) (c : Nat) : Half :=
  let y : Half := x.modTc c fun _ => {}
  let y : Half := (y.wr (Reg.TC_STAT c) (y.rd (Reg.TC_STAT c) &&& 0x20)).setFld (Reg.TC_STAT c) 2 0
    (if y.fld (Reg.TC_PRE c) 15 0 = 0 then (if y.bit (Reg.TC_CFG c) 0 then 2 else 3) else 1)
  y.tcShow c

/-- STOP (R136): ring mode takes the stop instant as reference; triggered mode before the count sets ABORTED. -/
def Half.tcStopped (x : Half) (c : Nat) : Half :=
  let st := x.tcState c
  if st = 0 || st = 4 then x
  else if x.bit (Reg.TC_CFG c) 0 then (if st = 3 then x else x.tcRef c).tcDone c true
  else (x.tcRef c).tcDone c false

/-- RESET (R136). -/
def Half.tcIdle (x : Half) (c : Nat) : Half :=
  ((x.modTc c fun _ => {}).wr (Reg.TC_STAT c) 0).tcShow c

/-- An entry recorded into a channel's buffer, with what the count then reaches (R134, R136). -/
def Half.tcRecord (x : Half) (c : Nat) (v : Word) (held : Bool) : Half :=
  let st := x.tcState c
  let k := x.tc c
  let cap := max 1 (x.tcDepth c)
  let es := k.entries ++ [(v, x.mono, held)]
  let y : Half := x.modTc c fun k => { k with writes := k.writes + 1, entries := es.drop (es.length - cap) }
  let trig := y.bit (Reg.TC_CFG c) 0
  let y : Half := if st = 1 && y.fld (Reg.TC_PRE c) 15 0 ≤ k.writes + 1 then y.setFld (Reg.TC_STAT c) 2 0 (if trig then 2 else 3) else y
  if st = 3 && trig then
    let z : Half := y.modTc c fun k => { k with post := k.post + 1 }
    if z.tcDepth c ≤ (z.tc c).post + z.fld (Reg.TC_PRE c) 15 0 then z.tcDone c false else z
  else y

/-- The source of a channel crosses TC_LEVEL in the direction of its trigger, from one update to the next (R137): the
level is binary32; a latency stamp is compared as the number it is. -/
def Half.tcCrosses (x : Half) (c : Nat) (last v : Word) : Bool :=
  let num (w : Word) : F32 := if x.fld (Reg.TC_SRC c) 3 0 = 4 then f32int w.toNat else w
  let lev := x.rd (Reg.TC_LEVEL c)
  match x.fld (Reg.TC_CFG c) 4 2 with
  | 1 => f32lt (num last) lev && f32le lev (num v)
  | 2 => f32lt lev (num last) && f32le (num v) lev
  | _ => false

/-- An update of a channel's source (R134, R136, R137): every DEC-th is recorded; each is held against the level. -/
def Half.tcUpdate (x : Half) (c : Nat) (v : Word) (held : Bool) : Half :=
  let st := x.tcState c
  if st = 0 || st = 4 then x
  else
    let k := x.tc c
    let n := k.updates + 1
    let y : Half := x.modTc c fun k => { k with updates := n, last := some v }
    let y : Half := if n % max 1 (x.fld (Reg.TC_DEC c) 15 0) != 0 then y else y.tcRecord c v held
    (if k.last.any fun l => x.tcCrosses c l v then Half.tcTrigger 64 y [c] else y).tcShow c

/-- An update of a source of a kind and an index: every channel that records it (R134). -/
def Half.tcSource (x : Half) (kind idx : Nat) (v : Word) (held : Bool) : Half :=
  (List.range 8).foldl (fun (y : Half) c =>
    if y.fld (Reg.TC_SRC c) 3 0 = kind && y.fld (Reg.TC_SRC c) 15 4 = idx then y.tcUpdate c v held else y) x

/-! ### Generators -/

/-- 2π as the nearest binary64 value (R129). -/
def twoPi : F64 := 0x401921FB54442D18#64

/-- The sine of R129: AMP · sin(2π · F0 · t), t in ns; binary64 in the order written, rounded once to binary32
(log 28). -/
def sineWave (amp f0 : F32) (t : DWord) : F32 :=
  let sec := f64rat t.toNat 1000000000
  f32of64 (f64mul (f64of32 amp) (Config.sinOf (f64mul (f64mul twoPi (f64of32 f0)) sec)))

/-- The logarithmic swept sine of R129: AMP · sin(2π · F0 · DUR / ln(F1/F0) · ((F1/F0)^(t/DUR) − 1)), DUR in ms
(log 28). -/
def sweepWave (amp f0 f1 : F32) (dur : Nat) (t : DWord) : F32 :=
  let q := f64div (f64of32 f1) (f64of32 f0)
  let d := f64rat dur 1000
  let k := f64div (f64mul (f64mul twoPi (f64of32 f0)) d) (Config.lnOf q)
  let p := f64sub (Config.powOf q (f64div (f64rat t.toNat 1000000000) d)) (f64int 1)
  f32of64 (f64mul (f64of32 amp) (Config.sinOf (f64mul k p)))

/-- w(t) + OFS while RUNNING, else 0.0 (R129, R130). -/
def Half.tgValue (x : Half) (g : Nat) : F32 :=
  if x.tgState g != 2 then 0
  else
    let amp := x.rd (Reg.TG_AMP g)
    let t := x.mono - (x.tg g).start
    let w := match x.fld (Reg.TG_CTRL g) 2 0 with
      | 1 => amp
      | 2 => sineWave amp (x.rd (Reg.TG_F0 g)) t
      | 3 => sweepWave amp (x.rd (Reg.TG_F0 g)) (x.rd (Reg.TG_F1 g)) (x.fld (Reg.TG_DUR g) 23 0) t
      | 4 => if (x.tg g).prbs.getLsbD 0 then amp else f32neg amp
      | _ => 0
    f32add (x.rd (Reg.TG_OFS g)) w

/-- The start value of the n-bit shift register: the low n bits of TG_SEED, 1 where they are zero (R130). -/
def prbsSeed (n : Nat) (seed : Word) : Word :=
  let v := seed &&& BitVec.ofNat 32 (2 ^ n - 1)
  if v = 0 then 1 else v

/-- The register of n bits after one step of the Galois shift register (R130). -/
def prbsStep (n : Nat) (taps w : Word) : Word :=
  let m : Word := BitVec.ofNat 32 (2 ^ n - 1)
  ((if w.getLsbD 0 then (w >>> 1) ^^^ taps else w >>> 1) &&& m)

/-- A sample of the generator's target chain: the PRBS advances once every K (R130). -/
def Half.tgSample (x : Half) (chain : Nat) : Half :=
  (List.range 4).foldl (fun (y : Half) g =>
    if y.tgState g = 2 && y.fld (Reg.TG_CTRL g) 11 4 = chain && y.bit (Reg.TG_CTRL g) 12 then
      let k := (y.tg g).k + 1
      if k < max 1 (y.fld (Reg.TG_PRBS g) 26 16) then y.modTg g fun s => { s with k := k }
      else y.modTg g fun s => { s with k := 0, prbs := prbsStep (y.fld (Reg.TG_PRBS g) 4 0) (y.rd (Reg.TG_TAPS g)) s.prbs }
    else y) x

/-- The injections of a chain: at its input and at its output (R129, R131). -/
def Half.injection (x : Half) (chain point : Nat) : F32 :=
  ((List.range 4).find? fun g => x.tgState g == 2 && x.bit (Reg.TG_CTRL g) 12 && x.fld (Reg.TG_CTRL g) 11 4 == chain &&
    x.fld (Reg.TG_CTRL g) 3 3 == point).elim 0 x.tgValue

/-- The response of CE_INJECT (R330): t0 and the state. -/
def Half.tgReply (x : Half) (g : Nat) : List Byte :=
  leBytes 8 (x.tg g).t0 ++ leNat 1 (x.tgState g) ++ [0, 0, 0]

/-- A generator ends: DONE, with the status of the CE_INJECT that waits (R132). -/
def Half.tgEnd (x : Half) (g status : Nat) : Half :=
  let y : Half := (x.setFld (Reg.TG_STAT g) 1 0 3).vdIrq (8 + g)
  let c := (y.tg g).cmd
  let y : Half := y.modTg g fun s => { s with cmd := none }
  y.finishCmd c status (if status = ST_OK then y.tgReply g else [])

/-- The injections of a chain that leaves RUN end (R132). -/
def Half.tgChainStop (x : Half) (chain : Nat) : Half :=
  (List.range 4).foldl (fun (y : Half) g =>
    if (y.tgState g = 1 || y.tgState g = 2) && y.bit (Reg.TG_CTRL g) 12 && y.fld (Reg.TG_CTRL g) 11 4 = chain then y.tgEnd g ST_ABORTED
    else y) x

/-- START (R132): WAITING, with the trace channels armed. -/
def Half.tgStarted (x : Half) (g : Nat) (mask : Byte) (cmd : Option (Nat × Nat)) : Half :=
  let y : Half := (x.setFld (Reg.TG_STAT g) 1 0 1).modTg g fun _ => { mask := mask, cmd := cmd }
  (List.range 8).foldl (fun (y : Half) c => if mask.getLsbD c then y.tcArmed c else y) y

/-- Every generator and trace channel of a half that stops being active ends; no captured data is carried over, so a
half that becomes active finds its channels IDLE (R133). -/
def Half.endTuning (x : Half) : Half :=
  let y : Half := (List.range 4).foldl (fun (y : Half) g =>
    if y.tgState g = 1 || y.tgState g = 2 then y.tgEnd g ST_ABORTED else y) x
  (List.range 8).foldl (fun (y : Half) c =>
    if y.tcState c = 0 then y else y.tcIdle c) y

end Sys2Proof.Machine
end

