-- ==== Sys2Proof/Machine/VdOps.lean ====
section
/-! DEFINITION. The hysteretic level of a valve-drive channel: reference, thresholds, switching, conditions
(R115 to R128). Arithmetic on measured values is binary64, a register's result rounded once to binary32 (log 29). -/
namespace Sys2Proof.Machine

def Half.vd_ (x : Half) (v : Nat) : VdSt := x.vd.vd.get {} v
def Half.modVd (x : Half) (v : Nat) (f : VdSt → VdSt) : Half := { x with vd := { x.vd with vd := x.vd.vd.upd {} v f } }

/-- I_MAX and h in mA. -/
def Half.vdMax (x : Half) (v : Nat) : Nat := x.fld (Reg.VD_BAND v) 27 16
def Half.vdH (x : Half) (v : Nat) : Nat := x.fld (Reg.VD_BAND v) 7 0

/-- The voltage of a field feed in volts, 0 FLDA, 1 FLDB (R81): no command delivers the measurement, so its value is
free; SYS_FLD shows it in 10 mV (log 30). -/
def Half.fieldVolts (x : Half) (feed : Nat) : F64 × Half :=
  let (v, y) := x.free
  let n := v.toNat % 65536
  (f64rat n 100, y.setFld Reg.SYS_FLD (16 * feed + 15) (16 * feed) n)

/-- The dither term d in mA (R124): phase zero at whole multiples of the dither period of monotonic time; it starts
upward through zero (log 31). -/
def Half.vdDither (x : Half) (v : Nat) : F32 :=
  if !x.bit (Reg.VD_CTRL v) 2 then 0
  else
    let g : Nat := 1000000000
    let p := x.mono.toNat * x.fld (Reg.VD_DITHER v) 8 0 % g
    let peak := x.vdMax v * x.fld (Reg.VD_DITHER v) 23 16
    let square := x.bit (Reg.VD_CTRL v) 3
    let m : Int := if square then (if 2 * p < g then g else -(g : Int))
      else if 4 * p < g then 4 * p else if 4 * p < 3 * g then 2 * g - 4 * p else 4 * p - 4 * (g : Int)
    let w := f32quot (m.natAbs * peak) (1000 * g)
    if m < 0 then f32neg w else w

/-- The effective reference r and whether the clamp changed it (R118). -/
def Half.vdRef (x : Half) (v : Nat) : F32 × Bool :=
  let w := f32add (x.vd_ v).iref (x.vdDither v)
  let hi := f32int (x.vdMax v)
  let r := if f32nan w || f32lt w 0 then 0 else if f32lt hi w then hi else w
  (r, !(f32eq r w))

/-- Feed-forward acts: FF_EN set and not suspended (R123). -/
def Half.vdFf (x : Half) (v : Nat) : Bool := x.bit (Reg.VD_CTRL v) 1 && !(x.vd_ v).ffHeld

/-- A threshold as the DAC gives it: the nearest multiple of its resolution of 0.75 mA (R119; DESIGN CHOICE: which of
the two neighbours, log 29). -/
def dacLevel (t : F64) : F64 :=
  if !f64fin t then t
  else f64rat (3 * fmt64.floor (f64add (f64div (f64mul t (f64int 4)) (f64int 3)) (f64rat 1 2)).toNat) 4

/-- The upper and lower thresholds in mA (R119, R123). -/
def Half.vdThresholds (x : Half) (v : Nat) : F64 × F64 :=
  let r := f64of32 (x.vdRef v).1
  let h := f64int (x.vdH v)
  let k := x.vd_ v
  let up := f64add r h
  let lo := f64sub r h
  if x.vdFf v then (dacLevel (f64sub up k.upMove), dacLevel (f64add lo k.loMove)) else (dacLevel up, dacLevel lo)

/-- The channel is held off by a condition of R126; an open load is retried with the stage on. -/
def Half.vdHeld (x : Half) (v : Nat) : Bool :=
  (x.bit (Reg.VD_STAT v) 1 && !(x.vd_ v).retrying) || x.bit (Reg.VD_STAT v) 2 || x.bit (Reg.VD_STAT v) 3 ||
    x.bit (Reg.VD_STAT v) 4

/-- The half's level runs, the channel is enabled and no condition holds it off (R116, R118, R126). -/
def Half.vdRuns (x : Half) (v : Nat) : Bool :=
  x.role.vdRun && x.domainOn 6 && x.bit (Reg.VD_CTRL v) 0 && !x.vdHeld v

/-- The half's own part in its freewheel switch (R116, R117): its level runs, no condition holds the stage off, its high
side is off, and the current is at least 20 mA. -/
def Half.vdWheel (x : Half) (v : Nat) : Bool :=
  x.role.vdRun && x.domainOn 6 && !x.vdHeld v && !x.bit (Reg.VD_STAT v) 0 && !f32lt (x.vd_ v).cur (f32int 20)

/-- The voltage of a channel's terminal is above 1 V: a high side of either half feeds it (R117). -/
def State.vdTerminal (s : State) (v : Nat) : Bool := s.a.bit (Reg.VD_STAT v) 0 || s.b.bit (Reg.VD_STAT v) 0

/-- The freewheel switch of a half's stage is on (R116, R117): never against a high side, of this half or the other. -/
def State.freewheel (s : State) (h : HalfId) (v : Nat) : Bool := (s.half h).vdWheel v && !s.vdTerminal v

/-- The stage may switch: its level runs and r is above 0 (R118). -/
def Half.vdMay (x : Half) (v : Nat) : Bool := x.vdRuns v && !(f32eq (x.vdRef v).1 0)

/-- The high side turns on or off now. -/
def Half.vdSwitch (x : Half) (v : Nat) (on : Bool) : Half :=
  if x.bit (Reg.VD_STAT v) 0 = on then x
  else
    let y : Half := x.setBit (Reg.VD_STAT v) 0 on
    y.modVd v fun k =>
      if on then { k with lastOn := x.mono, lastSwitch := x.mono, msOns := k.msOns + 1, started := false, deferred := none }
      else { k with lastSwitch := x.mono, started := false, deferred := none }

/-- A minimum on, off or period time does not hold a switching back (R120); the first phase after a start waits for no
T_PER_MIN (R127). -/
def Half.vdFree (x : Half) (v : Nat) (on : Bool) : Bool :=
  let k := x.vd_ v
  1000 ≤ (x.mono - k.lastSwitch).toNat &&
    (!on || k.started || x.fld (Reg.VD_TIMING v) 9 0 * 1000 ≤ (x.mono - k.lastOn).toNat)

/-- The reference shown, and the high side off while the stage may not switch (R118); a reference of 0 waits for the
end of an on phase's minimum time (R122). -/
def Half.vdShow (x : Half) (v : Nat) : Half :=
  let (r, c) := x.vdRef v
  let y : Half := (x.wr (Reg.VD_IREF v) r).setBit (Reg.VD_STAT v) 6 c
  if y.vdMay v then y
  else if y.vdRuns v && y.bit (Reg.VD_STAT v) 0 && !y.vdFree v false then y.modVd v fun k => { k with deferred := some false }
  else y.vdSwitch v false

/-- Every channel shown. -/
def Half.vdUpdate (x : Half) : Half := (List.range 8).foldl Half.vdShow x

/-- A write of I_REF by the channel's writer (R118, R121, R122). -/
def Half.setIref (x : Half) (v : Nat) (r : F32) : Half :=
  let d := f64abs (f64sub (f64of32 r) (f64of32 (x.vd_ v).iref))
  let far := f64lt (f64int (2 * x.vdH v)) d
  (x.modVd v fun k => { k with iref := r, lastChange := if far then some x.mono else k.lastChange }).vdShow v

/-- A current seen by the level: a departure from the band is counted, except within 200 µs of a change of I_REF by
more than 2h (R121). -/
def Half.vdSee (x : Half) (v : Nat) (i : F32) : Half :=
  let r := f64of32 (x.vdRef v).1
  let w := f64int (x.vdH v + 2)
  let c := f64of32 i
  let out := f64lt c (f64sub r w) || f64lt (f64add r w) c
  let k := x.vd_ v
  let free := match k.lastChange with
    | some t => decide ((x.mono - t).toNat < 200000)
    | none => false
  let y : Half := x.modVd v fun k => { k with outside := out, cur := i }
  if out && !k.outside && !free && y.vdMay v then
    let z : Half := if y.rd (Reg.VD_BANDX v) = 0xFFFFFFFF then y.setBit (Reg.VD_STAT v) 8 true else y
    z.incSat (Reg.VD_BANDX v)
  else y

/-- A comparator decision: at once, or deferred to the end of the limits (R119, R120). An on phase that ends by a
comparator ends without a short: a retry that gave it has not failed (R126, log 92). -/
def Half.vdDecide (x : Half) (v : Nat) (on : Bool) : Half :=
  if !x.vdMay v || x.bit (Reg.VD_STAT v) 0 = on then x
  else if x.vdFree v on then (if on then x else x.modVd v fun k => { k with retries := 0 }).vdSwitch v on
  else x.modVd v fun k => { k with deferred := some on }

/-- A stage that may switch again turns on at the lower threshold, within the limits of R120. -/
def Half.vdResume (x : Half) (v : Nat) : Half :=
  if f64le (f64of32 (x.vd_ v).cur) (x.vdThresholds v).2 then x.vdDecide v true else x

/-- The comparators at a current: off at or above the upper threshold, on at or below the lower (R119). -/
def Half.vdCompare (x : Half) (v : Nat) (i : F32) : Half :=
  let t := x.vdThresholds v
  if f64le t.1 (f64of32 i) then x.vdDecide v false else if f64le (f64of32 i) t.2 then x.vdDecide v true else x

/-- FF_EN is written (R123): a suspended feed-forward acts again. -/
def Half.vdFfWritten (x : Half) (v : Nat) : Half := x.modVd v fun k => { k with ffHeld := false, mismatches := 0 }

/-- A channel starts from its last measured current, without waiting for T_PER_MIN (R127, R128). -/
def Half.vdStartOne (x : Half) (v : Nat) : Half :=
  ((x.modVd v fun k => { k with started := true, deferred := none }).vdShow v).vdResume v

/-- EN goes from 0 to 1: a channel latched off by short circuits is free again, and switches within the limits of R120
where the levels run (R126). -/
def Half.vdEnabled (x : Half) (v : Nat) : Half :=
  let y : Half := if x.bit (Reg.VD_STAT v) 3 then
      ((x.setBit (Reg.VD_STAT v) 2 false).setBit (Reg.VD_STAT v) 3 false).modVd v fun k => { k with retries := 0 }
    else x
  (y.vdShow v).vdResume v

/-- The half's levels start (R127, R128). -/
def Half.vdStart (x : Half) : Half :=
  (List.range 8).foldl Half.vdStartOne { x with role := { x.role with vdRun := true } }

/-- The half's levels stop: every switch opens (R127, R128). -/
def Half.vdStop (x : Half) : Half := ({ x with role := { x.role with vdRun := false } } : Half).vdUpdate

/-- A condition of R126 arises: its bit, its interrupt and its source. -/
def Half.vdCond (x : Half) (v bit src : Nat) : Half :=
  let y : Half := (x.setBit (Reg.VD_STAT v) bit true).modVd v fun k => { k with condAt := some x.mono }
  ((y.vdIrq v).raise src).vdShow v

/-- At least this many ms have passed since the channel's condition arose or was retried (R126). -/
def Half.vdRested (x : Half) (v ms : Nat) : Bool :=
  (x.vd_ v).condAt.any fun t => Nat.ble (ms * 1000000) (x.mono - t).toNat

/-- The mean of the last n conversions, newest first, in mA (R125). -/
def meanOf (n : Nat) (l : List F32) : F32 :=
  let k := (l.take n).length
  if k = 0 then 0
  else f32of64 (f64div ((l.take n).foldl (fun a b => f64add a (f64of32 b)) 0) (f64int k))

/-- The slopes s_on and s_off in A/s from a feed voltage and a current (R123). -/
def Half.vdSlopes (x : Half) (v : Nat) (volts : F64) (i : F32) : F64 × F64 :=
  let l := f64of32 (x.rd (Reg.VD_L v))
  let ir := f64mul (f64div (f64of32 i) (f64int 1000)) (f64of32 (x.rd (Reg.VD_RCOIL v)))
  (f64div (f64sub volts ir) l, f64div (f64add (f64rat 1 10) ir) l)

/-- How far a slope moves its threshold: s · t_d in mA, at most h / 2 (R123). -/
def Half.vdMove (x : Half) (v : Nat) (s : F64) : F64 :=
  let m := f64mul s (f64rat 18 100000)
  let lim := f64div (f64int (x.vdH v)) (f64int 2)
  if f64nan m then 0 else if f64lt lim m then lim else if f64lt m (f64neg lim) then f64neg lim else m

end Sys2Proof.Machine
end

