-- ==== Sys2Proof/Machine/CeOps.lean ====
section
/-! DEFINITION. Chains and sections of the control engine: descriptors, the evaluation of a sample, modes and swaps
(R77 to R111, R547 to R549). -/
namespace Sys2Proof.Machine

/-! ### Descriptors -/

/-- A section descriptor of 128 bytes (R80). -/
def parseSect (b : List Byte) : Sect :=
  let w (o : Nat) : F64 := BitVec.ofNat 64 (leGet b o 8)
  { a := [w 0, w 8, w 16, w 24, w 32], b := [w 40, w 48, w 56, w 64, w 72], s1 := w 80, s2 := w 88, lo := w 96,
    hi := w 104, flags := BitVec.ofNat 16 (leGet b 112 2), chain := leGet b 114 2, yLast := w 120 }

/-- A chain descriptor of 128 bytes (R82). -/
def parseDesc (b : List Byte) : Desc :=
  let w (o : Nat) : Word := BitVec.ofNat 32 (leGet b o 4)
  let d (o : Nat) : F64 := BitVec.ofNat 64 (leGet b o 8)
  { ctrl := w 0, nSect := leGet b 4 1, first := leGet b 6 2, trigger := w 8, pv := w 12, sp := w 16, dst := w 20,
    spConst := w 24, check := w 28, outMin := d 32, outMax := d 40, kff := d 48, rampRate := d 56, rampAcc := d 64 }

/-- The bytes 0x00 to 0x1B of a descriptor. -/
def descHead (d : Desc) : List Byte :=
  leNat 4 d.ctrl.toNat ++ leNat 1 d.nSect ++ [0] ++ leNat 2 d.first ++ leNat 4 d.trigger.toNat ++ leNat 4 d.pv.toNat ++
    leNat 4 d.sp.toNat ++ leNat 4 d.dst.toNat ++ leNat 4 d.spConst.toNat
/-- The bytes 0x20 to 0x47 of a descriptor. -/
def descTail (d : Desc) : List Byte :=
  [d.outMin, d.outMax, d.kff, d.rampRate, d.rampAcc].flatMap fun v => leNat 8 v.toNat

/-- The 128 bytes of a chain descriptor (R82). -/
def descBytes (d : Desc) : List Byte := descHead d ++ leNat 4 d.check.toNat ++ descTail d ++ List.replicate 56 0

/-- The check field of a chain (R111): descriptor spans, then each section's coefficients in the active bank and its
flags. -/
def chainCheck (d : Desc) (bankB : Bool) (ss : List Sect) : Word :=
  cv0 (descHead d ++ descTail d ++ ss.flatMap fun s =>
    ((if bankB then s.b else s.a).flatMap fun v => leNat 8 v.toNat) ++ leNat 2 s.flags.toNat)

/-- The fields of a descriptor's ctrl word. -/
def Desc.startMode (d : Desc) : Nat := getField d.ctrl 1 0
def Desc.fast (d : Desc) : Bool := d.ctrl.getLsbD 2
def Desc.bumpless (d : Desc) : Bool := d.ctrl.getLsbD 3
def Desc.dir (d : Desc) : Bool := d.ctrl.getLsbD 4
def Desc.ffAtOut (d : Desc) : Bool := d.ctrl.getLsbD 5
def Desc.ffSrc (d : Desc) : Nat := getField d.ctrl 7 6
def Desc.rampEn (d : Desc) : Bool := d.ctrl.getLsbD 8
def Desc.badqAct (d : Desc) : Bool := d.ctrl.getLsbD 9
/-- Kind and index of a source or destination word (R83). -/
def srcKind (w : Word) : Nat := getField w 31 28
def srcIdx (w : Word) : Nat := getField w 27 0
/-- The trigger's kind (R84). -/
def Desc.trigKind (d : Desc) : Nat := getField d.trigger 3 0

def Sect.integ (s : Sect) : Bool := s.flags.getLsbD 0
def Sect.clamp (s : Sect) : Bool := s.flags.getLsbD 1
/-- The coefficients of a bank. -/
def Sect.bank (s : Sect) (bankB : Bool) : List F64 := if bankB then s.b else s.a

/-! ### State -/

def Half.chainSt (x : Half) (c : Nat) : ChainSt := x.ce.chains.get {} c

/-- The nominal sample period T of a chain as a fraction of a second (R84): of an FI-triggered chain the measured edge
interval; 0 in the second place where there is none. -/
def Half.chainPeriod (x : Half) (c : Nat) (d : Desc) : Nat × Nat :=
  match d.trigKind with
  | 1 => (getField d.trigger 13 4, 100000)
  | 2 => (1, aiRate (x.fld (Reg.AI_CFG (getField d.trigger 8 4)) 3 2))
  | 3 => (getField d.trigger 31 16, 2000000)
  | _ => match (x.chainSt c).edgeGap with
    | some g => (g, 1000000000)
    | none => (0, 0)

/-- T in seconds. -/
def Half.chainT (x : Half) (c : Nat) (d : Desc) : F64 := f64rat (x.chainPeriod c d).1 (x.chainPeriod c d).2

/-- P and N of a periodic trigger in ns (R84). -/
def Desc.phaseNs (d : Desc) : Nat := getField d.trigger 23 14 * 10000
def Desc.periodNs (d : Desc) : Nat := max 1 (getField d.trigger 13 4) * 10000

/-- The number of the periodic boundary at or before a monotonic time (R85). -/
def Desc.slot (d : Desc) (t : DWord) : Nat := (t.toNat - d.phaseNs) / d.periodNs

/-- The monotonic time less P × 10 µs is a whole multiple of N × 10 µs, within one tick (R85). -/
def Half.onBoundary (x : Half) (d : Desc) : Bool :=
  Nat.ble d.phaseNs x.mono.toNat && Nat.blt ((x.mono.toNat - d.phaseNs) % d.periodNs * 2 ^ 32) (max 1 x.tickInc.toNat)

/-- A periodic trigger that may fire now (R85): on its boundary, and once on it. Any other trigger is told by its
event. -/
def Half.fires (x : Half) (c : Nat) (d : Desc) : Bool :=
  x.timed && (d.trigKind != 1 || (x.onBoundary d && match (x.chainSt c).lastTrig with
    | some t => d.slot t != d.slot x.mono || Nat.blt t.toNat d.phaseNs
    | none => true))
def Half.modChain (x : Half) (c : Nat) (f : ChainSt → ChainSt) : Half :=
  { x with ce := { x.ce with chains := x.ce.chains.upd {} c f } }
def Half.desc (x : Half) (c : Nat) : Desc := x.ce.descs.get {} c
def Half.setDesc (x : Half) (c : Nat) (d : Desc) : Half := { x with ce := { x.ce with descs := x.ce.descs.put c d } }
def Half.sect (x : Half) (k : Nat) : Sect := x.ce.sects.get {} k
def Half.setSect (x : Half) (k : Nat) (s : Sect) : Half := { x with ce := { x.ce with sects := x.ce.sects.put k s } }
/-- The sections of a chain, in order. -/
def Half.chainSects (x : Half) (d : Desc) : List Sect := (List.range d.nSect).map fun i => x.sect (d.first + i)
/-- A chain's sections replaced. -/
def Half.setSects (x : Half) (first : Nat) (ss : List Sect) : Half :=
  ss.zipIdx.foldl (fun (y : Half) p => y.setSect (first + p.2) p.1) x

/-- The engine runs (R114). -/
def Half.ceOn (x : Half) : Bool := x.domainOn 3 && x.bit Reg.CE_CTRL 0

/-- An interrupt request of the engine (R114). -/
def Half.ceIrq (x : Half) (k : Nat) : Half := x.irq Reg.CE_IRQ_STAT Reg.CE_IRQ_EN k (64 + k)

/-- The mode that the status record shows (R88, R114). -/
def Half.shownMode (x : Half) (k : ChainSt) : ChainMode :=
  if k.mode == .run && x.bit Reg.CE_CTRL 1 then .tracking else k.mode

/-- The pending bit and the halt bit of a chain (R114). -/
def Half.chainShow (x : Half) (c : Nat) : Half :=
  let k := x.chainSt c
  let pend := k.swap.isSome || (k.flight.bind (·.swap)).isSome
  (x.setBit (Reg.CE_SWAP_PEND (c / 32)) (c % 32) pend).setBit (Reg.CE_HALT (c / 32)) (c % 32) (k.mode == .halted)

/-- A chain's check field recomputed (R111). -/
def Half.sealChain (x : Half) (c : Nat) : Half :=
  let d := x.desc c
  x.setDesc c { d with check := chainCheck d (x.chainSt c).bankB (x.chainSects d) }

/-- Evaluations in flight of one class (R90). -/
def Half.inFlight (x : Half) (fast : Bool) : Nat :=
  (x.ce.chains.filter fun e => e.2.flight.isSome && (x.desc e.1).fast == fast).length

/-- Evaluations in flight on a lane: of a class, or of both (R90). -/
def Half.laneLoad (x : Half) (lane : Nat) (class_ : Option Bool) : Nat :=
  (x.ce.chains.filter fun e => (e.2.flight.any fun l => l.lane == lane) && class_.all fun f => (x.desc e.1).fast == f).length

/-- The lane that takes an evaluation of a class (R90): of the lanes with one of their eight entries of the class free,
the one with the fewest evaluations in flight; the lowest of equals (DESIGN CHOICE, log 91). -/
def Half.pickLane (x : Half) (fast : Bool) : Option Nat :=
  ((List.range 4).filter fun l => Nat.blt (x.laneLoad l (some fast)) 8).foldl (fun m l => match m with
    | some k => if x.laneLoad l none < x.laneLoad k none then some l else some k
    | none => some l) none

/-- The level registers after a change, with their high-water marks and the stall bits (R90, R114). -/
def Half.ceLevels (x : Half) : Half :=
  let q := x.ce.queue.length
  let n := x.inFlight false
  let f := x.inFlight true
  let up (y : Half) (hi lo v : Nat) : Half := if y.fld Reg.CE_LEVEL_MAX hi lo < v then y.setFld Reg.CE_LEVEL_MAX hi lo v else y
  let waits (fast : Bool) : Bool := x.ce.queue.any fun e => (x.desc e.1).fast == fast
  let y : Half := ((x.setFld Reg.CE_LEVEL 8 0 q).setFld Reg.CE_LEVEL 21 16 n).setFld Reg.CE_LEVEL 29 24 f
  let y : Half := up (up (up y 8 0 q) 21 16 n) 29 24 f
  let full (fast : Bool) : Bool := (y.pickLane fast).isNone && waits fast
  ((y.setBit Reg.CE_STAT 0 (n + f != 0)).setBit Reg.CE_STAT 2 (full false)).setBit Reg.CE_STAT 3 (full true)

/-! ### Swaps and modes -/

/-- A mark in the state of a CHAIN_SWAP instance: 1 done, 2 aborted (R101). -/
def Half.markInst (x : Half) (w : Option (Nat × Nat)) (v : DWord) : Half :=
  match w with
  | some (t, i) => match x.task.tasks.get? t with
    | some k =>
      let n : InstSt := k.insts.get {} i
      let n : InstSt := { n with st := [n.st.headD 0, v] ++ n.st.drop 2 }
      { x with task := { x.task with tasks := x.task.tasks.put t { k with insts := k.insts.put i n } } }
    | none => x
  | none => x

/-- A swap request ends: completed, with the station time of its sample's trigger, or aborted (R100, R101, R330). -/
def Half.endSwap (x : Half) (c : Nat) (w : Swap) (ok : Bool) (t : DWord) : Half :=
  let pl := if ok then leNat 2 (x.chainSt c).swapCnt.toNat ++ [0, 0] ++ leBytes 8 t else []
  (x.finishCmd w.cmd (if ok then ST_OK else ST_ABORTED) pl).markInst w.inst (if ok then 1 else 2)

/-- The bank switches (R100): counted, its check recomputed, traces triggered, the request completed. -/
def Half.switchBank (x : Half) (c : Nat) (w : Swap) (t : DWord) : Half :=
  let y : Half := x.modChain c fun k => { k with bankB := w.bankB, swapCnt := k.swapCnt + 1 }
  (((y.sealChain c).tcEvent 4 c).endSwap c w true t).chainShow c

/-- A pending swap switches the bank without a sample (R100). -/
def Half.flushSwap (x : Half) (c : Nat) : Half :=
  match (x.chainSt c).swap with
  | some w => (x.modChain c fun k => { k with swap := none }).switchBank c w x.now
  | none => x

/-- A swap request (R100). -/
def Half.requestSwap (x : Half) (c : Nat) (w : Swap) : Half :=
  let k := x.chainSt c
  let y : Half := match k.swap with
    | some o => (x.modChain c fun k => { k with swap := none }).endSwap c o false 0
    | none => x
  let active := ((k.flight.bind (·.swap)).map (·.bankB)).getD k.bankB
  let y : Half := if w.bankB == active then y.endSwap c w true y.now
    else match k.mode with
      | .off => y.switchBank c w y.now
      | .hold => y.switchBank c w y.now
      | _ => y.modChain c fun k => { k with swap := some w }
  y.chainShow c

/-- A swap request or a mode change forwarded to the standby half (R107). -/
def Half.forwardCe (x : Half) (i : CfgItem) : Half := if x.isActive then x.spanRel fun seq n => .cfg seq n i else x

/-- The states of a chain's sections cleared to 0.0. -/
def Half.clearStates (x : Half) (c : Nat) : Half :=
  let d := x.desc c
  x.setSects d.first ((x.chainSects d).map fun s => { s with s1 := 0, s2 := 0 })

/-- A mode command (R88). -/
def Half.setMode (x : Half) (c : Nat) (m : ChainMode) : Half :=
  let k := x.chainSt c
  let bump := (x.desc c).bumpless
  let put (y : Half) (m : ChainMode) : Half := (y.modChain c fun k => { k with mode := m, nonfinite := false }).chainShow c
  if !k.present then x
  else match k.mode, m with
    | .off, .run =>
      let y : Half := if bump then x else x.clearStates c
      put (y.modChain c fun k => { k with retarget := bump, rampStart := true }) .run
    | .off, .hold => put (x.clearStates c) .hold
    | .run, .hold => (put (x.tgChainStop c) .hold).flushSwap c
    | .run, .off => (put (x.tgChainStop c) .off).flushSwap c
    | .hold, .run => put (x.modChain c fun k => { k with retarget := bump }) .run
    | .hold, .off => put x .off
    | .halted, .off => (put (x.clearStates c) .off).flushSwap c
    | _, _ => x

/-- RESTART of a halted chain (R88, R100, R105). -/
def Half.restartChain (x : Half) (c : Nat) : Half :=
  if (x.chainSt c).present && (x.chainSt c).mode == .halted then
    let y : Half := (x.clearStates c).modChain c fun k =>
      { k with mode := .run, nonfinite := false, rampStart := true, retarget := false }
    (y.flushSwap c).chainShow c
  else x

/-! ### Configuration -/

/-- A chain's descriptor and sections as a configuration gives them (R80, R82), with the overlay of accepted writes
(R331). -/
def Half.configChain (x : Half) (c : ChainCfg) (overlay : Bool) : Desc × List Sect :=
  let d := parseDesc c.desc
  let d : Desc := if overlay then (x.ce.ovDesc.get? c.chain).getD d else d
  let ss := c.sections.zipIdx.map fun p =>
    let s := parseSect p.1
    if overlay then (x.ce.ovSect.get? (d.first + p.2)).getD s else s
  (d, ss.map fun s => { s with s1 := 0, s2 := 0, yLast := 0 })

/-- A chain put into the engine in its START_MODE with states cleared (R82, R549). -/
def Half.startChain (x : Half) (c : ChainCfg) (overlay : Bool) : Half :=
  let (d, ss) := x.configChain c overlay
  let y : Half := ((x.setDesc c.chain d).setSects d.first ss).modChain c.chain fun _ =>
    { present := true, mode := match d.startMode with
        | 1 => .run
        | 2 => .hold
        | _ => .off }
  (y.sealChain c.chain).chainShow c.chain

/-- Every chain of the current configuration loaded at a cold start (R82, R331, R549). -/
def Half.loadChains (x : Half) : Half :=
  let y : Half := { x with ce := { x.ce with descs := [], sects := [], chains := [], queue := [] } }
  (y.conf.chains.foldl (fun (z : Half) c => z.startChain c true) y).ceLevels

/-- A chain that takes another source has latched nothing from it yet (R87). -/
def ChainSt.newSources (k : ChainSt) (old new : Desc) : ChainSt :=
  { k with lastPv := if old.pv == new.pv then k.lastPv else none, lastSp := if old.sp == new.sp then k.lastSp else none }

/-- An accepted write of a chain's descriptor, with its overlay and the check recomputed (R111, R331). -/
def Half.writeDesc (x : Half) (c : Nat) (d : Desc) : Half :=
  let y : Half := ((x.setDesc c d).modChain c fun k => k.newSources (x.desc c) d).sealChain c
  { y with ce := { y.ce with ovDesc := y.ce.ovDesc.put c (y.desc c) } }

/-- Everything of a section that R549 compares. -/
def sectBody (s : Sect) : List F64 × List F64 × F64 × F64 × BitVec 16 × Nat := (s.a, s.b, s.lo, s.hi, s.flags, s.chain)

/-- A chain takes its descriptor from a new configuration (R549). -/
def Half.takeDesc (x : Half) (c slot : Nat) : Half :=
  let k := x.chainSt c
  let y : Half := x.modChain c fun k => { k with take := none }
  match (((x.cfgSlot slot).cfg.getD {}).chains.find? fun e => e.chain == c) with
  | none =>
    let z : Half := (y.setMode c .off)
    (z.modChain c fun k => { k with present := false, mode := .off }).chainShow c
  | some cc =>
    if !k.present then y.startChain cc false
    else
      let (d, ss) := y.configChain cc false
      let od := y.desc c
      let os := y.chainSects od
      if { d with check := 0 } == { od with check := 0 } && ss.map sectBody == os.map sectBody then y
      else
        let keep := d.nSect == od.nSect && d.first == od.first && ss.map (·.flags) == os.map (·.flags)
        let ss := if keep then ss.zipWith (fun s o => { s with s1 := o.s1, s2 := o.s2, yLast := o.yLast }) os else ss
        let z : Half := ((y.setDesc c d).setSects d.first ss).modChain c fun k =>
          ChainSt.newSources { k with retarget := k.retarget || d.bumpless } od d
        z.sealChain c

/-- A chain is to take its descriptor at its next sample boundary; one that runs no samples takes it now (R50). -/
def Half.scheduleTake (x : Half) (c slot : Nat) : Half :=
  if (x.chainSt c).mode == .run && (x.chainSt c).present then x.modChain c fun k => { k with take := some slot }
  else x.takeDesc c slot

/-! ### The evaluation of a sample -/

/-- A value limited to [lo, hi]. -/
def clamp64 (v lo hi : F64) : F64 := f64min (f64max v lo) hi

/-- sign(a) × b, with sign(0.0) = 0 (R548). -/
def signMul (a b : F64) : F64 := if f64lt 0 a then b else if f64lt a 0 then f64neg b else f64mul 0 b

/-- One step of the setpoint ramp (R548): r and v after a sample with the target sp. -/
def rampStep (rate acc t sp r v : F64) : F64 × F64 :=
  let d := f64sub sp r
  let goal := signMul d (f64min rate (f64sqrt (f64mul (f64mul (f64int 2) acc) (f64abs d))))
  let dv := f64mul acc t
  let v' := f64add v (f64min (f64max (f64sub goal v) (f64neg dv)) dv)
  let n := f64add r (f64mul v' t)
  if f64eq d 0 || (f64lt 0 d && f64le sp n) || (f64lt d 0 && f64le n sp) then (sp, 0) else (n, v')

/-- A section after a sample (R78, R79): its output, whether it clamped, its new states. -/
def sectStep (bankB : Bool) (s : Sect) (x : F64) : F64 × Bool × F64 × F64 :=
  let c := s.bank bankB
  let k (i : Nat) : F64 := c.getD i 0
  let y0 := f64fma (k 0) x s.s1
  let cut := s.clamp && (f64lt y0 s.lo || f64lt s.hi y0)
  let y := if cut then clamp64 y0 s.lo s.hi else y0
  let s1 := f64fma (k 1) x (f64fma (f64neg (k 3)) y s.s2)
  let s2 := f64fma (k 2) x (f64fma (f64neg (k 4)) y 0)
  (y, cut, s1, s2)

/-- The index of the last INTEG section. -/
def lastInteg (ss : List Sect) : Option Nat :=
  ss.zipIdx.foldl (fun m p => if p.1.integ then some p.2 else m) none

/-- G and H of the sections after an INTEG section (R102): the output is G·u + H; `ff` enters the last of them where
feed-forward is added there. -/
def affine (bankB : Bool) (ss : List Sect) (ff : Option F64) : F64 × F64 :=
  ss.zipIdx.foldl (fun m p =>
    let b0 := (p.1.bank bankB).headD 0
    let h := match ff with
      | some f => if p.2 + 1 = ss.length then f64add m.2 f else m.2
      | none => m.2
    (f64mul m.1 b0, f64fma b0 h p.1.s1)) (f64int 1, 0)

/-- What a sample computes. -/
structure Evaluated where
  u : F64
  out : F64
  sects : List Sect
  satLo : Bool
  satHi : Bool
  sections : Nat
  finite : Bool
  deriving DecidableEq, Repr

/-- The sections of a chain from section k on: input x, feed-forward at the last section, the re-targeting of section
`tgt` to u*, done sections with their new values (section at the boundary, y, clamped, s1, s2). -/
def runSects (bankB : Bool) (ffIn : Option F64) (n : Nat) (goal : Option (Nat × F64)) :
    List Sect → Nat → F64 → List (Sect × F64 × Bool × F64 × F64) → F64 × List (Sect × F64 × Bool × F64 × F64)
  | [], _, x, acc => (x, acc)
  | s :: t, k, x, acc =>
    let x := match ffIn with
      | some f => if k + 1 = n then f64add x f else x
      | none => x
    let s : Sect := match goal with
      | some (j, u) => if j = k then { s with s1 := f64sub u (f64mul ((s.bank bankB).headD 0) x) } else s
      | none => s
    let (y, cut, s1, s2) := sectStep bankB s x
    runSects bankB ffIn n goal t (k + 1) y (acc ++ [(s, y, cut, s1, s2)])

/-- The sections, summing points, feed-forward and clamp of one sample (R81, R97, R98, R102, R103). `target` is the
output that a re-targeted sample meets, with the SAT bits at the swap: of a saturated chain u counts as the limit for
SAT and R98, and the output stays at the held one (R103, R104, R549). -/
def evalSects (d : Desc) (ss : List Sect) (bankB : Bool) (x ff gOut : F64) (target : Option (F64 × Bool × Bool)) :
    Evaluated :=
  let ffIn := if d.ffAtOut then none else some ff
  let goal : Option (Nat × F64) := match target, lastInteg ss with
    | some (t, _, _), some k =>
      let (g, h) := affine bankB (ss.drop (k + 1)) (if ss.length = k + 1 then none else ffIn)
      let h := f64add h gOut
      let h := if d.ffAtOut then f64add h ff else h
      some (k, f64div (f64sub t h) g)
    | _, _ => none
  let (v, done) := runSects bankB ffIn ss.length goal ss 0 x []
  let u := f64add v gOut
  let u := if d.ffAtOut then f64add u ff else u
  let kept := match target, goal with
    | some (_, lo, hi), some _ => if lo || hi then some (lo, hi) else none
    | _, _ => none
  let (lo, hi) := kept.getD (f64le u d.outMin, f64le d.outMax u)
  let u := match kept with
    | some (true, _) => d.outMin
    | some (_, true) => d.outMax
    | _ => u
  let out := match target, kept with
    | some (t, _, _), some _ => clamp64 t d.outMin d.outMax
    | _, _ => clamp64 u d.outMin d.outMax
  let sects := done.zipIdx.map fun p =>
    let (s, y, _, s1, s2) := p.1
    let cut := (done.drop p.2).any fun e => e.2.2.1
    if s.integ && (lo || hi || cut) then { s with yLast := y } else { s with s1 := s1, s2 := s2, yLast := y }
  { u := u, out := out, sects := sects, satLo := lo, satHi := hi, sections := ss.length
    finite := f64fin u && done.all fun e => f64fin e.2.1 && f64fin e.2.2.2.1 && f64fin e.2.2.2.2 && f64fin e.1.s1 }

end Sys2Proof.Machine
end

