-- ==== Sys2Proof/Machine/Ce.lean ====
section
/-! DEFINITION. The control engine: commands CHAIN_TRIGGER to CE_LEVEL_MAX_READ (chapter 4). -/
namespace Sys2Proof.Machine

/-- CHAIN_TRIGGER (R84, R85, R90, R91, R92): the sample enters the ready queue or is lost; off the boundary of a
periodic trigger nothing triggers. An FI edge is held against the chain's previous FI edge, lost or not. -/
def execChainTrigger (h : HalfId) (chain : Nat) (s : State) : Host.Outcome State Fault Refusal :=
  onHalf s h fun x =>
    let k := x.chainSt chain
    if 256 ≤ chain || !x.ceOn || !k.present || k.mode != .run || !x.fires chain (x.desc chain) then x
    else
      let fi := (x.desc chain).trigKind == 4
      let gap := k.lastTrig.map fun t => (x.mono - t).toNat
      let early := fi && gap.any fun g => Nat.blt g 10000
      let out := (x.ce.queue.filter fun e => e.1 == chain).length + (if k.flight.isSome then 1 else 0)
      let y : Half := x.modChain chain fun k => { k with
        tLast := x.now, lastTrig := some x.mono, edgeGap := if fi then gap else k.edgeGap }
      if early || 2 ≤ out || 256 ≤ y.ce.queue.length then
        let y : Half := y.modChain chain fun k =>
          { k with missed := satAdd k.missed 1, missedOvf := k.missedOvf || k.missed == 0xFFFFFFFF }
        let y : Half := if y.rd Reg.CE_LOST = 0xFFFFFFFF then y.setBit Reg.CE_STAT 1 true else y
        let y : Half := (y.incSat Reg.CE_LOST).ceIrq 0
        let due := match y.ce.lastOverload with
          | some t => decide (10000000 ≤ (y.mono - t).toNat)
          | none => true
        if due then ({ y with ce := { y.ce with lastOverload := some y.mono } } : Half).raise 88 else y
      else
        ({ y with ce := { y.ce with queue := y.ce.queue ++ [(chain, y.mono, y.now)] } } : Half).ceLevels

/-- A point's value as binary32 (R83). -/
def pointF32 (t : PType) (v : DWord) : F32 :=
  match t with
  | .bool => f32int v.toNat
  | .dint => f32int (v.setWidth 32).toInt
  | .time => f32int (v.setWidth 32).toInt
  | .dword => f32int (v.setWidth 32).toNat
  | .real => v.setWidth 32
  | .lreal => f32of64 v

/-- A source's value and quality (R83, R87): good where the source carries none. -/
def Half.chainSource (x : Half) (k : ChainSt) (d : Desc) (w : Word) : F32 × Byte :=
  let i := srcIdx w
  match srcKind w with
  | 1 => (x.rd (Reg.AI_EU i), BitVec.ofNat 8 (x.fld (Reg.AI_STAT i) 7 0))
  | 2 => (x.rd (Reg.VD_I_SAR i), qGood)
  | 3 => (x.rd (Reg.FI_SPEED i), qGood)
  | 4 => let v := pointVal (x.point i); (pointF32 ((x.pointCfg i).elim .real (·.typ)) v.v, v.q)
  | 5 => ((x.chainSt i).out, qGood)
  | 6 => (k.spIo, qGood)
  | 7 => (d.spConst, qGood)
  | 8 => (x.tgValue i, qGood)
  | 10 => (k.spCascade, qGood)
  | _ => (0, qGood)

/-- A value that a chain may evaluate with (R87, R105). -/
def usable (s : F32 × Byte) : Bool := qClass s.2 != 0 && f32fin s.1

/-- The master of a chain's same-boundary cascade has not yet written the output of its sample of the same boundary
(R106): the sample waits or is in flight, or the boundary is now and the master, in RUN, has still to be triggered. -/
def Half.waitsMaster (x : Half) (c : Nat) (trig : DWord) : Bool :=
  let d := x.desc c
  let same (t : DWord) : Bool := d.slot t == d.slot trig
  srcKind d.sp == 10 && d.trigKind == 1 && x.ce.descs.any fun e =>
    srcKind e.2.dst == 3 && srcIdx e.2.dst == c && e.2.trigKind == 1 && e.1 != c &&
    getField e.2.trigger 23 4 == getField d.trigger 23 4 &&
    ((x.ce.queue.any fun q => q.1 == e.1 && same q.2.1) || ((x.chainSt e.1).flight.any fun l => same l.trig) ||
      ((x.chainSt e.1).present && (x.chainSt e.1).mode == .run && x.mono == trig && x.fires e.1 e.2))

/-- The sample that the dispatcher takes next (R90, R91, R106): the first of the class that may start. -/
def Half.nextSample (x : Half) : Option (Nat × DWord × DWord) :=
  let ok (fast : Bool) (e : Nat × DWord × DWord) : Bool :=
    (x.desc e.1).fast == fast && (x.chainSt e.1).flight.isNone && !x.waitsMaster e.1 e.2.1
  let pick (fast : Bool) := if (x.pickLane fast).isSome then x.ce.queue.find? (ok fast) else none
  match pick true with
  | some e => some e
  | none => pick false

/-- The values of the active half replace the standby half's own (R107). A HALTED chain keeps its own: its states are
frozen, and only RESTART or OFF leaves that mode (R88, R105). -/
def Half.trackChain (x : Half) (c : Nat) (t : TrackChain) : Half :=
  if (x.chainSt c).mode == .halted then x.modChain c fun k => { k with track := none }
  else
  let d := x.desc c
  let ss := (x.chainSects d).zipIdx.map fun p =>
    match t.integ.find? fun e => e.1 == d.first + p.2 with
    | some (_, s1, s2) => { p.1 with s1 := s1, s2 := s2 }
    | none => p.1
  let y : Half := (x.setSects d.first ss).modChain c fun k => { k with
    track := none, out := t.out, satHi := t.satHi, satLo := t.satLo, mode := t.mode, bankB := t.bankB, tDone := t.tLast }
  (y.sealChain c).chainShow c

/-- The quality that an object destination takes from the PV source (R53, R87): a non-finite value counts as bad (R105),
without a substatus. -/
def pvQuality (s : F32 × Byte) : Byte := if f32fin s.1 then s.2 &&& 0xFD else qByte 0 0

/-- Trace sources of a chain (R134): section outputs, x, the output, the latency stamp, the values of the generators
that inject into it or are its process value. -/
def Half.chainTrace (x : Half) (c : Nat) (d : Desc) (l : Latch) (lat : Option Word) : Half :=
  if !x.isActive then x
  else
    let k := x.chainSt c
    let y : Half := (List.range d.nSect).foldl (fun (y : Half) i =>
      y.tcSource 1 (d.first + i) (f32of64 (y.sect (d.first + i)).yLast) l.held) x
    let y : Half := (y.tcSource 2 c k.in_ l.held).tcSource 3 c k.out l.held
    let y : Half := match lat with
      | some v => y.tcSource 4 c v l.held
      | none => y
    (List.range 4).foldl (fun (y : Half) g =>
      if y.bit (Reg.TG_CTRL g) 12 && y.fld (Reg.TG_CTRL g) 11 4 = c then
        y.tcSource 6 g (if y.tgState g != 2 then 0 else if y.bit (Reg.TG_CTRL g) 3 then l.gOut else l.gIn) l.held
      else if srcKind d.pv = 8 && srcIdx d.pv = g then y.tcSource 6 g l.pv l.held
      else y) y

/-- What a dispatched sample latches (R86, R87, R100). A sample that is not evaluated occupies no entry of a lane and is
over at once; the traces of its chain see the held values (R90, R134). -/
def Half.latchSample (y : Half) (c : Nat) (trig tTrig : DWord) : Half :=
  let k := y.chainSt c
  let d := y.desc c
  let pv := y.chainSource k d d.pv
  let sp := y.chainSource k d d.sp
  let bad := !usable pv || !usable sp
  let lastPv := if usable pv then some pv.1 else k.lastPv
  let lastSp := if usable sp then some sp.1 else k.lastSp
  let skip := k.mode != .run || k.holdOne || (bad && (!d.badqAct || lastPv.isNone || lastSp.isNone))
  let (m, y) := match d.ffSrc with
    | 1 => y.fieldVolts 0
    | 2 => y.fieldVolts 1
    | _ => (0, y)
  let gap := srcKind d.pv == 1 && y.bit (Reg.AI_STAT (srcIdx d.pv)) 13
  let l : Latch := {
    trig := trig, tTrig := tTrig, pv := lastPv.getD 0, sp := lastSp.getD 0, ff := k.ffTask, m := m
    gIn := if y.isActive then y.injection c 0 else 0
    gOut := if y.isActive then y.injection c 1 else 0
    swap := if skip then none else k.swap
    bankB := if skip then k.bankB else (k.swap.map (·.bankB)).getD k.bankB
    bump := !skip && (k.retarget || (k.swap.any (·.bumpless)))
    outEn := y.bit Reg.CE_CTRL 2, held := skip || gap, lane := (y.pickLane d.fast).getD 0, q := pvQuality pv }
  let y : Half := y.modChain c fun k => { k with
    flight := if skip then none else some l, holdOne := false, badq := bad, lastPv := lastPv, lastSp := lastSp
    swap := if skip then k.swap else none
    retarget := if skip then k.retarget else false }
  let y : Half := if skip then y.chainTrace c d l none else y
  (y.chainShow c).ceLevels

/-- A chain's oldest sample leaves the ready queue; the chain takes a waiting descriptor and tracked values (R90, R107,
R549). -/
def Half.dequeueSample (x : Half) (c : Nat) : Half :=
  let q := x.ce.queue
  let i := (q.findIdx? fun e => e.1 == c).getD 0
  let y : Half := { x with ce := { x.ce with queue := q.take i ++ q.drop (i + 1) } }
  let y : Half := match (y.chainSt c).take with
    | some slot => y.takeDesc c slot
    | none => y
  match (y.chainSt c).track with
  | some t => y.trackChain c t
  | none => y

/-- SAMPLE_DISPATCH (R86, R87, R100, R107, R549): the chain takes a waiting descriptor and tracked values, then
latches its sources, injections, mode, bank and swap. A chain that no longer runs evaluates nothing. -/
def execSampleDispatch (h : HalfId) (s : State) : Host.Outcome State Fault Refusal :=
  onHalf s h fun x =>
    match (if x.ceOn then x.nextSample else none) with
    | none => x
    | some (c, trig, tTrig) =>
      let y : Half := x.dequeueSample c
      let k := y.chainSt c
      if k.mode == .off || k.mode == .halted then y.ceLevels else y.latchSample c trig tTrig

/-- A chain's output as the value of a point. No configuration is accepted with a point of another type
(R249): such a point would take a free value (log 2). -/
def Half.outAs (x : Half) (t : PType) (out : F32) : DWord × Half :=
  match t with
  | .real => (out.setWidth 64, x)
  | .lreal => (f64of32 out, x)
  | .bool => let (v, y) := x.free; (v &&& 1, y)
  | .dword => let (v, y) := x.free; ((v.setWidth 32).setWidth 64, y)
  | .dint => let (v, y) := x.free; ((v.setWidth 32).signExtend 64, y)
  | .time => let (v, y) := x.free; ((v.setWidth 32).signExtend 64, y)

/-- A chain's output written to its destination (R81, R83, R107): kinds 1, 2 and 4 only while OUT_EN holds and held at
the sample's dispatch (R109). -/
def Half.chainOutput (x : Half) (d : Desc) (l : Latch) (out : F32) : Half :=
  let en := l.outEn && x.bit Reg.CE_CTRL 2
  let i := srcIdx d.dst
  match srcKind d.dst with
  | 1 => if en then x.drive (.ao i) { v := out.setWidth 64, q := l.q } else x
  | 2 => if en && i < 8 then x.setIref i out else x
  | 3 => x.modChain i fun k => { k with spCascade := out }
  | 4 =>
    if !en then x
    else
      let (v, y) := x.outAs ((x.pointCfg i).elim .real fun p => p.typ) out
      y.drive (.obj i) { v := v, q := l.q }
  | 9 => if i < 8 then x.tcUpdate i out l.held else x
  | _ => x

/-- CE_LOAD (R114): sections of the last completed 1 ms of monotonic time. -/
def Half.ceLoad (x : Half) (n : Nat) : Half :=
  let ms := x.mono.toNat / 1000000
  if ms = x.ce.loadMs then { x with ce := { x.ce with loadCount := x.ce.loadCount + n } }
  else
    let last := if ms = x.ce.loadMs + 1 then x.ce.loadCount else 0
    ({ x with ce := { x.ce with loadMs := ms, loadCount := n } } : Half).setFld Reg.CE_LOAD 18 0 last

/-- A sample with a non-finite result is discarded and the chain halts (R105); its swap stays pending (R100). -/
def Half.haltChain (x : Half) (c : Nat) (l : Latch) : Half :=
  let y : Half := (x.tgChainStop c).modChain c fun k => { k with
    mode := .halted, nonfinite := true, flight := none
    swap := match k.swap with
      | some w => some w
      | none => l.swap }
  let y : Half := match (x.chainSt c).swap, l.swap with
    | some _, some w => y.endSwap c w false 0
    | _, _ => y
  ((y.chainShow c).ceIrq 1).raise 89

/-- The sample's results are written: section states, status record, output, swap and traces (R94, R97, R98, R100,
R110). -/
def Half.writeSample (x : Half) (chain : Nat) (l : Latch) (ev : Evaluated) (xin r v r1 : F64) : Half :=
  let d := x.desc chain
  let out := f32of64 ev.out
  let cyc := (x.mono - l.trig).toNat / 2
  let lat : Word := BitVec.ofNat 32 (min cyc 0xFFFFFFFF)
  let y : Half := (x.setSects d.first ev.sects).modChain chain fun k => { k with
    flight := none, satLo := ev.satLo, satHi := ev.satHi, rampStart := false
    latLast := lat, latMax := if lat.ult k.latMax then k.latMax else lat
    latOvf := k.latOvf || decide (0xFFFFFFFF < cyc), samples := k.samples + 1
    out := out, in_ := f32of64 xin, sp := f32of64 r, spCmd := l.sp, tDone := l.tTrig
    r := r, v := v, r1 := r, r2 := r1 }
  let y : Half := y.chainOutput d l out
  let y : Half := match l.swap with
    | some w => (y.switchBank chain w l.tTrig).ceIrq 2
    | none => y
  let y : Half := if y.isActive then y.evrValue (0x1D0 + chain) (f64int lat.toNat) else y
  (((y.chainTrace chain d l (some lat)).tgSample chain).chainShow chain).ceLevels

/-- The end of an evaluated sample (R81, R94, R97, R98, R102, R105, R110). -/
def Half.completeSample (x : Half) (chain : Nat) (l : Latch) : Half :=
  let k := x.chainSt chain
  let d := x.desc chain
  let (t, x) := if (x.chainPeriod chain d).2 = 0 then x.free else (x.chainT chain d, x)
  let spc := f64of32 l.sp
  let pv := f64of32 l.pv
  let (r0, v0) := if k.rampStart then (spc, 0) else (k.r, k.v)
  let (r, v) := if d.rampEn then rampStep d.rampRate d.rampAcc t spc r0 v0 else (spc, 0)
  let (r1, r2) := if k.rampStart then (r, r) else (k.r1, k.r2)
  let m := if d.ffSrc = 3 then
      f64div (f64add (f64sub r (f64mul (f64int 2) r1)) r2) (f64mul t t)
    else l.m
  let e := if d.dir then f64sub pv r else f64sub r pv
  let xin := f64add e (f64of32 l.gIn)
  let ff := f64fma d.kff m (f64of32 l.ff)
  let ev := evalSects d (x.chainSects d) l.bankB xin ff (f64of32 l.gOut)
    (if l.bump then some (f64of32 k.out, k.satLo, k.satHi) else none)
  let x : Half := x.ceLoad ev.sections
  if !ev.finite then (x.haltChain chain l).ceLevels else x.writeSample chain l ev xin r v r1

/-- CHAIN_SAMPLE_COMPLETE (R81, R94, R97, R98, R102, R105, R110). -/
def execChainSampleComplete (h : HalfId) (chain : Nat) (s : State) : Host.Outcome State Fault Refusal :=
  onHalf s h fun x =>
    match (x.chainSt chain).flight with
    | none => x
    | some l => x.completeSample chain l

/-- What CE_TRACK carries for a chain (R107). -/
def Half.trackOf (x : Half) (c : Nat) (k : ChainSt) : TrackChain :=
  let d := x.desc c
  { chain := c, tLast := k.tDone, out := k.out, satHi := k.satHi, satLo := k.satLo, mode := k.mode, bankB := k.bankB
    integ := (List.range d.nSect).filterMap fun i =>
      let s := x.sect (d.first + i)
      if s.integ then some (d.first + i, s.s1, s.s2) else none }

/-- A CE_TRACK frame of every chain in RUN or HOLD (R107). -/
def Half.sendTrack (x : Half) : Half :=
  let ts := (x.ce.chains.filter fun e => e.2.present && (e.2.mode == .run || e.2.mode == .hold)).map fun e => x.trackOf e.1 e.2
  x.spanPut fun seq => .ceTrack seq ts

/-- CE_TRACK_SEND (R107). -/
def execCeTrackSend (h : HalfId) (s : State) : Host.Outcome State Fault Refusal :=
  onHalf s h fun x => if x.isActive then x.every .track 1000 Half.sendTrack else x

/-- The comparison of R108 for one chain: ten frames in a row beyond the threshold. -/
def Half.trackDev (x : Half) (t : TrackChain) : Half :=
  let k := x.chainSt t.chain
  let d := x.desc t.chain
  let lim := f64mul (f64div (f64int (x.fld Reg.CE_TRK_DEV 15 0)) (f64int 65536)) (f64sub d.outMax d.outMin)
  let far := f64lt lim (f64abs (f64sub (f64of32 k.out) (f64of32 t.out)))
  let n := if far then min 10 (k.devCount + 1) else 0
  let y : Half := x.modChain t.chain fun k => { k with devCount := n }
  if n = 10 && k.devCount < 10 then (y.ceIrq 4).raise 91 else y

/-- One chain of a tracking frame (R107, R108). -/
def Half.takeTrack (y : Half) (t : TrackChain) : Half :=
  let k := y.chainSt t.chain
  if !k.present then y
  else
    let z : Half := y.trackDev t
    if k.mode == .run then z.modChain t.chain fun k => { k with track := some t } else z.trackChain t.chain t

/-- CE_TRACK (R107, R108, R192, R207): consumed in SYNCING and STANDBY, and the final one of a handover on the incoming
half; compared, and replaced at the chain's next sample boundary; a chain that runs no samples is
replaced at once. -/
def execCeTrack (h : HalfId) (hdr : SpanHdr) (chains : List (TrackChain)) (s : State) : Host.Outcome State Fault Refusal :=
  onHalf s h fun x =>
    if !x.linked then x
    else
      let y : Half := x.spanAccept hdr
      if y.st == .syncing || y.st == .standby || (y.st == .active && y.role.ho.any fun k => !k.outgoing) then
        chains.foldl Half.takeTrack y
      else y

/-- A CE_CMD (R88), forwarded to the standby half (R107). -/
def Half.ceCmd (x : Half) (c : Nat) (m : ChainMode) : Half :=
  if c < 256 && x.domainOn 3 then (x.setMode c m).forwardCe (.mode c m) else x

/-- CE_CMD_RUN (R88). -/
def execCeCmdRun (h : HalfId) (chain : Nat) (s : State) : Host.Outcome State Fault Refusal :=
  onHalf s h fun x => x.ceCmd chain .run
/-- CE_CMD_HOLD (R88). -/
def execCeCmdHold (h : HalfId) (chain : Nat) (s : State) : Host.Outcome State Fault Refusal :=
  onHalf s h fun x => x.ceCmd chain .hold
/-- CE_CMD_OFF (R88). -/
def execCeCmdOff (h : HalfId) (chain : Nat) (s : State) : Host.Outcome State Fault Refusal :=
  onHalf s h fun x => x.ceCmd chain .off
/-- CE_CMD_RESTART (R88), forwarded to the standby half (R107). -/
def execCeCmdRestart (h : HalfId) (chain : Nat) (s : State) : Host.Outcome State Fault Refusal :=
  onHalf s h fun x => if chain < 256 && x.domainOn 3 then (x.restartChain chain).forwardCe (.restart chain) else x

/-- CE_SWAP (R100): a request without a mailbox command, forwarded to the standby half (R107). -/
def execCeSwap (h : HalfId) (chain : Nat) (bankB : Bool) (bumpless : Bool) (s : State) : Host.Outcome State Fault Refusal :=
  onHalf s h fun x =>
    if chain < 256 && x.domainOn 3 && (x.chainSt chain).present then
      (x.requestSwap chain { bankB := bankB, bumpless := bumpless }).forwardCe (.swap chain bankB bumpless)
    else x

/-- CE_LEVEL_MAX_READ (R9, R114): the marks are returned, and cleared. -/
def execCeLevelMaxRead (h : HalfId) (s : State) : Host.Outcome State Fault Refusal :=
  onHalf s h fun x => { x.wr Reg.CE_LEVEL_MAX 0 with rdata := x.rd Reg.CE_LEVEL_MAX }

end Sys2Proof.Machine
end

