-- ==== Sys2Proof/Machine/DspOps.lean ====
section
/-! DEFINITION. The display engine: waveforms, regions, the journal, recovery and rails (R472 to R487). -/
namespace Sys2Proof.Machine

def Half.dspIrq (x : Half) (k : Nat) : Half := x.irq Reg.DSP_IRQ_STAT Reg.DSP_IRQ_EN k (232 + k)

def dspWidth : Nat := 1872
def dspHeight : Nat := 1404

def Half.dspPresent (x : Half) : Bool := x.bit Reg.DSP_STAT 0
/-- A journal slot holds a pending region (R480). -/
def awaits (e : JournalEntry) : Bool := e.valid && !e.done
def Half.journal (x : Half) (k : Nat) : JournalEntry := x.dsp.journal.get {} k
def Half.pendingSlots (x : Half) : List Nat := (List.range 16).filter fun k => awaits (x.journal k)
def Half.region (x : Half) (k : Nat) : Region := x.dsp.regions.get {} k
def Half.modRegion (x : Half) (k : Nat) (f : Region → Region) : Half :=
  { x with dsp := { x.dsp with regions := x.dsp.regions.upd {} k f } }

/-- PENDING, BUSY and RECOVERY shown (R481, R487). -/
def Half.dspShow (x : Half) : Half :=
  let ps := x.pendingSlots
  let y : Half := (x.setFld Reg.DSP_STAT 12 8 ps.length).setBit Reg.DSP_STAT 2 (!x.dsp.recov.isEmpty)
  y.wr Reg.DSP_BUSY (BitVec.ofNat 32 ((ps.map fun k => 2 ^ k).sum))

/-! ### Pixels and images -/

/-- The pixels of a rectangle, row by row (R472). -/
def rectPixels (x y w h : Nat) : List Nat :=
  (List.range h).flatMap fun j => (List.range w).map fun i => dspWidth * (y + j) + x + i

/-- A pixel's level in an image. -/
def levelOf (m : Tab Nat) (i : Nat) : Nat := m.get 0 i
/-- Levels written into an image. -/
def putLevels (m : Tab Nat) (is ls : List Nat) : Tab Nat := (is.zip ls).foldl (fun (m : Tab Nat) e => m.put e.1 e.2) m

/-- Levels packed two to a byte, low nibble first (R472). -/
def packLevels : List Nat → List Byte
  | [] => []
  | [a] => [BitVec.ofNat 8 (a % 16)]
  | a :: b :: t => BitVec.ofNat 8 (a % 16 + b % 16 * 16) :: packLevels t

/-- target_crc of a rectangle's levels (R480). -/
def levelsCheck (ls : List Nat) : Word := cv0 (packLevels ls)

/-- The new level of a requested one by the mode (R477). -/
def newLevel (mode l : Nat) : Nat :=
  match mode with
  | 0 => l % 16
  | 1 => if l % 16 < 8 then 0 else 15
  | _ => 15

/-! ### Waveforms (R475, R476, R479) -/

/-- The code of a frame of a waveform. -/
def frameCode (w : BitVec 128) (k : Nat) : Nat := if 64 ≤ k then 3 else w.toNat / 4 ^ k % 4

/-- The lower boundaries of bands 1 to 7, in 0.1 °C. -/
def bandBounds : List Int := [50, 100, 150, 200, 250, 320, 400]

/-- The band of a temperature: a boundary is passed upwards at its value and downwards 1 K below it (log 45). -/
def nextBand (band : Nat) (temp : Int) : Nat :=
  let up := (bandBounds.filter fun b => b ≤ temp).length
  let down := (bandBounds.filter fun b => b - 10 ≤ temp).length
  if band < up then up else min band down

def tileOf (i : Nat) : Nat := i % dspWidth / 36 + 52 * (i / dspWidth / 36)

/-- The ageing variant of a pixel. -/
def Half.variant (x : Half) (i : Nat) : Nat :=
  let n := (x.dsp.stress.get 0 (tileOf i)).toNat
  ((List.range 3).filter fun k => (x.rd (Reg.DSP_VTH k)).toNat ≤ n).length

/-- The waveform of a pixel from an old to a new level. -/
def Half.waveOf (x : Half) (i o n : Nat) : BitVec 128 :=
  let b := x.fld Reg.DSP_STAT 15 13
  match x.dsp.cover with
  | some c => ((c.waves.find? fun e => e.1 == ((o * 16 + n) * 8 + b) * 4 + x.variant i).map (·.2)).getD 3
  | none => 3

/-- The waveforms that bring a pixel from L to its new level (R477). -/
def levelSteps (l : Nat) (clear : Bool) (new : Nat) : List (Nat × Nat) := if clear then [(l, 0), (0, 15)] else [(l, new)]

/-- The next waveform of a pixel starts at this boundary; one that ends at frame 0 finishes at once. Answers L. -/
def Half.startSteps (x : Half) (i : Nat) : List (Nat × Nat) → Nat → Nat × List (Nat × Nat) × Option (BitVec 128 × Nat)
  | [], l => (l, [], none)
  | (o, n) :: t, l =>
    let w := x.waveOf i o n
    if frameCode w 0 = 3 then x.startSteps i t n else (l, (o, n) :: t, some (w, 0))

/-- A running pixel passes a frame boundary: the pixel, and its L if a waveform ended. -/
def Pix.pass (p : Pix) : Pix × Option Nat :=
  match p.wave, p.steps with
  | some (w, k), (_, n) :: t =>
    if frameCode w (k + 1) = 3 then ({ p with steps := t, wave := none }, some n) else ({ p with wave := some (w, k + 1) }, none)
  | _, _ => (p, none)

/-- Running waveforms advance; one that ends leaves its new level shown. -/
def DspBlk.pass (d : DspBlk) : DspBlk :=
  d.pix.foldl (fun (d : DspBlk) e =>
    let (p, l) := e.2.pass
    { d with pix := d.pix.put e.1 p, shown := match l with
        | some v => d.shown.put e.1 v
        | none => d.shown }) d

/-- A region's level for a pixel (R478): a free pixel is to start, a busy one takes it as pending. -/
def DspBlk.assign (d : DspBlk) (slot : Nat) (clear : Bool) (i new : Nat) : DspBlk :=
  match (d.pix.get? i).filter fun p => !p.steps.isEmpty || p.pend.isSome with
  | some p => { d with pix := d.pix.put i { p with pend := some (slot, clear, new) } }
  | none => { d with pix := d.pix.put i { slot := slot, steps := levelSteps (levelOf d.shown i) clear new } }

/-- A pixel whose waveforms have ended goes on to its pending level, and the next waveform starts unless the engine
holds (R478, DSP_CTRL.HOLD). -/
def Half.goOn (x : Half) (i : Nat) (p : Pix) : Half :=
  if p.wave.isSome || x.bit Reg.DSP_CTRL 2 then x
  else
    let (l, steps, wave) := x.startSteps i p.steps (levelOf x.dsp.shown i)
    let y : Half := { x with dsp := { x.dsp with shown := x.dsp.shown.put i l } }
    if !steps.isEmpty then { y with dsp := { y.dsp with pix := y.dsp.pix.put i { p with steps := steps, wave := wave } } }
    else match p.pend with
      | none => { y with dsp := { y.dsp with pix := y.dsp.pix.del i } }
      | some (s, c, n) =>
        let (l, steps, wave) := x.startSteps i (levelSteps l c n) l
        { y with dsp := { y.dsp with
            shown := y.dsp.shown.put i l
            pix := if steps.isEmpty then y.dsp.pix.del i else y.dsp.pix.put i { slot := s, steps := steps, wave := wave } } }

/-- The stress counters at a frame: a tile with a driven pixel counts once (R479). -/
def Half.stressFrame (x : Half) : Half :=
  let driven (p : Pix) : Bool := match p.wave with
    | some (w, k) => frameCode w k = 1 || frameCode w k = 2
    | none => false
  let tiles := ((x.dsp.pix.filter fun e => driven e.2).map fun e => tileOf e.1).eraseDups
  tiles.foldl (fun (y : Half) t =>
    let n := y.dsp.stress.get 0 t
    let y : Half := if n == 0xFFFFFFFF then y.setBit Reg.DSP_STAT 7 true else y
    let m := satAdd n 1
    let y : Half := { y with dsp := { y.dsp with stress := y.dsp.stress.put t m } }
    if (y.rd Reg.DSP_SMAX).toNat < m.toNat then y.wr Reg.DSP_SMAX m else y) x

/-! ### Regions (R478, R480, R481) -/

/-- A copy for the standby half (R484). -/
def Half.dspCopy (x : Half) (i : CfgItem) : Half := if x.isActive then x.spanRel fun seq n => .cfg seq n i else x

/-- A pixel still works for a slot. -/
def DspBlk.worksFor (d : DspBlk) (slot : Nat) : Bool :=
  d.pix.any fun e => (e.2.slot == slot && !e.2.steps.isEmpty) || e.2.pend.any fun q => q.1 == slot

/-- A region's completion mark (R480 step 6): its command completes (R335). -/
def Half.regionDone (x : Half) (slot : Nat) : Half :=
  let e := x.journal slot
  let r := x.region slot
  let y : Half := { x with dsp := { x.dsp with
      journal := x.dsp.journal.put slot { e with done := true }
      regions := x.dsp.regions.del slot } }
  let y : Half := (((y.dspCopy (.journalDone slot)).incSat Reg.DSP_UPD).dspIrq 0).dspShow
  y.finishCmd r.cmd ST_OK [BitVec.ofNat 8 slot, BitVec.ofNat 8 y.pendingSlots.length, 0, 0]

/-- The levels of a rectangle in T. -/
def Half.targetLevels (x : Half) (e : JournalEntry) : List Nat :=
  (rectPixels e.x e.y e.w e.h).map (levelOf x.dsp.target)

/-- A region starts at a frame boundary toward its new levels (R478). -/
def Half.regionStart (x : Half) (slot : Nat) : Half :=
  let e := x.journal slot
  let is := rectPixels e.x e.y e.w e.h
  let d : DspBlk := (is.zip (x.region slot).levels).foldl (fun (d : DspBlk) q => d.assign slot (e.mode == 2) q.1 q.2) x.dsp
  let y : Half := { x with dsp := d }
  (y.modRegion slot fun r => { r with started := true }).dspIrq 1

/-- A region may start: its entry is acknowledged, or the wait for that is over (R484). -/
def Half.regionReady (x : Half) (slot : Nat) : Bool :=
  let r := x.region slot
  !r.started && r.phase = 0 && !x.dsp.recov.contains slot && (r.ready || r.item.elim true fun n => !x.span.unacked.any fun u => u.item == n)

/-- The first slot to recover goes one step on (R481): clearing, then driving to T, then its mark. -/
def Half.recoverStep (x : Half) : Half :=
  match x.dsp.recov with
  | [] => x
  | slot :: rest =>
    let e := x.journal slot
    let is := rectPixels e.x e.y e.w e.h
    let r := x.region slot
    if r.phase = 0 then
      let y : Half := { x with dsp := is.foldl (fun (d : DspBlk) i =>
          { d with pix := d.pix.put i { slot := slot, steps := [(0, 15), (15, 0), (0, 15)], pend := (d.pix.get? i).bind (·.pend) } }) x.dsp }
      y.modRegion slot fun r => { r with started := true, phase := 1 }
    else if x.dsp.worksFor slot then x
    else if r.phase = 1 then
      let ls := x.targetLevels e
      let y : Half := if levelsCheck ls == e.targetCrc then x else x.setBit Reg.DSP_STAT 3 true
      let y : Half := { y with dsp := (is.zip ls).foldl (fun (d : DspBlk) q =>
          if ((d.pix.get? q.1).filter fun p => !p.steps.isEmpty || p.pend.isSome).isSome then d
          else { d with pix := d.pix.put q.1 { slot := slot, steps := [(levelOf d.shown q.1, q.2)] } }) y.dsp }
      y.modRegion slot fun r => { r with phase := 2 }
    else
      let y : Half := (({ x with dsp := { x.dsp with recov := rest } } : Half).regionDone slot).logEvt .panelRecovery
      if rest.isEmpty then y.dspIrq 2 else y

/-- A slot put before the first one of a later sequence. -/
def Half.seqInsert (x : Half) (k : Nat) : List Nat → List Nat
  | [] => [k]
  | j :: t => if ((x.journal j).seq - (x.journal k).seq).toNat < 0x80000000 then k :: j :: t else j :: x.seqInsert k t

/-- The slots to recover, in seq order (R481). -/
def Half.recoverList (x : Half) : List Nat := x.pendingSlots.foldl (fun l k => x.seqInsert k l) []

/-- Recovery begins (R481): no waveform runs, and L is what T says outside the regions to recover (R473). -/
def Half.recoverAll (x : Half) : Half :=
  let y : Half := { x with dsp := { x.dsp with
      pix := [], shown := x.dsp.target, recov := x.recoverList
      regions := (x.dsp.regions.filter fun e => awaits (x.journal e.1)).map fun e => (e.1, { e.2 with phase := 0, started := false }) } }
  y.dspShow

/-- A journal entry is committed into a slot with its levels in T, copied, and its region awaits its start (R480). -/
def Half.regionCommit (x : Half) (slot : Nat) (e : JournalEntry) (levels : List Nat) (cmd : Option (Nat × Nat)) : Half :=
  let e : JournalEntry := { e with seq := x.dsp.nextSeq, targetCrc := levelsCheck levels, valid := true, done := false }
  let n := x.span.nextItem
  let y : Half := x.dspCopy (.journal slot e)
  let item := if y.span.nextItem == n then none else some n
  let y : Half := { y with dsp := { y.dsp with
      journal := y.dsp.journal.put slot e, nextSeq := y.dsp.nextSeq + 1
      target := putLevels y.dsp.target (rectPixels e.x e.y e.w e.h) levels
      regions := y.dsp.regions.put slot { item := item, at_ := x.mono, levels := levels, cmd := cmd } } }
  (y.dspCopy (.target e.x e.y e.w e.h levels)).dspShow

/-- A journal slot that is free. -/
def Half.freeSlot (x : Half) : Option Nat := (List.range 16).find? fun k => !awaits (x.journal k)

/-- A new cover's clearing sequence over the whole panel, once a slot is free (R481). -/
def Half.clearPanel (x : Half) : Half :=
  match x.dsp.clearAll, x.freeSlot with
  | true, some k =>
    let e : JournalEntry := { x := 0, y := 0, w := dspWidth, h := dspHeight, recover := true }
    let y : Half := ({ x with dsp := { x.dsp with clearAll := false } } : Half).regionCommit k e (x.targetLevels e) none
    ({ y with dsp := { y.dsp with recov := y.dsp.recov ++ [k] } } : Half).dspShow
  | _, _ => x

/-- The engine draws: enabled, its rails on, a good cover, and the panel connected to the half (R474, R485). -/
def Half.draws (x : Half) : Bool :=
  x.domainOn 6 && x.bit Reg.DSP_CTRL 0 && x.bit Reg.DSP_STAT 1 && x.dspPresent && !x.bit Reg.DSP_STAT 4 && x.claims

/-! ### Rails (R482, R483) -/

/-- The rails are discharged: no further frame, and what was running is to be recovered. -/
def Half.discharge (x : Half) : Half :=
  if x.bit Reg.DSP_STAT 1 then
    let y : Half := ((x.setBit Reg.DSP_STAT 1 false).setBit Reg.DSP_STAT 6 true).dspIrq 3
    y.recoverAll
  else x

/-- The active half uses the panel: its rails come up, and regions with no mark are recovered (R481, R485). -/
def Half.dispTake (x : Half) : Half :=
  if x.domainOn 6 then
    let y : Half := if x.dspPresent then x.orReg Reg.DSP_CTRL 3 else x
    y.recoverAll
  else x

/-- A half that is no longer active leaves the panel (log 46). -/
def Half.dispLeave (x : Half) : Half :=
  let y : Half := (x.clrReg Reg.DSP_CTRL 2).discharge
  { y with dsp := { y.dsp with pix := [], regions := [], recov := [] } }.dspShow

end Sys2Proof.Machine
end

