-- ==== Sys2Proof/Machine/Faults.lean ====
section
/-! DEFINITION. The fault collector and the lockstep pairs: commands FAULT_RAISE to CLOCK_MONITOR_WINDOW
(chapter 8; R498 of chapter 20). -/
namespace Sys2Proof.Machine

/-! ### Operations of the collector -/

/-- SW_OVERRUN handled: the overrun diagnostic of the tasks that raised it (R34). -/
def Half.noteOverruns (x : Half) : Half :=
  { x with task := { x.task with tasks := x.task.tasks.map fun e =>
      (e.1, if Nat.ble 3 e.2.stats.consec.toNat then { e.2 with overDiag := true } else e.2) } }

/-- A clear of PEND bits by the supervisor: acknowledges faults and handles their windows (R34, R231). -/
def Half.pendClear (x : Half) (i : Nat) (mask : Word) : Half :=
  let hit (src : Nat) : Bool := src / 32 == i && mask.getLsbD (src % 32)
  let y := x.clrReg (Reg.FC_PEND i) mask
  let y : Half := if hit 105 && x.srcBit (Reg.FC_PEND 0) 105 then y.noteOverruns else y
  ({ y with fc := { y.fc with
      level := y.fc.level.filter fun e => !hit e.1
      windows := y.fc.windows.map fun w => if hit w.src then { w with handled := true } else w } } : Half).fcStatus

/-- The held sources, lowest first (R234). -/
def Half.heldSources (x : Half) : List Nat := (List.range 128).filter fun s => x.srcBit (Reg.FC_HELD 0) s

/-- Held faults take effect at L2, as raises at exactly that level (R231, R235). -/
def Half.releaseHeld (x : Half) : Half :=
  (x.heldSources.foldl (fun (y : Half) src =>
    let z : Half := ((y.setSrc (Reg.FC_HELD 0) src false).setSrc (Reg.FC_ACTIVE 0) src true).setSrc (Reg.FC_PEND 0) src true
    let z : Half := { z with fc := { z.fc with level := z.fc.level.put src 2 } }
    ((z.fcEntry (evtWord src 2 (z.srcClass src) false false false false false)).evrCount src).reactL2 src 2) x).fcStatus

/-- Recoveries of a class within the last 1,440 operating minutes; stamps frozen by the latch mark do not age
(R238, R239). -/
def Half.recent (x : Half) (cls : Nat) : Nat :=
  let st := x.fc.stamps.get [] cls
  if x.fc.latch = some cls then st.length
  else (st.filter fun m => (x.opmin - m).toNat < 1440).length

/-- A recovery counted to a class (R237, R238). -/
def Half.countRecovery (x : Half) (cls : Nat) : Half :=
  let a := Reg.FC_CLASS_REC cls
  let y := if x.fld a 15 0 = 65535 then x.setBit a 16 true else x.setFld a 15 0 (x.fld a 15 0 + 1)
  let st := y.fc.stamps.get [] cls ++ [y.opmin]
  let y : Half := { y with fc := { y.fc with stamps := y.fc.stamps.put cls (st.drop (st.length - 2)) } }
  y.setFld a 18 17 (min 2 (y.recent cls))

/-- Every domain that the collector resets leaves reset (R237); PD5 has its own sequencer (R141, R222). -/
def Half.releaseResets (x : Half) : Half :=
  let y : Half := halfDomains.foldl (fun (y : Half) d => y.setBit Reg.SYS_PD (8 + d) false) x
  (List.range 4).foldl (fun (y : Half) i => y.clrReg (Reg.FC_INHIB i) (domainMask halfDomains i)) y

/-- A channel opened with its role and generation; one that is open keeps its rings, pointers and HALT, and channel 0
takes the service role of NATIVE (R272, R283). -/
def Half.openMail (x : Half) (ch : Nat) (v : Word) : Half :=
  if !x.chOpen ch then x.wr (Reg.MBX_CH_CTRL ch) v
  else if ch = 0 then x.setFld (Reg.MBX_CH_CTRL 0) 10 8 4
  else x

/-- The firmware enables the Span link, the recorder, the mailboxes and the time unit (log 38). -/
def Half.firmwareUp (x : Half) : Half :=
  let ts : Word := (((x.conf.regs.find? fun e => e.1 == Reg.TS_CTRL).map (·.2)).getD 0 &&& 0xA) ||| 5
  let y : Half := if x.bit Reg.TS_CTRL 0 then x else x.wr Reg.TS_CTRL ts
  let y : Half := ([Reg.SPAN_CTRL, Reg.EVR_CTRL, Reg.MBX_CTRL]).foldl (fun (z : Half) a => z.setBit a 0 true) y
  ((y.openMail 0 0x421).openMail 1 0x21).openMail 7 0x31

/-- The half is in NATIVE with its start-up images to run (R180, R513). -/
def Half.enterNative (x : Half) : Half :=
  let y : Half := { x with st := .native
                           boot := { x.boot with startupDone := false, current := none, images := [], imgInit := false, intUsed := 0 }
                           role := { x.role with negotiating := false, loading := false, nativeAt := x.mono } }
  y.firmwareUp

/-- The part ends of a half reset that is no fault reaction: the half boots again (R506). -/
def Half.reboot (x : Half) : Half :=
  { x with st := if x.st = .off then .off else .boot
           boot := { x.boot with trying := none, noSlot := false, startupDone := false, current := none, images := [], imgInit := false, recovery := none }
           role := { x.role with released := false, ho := none, takeover := false, armed := false, synced := false, drives := false,
                                 vdRun := false, negotiating := false, loading := false, everStandby := false } }

/-- A class for which the half enters LATCHED: of those whose quiet periods have ended, one with two recoveries within the
last 1,440 operating minutes, the first to reach L2 before the others (R238). -/
def Half.latchClass (x : Half) : Option Nat := (x.fc.first.toList ++ x.fc.reached).find? fun c => 2 ≤ x.recent c

/-- The half leaves FAULT once every quiet period has elapsed: NATIVE, or LATCHED on a third recovery (R237, R238). After
a reset of PD1 the boot ROM verifies the firmware slot first, in BOOT (log 95). -/
def Half.recover (x : Half) : Half :=
  let latch := x.latchClass
  let y := (x.countRecovery (x.fc.first.getD 0)).irq Reg.FC_IRQ_STAT Reg.FC_IRQ_EN 4 20
  let y : Half := { y with fc := { y.fc with first := none, domains := [], quiet := [], reached := [], bootDue := false } }
  let y := y.releaseResets
  match latch with
  | some cls =>
    let y : Half := { y with st := .latched, fc := { y.fc with latch := some cls } }
    ((y.enterReset [2, 3, 6, 7]).assertL3).firmwareUp.fcStatus
  | none =>
    let y : Half := y.setBit Reg.FC_STAT 6 false
    (if x.fc.bootDue then y.reboot else y.enterNative).fcStatus

/-- The registers whose check is latched at LOCK: FC_SRC_CFG and FC_CLASS_CFG (R228, source 121). -/
def Half.fcConfig (x : Half) : List Word :=
  ((List.range 12).map fun c => x.rd (Reg.FC_CLASS_CFG c)) ++ ((List.range 128).map fun s => x.rd (Reg.FC_SRC_CFG s))

/-- A pair's place in `FcBlk.lastFlush`. -/
def pairIdx : Pair → Nat
  | .sup => 0
  | .app => 1
  | .scr => 2

/-- A flush of a pair's architectural state restarts its flush timer (R224); a halted pair flushes nothing (R223). -/
def Half.flush (x : Half) (p : Pair) : Half :=
  let halted := match p with
    | .sup => x.fc.haltSup
    | .app => x.fc.haltApp
    | .scr => x.fc.haltScr
  if halted then x else { x with fc := { x.fc with lastFlush := x.fc.lastFlush.put (pairIdx p) x.mono } }

/-- A mismatch of a pair: it halts, the first cause is kept and its source is raised (R220 to R223). -/
def Half.mismatch (x : Half) (p : Pair) (c : LsCause) : Half :=
  let halted := match p with
    | .sup => x.fc.haltSup
    | .app => x.fc.haltApp
    | .scr => x.fc.haltScr
  if halted then x
  else
    let lo := match p with
      | .sup => 0
      | .app => 2
      | .scr => 4
    let y := if x.fld Reg.FC_LS_CAUSE (lo + 1) lo = 0 then x.setFld Reg.FC_LS_CAUSE (lo + 1) lo c.code else x
    match p with
    | .sup => ({ y with fc := { y.fc with haltSup := true } } : Half).raise 16
    | .app => ({ y with fc := { y.fc with haltApp := true } } : Half).raise 17
    | .scr => (({ y with fc := { y.fc with haltScr := true } } : Half).raise 18).resetScruple

/-- A detector acts on its condition (R222, R228, R240): a lockstep comparator as on an output mismatch, the clock monitor
with its lock bit, any other by its raise. -/
def Half.detect (x : Half) (src : Nat) : Half :=
  match src with
  | 16 => x.mismatch .sup .outputMismatch
  | 17 => x.mismatch .app .outputMismatch
  | 18 => x.mismatch .scr .outputMismatch
  | 34 => (x.setBit Reg.SYS_CLKMON 16 false).raise 34
  | n => x.raise n

/-- A write of FC_INJ with GO (R240 to R243). -/
def Half.inject (x : Half) (src : Nat) : Half :=
  let mode := x.fld Reg.FC_CTRL 2 1
  let accept := mode = 1 && !x.claims && x.partnerClaim && isSource src && x.srcProof src
  if mode = 2 && isSource src then
    ((x.detect src).setBit Reg.FC_INJ_STAT 0 true).irq Reg.FC_IRQ_STAT Reg.FC_IRQ_EN 5 21
  else if accept then
    let (level, esc, _) := x.decision src (x.srcLevel src)
    let y := x.setSrc (Reg.FC_ACTIVE 0) src true
    let y := y.fcEntry (evtWord src 0 (x.srcClass src) false false true false false)
    let y := (y.setBit Reg.FC_INJ_STAT 0 true).setFld Reg.FC_INJ_STAT 3 2 level
    ((y.setBit Reg.FC_INJ_STAT 4 esc).evrEvent 15).irq Reg.FC_IRQ_STAT Reg.FC_IRQ_EN 5 21
  else (x.setBit Reg.FC_INJ_STAT 1 true).irq Reg.FC_IRQ_STAT Reg.FC_IRQ_EN 5 21

/-- A correctable error is counted toward source 14, more than 64 in one memory within 1,440 operating minutes
(R228). -/
def Half.countEcc (x : Half) (m : EccMem) : Half :=
  let st := ((x.fc.ceStamps.get [] m.source).filter fun t => (x.opmin - t).toNat < 1440) ++ [x.opmin]
  let y : Half := { x with fc := { x.fc with ceStamps := x.fc.ceStamps.put m.source st } }
  y.raiseIf (64 < st.length) 14

/-! ### The commands -/

/-- FAULT_RAISE (R222, R233): a detector raises a source. -/
def execFaultRaise (h : HalfId) (src : Nat) (s : State) : Host.Outcome State Fault Refusal :=
  onHalf s h fun x => x.detect src

/-- SOURCE_PAIR_INVALID (R226): source 120 at L1, the FC_INVALID bit, and a raise of a source whose minimum level is
L2 or L3. Source 120 is carried on no pair. -/
def execSourcePairInvalid (h : HalfId) (src : Nat) (s : State) : Host.Outcome State Fault Refusal :=
  onHalf s h fun x =>
    if src = 120 || !isSource src then x
    else
      let y := (x.setSrc (Reg.FC_INVALID 0) src true).take 120 (x.srcLevel 120) true
      if 2 ≤ x.fld (Reg.FC_SRC_CFG src) 3 2 then y.take src (x.srcLevel src) true else y

/-- A window has run for the time of its class, in 10 µs (R231). -/
def Half.windowOver (x : Half) (w : FcWindow) : Bool :=
  x.goneUs w.at_ (10 * x.fld (Reg.FC_CLASS_CFG (x.srcClass w.src)) 13 0)

/-- REACTION_WINDOW_EXPIRE (R231): the oldest window of the source ends; with PEND never cleared since its raise the
source is raised again from L2. The window of a raise at L2 or L3 has no higher reaction to call (log 95). -/
def execReactionWindowExpire (h : HalfId) (src : Nat) (s : State) : Host.Outcome State Fault Refusal :=
  onHalf s h fun x =>
    match x.fc.windows.find? (·.src == src) with
    | none => x
    | some w =>
      if !x.windowOver w then x
      else
        let y : Half := ({ x with fc := { x.fc with windows := x.fc.windows.erase w } } : Half).fcStatus
        if w.level ≤ 1 && !w.handled && y.srcBit (Reg.FC_PEND 0) src then y.take src 2 false else y

/-- FC_PEND_CLEAR (R231). -/
def execFcPendClear (h : HalfId) (i : Nat) (mask : Word) (s : State) : Host.Outcome State Fault Refusal :=
  onHalf s h fun x => if i < 4 then x.pendClear i mask else x

/-- HELD_FAULT_RELEASE (R235): 10 s with PEER_ARMED set and no completed handover. -/
def execHeldFaultRelease (h : HalfId) (s : State) : Host.Outcome State Fault Refusal :=
  onHalf s h fun x => if x.peerArmed && x.goneUs x.fc.peerAt 10000000 then x.releaseHeld else x

/-- CLASS_CLEAR (R236): no raise of the class for QUIET_L1, and no PEND bit of it set. -/
def execClassClear (h : HalfId) (cls : Nat) (s : State) : Host.Outcome State Fault Refusal :=
  onHalf s h fun x =>
    let srcs := (List.range 128).filter fun k => isSource k && x.srcClass k == cls
    if srcs.any (x.srcBit (Reg.FC_PEND 0)) || !srcs.any (x.srcBit (Reg.FC_ACTIVE 0)) ||
        !x.goneUs (x.fc.lastRaise.get 0 cls) (1000000 * x.fld (Reg.FC_CLASS_CFG cls) 23 16) then x
    else
      let y := srcs.foldl (fun (y : Half) k => y.setSrc (Reg.FC_ACTIVE 0) k false) x
      (y.fcEntry (evtWord 127 0 cls false false false false true)).irq Reg.FC_IRQ_STAT Reg.FC_IRQ_EN 4 20

/-- QUIET_L2_EXPIRE (R237, R238): a class's quiet period ends; after the last one the half leaves FAULT. -/
def execQuietL2Expire (h : HalfId) (cls : Nat) (s : State) : Host.Outcome State Fault Refusal :=
  onHalf s h fun x =>
    if x.st != .fault || !x.fc.quiet.contains cls || x.fc.resetting || x.role.holdWindow ||
        !x.goneUs (x.fc.quietAt.get 0 cls) (1000000 * x.fld (Reg.FC_CLASS_CFG cls) 31 24) then x
    else
      let y : Half := { x with fc := { x.fc with quiet := x.fc.quiet.erase cls } }
      if y.fc.quiet.isEmpty then y.recover else y

/-- FC_LATCH_MARK (R239): a half reaching NATIVE with the latch mark present raises source 126. -/
def execFcLatchMark (h : HalfId) (s : State) : Host.Outcome State Fault Refusal :=
  onHalf s h fun x => if x.st = .native && x.fc.latch.isSome then x.raise 126 else x

/-- LOCKSTEP_MISMATCH (R222). -/
def execLockstepMismatch (h : HalfId) (pair : Pair) (cause : LsCause) (s : State) : Host.Outcome State Fault Refusal :=
  onHalf s h fun x => x.mismatch pair cause

/-- FLUSH_TIMER_EXPIRE (R224): 100 ms since the pair's last flush. -/
def execFlushTimerExpire (h : HalfId) (pair : Pair) (s : State) : Host.Outcome State Fault Refusal :=
  onHalf s h fun x => if x.goneUs (x.fc.lastFlush.get 0 (pairIdx pair)) 100000 then x.flush pair else x

/-- FLUSH_SUP (R224): FC_LS_CMD forces a flush of the supervisor pair. -/
def execFlushSup (h : HalfId) (s : State) : Host.Outcome State Fault Refusal :=
  onHalf s h fun x => x.flush .sup

/-- FLUSH_APP (R224): FC_LS_CMD forces a flush of the application pair. -/
def execFlushApp (h : HalfId) (s : State) : Host.Outcome State Fault Refusal :=
  onHalf s h fun x => x.flush .app

/-- FC_INJ (R241). -/
def execFcInj (h : HalfId) (src : Nat) (s : State) : Host.Outcome State Fault Refusal :=
  onHalf s h fun x => x.inject src

/-- FC_EVT_POP (R244): removes the oldest entry. -/
def execFcEvtPop (h : HalfId) (s : State) : Host.Outcome State Fault Refusal :=
  onHalf s h fun x => { x with fc := { x.fc with fifo := x.fc.fifo.drop 1 } }

/-- FC_LOCK (R227): the configuration is locked until half reset, and its check latched. -/
def execFcLock (h : HalfId) (s : State) : Host.Outcome State Fault Refusal :=
  onHalf s h fun x =>
    if x.bit Reg.FC_CTRL 0 then x
    else ({ x with fc := { x.fc with locked := x.fcConfig } } : Half).setBit Reg.FC_CTRL 0 true

/-- FC_CFG_CHK (R228): the 1 ms check over the locked configuration. -/
def execFcCfgChk (h : HalfId) (s : State) : Host.Outcome State Fault Refusal :=
  onHalf s h fun x => x.raiseIf (x.bit Reg.FC_CTRL 0 && x.fcConfig != x.fc.locked) 121

/-- FIXTURE_LOSS (R243): the pattern is lost for 5 ms; factory test mode ends by a half reset. -/
def execFixtureLoss (h : HalfId) (s : State) : Host.Outcome State Fault Refusal :=
  onHalf s h fun x =>
    let y := x.setBit Reg.FC_STAT 5 false
    if x.fld Reg.FC_CTRL 2 1 = 2 then ((y.enterReset halfDomains).resetFcConfig).reboot else y

/-- SW_SUP_WDG (R228). -/
def execSwSupWdg (h : HalfId) (s : State) : Host.Outcome State Fault Refusal :=
  onHalf s h fun x => x.raise 104

/-- ECC_ERROR (R228). -/
def execEccError (h : HalfId) (mem : EccMem) (uncorrectable : Bool) (s : State) : Host.Outcome State Fault Refusal :=
  onHalf s h fun x => if uncorrectable then x.raise (mem.source + 1) else (x.raise mem.source).countEcc mem

/-- THERMAL_THRESHOLD (R228). -/
def execThermalThreshold (h : HalfId) (kind : Thermal) (s : State) : Host.Outcome State Fault Refusal :=
  onHalf s h fun x => x.raise kind.source

/-- CLOCK_MONITOR_WINDOW (R228, R498): the deviation in ppm, and a root without edges. -/
def execClockMonitorWindow (h : HalfId) (dev : BitVec 16) (mainLost safeLost : Bool) (s : State) :
    Host.Outcome State Fault Refusal :=
  onHalf s h fun x =>
    let y := x.setFld Reg.SYS_CLKMON 15 0 dev.toNat
    let big := 500 < dev.toInt.natAbs
    let y := if big then y.irq Reg.SYS_IRQ_STAT Reg.SYS_IRQ_EN 8 8 else y
    let drift := 1000 < dev.toInt.natAbs && !mainLost && !safeLost
    (((y.raiseIf mainLost 32).raiseIf safeLost 35).raiseIf drift 33).raiseIf drift 36

end Sys2Proof.Machine
end

