-- ==== Sys2Proof/Machine/CeRam.lean ====
section
/-! DEFINITION. The layout of CE RAM (R113): what the bytes of its window hold. -/
namespace Sys2Proof.Machine

/-- The start of CE RAM, and its parts (R113). -/
abbrev ceBase : Nat := 0x20000000
/-- The address of a chain's descriptor. -/
def descAddr (c : Nat) : Nat := ceBase + 128 * c
/-- The address of a section's descriptor. -/
def sectAddr (k : Nat) : Nat := ceBase + 0x10000 + 128 * k
/-- The address of a chain's status record. -/
def statusAddr (c : Nat) : Nat := ceBase + 0x50000 + 64 * c
/-- The address of entry i of a trace channel's buffer (R134). -/
def traceAddr (tc i : Nat) : Nat := ceBase + 0x200000 + tc * 0x80000 + 8 * i

/-- The 128 bytes of a section descriptor (R80). -/
def sectBytes (s : Sect) : List Byte :=
  ((s.a.take 5 ++ s.b.take 5 ++ [s.s1, s.s2, s.lo, s.hi]).flatMap fun v => leNat 8 v.toNat) ++ leNat 2 s.flags.toNat ++
    leNat 2 s.chain ++ [0, 0, 0, 0] ++ leNat 8 s.yLast.toNat

/-- The code of a mode in a status record (R110). -/
def ChainMode.code (m : ChainMode) : Nat :=
  match m with
  | .off => 0
  | .run => 1
  | .hold => 2
  | .halted => 3
  | .tracking => 4

/-- The state word of a status record (R110). -/
def Half.chainState (x : Half) (c : Nat) : Nat :=
  let k := x.chainSt c
  let b (v : Bool) (i : Nat) : Nat := if v then 2 ^ i else 0
  (x.shownMode k).code + b k.satLo 3 + b k.satHi 4 + b k.bankB 5 + b (k.swap.isSome || (k.flight.bind (·.swap)).isSome) 6 +
    b k.nonfinite 7 + b k.badq 8 + b k.missedOvf 9 + b k.latOvf 10

/-- The 64 bytes of a chain's status record (R110). -/
def Half.statusBytes (x : Half) (c : Nat) : List Byte :=
  let k := x.chainSt c
  leNat 4 (x.chainState c) ++ leNat 4 k.missed.toNat ++ leNat 4 k.latLast.toNat ++ leNat 4 k.latMax.toNat ++
    leNat 4 k.samples.toNat ++ leNat 4 k.out.toNat ++ leNat 4 k.in_.toNat ++ leNat 4 k.sp.toNat ++ leNat 4 k.spCmd.toNat ++
    leNat 4 k.ffTask.toNat ++ leNat 8 k.tLast.toNat ++ leNat 2 k.swapCnt.toNat ++ List.replicate 14 0

/-- Entry i of a trace channel's buffer: its value word and its time word; none where nothing has been recorded (R134,
R135). -/
def Half.traceWords (x : Half) (tc i : Nat) : Option (Word × Word) :=
  let k := x.tc tc
  let depth := max 1 (x.tcDepth tc)
  let oldest := k.writes - k.entries.length
  (k.entries.zipIdx.find? fun e => (oldest + e.2) % depth == i).map fun e => x.tcEntry tc e.1

/-- The byte of CE RAM at an address, where the model holds it: descriptors, sections, status records and recorded
trace entries (R113). The engine's working memory and what was never written are open. -/
def Half.ceRam (x : Half) (addr : Nat) : Option Byte :=
  let o := addr - ceBase
  if addr < ceBase then none
  else if o < 0x8000 then (x.ce.descs.get? (o / 128)).map fun d => (descBytes d).getD (o % 128) 0
  else if o < 0x10000 then none
  else if o < 0x50000 then (x.ce.sects.get? ((o - 0x10000) / 128)).map fun s => (sectBytes s).getD (o % 128) 0
  else if o < 0x54000 then (x.ce.chains.get? ((o - 0x50000) / 64)).map fun _ => (x.statusBytes ((o - 0x50000) / 64)).getD (o % 64) 0
  else if o < 0x200000 then none
  else if o < 0x600000 then
    (x.traceWords ((o - 0x200000) / 0x80000) (o % 0x80000 / 8)).map fun w =>
      (leNat 4 w.1.toNat ++ leNat 4 w.2.toNat).getD (o % 8) 0
  else none

/-- What the scan engine reads of a range: the model's own bytes of CE RAM, elsewhere the bytes told (R113, R449). -/
def Half.cvRead (x : Half) (addr : Nat) (data : List Byte) : List Byte :=
  if addr < ceBase || ceBase + 0x600000 ≤ addr then data
  else data.zipIdx.map fun b => (x.ceRam (addr + b.2)).getD b.1

end Sys2Proof.Machine
end

