-- ==== Sys2Proof/Machine/CvOps.lean ====
section
/-! DEFINITION. The scan engine's jobs (R446 to R453, R458) and the upkeep of the NOR flash (R455, R456). -/
namespace Sys2Proof.Machine

def Half.cvIrq (x : Half) (j : Nat) : Half := x.irq Reg.CV_IRQ_STAT Reg.CV_IRQ_EN j (216 + j)

/-- The scan engine runs. -/
def Half.cvOn (x : Half) : Bool := x.domainOn 1 && x.bit Reg.CV_CTRL 0
def Half.cvState (x : Half) (j : Nat) : Nat := x.fld (Reg.CV_JOB_STAT j) 1 0
/-- A slot has been started and its run has not ended. -/
def Half.cvStarted (x : Half) (j : Nat) : Bool := x.cvState j = 1 || x.cvState j = 2
def Half.cvJob (x : Half) (j : Nat) : CvJob := x.cv.jobs.get {} j

/-- The engine works on the lowest started slot; the others wait (R450). -/
def Half.cvShow (x : Half) : Half :=
  let run := (List.range 8).filter x.cvStarted
  let y : Half := run.foldl (fun (y : Half) j => y.setFld (Reg.CV_JOB_STAT j) 1 0 (if run.head? == some j then 1 else 2)) x
  (y.setBit Reg.CV_STAT 0 (!run.isEmpty)).setFld Reg.CV_STAT 3 1 (run.headD 0)

/-- The memories of the half that the supervisor can read: start and size (R449, R514). -/
def cvMemories : List (Nat × Nat) :=
  [(0x0, 0x40000), (0x10000000, 0x400000), (0x11000000, 0x400000), (0x12000000, 0x100000), (0x20000000, 0x600000),
   (0x40000000, 0x20000000), (0x60000000, 0x4000000), (0x800000000, 0x100000000)]

/-- A range lies inside one memory. -/
def cvInMemory (addr len : Nat) : Bool := cvMemories.any fun m => m.1 ≤ addr && addr + len ≤ m.1 + m.2

/-- The source of an uncorrectable error of the memory at an address (R228, R452); NOR, MRAM and ROM have none. -/
def cvEccSource (addr : Nat) : Option Nat :=
  if addr < 0x10000000 then none
  else if addr < 0x11000000 then some 3
  else if addr < 0x12000000 then some 1
  else if addr < 0x20000000 then some 7
  else if addr < 0x30000000 then some 5
  else if 0x800000000 ≤ addr then some 9
  else none

/-- Background tokens at a time: refilled each µs, at most 64 KiB (R450). -/
def Half.cvTokens (x : Half) (t : DWord) : Nat :=
  min 65536 (x.cv.tokens + x.fld Reg.CV_BG_RATE 15 0 * ((t - x.cv.tokensAt).toNat / 1000))

/-- The time that the engine takes to read a slot's range has passed (R449); a read that meets an error ends before. -/
def Half.cvTook (x : Half) (j : Nat) : Bool :=
  x.goneUs (x.cvJob j).start ((x.cvJob j).len / (if getField (x.cvJob j).cfg 3 2 = 1 then 5120 else 6400))

/-- The end of a run, by completion, ERR, CONFLICT or STOP. -/
def Half.cvEnd (x : Half) (j state : Nat) : Half := ((x.setFld (Reg.CV_JOB_STAT j) 1 0 state).cvShow).cvIrq j

/-- A result that the manual leaves open (R451, R452, R453): a free value. -/
def Half.cvFree (x : Half) (j : Nat) : DWord × Half :=
  let (v, y) := x.free
  let code := y.fld (Reg.CV_JOB_CFG j) 1 0
  let v : DWord := if code = 3 then v else if code = 2 then v &&& 0xFFFF else v &&& 0xFFFFFFFF
  (v, (y.wr (Reg.CV_JOB_RES_LO j) (v.setWidth 32)).wr (Reg.CV_JOB_RES_HI j) ((v >>> 32).setWidth 32))

/-- A slot starts from its configuration registers (R449, R451, R452). -/
def Half.cvStart (x : Half) (j : Nat) : Half :=
  let job : CvJob := {
    cfg := x.rd (Reg.CV_JOB_CFG j)
    addr := (x.rd (Reg.CV_JOB_ADDR_LO j)).toNat + 2 ^ 32 * x.fld (Reg.CV_JOB_ADDR_HI j) 7 0
    len := (x.rd (Reg.CV_JOB_LEN j)).toNat
    base := x.rd (Reg.CV_JOB_BASE j)
    ref := (x.rd (Reg.CV_JOB_REF_HI j)).setWidth 64 <<< 32 ||| (x.rd (Reg.CV_JOB_REF_LO j)).setWidth 64
    start := x.mono }
  let y : Half := { x with cv := { x.cv with jobs := x.cv.jobs.put j job } }
  let y : Half := y.wr (Reg.CV_JOB_POS j) 0
  let guarded (k : Nat) : Bool := k != j && x.cvStarted k && (x.cvJob k).cfg.getLsbD 4
  let meets (k : Nat) : Bool := (x.cvJob k).addr < job.addr + job.len && job.addr < (x.cvJob k).addr + (x.cvJob k).len
  if !cvInMemory job.addr job.len then
    let (_, z) := (y.setBit (Reg.CV_JOB_STAT j) 3 true).cvFree j
    z.cvEnd j 3
  else if job.cfg.getLsbD 4 && (List.range 8).any fun k => guarded k && meets k then
    (y.setBit (Reg.CV_JOB_STAT j) 4 true).cvEnd j 0
  else (y.setFld (Reg.CV_JOB_STAT j) 1 0 2).cvShow

/-- GO (R449, R458): a slot that runs goes on. -/
def Half.cvGo (x : Half) (j : Nat) : Half := if j < 8 && x.cvOn && !x.cvStarted j then x.cvStart j else x

/-- STOP (R453): the result and the bytes read are open. -/
def Half.cvStop (x : Half) (j : Nat) : Half :=
  if j < 8 && x.cvStarted j then
    let (_, y) := x.cvFree j
    let (p, y) := y.free
    ((y.wr (Reg.CV_JOB_POS j) (p.setWidth 32)).setBit (Reg.CV_JOB_STAT j) 6 true).cvEnd j 3
  else x

/-- A run that ends restarts where its repeat instant has passed (R453). -/
def Half.cvAgain (x : Half) (j : Nat) : Half :=
  if (x.cvJob j).again then x.cvStart j else x

/-- The bytes that enter the check by the fold mode (R447). -/
def cvFold (cfg base : Word) (data : List Byte) : List Byte :=
  match getField cfg 3 2 with
  | 1 => withAddr base data
  | 2 => foldSeq base data
  | _ => data

/-- The background tokens after a run, and whether it waited for some: the engine reads 6,400 bytes per µs (R449,
R450). -/
def Half.cvSpend (x : Half) (j len : Nat) : Half :=
  if j < 4 then x
  else
    let t0 := (x.cvJob j).start
    let had := x.cvTokens t0
    let rate := x.fld Reg.CV_BG_RATE 15 0
    let y : Half := if had + rate * (len / 6400) < len then x.setBit Reg.CV_STAT 4 true else x
    let left := had + rate * ((x.mono - t0).toNat / 1000) - len
    { y with cv := { y.cv with tokens := min 65536 left, tokensAt := x.mono } }

/-- A run completes over the bytes read (R449, R451, R452). -/
def Half.cvDone (x : Half) (j : Nat) (data : List Byte) (eccBad written : Bool) : Half :=
  let job := x.cvJob j
  let y : Half := (x.cvSpend j job.len).wr (Reg.CV_JOB_POS j) (BitVec.ofNat 32 job.len)
  if eccBad then
    let (_, y) := (y.setBit (Reg.CV_JOB_STAT j) 3 true).cvFree j
    let (p, y) := y.free
    let y : Half := (y.wr (Reg.CV_JOB_POS j) (p.setWidth 32)).cvEnd j 3
    match cvEccSource job.addr with
    | some src => (y.raise src).cvAgain j
    | none => y.cvAgain j
  else
    let (v, y) : DWord × Half := if written && !job.cfg.getLsbD 4 then y.cvFree j
      else
        let v := cvByCode (getField job.cfg 1 0) (cvFold job.cfg job.base data)
        (v, (y.wr (Reg.CV_JOB_RES_LO j) (v.setWidth 32)).wr (Reg.CV_JOB_RES_HI j) ((v >>> 32).setWidth 32))
    let mask : DWord := if getField job.cfg 1 0 = 3 then 0xFFFFFFFFFFFFFFFF else 0xFFFFFFFF
    let bad := job.cfg.getLsbD 5 && v != job.ref &&& mask
    let y : Half := if bad then y.setBit (Reg.CV_JOB_STAT j) 2 true else y
    let y : Half := (y.cvEnd j 3).raiseIf (bad && j = 4 && 0x40000000 ≤ job.addr && decide (job.addr < 0x60000000)) 13
    y.cvAgain j

/-! ### The flash scan, parameters and chains (R41, R111, R455) -/

/-- A slot that failed the flash scan is empty; the code and configuration loaded keep running (R455). Slots 0 and 1
are the firmware's, 2 and 3 the configuration's. -/
def Half.scanBad (x : Half) (slot : Nat) : Half :=
  let y : Half := x.raise 13
  match slot with
  | 0 => { y with boot := { y.boot with slot0 := {} } }
  | 1 => { y with boot := { y.boot with slot1 := {} } }
  | 2 => if y.cfg.cur = some 0 || y.cfg.pend.any (·.slot = 0) then y.setCfgSlot 0 { y.cfg.slot0 with bad := true }
    else y.setCfgSlot 0 {}
  | 3 => if y.cfg.cur = some 1 || y.cfg.pend.any (·.slot = 1) then y.setCfgSlot 1 { y.cfg.slot1 with bad := true }
    else y.setCfgSlot 1 {}
  | _ => x

/-- A slot that is being staged is skipped (R455). -/
def Half.scanSkips (x : Half) (slot : Nat) : Bool :=
  match slot with
  | 0 => !x.boot.slot0.complete
  | 1 => !x.boot.slot1.complete
  | 2 => !x.cfg.slot0.complete
  | 3 => !x.cfg.slot1.complete
  | _ => true

/-- A firmware slot of a half. -/
def Half.fwSlot (x : Half) (k : Nat) : FwSlot := if k = 0 then x.boot.slot0 else x.boot.slot1
def Half.setFwSlot (x : Half) (k : Nat) (s : FwSlot) : Half :=
  if k = 0 then { x with boot := { x.boot with slot0 := s } } else { x with boot := { x.boot with slot1 := s } }

/-- A current slot that the scan emptied is rewritten from the partner's slot of the same content (R455). -/
def Half.scanRepair (x p : Half) : Half :=
  if !x.linked || !p.linked then x
  else
    let x : Half := match x.cfg.cur with
      | some k =>
        let mine := x.cfgSlot k
        if mine.bad && p.cfg.cur.any (fun j => !(p.cfgSlot j).bad && (p.cfgSlot j).commit == mine.commit) then
          x.setCfgSlot k { mine with bad := false }
        else x
      | none => x
    let k := x.boot.running
    if (x.fwSlot k).image.isSome || x.boot.version != p.boot.version then x
    else
      let s := p.fwSlot p.boot.running
      if s.image.isSome then x.setFwSlot k s else x

/-- A corrupt parameter field (R41): it is restored before the owning task's next cycle. -/
def Half.paramBad (x : Half) (t i : Nat) : Half :=
  let y : Half := x.raise 107
  { y with task := { y.task with badParams := if y.task.badParams.contains (t, i) then y.task.badParams
      else y.task.badParams ++ [(t, i)] } }

/-- The check field of a chain's descriptor differs from the check over its descriptor and active bank (R111). -/
def Half.checkDiffers (x : Half) (c : Nat) : Bool :=
  let d := x.desc c
  (x.chainSt c).present && d.check != chainCheck d (x.chainSt c).bankB (x.chainSects d)

/-- A corrupt chain descriptor (R111, R114): HOLD, the descriptor and the active bank again, RUN; one sample is held. -/
def Half.chainBad (x : Half) (c : Nat) : Half :=
  match x.conf.chains.find? fun e => e.chain == c with
  | none => x
  | some cc =>
    let was := (x.chainSt c).mode
    let y : Half := ((x.ceIrq 3).raise 90).setMode c .hold
    let (d, ss) := y.configChain cc true
    let b := (y.chainSt c).bankB
    let os := y.chainSects d
    let ss := ss.zipWith (fun s o => { o with a := if b then o.a else s.a, b := if b then s.b else o.b, flags := s.flags
                                              chain := s.chain }) os
    let y : Half := ((y.setDesc c d).setSects d.first ss).sealChain c
    if was == .run then (y.setMode c .run).modChain c fun k => { k with holdOne := true } else y

/-! ### NOR wear (R456) -/

/-- A block of 64 KiB erased or retired. -/
def Half.norErased (x : Half) (block : Nat) (ok : Bool) : Half :=
  if 8192 ≤ block then x
  else if !ok then
    { x with nor := { x.nor with retired := if x.nor.retired.contains block then x.nor.retired else x.nor.retired ++ [block] } }
  else
    let n := x.nor.erases.get 0 block
    let y : Half := { x with nor := { x.nor with
        erases := x.nor.erases.put block (satAdd n 1)
        ovf := if n == 0xFFFFFFFF && !x.nor.ovf.contains block then x.nor.ovf ++ [block] else x.nor.ovf } }
    if n.toNat + 1 = 80000 then y.evrEvent 18 else y

end Sys2Proof.Machine
end

