-- ==== Sys2Proof/Machine/BlockOps.lean ====
section
/-! DEFINITION. What a block's code sees and answers, and the block types of groups 0x01 to 0x04 (R51 to R64). A REAL
result is formed in binary64 and rounded once to binary32 (log 27); the order of inputs and parameters is that of
R59's tables (log 32). -/
namespace Sys2Proof.Machine

/-- What a block's code sees: inputs as resolved, which of them are bound, parameters, old outputs and state, the time
in ns since the task's last cycle reached it, the period in ns, an acknowledgement routed to it, what an engine link
reads, and free values. -/
structure BlkIn where
  ins : List Val
  bound : List Bool
  par : List DWord
  outs : List DWord
  st : List DWord
  dt : Nat
  period : Nat
  ack : Bool
  link : List DWord
  fv : List DWord
  deriving Repr

/-- What it answers: outputs, state, effects, the inputs it used in this execution where they are not all (R53), a
quality that is not R53's, and the instances that an acknowledgement goes to. -/
structure BlkOut where
  outs : List DWord
  st : List DWord := []
  eff : List Effect := []
  used : Option (List Nat) := none
  qual : Option Byte := none
  acks : List Nat := []
  deriving Repr

def BlkIn.v (i : BlkIn) (k : Nat) : DWord := (i.ins.getD k { v := 0 }).v
def BlkIn.b (i : BlkIn) (k : Nat) : Bool := i.v k != 0
def BlkIn.r (i : BlkIn) (k : Nat) : F32 := (i.v k).setWidth 32
def BlkIn.f (i : BlkIn) (k : Nat) : F64 := f64of32 (i.r k)
def BlkIn.has (i : BlkIn) (k : Nat) : Bool := i.bound.getD k false
def BlkIn.q (i : BlkIn) (k : Nat) : Byte := (i.ins.getD k { q := qGood }).q
def BlkIn.p (i : BlkIn) (k : Nat) : DWord := i.par.getD k 0
def BlkIn.pf (i : BlkIn) (k : Nat) : F64 := f64of32 ((i.p k).setWidth 32)
/-- A TIME parameter in ns. -/
def BlkIn.pt (i : BlkIn) (k : Nat) : Nat := ((i.p k).setWidth 32).toNat * 1000000
def BlkIn.s (i : BlkIn) (k : Nat) : DWord := i.st.getD k 0
def BlkIn.sb (i : BlkIn) (k : Nat) : Bool := i.s k != 0
def BlkIn.sn (i : BlkIn) (k : Nat) : Nat := (i.s k).toNat
def BlkIn.o (i : BlkIn) (k : Nat) : DWord := i.outs.getD k 0
def BlkIn.free (i : BlkIn) (k : Nat) : DWord := i.fv.getD k 0

/-- A Bool, a count and a REAL as fields. -/
def bf (b : Bool) : DWord := if b then 1 else 0
def nf (n : Nat) : DWord := BitVec.ofNat 64 n
def rf (v : F64) : DWord := (f32of64 v).setWidth 64
/-- A DINT as a field (R249). -/
def df (n : Int) : DWord := (BitVec.ofInt 32 n).signExtend 64
/-- A DINT field's value. -/
def dn (v : DWord) : Int := (v.setWidth 32).toInt
/-- Seconds of a time in ns. -/
def secs (ns : Nat) : F64 := f64rat ns 1000000000

/-- The quality of R53 over a list of inputs; good over none. -/
def worstQ (qs : List Byte) : Byte :=
  let cls := qs.foldl (fun m q => min m (qClass q)) 2
  let sub := ((qs.find? fun q => qClass q == cls).map fun q => q.toNat / 4 % 16).getD 0
  let stale := qs.any fun q => q.getLsbD 0
  qByte cls sub ||| (if stale then 1 else 0)

/-! ### Group 0x01 -/

/-- AND8, OR8: the used inputs after inversion by the mask. -/
def gate8 (i : BlkIn) (and_ : Bool) : BlkOut :=
  let vs := ((List.range 8).filter i.has).map fun k => i.b k != (i.p 0).getLsbD k
  { outs := [bf (if and_ then vs.all id else vs.any id)] }

/-- Logic blocks. The memory of R_TRIG is the last CLK and that of F_TRIG its inverse; both are false at the start, as in
IEC 61131-3 (R58). -/
def blkLogic (idx : Nat) (i : BlkIn) : BlkOut :=
  match idx with
  | 1 => gate8 i true
  | 2 => gate8 i false
  | 3 => { outs := [bf (i.b 0 != i.b 1)] }
  | 4 => { outs := [bf (!i.b 0)] }
  | 5 => { outs := [bf (i.b 0 || (!i.b 1 && i.o 0 != 0))] }
  | 6 => { outs := [bf (!i.b 1 && (i.b 0 || i.o 0 != 0))] }
  | 7 => { outs := [bf (i.b 0 && !i.sb 0)], st := [bf (i.b 0)] }
  | _ => { outs := [bf (!i.b 0 && !i.sb 0)], st := [bf (!i.b 0)] }

/-! ### Group 0x02 -/

/-- TON, TOF, TP (IEC 61131-3): state is the last IN, ET in ns, running. -/
def blkTimer (idx : Nat) (i : BlkIn) : BlkOut :=
  let x := i.b 0
  let pt := i.pt 0
  let was := i.sb 0
  let et := i.sn 1
  let on := min pt (et + i.dt)
  let ms (n : Nat) : DWord := nf (n / 1000000)
  match idx with
  | 1 =>
    let e := if x && was then on else 0
    { outs := [bf (x && pt ≤ e), ms e], st := [bf x, nf e, 0] }
  | 2 =>
    let (e, run) := if x then (0, false) else if was then (0, decide (0 < pt))
      else if i.sb 2 then (on, decide (on < pt)) else (et, false)
    { outs := [bf (x || run), ms e], st := [bf x, nf e, bf run] }
  | _ =>
    let (e, run) := if i.sb 2 then (if on < pt then (on, true) else (if x then pt else 0, false))
      else if x && !was then (0, decide (0 < pt)) else if x then (et, false) else (0, false)
    { outs := [bf run, ms e], st := [bf x, nf e, bf run] }

/-- CTU, CTD, CTUD (R56): state is CU, CD as last seen, CV and OVF. -/
def counter (i : BlkIn) (cu cd r ld : Bool) : Int × Bool × List DWord :=
  let up := cu && !i.sb 0
  let dnE := cd && !i.sb 1
  let cv := dn (i.s 2)
  let cv' : Int := if r then 0 else if ld then dn (i.p 0)
    else if up && !dnE then min 2147483647 (cv + 1) else if dnE && !up then max (-2147483648) (cv - 1) else cv
  let ovf := (!(r || ld) && i.sb 3) || cv' == 2147483647 || cv' == -2147483648
  (cv', ovf, [bf cu, bf cd, df cv', bf ovf])

/-- Timing and counting blocks. BLINK starts with its on phase (log 33). -/
def blkTiming (idx : Nat) (i : BlkIn) : BlkOut :=
  let pv := dn (i.p 0)
  match idx with
  | 4 => let (cv, o, st) := counter i (i.b 0) false (i.b 1) false
         { outs := [bf (pv ≤ cv), df cv, bf o], st := st }
  | 5 => let (cv, o, st) := counter i false (i.b 0) false (i.b 1)
         { outs := [bf (cv ≤ 0), df cv, bf o], st := st }
  | 6 => let (cv, o, st) := counter i (i.b 0) (i.b 1) (i.b 2) (i.b 3)
         { outs := [bf (pv ≤ cv), bf (cv ≤ 0), df cv, bf o], st := st }
  | 7 =>
    let run := i.b 0
    let ns := if i.b 1 then 0 else i.sn 1 + (if run && i.sb 0 then i.dt else 0)
    let starts := if i.b 1 then 0 else min 2147483647 (i.sn 2 + (if run && !i.sb 0 then 1 else 0))
    { outs := [rf (f64rat ns 3600000000000), nf starts], st := [bf run, nf ns, nf starts] }
  | 8 =>
    let en := i.b 0
    let t := i.sn 1 + i.dt
    let on := i.sb 0
    let lim := if on then i.pt 0 else i.pt 1
    let (on', t') := if !en then (false, 0) else if !i.sb 2 then (true, 0) else if lim ≤ t then (!on, 0) else (on, t)
    { outs := [bf on'], st := [bf on', nf t', bf en] }
  | k => blkTimer k i

/-! ### Group 0x03 -/

/-- 1.0 × 10^300 in binary64. -/
def e300 : F64 := f64int (10 ^ 300)

/-- The middle of three values. -/
def middle (a b c : F32) : F32 := f32max (f32min a b) (f32min (f32max a b) c)

/-- The step of LAG over one task period T (R59): OUT goes to IN + (OUT − IN)·e^(−T/TAU). The exponential is opaque within
0 to 1 (log 28). -/
def lagStep (x old tau : F64) (period : Nat) : F64 :=
  let e := f64min (f64max (Config.expNeg (f64div (secs period) tau)) 0) (f64int 1)
  f64add x (f64mul (f64sub old x) e)

/-- Analogue conditioning blocks. What the manual does not state is a free value: OUT of SCALE with IN_HI = IN_LO, the
median of two inputs, DISAGREE (log 33). DIR of CMP_HYS has no published code: 0 is the high comparator and any other
value the low one (DESIGN CHOICE, log 88). -/
def blkAnalogue (idx : Nat) (i : BlkIn) : BlkOut :=
  match idx with
  | 1 =>
    let w := f64sub (i.pf 1) (i.pf 0)
    let out := f64add (i.pf 2) (f64div (f64mul (f64sub (i.f 0) (i.pf 0)) (f64sub (i.pf 3) (i.pf 2))) w)
    { outs := [if f64eq w 0 then (i.free 0).setWidth 32 |>.setWidth 64 else rf out] }
  | 2 =>
    let v := f64min (f64max (i.f 0) (i.pf 0)) (i.pf 1)
    { outs := [rf v, bf (f64le (i.f 0) (i.pf 0)), bf (f64le (i.pf 1) (i.f 0))] }
  | 3 =>
    let t := secs i.dt
    let old := f64of32 ((i.o 0).setWidth 32)
    let d := f64sub (i.f 0) old
    let up := f64mul (i.pf 0) t
    let down := f64neg (f64mul (i.pf 1) t)
    let v := if i.b 1 then i.r 0
      else if f64le down d && f64le d up then i.r 0
      else f32of64 (f64add old (if f64lt up d then up else down))
    { outs := [v.setWidth 64, bf (!f32eq v (i.r 0))] }
  | 4 => { outs := [rf (lagStep (i.f 0) (f64of32 ((i.o 0).setWidth 32)) (i.pf 0) i.period)] }
  | 5 =>
    let old := f64of32 ((i.o 0).setWidth 32)
    let far := f64lt (i.pf 0) (f64abs (f64sub (i.f 0) old))
    { outs := [if far then (i.r 0).setWidth 64 else i.o 0] }
  | 6 =>
    let good := (List.range 3).filter fun k => qClass (i.q k) == 2
    let v : F32 := match good with
      | [a, b, c] => middle (i.r a) (i.r b) (i.r c)
      | [_, _] => (i.free 0).setWidth 32
      | [a] => i.r a
      | _ => (i.o 0).setWidth 32
    let q := worstQ (good.map i.q)
    { outs := [v.setWidth 64, (i.free 1) &&& 1]
      qual := some (if good.isEmpty then (worstQ [i.q 0, i.q 1, i.q 2]) &&& 0x3F else q) }
  | 7 =>
    let x := i.f 0
    let sp := i.pf 0
    let hys := i.pf 1
    let low := i.p 2 != 0
    let on := if low then f64lt x sp else f64lt sp x
    let off := if low then f64lt (f64add sp hys) x else f64lt x (f64sub sp hys)
    { outs := [bf (on || (i.o 0 != 0 && !off))] }
  | _ =>
    let t := f64add (i.o 0) (f64div (f64mul (i.f 0) (secs i.dt)) (i.pf 0))
    let hi := f64le e300 t
    let lo := f64le t (f64neg e300)
    let v := if i.b 1 then 0 else if hi then e300 else if lo then f64neg e300 else t
    { outs := [v, bf (!i.b 1 && (i.o 1 != 0 || hi || lo))] }

/-! ### Group 0x04 -/

/-- The common part of the alarm blocks (R60 to R64) from the raw condition, given the class bad of its source and the
places of T_ON, T_OFF, CAT, T_SIL and BAD_ACT among the parameters, and the place of ACK_L among the inputs. State:
0 alert state, 1 condition, 2 raw condition, 3 timing time, 4 ACK_L, 5 ACK_R, 6 SIL, 7 RT as last seen, 8 T_SIL time.
The categories A, B and C have the codes 0, 1 and 2, and a command already true in the first execution counts as a
rising edge (DESIGN CHOICE, log 88). An acknowledgement routed by ALM_ACK is none on ACK_L, so category A ignores it. -/
def alarm (i : BlkIn) (raw : Bool) (bad : Bool) (pOn pOff pCat pSil pAct cmd : Nat) (more : List DWord) : BlkOut :=
  let hold := bad && i.p pAct == 0
  let raw := raw || (bad && !hold)
  let cond := i.sb 1
  let t := if i.sb 2 == raw then i.sn 3 + i.dt else 0
  let due := if raw then i.pt pOn else i.pt pOff
  let (c, t) := if hold then (cond, i.sn 3) else if raw == cond then (cond, 0)
    else if due ≤ t then (raw, 0) else (cond, t)
  let raw' := if hold then i.sb 2 else raw
  let s0 := i.sn 0
  let silT := i.sn 8 + i.dt
  let s1 := if s0 = 2 && i.pt pSil ≤ silT then 1 else s0
  let s2 := if hold then s1
    else if c && (s1 = 0 || s1 = 5) then 1
    else if !c && (s1 = 1 || s1 = 2) then 5
    else if !c && (s1 = 3 || s1 = 4) then 0
    else s1
  let edge (k : Nat) : Bool := i.b (cmd + k) && !i.sb (4 + k)
  let ack := edge 0 || ((i.ack || edge 1) && i.p pCat != 0)
  let s3 := if ack then (if s2 = 1 || s2 = 2 || s2 = 4 then 3 else if s2 = 5 then 0 else s2) else s2
  let sil := edge 2 && (s3 = 1 || s3 = 2)
  let s4 := if sil then 2 else s3
  let s5 := if edge 3 && (s4 = 1 || s4 = 2) then 4 else s4
  { outs := [nf s5, bf (1 ≤ s5 && s5 ≤ 4), bf bad]
    st := [nf s5, bf c, bf raw', nf t, bf (i.b cmd), bf (i.b (cmd + 1)), bf (i.b (cmd + 2)), bf (i.b (cmd + 3)),
           nf (if sil then 0 else silT)] ++ more }

/-- The rank of an alert state: the higher rank first (R60's table). -/
def alertRank (s : Nat) : Nat :=
  match s with
  | 1 => 5
  | 2 => 4
  | 4 => 3
  | 3 => 2
  | 5 => 1
  | _ => 0

/-- The samples that ALM_ROC keeps, newest first as pairs of age in ns and value, behind the nine words of `alarm`. -/
def rocSamples : List DWord → List (Nat × F64)
  | a :: v :: t => (a.toNat, v) :: rocSamples t
  | _ => []

/-- Alarm blocks. COUNT of ALM_GROUP is a free value: the manual does not say what it counts (log 88). -/
def blkAlarm (idx : Nat) (i : BlkIn) : BlkOut :=
  let bad := qClass (i.q 0) == 0
  match idx with
  | 1 => alarm i (i.b 0) bad 0 1 2 4 5 1 []
  | 2 =>
    let x := i.f 0
    alarm i (if i.sb 2 then !f64lt x (f64sub (i.pf 0) (i.pf 1)) else f64lt (i.pf 0) x) bad 2 3 4 6 7 1 []
  | 3 =>
    let x := i.f 0
    alarm i (if i.sb 2 then !f64lt (f64add (i.pf 0) (i.pf 1)) x else f64lt x (i.pf 0)) bad 2 3 4 6 7 1 []
  | 4 =>
    let d := f64abs (f64sub (i.f 0) (i.f 1))
    alarm i (if i.sb 2 then !f64lt d (f64sub (i.pf 0) (i.pf 1)) else f64lt (i.pf 0) d)
      (bad || qClass (i.q 1) == 0) 2 3 4 6 7 2 []
  | 5 =>
    let win := i.pt 1
    let old := ((rocSamples (i.st.drop 9)).map fun e => (e.1 + i.dt, e.2)).filter fun e => e.1 ≤ win
    let all := (0, i.f 0) :: old
    let d := f64abs (f64sub (i.f 0) (all.getLastD (0, i.f 0)).2)
    alarm i (f64lt (i.pf 0) d) bad 2 3 4 6 7 1 (all.flatMap fun e => [nf e.1, e.2])
  | 6 =>
    let ms := ((List.range 32).filter i.has).map fun k => (i.v k).toNat
    { outs := [nf (ms.foldl (fun m s => if alertRank m < alertRank s then s else m) 0),
               df (((i.free 0).setWidth 32).toInt)] }
  | 7 => { outs := [bf (i.b 0)], st := [bf (i.b 0)], acks := if i.b 0 && !i.sb 0 then i.par.map (·.toNat) else [] }
  | _ => { outs := [bf (i.b 0 && !i.b 1)] }

end Sys2Proof.Machine
end

