-- ==== Sys2Proof/Machine/BlockTypes.lean ====
section
/-! DEFINITION. The block types of groups 0x05 to 0x08 and the table of the 64 types (R51, R59, R65 to R76). Where the
tables write "commands", the inputs are, in this order, the local, operator and automatic commands of the block and
a reset (log 32); STATE codes are opaque (log 32). -/
namespace Sys2Proof.Machine

/-! ### Group 0x05 -/

def devState (k : Nat) : DWord := (Config.deviceState k).signExtend 64
def codeOf (ty k : Nat) : DWord := (Config.stateCode ty k).signExtend 64

/-- Whether the mode of a MODE_SEL, bound to input `mode`, accepts a source (R65): LOCAL the local command 0, REMOTE the
operator command 1, AUTO the automatic command 2; a block without that binding accepts all three (log 89). -/
def accepts (i : BlkIn) (mode src : Nat) : Bool := !i.has mode || i.v mode == codeOf 0x0707 (src + 1)

/-- The command of the highest-ranking accepted source that gives one (R65, R66): of n commands a source from input
`base` on, the last stops or closes and wins. -/
def ranked (i : BlkIn) (base n mode : Nat) : Option Nat :=
  (List.range 3).foldl (fun m src =>
    match m with
    | some c => some c
    | none =>
      let on (k : Nat) : Bool := accepts i mode src && i.b (base + n * src + k)
      if on (n - 1) then some (n - 1) else (List.range (n - 1)).find? on) none

/-- MOTOR's states (R67): 0 STOPPED, 1 STARTING, 2 RUNNING, 3 STOPPING, 4 FAULT; the next state and time. TRIP leads to
FAULT from every state, STOPPED among them (DEDUCED, log 89). -/
def motorStep (st t dt tfb : Nat) (start stop fb trip reset : Bool) : Nat × Nat :=
  let t := t + dt
  if trip && st != 4 then (4, 0)
  else match st with
    | 0 => if start then (1, 0) else (0, 0)
    | 1 => if stop then (3, 0) else if fb then (2, 0) else if tfb ≤ t then (4, 0) else (1, t)
    | 2 => if stop then (3, 0) else if !fb then (4, 0) else (2, 0)
    | 3 => if !fb then (0, 0) else if tfb ≤ t then (4, 0) else (3, t)
    | _ => if reset && !trip then (0, 0) else (4, 0)

/-- MOTOR and the run part of MOTOR_VSD: inputs are start and stop of each source, RESET, then FB_RUN; `mode` is the
input of MODE. -/
def motor (i : BlkIn) (trip ilk : Bool) (mode : Nat) : Nat × Nat :=
  let c := ranked i 0 2 mode
  motorStep (i.sn 0) (i.sn 1) i.dt (i.pt 0) (c == some 0 && !ilk) (c == some 1 || ilk) (i.b 7) trip (i.b 6)

/-- MOTOR_2SPD: low, high and stop of each source, RESET, FB_LO, FB_HI, TRIP, ILK, MODE. State 5 is the pause T_CHG. -/
def motor2 (i : BlkIn) : BlkOut :=
  let c := if i.b 13 then some 2 else ranked i 0 3 14
  let spd := i.sn 2
  let fb := if spd = 2 then i.b 11 else i.b 10
  let anyFb := i.b 10 || i.b 11
  let st := i.sn 0
  let t := i.sn 1 + i.dt
  let want := match c with
    | some 0 => 1
    | some 1 => 2
    | _ => 0
  let (st', t', spd') : Nat × Nat × Nat :=
    if i.b 12 && st != 4 then (4, 0, spd)
    else match st with
      | 0 => if want != 0 then (1, 0, want) else (0, 0, spd)
      | 5 => if c == some 2 then (3, 0, spd) else if i.pt 1 ≤ t then (1, 0, spd) else (5, t, spd)
      | 4 => if i.b 9 && !i.b 12 then (0, 0, spd) else (4, 0, spd)
      | 3 => if !anyFb then (0, 0, spd) else if i.pt 0 ≤ t then (4, 0, spd) else (3, t, spd)
      | s =>
        if c == some 2 then (3, 0, spd)
        else if want != 0 && want != spd then (5, 0, want)
        else if fb then (2, 0, spd)
        else if s = 2 then (4, 0, spd)
        else if i.pt 0 ≤ t then (4, 0, spd) else (1, t, spd)
  let on := st' = 1 || st' = 2
  { outs := [bf (on && spd' = 1), bf (on && spd' = 2), devState st'], st := [nf st', nf t', nf spd'] }

/-- A travelling device (R68): positions 0 closed, 1 open, 2 middle. State is state, time, target plus 1 (0 none).
Answers state, time, target. -/
def travel (st t dt lim tgt : Nat) (cmd : Option Nat) (at_ : Nat → Bool) (reset : Bool) : Nat × Nat × Nat :=
  let rest (p : Nat) : Nat := if p = 0 then 0 else if p = 1 then 2 else 6
  let move (p : Nat) : Nat := if p = 0 then 3 else 1
  if st = 4 then (if reset then (5, 0, tgt) else (4, 0, tgt))
  else if at_ 0 && at_ 1 then (4, 0, tgt)
  else
    match cmd with
    | some c =>
      if tgt != c + 1 || st = 5 then (if at_ c then (rest c, 0, c + 1) else (move c, 0, c + 1))
      else if at_ c then (rest c, 0, tgt)
      else if st = rest c then (4, 0, tgt)
      else if lim ≤ t + dt then (4, 0, tgt) else (st, t + dt, tgt)
    | none =>
      if tgt = 0 then (5, 0, 0)
      else
        let c := tgt - 1
        if at_ c then (rest c, 0, tgt)
        else if st = rest c then (4, 0, tgt)
        else if lim ≤ t + dt then (4, 0, tgt) else (st, t + dt, tgt)

/-- VALVE_ONOFF and DAMPER: open and close of each source, RESET, ZSO, ZSC, then ILK or FIRE, either of which closes,
then MODE. -/
def onOff (i : BlkIn) : Nat × Nat × Nat :=
  let force := i.b 9
  let cmd := if force then some 0 else (ranked i 0 2 10).map fun c => if c = 0 then 1 else 0
  travel (i.sn 0) (i.sn 1) i.dt (i.pt 0) (i.sn 2) cmd (fun p => if p = 1 then i.b 7 else i.b 8) (i.b 6)

/-- VALVE_MOD: SP, POS_FB, open and close of each source, MODE (R59, R65). POS_REF is SP while no command stands; where
one does, the manual states no reference and it is a free value (log 89). The state tells a deviation beyond DEV for
T_DEV. -/
def valveMod (i : BlkIn) : BlkOut :=
  let ref : DWord := if (ranked i 2 2 8).isSome then (i.free 0).setWidth 32 |>.setWidth 64 else (i.r 0).setWidth 64
  let far := f64lt (i.pf 0) (f64abs (f64sub (i.f 1) (f64of32 (ref.setWidth 32))))
  let t := if far then i.sn 0 + (if i.sb 1 then i.dt else 0) else 0
  { outs := [ref, codeOf 0x0506 (if far && i.pt 1 ≤ t then 1 else 0)], st := [nf t, bf far] }

/-- Device control blocks. In FAULT a valve keeps its last command outputs (R68). SPD_REF of MOTOR_VSD is a free value:
no rule says what sets it, nor what RAMP and SPD_FB do. CMD of DAMPER opens the damper while it is true (DESIGN CHOICE,
both log 89). -/
def blkDevice (idx : Nat) (i : BlkIn) : BlkOut :=
  match idx with
  | 1 =>
    let (s, t) := motor i (i.b 8) (i.b 9) 10
    { outs := [bf (s = 1 || s = 2), devState s], st := [nf s, nf t] }
  | 2 => motor2 i
  | 3 =>
    let (s, t) := motor i false false 9
    { outs := [bf (s = 1 || s = 2), (i.free 0).setWidth 32 |>.setWidth 64, devState s], st := [nf s, nf t] }
  | 4 =>
    let fault (k : Nat) : Bool := i.v k == devState 4
    let runs (k : Nat) : Bool := i.v k == devState 2
    let d := i.sn 0
    let o := 1 - d
    let press := if i.b 2 then (if i.sb 4 then i.sn 1 + i.dt else 0) else 0
    let run := if runs d then i.sn 2 + i.dt else i.sn 2
    let changing := i.sb 3
    let both := fault 0 && fault 1
    let force := fault d || (3000000000 ≤ press && i.b 2)
    let (d', press, run, chg) : Nat × Nat × Nat × Bool :=
      if both || fault o then (d, press, run, false)
      else if force then (o, 0, 0, false)
      else if changing then (if runs o then (o, press, 0, false) else (d, press, run, true))
      else (d, press, run, decide (0 < i.pt 0 && i.pt 0 ≤ run))
    let on (k : Nat) : Bool := !both && (k == d' || chg)
    { outs := [bf (on 0), bf (on 1), nf (d' + 1)], st := [nf d', nf press, nf run, bf chg, bf (i.b 2)] }
  | 5 =>
    let (s, t, g) := onOff i
    let (o, c) := if s = 4 then (i.o 0, i.o 1) else (bf (g = 2), bf (g = 1))
    { outs := [o, c, devState s], st := [nf s, nf t, nf g] }
  | 6 => valveMod i
  | 7 =>
    let cmd := (ranked i 0 3 13).map fun c => if c = 0 then 1 else if c = 1 then 2 else 0
    let (s, t, g) := travel (i.sn 0) (i.sn 1) i.dt (i.pt 0) (i.sn 2) cmd
      (fun p => if p = 1 then i.b 10 else if p = 0 then i.b 11 else i.b 12) (i.b 9)
    let up := if i.b 11 then true else if i.b 10 then false else i.o 0 != 0
    let (o, c) := if s = 4 then (i.o 0, i.o 1)
      else if g = 2 then (1, 0) else if g = 1 then (0, 1)
      else if g = 3 && s != 6 then (bf up, bf (!up)) else (0, 0)
    { outs := [o, c, devState s], st := [nf s, nf t, nf g] }
  | _ =>
    let (s, t, g) := onOff i
    { outs := [if i.b 9 then 0 else if s = 4 then i.o 0 else bf (g = 2), devState s], st := [nf s, nf t, nf g] }

/-! ### Group 0x06 -/

/-- GEN_START (R70): SPD and VOLT in percent of their rated values (log 32). States: 0 idle, 1 starting, 2 pause of 5 s,
3 live bus, 4 dead bus, 5 breaker closed, 6 failed. A start, the first and a retry, needs READY_IN. Whether the bus is
live is no input of the block: a free value (log 90). -/
def genStart (i : BlkIn) : BlkOut :=
  let st := i.sn 0
  let t := i.sn 1 + i.dt
  let n := i.sn 2
  let up := f64le (f64int 95) (f64of32 (i.r 2)) && f64le (f64int 90) (f64of32 (i.r 3))
  let lim := max 1 (i.p 1).toNat
  let (s, t, n) : Nat × Nat × Nat :=
    if !i.b 0 then (0, 0, 0)
    else match st with
      | 0 => if i.b 1 then (1, 0, 1) else (0, 0, 0)
      | 1 => if up then ((if (i.free 0).getLsbD 0 then 3 else 4), 0, n)
             else if i.pt 0 ≤ t then (if n < lim then (2, 0, n) else (6, 0, n)) else (1, t, n)
      | 2 => if 5000000000 ≤ t && i.b 1 then (1, 0, n + 1) else (2, t, n)
      | 6 => (6, 0, n)
      | 5 => (5, 0, n)
      | s => if i.b 4 then (5, 0, n) else (s, 0, n)
  { outs := [bf (s = 1 || s = 3 || s = 4 || s = 5), bf (s = 3), bf (s = 4), codeOf 0x0601 s, bf (s = 6)]
    st := [nf s, nf t, nf n] }

/-- LOAD_SHARE (R71): the power of a generator whose breaker is open is not used (R53). -/
def loadShare (i : BlkIn) : BlkOut :=
  let idx := List.range 4
  let on (k : Nat) : Bool := i.b (4 + k)
  let sum (f : Nat → F64) : F64 := (idx.filter on).foldl (fun a k => f64add a (f k)) 0
  let tot := sum i.f
  let ws := sum i.pf
  { outs := idx.map fun k =>
      if !on k then 0
      else
        let share := f64div (f64mul tot (i.pf k)) ws
        let old := f64of32 ((i.o k).setWidth 32)
        let v := f64add old (f64mul (f64mul (i.pf 4) (f64sub share (i.f k))) (secs i.dt))
        rf (f64min (f64max v (f64int (-10))) (f64int 10))
    used := some ((idx.filter on) ++ idx.map (4 + ·)) }

/-- PREF_TRIP (R72): the reset command is the input after OC. State: three times, three trips, over as last seen. -/
def prefTrip (i : BlkIn) : BlkOut :=
  let lim (k : Nat) : F64 := f64div (f64mul (i.pf k) (i.f 1)) (f64int 100)
  let high := f64lt (lim 0) (i.f 0)
  let low := f64lt (i.f 0) (lim 4)
  let r := (List.range 3).map fun k =>
    let t := if high then i.sn k + (if i.sb 6 then i.dt else 0) else 0
    let due := i.b 2 || (high && i.pt (1 + k) ≤ t)
    let q := due || (i.sb (3 + k) && !(low && i.b 3))
    (nf t, bf q)
  { outs := r.map (·.2), st := r.map (·.1) ++ r.map (·.2) ++ [bf high] }

/-- BLACKOUT_SEQ (R73): inputs BUS_V in percent of its rated value, the STATE of four GEN_START blocks by generator, then
their breakers; ORDER is a parameter of four generator numbers of 4 bits. REQ_STARTk requests the k-th generator of
ORDER, and CMD_DEADBUS_CB names the generator whose breaker is to close, 0 for none (log 90). State: 0 active, 1 time
low, 2 low as last seen, 3 the generators that have failed in this sequence, 4 time since the breaker closed, 5 closed.
A sequence whose groups are all released is over, and a later dead bus begins one without failures. -/
def blackout (i : BlkIn) : BlkOut :=
  let low := f64lt (i.f 0) (f64int 30)
  let t := if low then (if i.sb 2 then i.sn 1 + i.dt else 0) else 0
  let order := ((List.range 4).map fun k => ((i.p 0).toNat / 16 ^ k) % 16).filter fun g => 1 ≤ g && g ≤ 4
  let state (g : Nat) : DWord := i.v g
  let ready (g : Nat) : Bool := state g == codeOf 0x0601 4 || state g == codeOf 0x0601 3 || state g == codeOf 0x0601 5
  let closed (g : Nat) : Bool := i.b (4 + g)
  let dead := low && i.pt 1 ≤ t
  let again := dead && (!i.sb 0 || i.sb 5)
  let settled := i.sb 5 && (List.range 4).all fun k => i.pt (2 + k) ≤ i.sn 4
  let act := again || i.sb 0
  let old := if again && settled then 0 else i.sn 3
  let failed (g : Nat) : Bool := old.testBit g || state g == codeOf 0x0601 6
  let fails := order.foldl (fun m g => if act && failed g && !m.testBit g then m + 2 ^ g else m) old
  let use := (order.filter fun g => !failed g).take 2
  let any := use.any closed
  let isClosed := !again && (i.sb 5 || (act && any && !low))
  let since := if isClosed then (if i.sb 5 then i.sn 4 + i.dt else 0) else 0
  let cb := if act && !any && !isClosed then (use.find? ready).getD 0 else 0
  { outs := ((List.range 4).map fun k => bf (act && (order[k]?).any fun g => use.contains g)) ++ [nf cb] ++
      ((List.range 4).map fun k => bf (isClosed && i.pt (2 + k) ≤ since)) ++
      [codeOf 0x0607 (if !act then 0 else if isClosed then 2 else 1)]
    st := [bf act, nf t, bf low, nf fails, nf since, bf isClosed] }

/-- BUS_TIE: V_A and V_B in percent of the rated value, CB_FB, close and open of each source (R59, R65, R66). With both
buses live, at 30 % or above as in R73, a close command makes the synchroniser request, which STATE shows, and CMD_CB
follows the breaker; with a dead bus CMD_CB closes it directly, as R70 has it for a generator (DEDUCED, log 90). STATE:
0 open, 1 closing, 2 closed, 3 synchroniser request. -/
def busTie (i : BlkIn) : BlkOut :=
  let c := (List.range 3).foldl (fun (m : Option Bool) src => match m with
    | some c => some c
    | none => if i.b (4 + 2 * src) then some false else if i.b (3 + 2 * src) then some true else none) none
  let on := c.getD (i.sb 0)
  let live (k : Nat) : Bool := f64le (f64int 30) (i.f k)
  let sync := on && !i.b 2 && live 0 && live 1
  { outs := [bf (on && !sync), codeOf 0x0608 (if i.b 2 then 2 else if sync then 3 else if on then 1 else 0)], st := [bf on] }

/-- Power management blocks. -/
def blkPower (idx : Nat) (i : BlkIn) : BlkOut :=
  match idx with
  | 1 => genStart i
  | 2 =>
    let s := i.sn 0
    let t := i.sn 1 + i.dt
    let (s, t) : Nat × Nat :=
      if !i.b 0 then (0, 0)
      else match s with
        | 0 => (1, 0)
        | 1 => if f64le (i.f 1) (i.pf 0) then (2, 0) else (1, 0)
        | 2 => if i.b 2 then (2, 0) else (3, 0)
        | 3 => if i.pt 1 ≤ t then (4, 0) else (3, t)
        | _ => (4, 0)
    { outs := [bf (s = 1 || s = 2), bf (s = 2), bf (s = 4)], st := [nf s, nf t] }
  | 3 => loadShare i
  | 4 =>
    let lim (k : Nat) : F64 := f64div (f64mul (i.pf k) (i.f 1)) (f64int 100)
    let hi := f64lt (lim 0) (i.f 0)
    let lo := f64lt (i.f 0) (lim 1)
    let a := if hi then i.sn 0 + (if i.sb 2 then i.dt else 0) else 0
    let b := if lo then i.sn 1 + (if i.sb 3 then i.dt else 0) else 0
    { outs := [bf (hi && i.pt 2 ≤ a), bf (lo && i.pt 2 ≤ b)], st := [nf a, nf b, bf hi, bf lo] }
  | 5 =>
    let ok := f64le (i.f 1) (i.f 2)
    { outs := [bf (i.b 0 && ok), bf (i.b 0 && !ok)] }
  | 6 => prefTrip i
  | 7 => blackout i
  | _ => busTie i

/-! ### Group 0x07 -/

/-- Sequence blocks. STEP_NO of SEQ_CTRL is a free value: the manual does not say what it counts (log 33). RESET of
SEQ_CTRL ranks above HOLD and below ABORT, and the quality check of PERMIT8 demands class good (DESIGN CHOICE, log 88). A
source of CMD_ARB below the one that is passed is not used (R53). -/
def blkSequence (idx : Nat) (i : BlkIn) : BlkOut :=
  match idx with
  | 1 =>
    let x := i.b 0 || (i.sb 0 && !i.b 1)
    let t := if x && i.sb 0 && !i.b 0 then i.sn 1 + i.dt else 0
    { outs := [bf x, nf (min 2147483647 (t / 1000000)), bf (x && i.pt 0 < t)], st := [bf x, nf t] }
  | 2 => { outs := [bf (i.b 0 && i.b 1)] }
  | 3 =>
    let m := i.sn 0
    let m := if i.b 2 then (if m = 1 || m = 2 then 3 else m)
      else if i.b 3 then 0
      else if i.b 1 then (if m = 1 then 2 else m)
      else if i.b 0 then (if m = 0 || m = 2 then 1 else m) else m
    { outs := [codeOf 0x0703 m, df ((i.free 0).setWidth 32).toInt], st := [nf m] }
  | 4 => { outs := [bf (((List.range 8).filter i.has).all i.b)] }
  | 5 =>
    let cs := ((List.range 16).filter i.has).filter fun k => i.b k != (i.p 0).getLsbD k
    { outs := [bf (!cs.isEmpty), if cs.isEmpty || i.o 0 != 0 then i.o 1 else nf (cs.headD 0 + 1)] }
  | 6 => { outs := [bf (((List.range 8).filter i.has).all fun k => i.b k && qClass (i.q k) == 2)] }
  | 7 => { outs := [codeOf 0x0707 (if i.b 0 then 1 else if i.b 1 then 2 else if i.b 2 then 3 else 0)] }
  | _ =>
    match (List.range 4).find? fun k => i.v k != 0 with
    | some k => { outs := [i.v k, nf (k + 1)], used := some (List.range (k + 1)) }
    | none => { outs := [0, 0] }

/-! ### Group 0x08 -/

/-- Engine links; `link` holds what the block reads, as the input image was filled (R74 to R76): CHAIN_IO output, SAT,
LAT_NS; CHAIN_SWAP active bank, how its swap ended; CHAIN_STAT MISSED, LAT_MAX_NS, OVERLOAD; VD_SET I_FB; VD_STAT three bits; SAFE_REQ
LAST_SEQ; SAFE_STAT TRIPPED, RESET_REQ, DIAG; TRACE_ARM state. -/
def blkLink (idx inst : Nat) (i : BlkIn) : BlkOut :=
  let l (k : Nat) : DWord := i.link.getD k 0
  let val (k : Nat) : Val := { v := i.v k, q := i.q k }
  let num := (i.p 0).toNat
  match idx with
  | 1 =>
    let mode := if i.has 2 then some (i.v 2).toNat else none
    { outs := [l 0, l 1, l 2], eff := [.chainIo num (val 0) (val 1) mode] }
  | 2 =>
    let edge := i.b 0 && !i.sb 0
    { outs := [bf (!edge && l 1 == 1), l 0], st := [bf (i.b 0), if edge then 0 else i.s 1]
      eff := if edge then [.chainSwap inst num (i.b 1) (i.b 2)] else [] }
  | 3 => { outs := [l 0, l 1, l 2] }
  | 4 =>
    let x := i.f 0
    let high := f64lt x 0 || f64lt (f64int 2500) x
    let v := if i.has 1 && !i.b 1 then 0 else f32of64 (f64min (f64max x 0) (f64int 2500))
    { outs := [l 0, codeOf 0x0804 (if high then 1 else 0)], eff := [.vdSet num v]
      used := if i.has 1 && !i.b 1 then some [1] else none }
  | 5 => { outs := [l 0, l 1, l 2] }
  | 6 =>
    let edge := i.b 0 && !i.sb 0
    let queued := !edge && i.s 1 == 1
    let acc := queued && (i.sb 3 || (((l 0).setWidth 16 : BitVec 16) - (i.s 2).setWidth 16).toNat < 0x8000)
    { outs := [bf queued, bf acc], st := [bf (i.b 0), if edge then 0 else i.s 1, i.s 2, bf acc]
      eff := if edge then [.safeReq inst num ((i.p 1).setWidth 8)] else [] }
  | 7 => { outs := [l 0, l 1, l 2] }
  | _ =>
    let edge := i.b 0 && !i.sb 0
    { outs := [bf (l 0 == 1 || l 0 == 2), bf (l 0 == 4)], st := [bf (i.b 0)], eff := if edge then [.traceArm num] else [] }

/-- A block's code by its type id (R51); `inst` is the instance's number. -/
def blockStep (ty inst : Nat) (i : BlkIn) : BlkOut :=
  match ty / 256 with
  | 1 => blkLogic (ty % 256) i
  | 2 => blkTiming (ty % 256) i
  | 3 => blkAnalogue (ty % 256) i
  | 4 => blkAlarm (ty % 256) i
  | 5 => blkDevice (ty % 256) i
  | 6 => blkPower (ty % 256) i
  | 7 => blkSequence (ty % 256) i
  | _ => blkLink (ty % 256) inst i

/-- The 64 type ids (R51). -/
def blockType (ty : Nat) : Bool := 1 ≤ ty / 256 && ty / 256 ≤ 8 && 1 ≤ ty % 256 && ty % 256 ≤ 8

/-- The types that accept RETAIN (R57). -/
def retainType (ty : Nat) : Bool :=
  [0x0204, 0x0205, 0x0206, 0x0207, 0x0308, 0x0504, 0x0601, 0x0703].contains ty || ty / 256 = 4

/-- The EN input of a type, if it has one (R54). -/
def enInput (ty : Nat) : Option Nat := if ty = 0x0208 then some 0 else if ty = 0x0804 then some 1 else none

/-- The places of the timers in a type's state: they start from 0 after a power loss (R57). -/
def timerSlots (ty : Nat) : List Nat :=
  if ty / 256 = 4 then [3, 8] else if ty = 0x0504 then [1, 2] else if ty = 0x0601 then [1] else []

/-- Whether an output is an LREAL: TOTAL of TOTALISE (R52). -/
def lrealOut (ty field : Nat) : Bool := ty = 0x0308 && field = 0

/-- The types of the inputs and the outputs of the 64 block types by letters (R59): b BOOL, i DINT or TIME, r REAL,
l LREAL, ? any. -/
def blockIo : List (Nat × String × String) :=
  [(0x0101, "bbbbbbbb", "b"), (0x0102, "bbbbbbbb", "b"), (0x0103, "bb", "b"), (0x0104, "b", "b"), (0x0105, "bb", "b"),
   (0x0106, "bb", "b"), (0x0107, "b", "b"), (0x0108, "b", "b"), (0x0201, "b", "bi"), (0x0202, "b", "bi"), (0x0203, "b", "bi"),
   (0x0204, "bb", "bib"), (0x0205, "bb", "bib"), (0x0206, "bbbb", "bbib"), (0x0207, "bb", "ri"), (0x0208, "b", "b"),
   (0x0301, "r", "r"), (0x0302, "r", "rbb"), (0x0303, "rb", "rb"), (0x0304, "r", "r"), (0x0305, "r", "r"), (0x0306, "rrr", "rb"),
   (0x0307, "r", "b"), (0x0308, "rb", "lb")] ++
  [(0x0401, "bbbbb", "ibb"), (0x0402, "rbbbb", "ibb"), (0x0403, "rbbbb", "ibb"), (0x0404, "rrbbbb", "ibb"),
   (0x0405, "rbbbb", "ibb"), (0x0406, "iiiiiiiiiiiiiiiiiiiiiiiiiiiiiiii", "ii"), (0x0407, "b", "b"), (0x0408, "bb", "b"),
   (0x0501, "bbbbbbbbbbi", "bi"), (0x0502, "bbbbbbbbbbbbbbi", "bbi"), (0x0503, "bbbbbbbbri", "bri"), (0x0504, "iib", "bbi"),
   (0x0505, "bbbbbbbbbbi", "bbi"), (0x0506, "rrbbbbbbi", "ri"), (0x0507, "bbbbbbbbbbbbbi", "bbi"), (0x0508, "bbbbbbbbbbi", "bi"),
   (0x0601, "bbrrb", "bbbib"), (0x0602, "brb", "bbb"), (0x0603, "rrrrbbbb", "rrrr"), (0x0604, "rr", "bb"), (0x0605, "brr", "bb"),
   (0x0606, "rrbb", "bbb"), (0x0607, "riiiibbbb", "bbbbibbbbi"), (0x0608, "rrbbbbbbb", "bi")] ++
  [(0x0701, "bb", "bib"), (0x0702, "bb", "b"), (0x0703, "bbbb", "ii"), (0x0704, "bbbbbbbb", "b"), (0x0705, "bbbbbbbbbbbbbbbb", "bi"),
   (0x0706, "bbbbbbbb", "b"), (0x0707, "bbb", "i"), (0x0708, "????", "??"), (0x0801, "rri", "rbi"), (0x0802, "b?b", "b?"),
   (0x0803, "", "iib"), (0x0804, "rb", "ri"), (0x0805, "", "bbb"), (0x0806, "b", "bb"), (0x0807, "", "bbi"), (0x0808, "b", "bb")]

/-- The letter of an input or output of a type. -/
def ioType (ty k : Nat) (out : Bool) : Char :=
  match blockIo.find? fun e => e.1 == ty with
  | some (_, i, o) => (if out then o else i).toList.getD k '?'
  | none => '?'

/-- How many inputs a type has. -/
def inputCount (ty : Nat) : Nat := ((blockIo.find? fun e => e.1 == ty).map fun e => e.2.1.length).getD 0

end Sys2Proof.Machine
end

