-- ==== Sys2Proof/Machine/Layout.lean ====
section
/-! DEFINITION. The byte layouts of a task's call list, binding lists and instance records (R38, R39, R40), and the task
that they describe. The sizes of a block type's own fields are not in the manual (log 3). -/
namespace Sys2Proof.Machine

/-- A little-endian field of a byte list. -/
def leAt (b : List Byte) (ofs n : Nat) : Nat := (leValue ((b.drop ofs).take n)).toNat

/-- A list cut into pieces of n bytes; what is left over is the last piece. -/
def chop (n : Nat) : Nat → List Byte → List (List Byte)
  | 0, _ => []
  | _ + 1, [] => []
  | fuel + 1, b => b.take n :: chop n fuel (b.drop n)

/-- The 16 bytes of a call record (R38). -/
structure CallRaw where
  typeId : BitVec 16
  flags : BitVec 16
  instOffset : Word
  bindOffset : Word
  reserved : Word
  deriving DecidableEq, Repr

/-- A call record from its bytes (R38). -/
def callRaw (b : List Byte) : CallRaw :=
  { typeId := BitVec.ofNat 16 (leAt b 0 2), flags := BitVec.ofNat 16 (leAt b 2 2), instOffset := BitVec.ofNat 32 (leAt b 4 4)
    bindOffset := BitVec.ofNat 32 (leAt b 8 4), reserved := BitVec.ofNat 32 (leAt b 12 4) }

/-- A call record that R38 admits: whole, offsets in multiples of 8, the reserved word zero. -/
def callOk (b : List Byte) : Bool :=
  let r := callRaw b
  b.length = 16 && r.instOffset.toNat % 8 = 0 && r.bindOffset.toNat % 8 = 0 && r.reserved == 0

/-- The record as the executor reads it (R38, R39). -/
def CallRaw.call (r : CallRaw) : CallRec :=
  { typeId := r.typeId.toNat, skip := r.flags.getLsbD 0, enBound := r.flags.getLsbD 1, firstHold := r.flags.getLsbD 2
    otherFlags := (r.flags >>> 3).setWidth 13, inst := r.instOffset.toNat / 8 }

/-- An instance record's header (R39). -/
structure InstHdr where
  typeId : BitVec 16 := 0
  version : BitVec 16 := 1
  flags : BitVec 16 := 0
  paramCrc : BitVec 16 := 0
  length : Word := 0
  key : Word := 0
  deriving DecidableEq, Repr

/-- A header from its 16 bytes (R39). -/
def instHdr (b : List Byte) : InstHdr :=
  { typeId := BitVec.ofNat 16 (leAt b 0 2), version := BitVec.ofNat 16 (leAt b 2 2), flags := BitVec.ofNat 16 (leAt b 4 2)
    paramCrc := BitVec.ofNat 16 (leAt b 6 2), length := BitVec.ofNat 32 (leAt b 8 4), key := BitVec.ofNat 32 (leAt b 12 4) }

/-- The 16 bytes of a header (R39). -/
def InstHdr.bytes (h : InstHdr) : List Byte :=
  leBytes 2 (h.typeId.setWidth 64) ++ leBytes 2 (h.version.setWidth 64) ++ leBytes 2 (h.flags.setWidth 64) ++
    leBytes 2 (h.paramCrc.setWidth 64) ++ leBytes 4 (h.length.setWidth 64) ++ leBytes 4 (h.key.setWidth 64)

/-- The records of an instance region with their byte offsets, each as long as its header says (R39). -/
def instRecords : Nat → Nat → List Byte → List (Nat × List Byte)
  | 0, _, _ => []
  | _ + 1, _, [] => []
  | fuel + 1, ofs, b =>
    let n := max 16 (instHdr b).length.toNat
    (ofs, b.take n) :: instRecords fuel (ofs + n) (b.drop n)

/-- A record that R39 admits: whole, a length in multiples of 8, flag bits 3 to 15 zero. -/
def recordOk (r : List Byte) : Bool :=
  let h := instHdr r
  Nat.ble 16 r.length && r.length = h.length.toNat && h.length.toNat % 8 = 0 && h.flags >>> 3 == 0

/-- The fields of a binding entry (R39): kind, index, field, reserved. -/
def bindKind (w : DWord) : Nat := (w >>> 60).toNat
def bindIndex (w : DWord) : Nat := ((w >>> 32).setWidth 28).toNat
def bindField (w : DWord) : Nat := ((w >>> 16).setWidth 16).toNat

/-- A binding entry that R39 admits: a kind that is not reserved, the reserved bits zero. -/
def entryOk (w : DWord) : Bool := bindKind w < 4 && (w.setWidth 16 : BitVec 16) == 0

/-- A binding entry as the executor resolves it (R39): `typ` gives the type of an instance by its number. -/
def bindOf (consts : List DWord) (typ : Nat → Nat) (w : DWord) : Bind :=
  match bindKind w with
  | 0 => .image (bindIndex w)
  | 1 => .inst (bindIndex w) (Config.outputAt (typ (bindIndex w)) (bindField w))
  | 2 => .const (consts.getD (bindIndex w) 0)
  | _ => .unbound

/-- The binding entries of n inputs at an offset of the binding region. -/
def bindList (b : List Byte) (ofs n : Nat) : List DWord :=
  (chop 8 n (b.drop ofs)).map leValue

/-- A task with its call list and instances read from the bytes that the image carries; `inputs` gives how many inputs
a type has (R39). A task without bytes stays as it is. -/
def buildTask (consts : List DWord) (inputs : Nat → Nat) (t : TaskCfg) : TaskCfg :=
  if t.callBytes.isEmpty then t
  else
    let rs := instRecords (t.instBytes.length + 1) 0 t.instBytes
    let typ (n : Nat) : Nat := ((rs.find? fun r => r.1 == 8 * n).map fun r => (instHdr r.2).typeId.toNat).getD 0
    let raws := (chop 16 (t.callBytes.length + 1) t.callBytes).map callRaw
    let binds (ofs : Nat) (ty : Nat) : List Bind :=
      match raws.find? fun r => r.instOffset.toNat == ofs with
      | some r => (bindList t.bindBytes r.bindOffset.toNat (inputs ty)).map (bindOf consts typ)
      | none => []
    { t with
      calls := raws.map CallRaw.call
      region := t.instBytes.length
      insts := rs.map fun r =>
        let h := instHdr r.2
        let ty := h.typeId.toNat
        let body := r.2.drop 16
        (r.1 / 8, { key := h.key, typeId := ty, version := h.version.toNat, retain := h.flags.getLsbD 0
                    otherFlags := (h.flags >>> 1).setWidth 15, length := h.length.toNat
                    params := Config.params ty body, paramBytes := Config.paramField ty body, paramCrc := h.paramCrc
                    binds := binds r.1 ty, kept := Config.keptBytes ty }) }

/-- The rule that a task's bytes break: 38 a call record, 39 a record's header or a binding entry, 40 a reference to an
instance that the task does not have. -/
def badLayout (inputs : Nat → Nat) (t : TaskCfg) : Option Nat :=
  let rs := instRecords (t.instBytes.length + 1) 0 t.instBytes
  let raws := chop 16 (t.callBytes.length + 1) t.callBytes
  let entries := raws.flatMap fun b =>
    let r := callRaw b
    bindList t.bindBytes r.bindOffset.toNat (inputs r.typeId.toNat)
  let short (b : List Byte) : Bool :=
    let r := callRaw b
    Nat.blt t.bindBytes.length (r.bindOffset.toNat + 8 * inputs r.typeId.toNat)
  let has (ofs : Nat) : Bool := rs.any fun r => r.1 == ofs
  if raws.any fun b => !callOk b || !has (callRaw b).instOffset.toNat then some 38
  else if (rs.any fun r => !recordOk r.2) || raws.any short || entries.any fun w => !entryOk w then some 39
  else if entries.any fun w => bindKind w = 1 && !has (8 * bindIndex w) then some 40
  else none

end Sys2Proof.Machine
end

