-- ==== Sys2Proof/Machine/CycleOps.lean ====
section
/-! DEFINITION. One cycle of a task: image fill, block execution, output set, copies to the standby half, online change
of a task (R25 to R28, R38 to R50, R53, R54, R58, R194). -/
namespace Sys2Proof.Machine

/-- The application cluster runs tasks: the half runs the station, PD2 is on and its lockstep pair runs (R22, R223). -/
def Half.appOn (x : Half) : Bool := x.isActive && x.domainOn 2 && !x.fc.haltApp

/-- The incoming half of a controlled handover takes the task releases from H on (R206). -/
def Half.appComes (x : Half) : Bool :=
  (x.role.ho.any fun k => !k.outgoing && 1 ≤ k.stage) && x.domainOn 2 && !x.fc.haltApp

/-- Tasks run: none before H + 150 µs of a controlled handover (R207). -/
def Half.appRuns (x : Half) : Bool := x.appOn && x.reached x.role.startAt

/-- A value read before anything was written: bad, not yet written (R250). -/
abbrev unwritten : Val := { v := 0, q := 0x20 }

/-! ### The input image (R26) -/

/-- A function's state code in SAF_FUNC (R179). -/
def Half.safState (x : Half) (f : Nat) : Nat := x.fld (Reg.SAF_FUNC f) 7 4

/-- The latest value of a source of an input image. -/
def Half.srcVal (x : Half) (s : Src) : Val :=
  match s with
  | .di n => { v := bf (x.bit2 Reg.DI_LEVEL0 Reg.DI_LEVEL1 n), q := qGood }
  | .diEdge n => { v := ((x.rd (Reg.DI_TS_HI n)).setWidth 64 <<< 32) ||| (x.rd (Reg.DI_TS_LO n)).setWidth 64, q := qGood }
  | .ai n => { v := (x.rd (Reg.AI_EU n)).setWidth 64, q := BitVec.ofNat 8 (x.fld (Reg.AI_STAT n) 7 0) }
  | .fi n => { v := (x.rd (Reg.FI_SPEED n)).setWidth 64, q := qGood }
  | .obj p =>
    let v := pointVal (x.point p)
    if (x.pointCfg p).any fun c => c.typ == .lreal then { v with v := (f32of64 v.v).setWidth 64 } else v
  | .imported st p =>
    let oid := st * 8192 + p
    match x.rec? oid with
    | none => { unwritten with q := (x.absentRec oid).quality }
    | some r =>
      let lreal := x.conf.imports.any fun e => e.1.toNat == oid && e.2 == .lreal
      { v := if lreal then (f32of64 r.value).setWidth 64 else r.value, q := r.quality }
  | .chainOut c => { v := (x.chainSt c).out.setWidth 64, q := qGood }
  | .chainSat c => { v := bf ((x.chainSt c).satHi || (x.chainSt c).satLo), q := qGood }
  | .chainLat c => { v := (x.chainSt c).latLast.setWidth 64 * 2, q := qGood }
  | .chainMissed c => { v := (x.chainSt c).missed.setWidth 64, q := qGood }
  | .chainLatMax c => { v := (x.chainSt c).latMax.setWidth 64 * 2, q := qGood }
  | .chainOverload _ => { v := bf (x.srcBit (Reg.FC_ACTIVE 0) 88), q := qGood }
  | .chainBank c => { v := bf (x.chainSt c).bankB, q := qGood }
  | .chainSwapPend c => { v := bf (x.chainSt c).swap.isSome, q := qGood }
  | .vdCurrent v => { v := (x.rd (Reg.VD_I_AVG1 v)).setWidth 64, q := qGood }
  | .vdStat v b => { v := bf (x.bit (Reg.VD_STAT v) b), q := qGood }
  | .safFunc f => { v := nf (x.safState f), q := qGood }
  | .safLastSeq => { v := nf (x.fld Reg.SAF_RQ 15 0), q := qGood }
  | .tcState c => { v := nf (x.tcState c), q := qGood }
  | .aoReadback m => x.aoReadback m

/-- What an engine link reads, as the input image is filled (R74 to R76, R59). Before Scruple has accepted an entry,
SAFE_REQ sees the number before the first sequence. -/
def Half.linkVals (x : Half) (idx num : Nat) : List DWord :=
  let v (s : Src) : DWord := (x.srcVal s).v
  match idx with
  | 1 => [v (.chainOut num), v (.chainSat num), v (.chainLat num)]
  | 2 => [v (.chainBank num)]
  | 3 => [v (.chainMissed num), v (.chainLatMax num), v (.chainOverload num)]
  | 4 => [v (.vdCurrent num)]
  | 5 => [v (.vdStat num 1), v (.vdStat num 2), v (.vdStat num 4)]
  | 6 => [if x.saf.accepted then v .safLastSeq else 0xFFFF]
  | 7 =>
    let s := x.safState num
    [bf (s = 2 || s = 3 || s = 5), bf (s = 4), nf (x.fld (Reg.SAF_FUNC num) 15 8)]
  | _ => [v (.tcState num)]

/-- An instance of a task's configuration. -/
def instCfg (c : TaskCfg) (n : Nat) : Option InstCfg := (c.insts.find? fun e => e.1 == n).map (·.2)

/-- The image filled and the engine links' reads taken. -/
def Half.fillImage (x : Half) (t : Nat) (c : TaskCfg) : Half :=
  let k := x.tsk t
  let insts := c.insts.foldl (fun (m : Tab InstSt) e =>
    if e.2.typeId / 256 = 8 then
      Tab.upd {} m e.1 fun n => { n with
        link := x.linkVals (e.2.typeId % 256) (e.2.params.headD 0).toNat ++
          (if e.2.typeId = 0x0802 then [n.st.getD 1 0] else []) }
    else m) k.insts
  x.modTsk t fun k => { k with image := c.inputs.map x.srcVal, insts := insts }

/-! ### Block execution (R38 to R40, R53, R54, R58) -/

/-- A binding resolved, and whether the input is bound; an unbound input reads 0 or false (log 33). An output of an
instance that has not run yet reads 0 with quality bad, not yet written: the manual gives no initial value (log 86). -/
def bindVal (c : TaskCfg) (k : TaskSt) (b : Bind) : Val × Bool :=
  match b with
  | .image e => (k.image.getD e unwritten, true)
  | .inst i f =>
    let v := (k.insts.get {} i).outs.getD f unwritten
    let lreal := (instCfg c i).any fun d => lrealOut d.typeId f
    (if lreal then { v with v := (f32of64 v.v).setWidth 64 } else v, true)
  | .const v => ({ v := v, q := qGood }, true)
  | .unbound => ({ v := 0, q := qGood }, false)

/-- Four free values. -/
def Half.free4 (x : Half) : List DWord × Half :=
  ((List.range 4).map fun i => Config.freeValue x.id (x.fresh + i), { x with fresh := x.fresh + 4 })

/-- The quality of a block's outputs (R53): over the bound inputs that the block used in this cycle. -/
def outQuality (bs : List (Val × Bool)) (o : BlkOut) : Byte :=
  let used (k : Nat) : Bool := o.used.elim true fun l => l.contains k
  o.qual.getD (worstQ ((bs.zipIdx.filter fun e => e.1.2 && used e.2).map (·.1.1.q)))

/-- A block's code run on an instance with its inputs resolved. Under FIRST_SCAN_HOLD it updates its internal state, that
of SAFE_REQ apart, and every effect is withheld (R58). -/
def Half.runBlock (x : Half) (t : Nat) (c : TaskCfg) (r : CallRec) (ic : InstCfg) (bs : List (Val × Bool)) (hold : Bool) :
    Half :=
  let n := (x.tsk t).insts.get {} r.inst
  let (fv, y) := x.free4
  let o := blockStep ic.typeId r.inst {
    ins := bs.map (·.1), bound := bs.map (·.2), par := ic.params, outs := n.outs.map (·.v), st := n.st
    dt := match n.last with
      | some m => (x.mono - m).toNat
      | none => 0
    period := taskTi c, ack := n.ack, link := n.link, fv := fv }
  let q := outQuality bs o
  let n' : InstSt := { n with
    ins := bs.map (·.1)
    outs := if hold then n.outs else o.outs.map fun v => { v := v, q := q }
    st := if hold && ic.typeId = 0x0806 then n.st else o.st
    initDone := true, last := some x.mono, ack := false }
  y.modTsk t fun k =>
    let m : Tab InstSt := k.insts.put r.inst n'
    if hold then { k with insts := m }
    else { k with
      effects := k.effects ++ o.eff
      insts := o.acks.foldl (fun m a => Tab.upd {} m a fun (n : InstSt) => { n with ack := true }) m }

/-- One call record executed (R38, R54, R58): one with SKIP is not; one with EN_BOUND and EN false lets no time pass for
its timers. -/
def Half.execCall (x : Half) (t : Nat) (c : TaskCfg) (r : CallRec) : Half :=
  match instCfg c r.inst with
  | none => x
  | some ic =>
    let k := x.tsk t
    let bs := ic.binds.map (bindVal c k)
    let en := (enInput ic.typeId).all fun e => ((bs.map (·.1)).getD e unwritten).v != 0
    let hold := r.firstHold && k.firstCycle
    let x : Half := if hold then x.modTsk t fun k => { k with withheld := k.withheld ++ [r.inst] } else x
    if r.skip then x
    else if r.enBound && !en then
      x.modTsk t fun k => { k with insts := k.insts.upd {} r.inst fun n => { n with last := some x.mono } }
    else x.runBlock t c r ic bs hold

/-! ### The output set -/

/-- The output image at the end of a cycle (R27); the entry of a withheld instance writes nothing (R58). -/
def outValues (c : TaskCfg) (k : TaskSt) : List (Option Val) :=
  c.outs.map fun o =>
    if k.withheld.contains o.inst then none else some ((k.insts.get {} o.inst).outs.getD o.field unwritten)

/-- The tasks beside t whose points are still theirs in an online change: not yet switched, in their last cycle, or with
the set of it still to be written (R46, R48). -/
def Half.oldOwners (x : Half) (t : Nat) : List Nat :=
  x.taskIds.filter fun o =>
    let k := x.tsk o
    o != t && ((x.cfg.pend.any fun p => p.waiting.contains o) || k.deleting || (k.gone && k.updDue))

/-- The entries that a task may write now: a point that an online change moves between tasks is withheld until its old
owner has switched (R48). -/
def Half.mayWrite (x : Half) (t : Nat) (d : Dst) : Bool :=
  !(x.oldOwners t).any fun o => (x.taskCfg o).any fun c => c.outs.any fun b => b.dst == d

/-- The same for the valve-drive channel that a VD_SET is bound to (R28, R48). -/
def Half.mayDrive (x : Half) (t v : Nat) : Bool :=
  !(x.oldOwners t).any fun o => (x.taskCfg o).any fun c => c.insts.any fun i =>
    i.2.typeId == 0x0804 && (i.2.params.headD 0).toNat == v

/-- A TRIP entry placed in the Scruple request queue (R76, R148, R273): SAFE_REQ learns that it entered, and its
sequence. A full ring takes none. -/
def Half.placeTrip (x : Half) (t inst func : Nat) (outs : Byte) : Half :=
  if !x.scrRoom then x
  else
    let seq := x.mbx.scrSeq
    let y : Half := x.scrPlace 0xD0 [outs, BitVec.ofNat 8 t, BitVec.ofNat 8 func, 0]
    y.modTsk t fun k => { k with insts := Tab.upd {} k.insts inst fun n =>
      { n with st := [n.st.headD 0, 1, seq.setWidth 64, 0] } }

/-- An effect of a block at the update instant (R27, R74 to R76, R138). -/
def Half.applyEffect (x : Half) (t : Nat) (e : Effect) : Half :=
  match e with
  | .chainIo c sp ff mode =>
    let y : Half := x.modChain c fun k => { k with spIo := sp.v.setWidth 32, ffTask := ff.v.setWidth 32 }
    match mode with
    | some 0 => if (y.chainSt c).mode == .off then y else (y.setMode c .off).forwardCe (.mode c .off)
    | some 1 => if (y.chainSt c).mode == .run then y else (y.setMode c .run).forwardCe (.mode c .run)
    | some 2 => if (y.chainSt c).mode == .hold then y else (y.setMode c .hold).forwardCe (.mode c .hold)
    | _ => y
  | .chainSwap inst c bankB bumpless =>
    (x.requestSwap c { bankB := bankB, bumpless := bumpless, inst := some (t, inst) }).forwardCe (.swap c bankB bumpless)
  | .vdSet v r => if v < 8 && x.mayDrive t v then x.setIref v r else x
  | .safeReq inst f outs => x.placeTrip t inst f outs
  | .traceArm c => if c < 8 && (x.tcState c = 0 || x.tcState c = 4) then x.tcArmed c else x

/-- The local objects of a set (R27). -/
def Half.applyObjs (x : Half) (t : Nat) (c : TaskCfg) : Half :=
  (c.outs.zip (x.tsk t).outImage).foldl (fun (y : Half) e =>
    match e.1.dst, e.2 with
    | .obj p, some v => if y.mayWrite t (.obj p) then y.drive (.obj p) v else y
    | _, _ => y) x

/-- The terminals of a set (R27). -/
def Half.applyTerms (x : Half) (t : Nat) (c : TaskCfg) : Half :=
  (c.outs.zip (x.tsk t).outImage).foldl (fun (y : Half) e =>
    match e.1.dst, e.2 with
    | .obj _, _ => y
    | d, some v => if y.mayWrite t d then y.drive d v else y
    | _, none => y) x

/-! ### Copies to the standby half (R42, R194, R198) -/

/-- FORCED_OUT of an instance (R39): a point that one of its outputs is written to is forced. -/
def Half.forcedOut (x : Half) (c : TaskCfg) (n : Nat) : Bool :=
  c.outs.any fun o => o.inst == n &&
    (match o.dst with
      | .obj p => some p
      | d => x.outPoint d).any fun p => (x.point p).force.isSome

/-- The header of an instance in service (R39). -/
def Half.instHeader (x : Half) (c : TaskCfg) (n : Nat) (k : InstSt) : List Byte :=
  match instCfg c n with
  | none => []
  | some i => ({ typeId := BitVec.ofNat 16 i.typeId, version := BitVec.ofNat 16 i.version
                 flags := BitVec.ofNat 16 (i.retain.toNat + 2 * k.initDone.toNat + 4 * (x.forcedOut c n).toNat)
                 paramCrc := i.paramCrc, length := BitVec.ofNat 32 i.length, key := i.key } : InstHdr).bytes

/-- What a task's region holds. -/
def Half.regionData (x : Half) (t : Nat) : RegionData :=
  let k := x.tsk t
  let c := (x.taskCfg t).getD {}
  { insts := k.insts.map fun e => (e.1, { header := x.instHeader c e.1 e.2, ins := e.2.ins, outs := e.2.outs
                                          st := e.2.st, initDone := e.2.initDone, last := e.2.last })
    points := (x.ownedPoints t).map fun p =>
      let s := x.point p
      (p, { kept := s.kept, pub := s.pub, seq := s.seq, tPub := s.tPub })
    cycle := k.cycle }

/-- The value that reaches a terminal: a force on its point takes precedence (R16). -/
def Half.termVal (x : Half) (d : Dst) (v : Val) : Val := ((x.outPoint d).bind fun p => (x.point p).force).getD v

/-- The output shadow of a task: the terminals of its output image and its references. -/
def Half.shadowData (x : Half) (c : TaskCfg) (k : TaskSt) : ShadowData :=
  let vs := c.outs.zip k.outImage
  { douts := vs.filterMap fun e => match e.1.dst, e.2 with
      | .dout n, some v => some (n, (x.termVal (.dout n) v).v != 0)
      | _, _ => none
    aos := vs.filterMap fun e => match e.1.dst, e.2 with
      | .ao n, some v => some (n, (x.termVal (.ao n) v).v.setWidth 32)
      | _, _ => none
    vds := k.outSet.filterMap fun e => match e with
      | .vdSet v r => some (v, r)
      | _ => none }

/-- The check of CYCLE_END: CV0 with the addresses folded in, over the whole region (R194). -/
def regionCheck (blocks : List (Nat × List Byte)) : Word := cv0 (withAddr 0 (blocks.flatMap (·.2)))

/-- STATE_DELTA frames of up to 15 entries; answers how many were sent. -/
def Half.sendBlocks (x : Half) (task region : Nat) (cycle : Word) (bs : List (Nat × List Byte)) : Nat × Half :=
  let n := (bs.length + 14) / 15
  (n, (List.range n).foldl (fun (y : Half) i =>
    y.spanPut (fun seq => .stateDelta seq {
      task := BitVec.ofNat 8 task, region := BitVec.ofNat 8 region, cycle := cycle
      entries := ((bs.drop (15 * i)).take 15).map fun b => { offset := BitVec.ofNat 32 b.1, data := b.2 } }) (i + 1 = n)) x)

/-- A cycle's dirty blocks, output shadow and CYCLE_END (R194); more than B_i blocks raise source 68 (R198). -/
def Half.sendCycle (x : Half) (t : Nat) (c : TaskCfg) (d : RegionData) (tEnd : DWord) : Half :=
  let all := Config.regionBlocks t d
  let old := x.copy.sentRegion.get [] t
  let dirty := all.filter fun b => !old.contains b
  let (n, y) := x.sendBlocks t 0 d.cycle dirty
  let (m, y) := y.sendBlocks t 1 d.cycle (Config.shadowBlocks t (x.shadowData c (x.tsk t)))
  let y : Half := y.spanPut fun seq => .cycleEnd seq {
    task := BitVec.ofNat 8 t, frames := BitVec.ofNat 16 (n + m), cycle := d.cycle, check := regionCheck all, tEnd := tEnd }
  let y : Half := { y with copy := { y.copy with sentRegion := y.copy.sentRegion.put t all } }
  y.raiseIf (c.bMax < dirty.length) 68

/-- Records put into the retained-object area of MRAM, in place of the same instances' (R42). -/
def Half.putRetain (x : Half) (t : Nat) (rs : List Retained) : Half :=
  let keep := x.task.retain.filter fun r => !(r.task == t && rs.any fun q => q.key == r.key)
  { x with task := { x.task with retain := keep ++ rs } }

/-- The fields of RETAIN instances copied to MRAM (R42). -/
def Half.storeRetain (x : Half) (t : Nat) (c : TaskCfg) : Half :=
  x.putRetain t ((c.insts.filter fun e => e.2.retain).map fun e =>
    let n : InstSt := (x.tsk t).insts.get {} e.1
    { task := t, key := e.2.key, ins := n.ins, outs := n.outs, st := n.st })

/-- An instance's fields as MRAM retained them: every timer starts from 0 (R42, R57). Any other instance starts from its
initial values: the manual gives none, and the model starts its state words at 0 and its outputs unwritten (log 86). -/
def Half.restored (x : Half) (t : Nat) (ic : InstCfg) : InstSt :=
  if !ic.retain then {}
  else match x.task.retain.find? fun r => r.task == t && r.key == ic.key with
    | some r => { ins := r.ins, outs := r.outs
                  st := r.st.zipIdx.map fun p => if (timerSlots ic.typeId).contains p.2 then 0 else p.1 }
    | none => {}

/-! ### Online change of a task (R46, R47) -/

/-- A task takes the instances of a new configuration: one whose key, type and version are equal keeps its fields. The
old instance is sought in the same task's old configuration; one that moves to another task starts from its initial
values (DESIGN CHOICE, log 87). -/
def Half.switchTask (x : Half) (t slot : Nat) : Half :=
  let old := x.taskCfg t
  let new := taskIn ((x.cfgSlot slot).cfg.getD {}) t
  let k := x.tsk t
  let keep (ic : InstCfg) : Option InstSt :=
    (old.bind fun c => c.insts.find? fun e =>
      e.2.key == ic.key && e.2.typeId == ic.typeId && e.2.version == ic.version).map fun e => k.insts.get {} e.1
  let insts := (new.elim [] (·.insts)).foldl (fun (m : Tab InstSt) e =>
    Tab.put m e.1 ((keep e.2).getD {})) []
  let owns (c : StationCfg) : List Nat := (c.chains.filter fun e => e.owner == t).map (·.chain)
  let cs := owns (x.taskConf t) ++ owns ((x.cfgSlot slot).cfg.getD {})
  let y : Half := x.modTsk t fun k => { k with
    slot := slot, insts := insts, switchTo := none, switchDue := false, firstCycle := true }
  let y : Half := cs.eraseDups.foldl (fun (z : Half) c => z.scheduleTake c slot) y
  { y with ce := { y.ce with ovDesc := y.ce.ovDesc.filter fun e => !cs.contains e.1
                             ovSect := y.ce.ovSect.filter fun e => !cs.contains (y.sect e.1).chain } }

/-- A task has switched: no longer waited for; its first cycle is (R46, R49). -/
def Half.markSwitched (x : Half) (t : Nat) : Half :=
  { x with cfg := { x.cfg with pend := x.cfg.pend.map fun p =>
      { p with waiting := p.waiting.filter (· != t), first := if p.first.contains t then p.first else p.first ++ [t]
               switched := true } } }

/-- A recorder channel whose configuration an online change altered restarts (R461). -/
def Half.restartRecs (x : Half) (old new : StationCfg) : Half :=
  let gone := (old.recs.filter fun r => !new.recs.contains r).map (·.chan)
  let come := (new.recs.filter fun r => !old.recs.contains r).map (·.chan)
  { x with evr := { x.evr with live := x.evr.live.filter fun e => !(gone ++ come).contains e.1 } }

/-- The commit or rollback is complete once every affected task has ended its first cycle and every deleted one its last
(R46, R49, R50, R317); a half in recovery leaves it for role negotiation (R518). -/
def Half.commitDone (x : Half) : Half :=
  match x.cfg.pend with
  | none => x
  | some p =>
    if !(p.waiting.isEmpty && p.first.isEmpty && p.safWait.isEmpty) || x.task.tasks.any (fun e => e.2.deleting) then x
    else
      let old := x.conf
      let y : Half := x.setCfgSlot p.slot { x.cfgSlot p.slot with wasCurrent := true }
      let y : Half := { y with cfg := { y.cfg with cur := some p.slot, pend := none } }
      let y : Half := y.restartRecs old y.conf
      let y : Half := y.evrEvent (if p.rollback then 11 else 10)
      let y : Half := if y.boot.recovery.isSome then
          { y with boot := { y.boot with recovery := none, current := none, images := [], imgInit := true } }
        else y
      let y : Half := y.taskIds.foldl (fun (z : Half) t => z.modTsk t fun k =>
        if k.switchTo.isNone && !k.gone then { k with slot := p.slot } else k) y
      let n := leNat 4 y.cfgCommit.toNat
      y.finishCmd p.cmd ST_OK (if p.rollback then n else n ++ leNat 2 p.mask.toNat ++ [0, 0])

end Sys2Proof.Machine
end

