-- ==== Sys2Proof/Machine/CanOps.lean ====
section
/-! DEFINITION. The CAN controllers' operations (chapter 15): modes, message objects and their buffers, field mappings,
waiting frames, bus off, and the change of roles. -/
namespace Sys2Proof.Machine

/-- A controller's state. -/
def Half.canCtl (x : Half) (c : Nat) : CanCtl := x.can.ctl.get {} c
def Half.modCan (x : Half) (c : Nat) (f : CanCtl → CanCtl) : Half := { x with can := { x.can with ctl := x.can.ctl.upd {} c f } }

/-- A request of a controller (R426). -/
def Half.canIrq (x : Half) (c k : Nat) : Half := x.irq (Reg.CAN_IRQ_STAT c) (Reg.CAN_IRQ_EN c) k (160 + 8 * c + k)

/-- A counter of a controller, saturating with CNT_OVF (R426). -/
def Half.canCount (x : Half) (c a : Nat) : Half :=
  (if x.rd a = 0xFFFFFFFF then x.setBit (Reg.CAN_STAT c) 8 true else x).incSat a

def Half.canMode (x : Half) (c : Nat) : Nat := x.fld (Reg.CAN_CTRL c) 2 0
def Half.canAsleep (x : Half) (c : Nat) : Bool := x.bit (Reg.CAN_STAT c) 6
def Half.canErr (x : Half) (c : Nat) : Nat := x.fld (Reg.CAN_STAT c) 4 3
/-- Rate detection runs (R420). -/
def Half.canDetects (x : Half) (c : Nat) : Bool := x.canMode c = 3 && (x.canCtl c).found = 0

/-- The half may transmit on a controller (R408, R424). -/
def Half.canDrives (x : Half) (c : Nat) : Bool :=
  (x.canCtl c).drives && (x.st == .active || (x.st == .relinquishing && x.role.ho.elim true fun k => k.stage ≤ 1))

/-- The mode in effect (R408, R420, R421). -/
def Half.canEff (x : Half) (c : Nat) : Nat :=
  let m := x.canMode c
  if m = 0 then 0
  else if !(x.canCtl c).drives then 2
  else if m = 3 then (if (x.canCtl c).found = 0 then 3 else (x.canCtl c).found)
  else m

/-- CAN_STAT.EFF_MODE shown. -/
def Half.canShow (x : Half) (c : Nat) : Half := x.setFld (Reg.CAN_STAT c) 2 0 (x.canEff c)

/-- The controller receives: powered, on, awake (R421, R426). -/
def Half.canHears (x : Half) (c : Nat) : Bool := c < 4 && x.domainOn 4 && x.canMode c != 0 && !x.canAsleep c
/-- It receives a frame now: after a bus wake, one that starts 100 µs or more after it (R422). -/
def Half.canReceives (x : Half) (c : Nat) : Bool := x.canHears c && (x.canCtl c).wokeAt.all fun m => x.goneUs m 100
/-- The controller takes new frames for arbitration: normal mode, awake. Bus off does not leave normal mode, so frames
wait through it (R416, log 84). -/
def Half.canSends (x : Half) (c : Nat) : Bool := x.canHears c && x.canEff c = 1 && x.canDrives c

/-! ### Objects and buffers (R411 to R414) -/

def canKey (c n : Nat) : Nat := c * 128 + n
def Half.canObj (x : Half) (c n : Nat) : Word := x.rd (Reg.CAN_OBJ_CFG c n)
def Half.canFull (x : Half) (c n : Nat) : Bool := x.bit (Reg.CAN_OBJ_CFG c n) 24
/-- FULL of an object, in its register and in CAN_FULL. -/
def Half.setFull (x : Half) (c n : Nat) (b : Bool) : Half :=
  (x.setBit (Reg.CAN_OBJ_CFG c n) 24 b).setBit (Reg.CAN_FULL c (n / 32)) (n % 32) b

/-- The byte address of an object's buffer. -/
def Half.canBuf (x : Half) (c n : Nat) : Nat := x.fld (Reg.CAN_OBJ_BUF c n) 11 0 * 64

/-- The 16-byte header of a buffer (R412). -/
def canHeader (t : DWord) (f : CanFrame) : List Byte :=
  leBytes 8 t ++ leNat 4 (f.data.length % 4096 + f.fmt % 4 * 0x1000 + (if f.brs then 0x4000 else 0) + (if f.esi then 0x8000 else 0) +
    f.sdt.toNat * 0x10000 + f.vcid.toNat * 0x1000000) ++ leNat 4 f.af.toNat

/-- A frame stored in an object's buffer. -/
def Half.canStore (x : Half) (c n : Nat) (t : DWord) (f : CanFrame) : Half :=
  { x with can := { x.can with ram := x.can.ram.write (x.canBuf c n) (canHeader t f ++ f.data) } }

/-- The frame that a send object's buffer holds (R412). -/
def Half.canLoad (x : Half) (c n : Nat) : CanFrame :=
  let h := x.can.ram.read (x.canBuf c n) 16
  let w : Word := BitVec.ofNat 32 (leGet h 8 4)
  { fmt := getField w 13 12, ide := (x.canObj c n).getLsbD 4, id := (x.rd (Reg.CAN_OBJ_ID c n)) &&& 0x1FFFFFFF
    brs := w.getLsbD 14, esi := w.getLsbD 15, sdt := BitVec.ofNat 8 (getField w 23 16), vcid := BitVec.ofNat 8 (getField w 31 24)
    af := BitVec.ofNat 32 (leGet h 12 4), data := x.can.ram.read (x.canBuf c n + 16) (getField w 11 0) }

/-- The operation of a controller carries a frame's format (R409). -/
def Half.canCarries (x : Half) (c : Nat) (f : CanFrame) : Bool :=
  match x.fld (Reg.CAN_CTRL c) 4 3 with
  | 0 => f.fmt = 0
  | 1 => f.fmt ≤ 1
  | 2 => f.fmt ≤ 2
  | _ => f.fmt = 2

/-- An object's filter matches a frame (R413). -/
def Half.canMatch (x : Half) (c n : Nat) (f : CanFrame) : Bool :=
  let w := x.canObj c n
  let fmt := getField w 3 2
  (f.fmt = fmt || (fmt = 3 && f.fmt ≤ 1)) && (f.fmt = 2 || f.ide == w.getLsbD 4) &&
    ((f.id ^^^ x.rd (Reg.CAN_OBJ_ID c n)) &&& x.rd (Reg.CAN_OBJ_MASK c n) &&& 0x1FFFFFFF) == 0

/-- The objects of a controller that are enabled in a direction. -/
def Half.canObjs (x : Half) (c : Nat) (send : Bool) : List Nat :=
  (List.range 128).filter fun n => (x.canObj c n).getLsbD 0 && (x.canObj c n).getLsbD 1 == send

/-- The member of a FIFO to fill: the one after the member filled last (R414). -/
def Half.canMember (x : Half) (c head : Nat) : Nat := x.can.fifo.get head (canKey c head)

/-- The first member that is not FULL, from one member on in chain order (R414). -/
def Half.canRoom (x : Half) (c : Nat) : Nat → Nat → Option Nat
  | 0, _ => none
  | k + 1, n => if x.canFull c n then x.canRoom c k (getField (x.canObj c n) 14 8) else some n

/-- Where a received frame goes: the object itself, or the FIFO member to fill; none where every member is FULL (R414). -/
def Half.canPlace (x : Half) (c head : Nat) : Option Nat :=
  if (x.canObj c head).getLsbD 7 then x.canRoom c 128 (x.canMember c head) else some head

/-! ### Fields (R30, R415 to R417) -/

/-- The bits of a frame's data as a number. -/
def canField (data : List Byte) (bit len : Nat) : DWord :=
  BitVec.ofNat 64 (leGet data 0 data.length / 2 ^ bit % 2 ^ (min len 64))

/-- The points that a frame of an object carries, with their values. -/
def Half.canFields (x : Half) (c n : Nat) (data : List Byte) : List (Nat × DWord) :=
  (x.conf.canMaps.filter fun m => m.ctl == c && m.obj == n).map fun m => (m.point, canField data m.bit m.len)

/-- A value received from a bus enters its point, and event tasks on it are released (R23, R30). -/
def Half.busWrite (x : Half) (p : Nat) (v : DWord) : Half :=
  (x.writePoint p { v := v, q := qGood }).objEvent (x.oidOf p)

/-- A point flagged stale (R30, R434, R437). -/
def Half.busStale (x : Half) (p : Nat) : Half :=
  x.writePoint p { (x.point p).kept with q := staleQ (x.point p).kept.q }

/-- A frame's fields enter the import table: at once, or with their group at its closing message (R30, R415). -/
def Half.canImport (x : Half) (c n : Nat) (data : List Byte) : Half :=
  let g := getField (x.canObj c n) 21 16
  let fs := x.canFields c n data
  if g = 0 then fs.foldl (fun (y : Half) e => y.busWrite e.1 e.2) x
  else
    let key := c * 64 + g
    let got := (x.can.group.get [] key).filter (fun e => !(fs.map (·.1)).contains e.1) ++ fs
    if (x.canObj c n).getLsbD 6 then
      let all := ((x.canObjs c false).filter fun k => getField (x.canObj c k) 21 16 == g).flatMap fun k =>
        (x.canFields c k []).map (·.1)
      let y : Half := { x with can := { x.can with group := x.can.group.del key } }
      let y : Half := got.foldl (fun (y : Half) e => y.busWrite e.1 e.2) y
      (all.filter fun p => !(got.map (·.1)).contains p).foldl (fun (y : Half) p => y.busStale p) y
    else { x with can := { x.can with group := x.can.group.put key got } }

/-- The data of a send object from its task's points (R416, R417). -/
def Half.canData (x : Half) (o : CanSend) : List Byte :=
  let v := (x.conf.canMaps.filter fun m => m.ctl == o.ctl && m.obj == o.obj).foldl (fun (a : Nat) m =>
    a ||| ((pointVal (x.point m.point)).v.toNat % 2 ^ (min m.len 64) * 2 ^ m.bit)) 0
  leNat o.length v

/-- A send object's frame waits for arbitration; one that waits already is replaced and counted (R416). -/
def Half.canQueue (x : Half) (c n : Nat) : Half :=
  if x.canFull c n then x.canCount c (Reg.CAN_TXREPL c) else x.setFull c n true

/-- A send object's buffer takes new data; answers whether they differ. -/
def Half.canFill (x : Half) (o : CanSend) : Bool × Half :=
  let w := x.canObj o.ctl o.obj
  let f := x.canLoad o.ctl o.obj
  let d := x.canData o
  let g : CanFrame := { f with fmt := getField w 3 2, brs := w.getLsbD 5, data := d }
  (d != f.data, x.canStore o.ctl o.obj (leValue (x.can.ram.read (x.canBuf o.ctl o.obj) 8)) g)

/-- Send objects at the update instant of their owning task (R416, R421). -/
def Half.canUpdate (x : Half) (t : Nat) : Half :=
  (x.conf.canSends.filter fun o => o.owner == t && (x.canObj o.ctl o.obj).getLsbD 0 && (x.canObj o.ctl o.obj).getLsbD 1).foldl
    (fun (y : Half) o =>
      let (new, z) := y.canFill o
      if new && z.canSends o.ctl && (o.onChange || z.canFull o.ctl o.obj) then z.canQueue o.ctl o.obj else z) x

/-- The status points of the controllers that a task owns: CAN_STAT bits 6 to 0, TEC and REC (R419, log 84). -/
def Half.canStatus (x : Half) (t : Nat) : Half :=
  (x.conf.canPoints.filter fun p => p.owner == t).foldl (fun (y : Half) p =>
    let put (z : Half) (q : Option Nat) (v : Nat) : Half :=
      match q with
      | some k => z.writePoint k { v := BitVec.ofNat 64 v, q := qGood }
      | none => z
    put (put (put y p.state (y.fld (Reg.CAN_STAT p.ctl) 6 0)) p.tec (y.fld (Reg.CAN_ECR p.ctl) 8 0)) p.rec_
      (y.fld (Reg.CAN_ECR p.ctl) 22 16)) x

/-- Frames that wait are discarded: the controller has left normal mode, or sleeps (R416, R421). -/
def Half.canDrop (x : Half) (c : Nat) : Half := (x.canObjs c true).foldl (fun (y : Half) n => y.setFull c n false) x

/-- A rising edge of a sleep point asks its controller to sleep at the next bus idle; a falling edge wakes it locally
(R421). -/
def Half.canSleepEdges (x : Half) (before : Half) : Half :=
  x.conf.canPoints.foldl (fun (y : Half) p => match p.sleep with
    | some k =>
      let was := (pointVal (before.point k)).v != 0
      let is := (pointVal (y.point k)).v != 0
      if was && !is then (y.setBit (Reg.CAN_STAT p.ctl) 6 false).modCan p.ctl fun k => { k with sleepReq := false }
      else if is && !was then y.modCan p.ctl fun k => { k with sleepReq := true }
      else y
    | none => y) x

/-! ### Errors (R418, R419) -/

/-- The error state shown, with its requests and sources (R418, R425). -/
def Half.setErr (x : Half) (c e : Nat) : Half :=
  if x.canErr c = e then x
  else
    let y : Half := (x.setFld (Reg.CAN_STAT c) 4 3 e).canIrq c 2
    if e = 1 then y.raise 97
    else if e = 2 then ((y.modCan c fun k => { k with offAt := x.mono, stuck := false }).canIrq c 3).raise 96
    else if e = 3 then y.modCan c fun k => { k with recovAt := x.mono }
    else y

/-- TEC and REC shown in CAN_ECR. -/
def Half.setEcr (x : Half) (c tec rec_ : Nat) : Half :=
  x.wr (Reg.CAN_ECR c) (BitVec.ofNat 32 (tec % 256 + (if 255 < tec then 256 else 0) + rec_ % 128 * 0x10000 +
    (if 128 ≤ rec_ then 0x800000 else 0)))

/-- TEC and REC of a controller as CAN_ECR shows them. -/
def Half.canTec (x : Half) (c : Nat) : Nat := x.fld (Reg.CAN_ECR c) 8 0
def Half.canRec (x : Half) (c : Nat) : Nat := x.fld (Reg.CAN_ECR c) 22 16 + (if x.bit (Reg.CAN_ECR c) 23 then 128 else 0)

/-- A frame sent or received with no error lets the counter of its direction fall, as ISO 11898-1 has it (R418, log 84):
by one, and REC from the error passive level to a value from 119 to 127, which that standard leaves open. -/
def Half.canFall (x : Half) (c : Nat) (send : Bool) : Half :=
  if x.canEff c != 1 || 2 ≤ x.canErr c then x
  else
    let (v, z) := x.free
    let y : Half := if send then x.setEcr c (x.canTec c - 1) (x.canRec c)
      else if 128 ≤ x.canRec c then z.setEcr c (x.canTec c) (119 + v.toNat % 9)
      else x.setEcr c (x.canTec c) (x.canRec c - 1)
    if x.canErr c = 1 && y.canTec c < 128 && y.canRec c < 128 then y.setErr c 0 else y

/-- The least time of a bus-off recovery, in microseconds: 128 × 11 bits of NBRP × (1 + NTSEG1 + NTSEG2) × 12.5 ns
(R410, R418). -/
def Half.canRecovery (x : Half) (c : Nat) : Nat :=
  let brp := if x.fld (Reg.CAN_NBT c) 8 0 = 0 then 512 else x.fld (Reg.CAN_NBT c) 8 0
  brp * (1 + x.fld (Reg.CAN_NBT c) 16 9 + x.fld (Reg.CAN_NBT c) 23 17) * 176 / 10

/-- Bus-off recovery starts (R418). -/
def Half.canRelease (x : Half) (c : Nat) : Half := if x.canErr c = 2 then x.setErr c 3 else x

/-- A write of 1 to a restart point restarts its controller from bus off (R419). -/
def Half.canRestart (x : Half) (p : Nat) (v : DWord) : Half :=
  if v = 0 then x
  else (x.conf.canPoints.filter fun q => q.restart == some p).foldl (fun (y : Half) q => y.canRelease q.ctl) x

/-! ### Rate detection (R420) -/

/-- The next candidate. -/
def Half.canNext (x : Half) (c : Nat) : Half :=
  x.modCan c fun k => { k with cand := (k.cand + 1) % 8, good := 0, candAt := x.mono }

/-- A frame received with no error during detection. -/
def Half.canGood (x : Half) (c : Nat) (f : CanFrame) : Half :=
  if !x.canDetects c || (f.fmt = 1 && f.brs) then x
  else if (x.canCtl c).good + 1 < 2 then x.modCan c fun k => { k with good := k.good + 1, candAt := x.mono }
  else
    let y : Half := (x.setFld (Reg.CAN_ABD c) 3 0 ((x.canCtl c).cand + 1)).setBit (Reg.CAN_ABD c) 4 true
    let m := if y.fld (Reg.CAN_ABD c) 7 6 = 1 then 1 else 2
    ((y.modCan c fun k => { k with good := 0, found := m }).canIrq c 6).canShow c

/-! ### Roles (R408, R423, R424) -/

/-- A periodic send object is due: monotonic time less its phase is a whole multiple of its period (R416). -/
def Half.canIsDue (x : Half) (o : CanSend) : Bool :=
  x.timed && 0 < o.period && x.onMultiple (x.mono - BitVec.ofNat 64 (o.phase * 1000000)) (o.period * 1000000)

/-- Whole periods of a send object passed at a monotonic time. -/
def canDue (o : CanSend) (t : DWord) : Int := ((t.toNat : Int) - o.phase * 1000000) / ((max 1 o.period : Nat) * 1000000 : Nat)

/-- The incoming half starts to transmit on a controller: error active, and what R423 gives is sent at once. -/
def Half.canTakeBus (x : Half) (c : Nat) : Half :=
  let y : Half := ((x.modCan c fun k => { k with drives := true, finishing := [] }).setEcr c 0 0).setFld (Reg.CAN_STAT c) 4 3 0
  let y : Half := (y.canDrop c).canShow c
  (y.conf.canSends.filter fun o => o.ctl == c && (y.canObj c o.obj).getLsbD 0 && (y.canObj c o.obj).getLsbD 1).foldl
    (fun (z : Half) o =>
      let (_, z) := z.canFill o
      let seen := z.can.seen.get? (canKey c o.obj)
      let changed := o.onChange && seen.elim true (fun e => e.1 != z.canData o)
      let late := 0 < o.period && seen.elim false (fun e => canDue o e.2 < canDue o z.mono)
      if (changed || late) && z.canSends c then z.canQueue c o.obj else z) y

/-- A half leaves the bus to its partner; a frame in transmission may still end (R424). -/
def Half.canLeaveBus (x : Half) (c : Nat) : Half :=
  let fin := (x.canObjs c true).filter fun n => x.canFull c n
  let y : Half := x.modCan c fun k => { k with drives := false, finishing := if k.drives then fin else k.finishing }
  (((y.canDrop c).setEcr c 0 0).setFld (Reg.CAN_STAT c) 4 3 0).canShow c

/-- The bus is idle, or carries another frame: nothing is in transmission any more (R424). -/
def Half.canIdle (x : Half) (c : Nat) : Half := x.modCan c fun k => { k with finishing := [] }

/-- BO_USED as time passes (R419, R426): the releases within the last 60 operating minutes. -/
def Half.canMinute (x : Half) : Half :=
  (List.range 4).foldl (fun (y : Half) c =>
    let used := (y.canCtl c).releases.filter fun m => (y.opmin - m).toNat < 60
    if (y.canCtl c).releases.isEmpty then y
    else (y.modCan c fun k => { k with releases := used }).setFld (Reg.CAN_BO_CFG c) 23 20 used.length) x

/-- All controllers taken, or left. -/
def Half.canTakeAll (x : Half) : Half := (List.range 4).foldl Half.canTakeBus x
def Half.canLeaveAll (x : Half) : Half := (List.range 4).foldl Half.canLeaveBus x

end Sys2Proof.Machine
end

