-- ==== Sys2Proof/Machine/NetOps.lean ====
section
/-! DEFINITION. The ports' operations (chapter 16): the PRP node table and its duplicate filter, the receive queues, the
sentences and the serial buses. -/
namespace Sys2Proof.Machine

def Half.netIrq (x : Half) (k : Nat) : Half := x.irq Reg.ETH_IRQ_STAT Reg.ETH_IRQ_EN k (192 + k)
def Half.serIrq (x : Half) (k : Nat) : Half := x.irq Reg.SER_IRQ_STAT Reg.SER_IRQ_EN k (208 + k)

/-- A port's link is up (R427, R445). -/
def Half.linkUp (x : Half) (p : Nat) : Bool := x.bit (Reg.ETH_P_STAT p) 0
/-- The MACs run. -/
def Half.ethOn (x : Half) : Bool := x.domainOn 4 && x.bit Reg.ETH_CTRL 0
/-- The half drives the field (R180, R181). -/
def Half.drivesField (x : Half) : Bool := x.role.drives

/-! ### PRP (R428) -/

def prpWindow : DWord := 400000000
def prpOneLan : DWord := 10000000000

/-- The node table's size shown. -/
def Half.prpShow (x : Half) : Half := x.setFld Reg.ETH_NODES 10 0 x.net.nodes.length

/-- A frame of a node as the table takes it, and whether it is a duplicate: its sequence is among the last 64 of the
source and at most 400 ms old. A full table takes no new node. -/
def Half.prpHear (x : Half) (p : Nat) (src : DWord) (seq : BitVec 16) : Bool × Half :=
  let key := src.toNat
  let t := x.mono
  match x.net.nodes.get? key with
  | none =>
    if 1024 ≤ x.net.nodes.length then (false, x)
    else
      let n : PrpNode := { heard := t, onA := t, onB := t, seqs := [(seq, t)] }
      (false, ({ x with net := { x.net with nodes := x.net.nodes.put key n } } : Half).prpShow)
  | some n =>
    let live := n.seqs.filter fun e => (t - e.2).toNat ≤ prpWindow.toNat
    let dup := live.any fun e => e.1 == seq
    let other := if p = 0 then n.onB else n.onA
    let one := prpOneLan.toNat ≤ (t - other).toNat
    let n2 : PrpNode := { n with
      heard := t
      onA := if p = 0 then t else n.onA
      onB := if p = 0 then n.onB else t
      seqs := if dup then live else ((seq, t) :: live).take 64
      oneLan := one }
    let y : Half := { x with net := { x.net with nodes := x.net.nodes.put key n2 } }
    (dup, y.raiseIf (one && !n.oneLan) 100)

/-! ### Receive queues (R430, R445) -/

/-- The queue of an accepted kind of traffic, by the table of R430. -/
def lanQueue (mp1 : Bool) : LanKind → Option Nat
  | .ptp => some 3
  | .prpSupervision => some 3
  | .league => some 2
  | .mailbox => some 1
  | .mp1 => if mp1 then some 1 else none
  | .arpOwn => some 0
  | .icmpEcho => some 0
  | .ipv6 => none
  | .tagged => none
  | .other => none

/-- A frame enters queue q of port p, or is dropped where all 256 descriptors hold frames. -/
def Half.enqueue (x : Half) (p q : Nat) : Bool × Half :=
  let n := x.net.queued.get 0 (4 * p + q)
  if 256 ≤ n then (false, x.incSat (Reg.ETH_P_RQDROP p q))
  else
    let y : Half := { x with net := { x.net with queued := x.net.queued.put (4 * p + q) (n + 1) } }
    (true, y.setFld (Reg.ETH_P_RQ p q) 15 8 (y.fld (Reg.ETH_P_RQ p q) 15 8 + 1))

/-- An echo is answered, up to 10 in a second (R430). -/
def Half.echo (x : Half) : Half :=
  let sec := x.mono.toNat / 1000000000
  let n := if x.net.echoSec = sec then x.net.echoes else 0
  if n < 10 then ({ x with net := { x.net with echoSec := sec, echoes := n + 1 } } : Half).send .icmpReply
  else { x with net := { x.net with echoSec := sec, echoes := n } }

/-! ### Sentences (R433, R434) -/

def Half.sentenceCfg (x : Half) (i : Nat) : Option SentenceCfg := x.conf.sentences.find? fun e => e.idx == i

/-- The fields of a received sentence enter their objects at once; one that does not parse makes its object bad. -/
def Half.importSentence (x : Half) (s : Sentence) : Half :=
  match (s.idx.bind x.sentenceCfg).filter fun c => !c.send with
  | none => x
  | some c =>
    let x : Half := { x with net := { x.net with heard := x.net.heard.put c.idx (x.mono, false) } }
    (c.points.zip s.fields).foldl (fun (y : Half) e => match e.2 with
      | some v => y.busWrite e.1 v
      | none => y.writePoint e.1 { v := (y.point e.1).kept.v, q := qByte 0 0 }) x

/-- The next line count of a group, as IEC 61162-450 counts it: 1 to 999 (R433, log 42). -/
def nextLine (n : Nat) : Nat := if 999 ≤ n then 1 else n + 1

def Half.serBus (x : Half) (b : Nat) : SerBus := x.net.ser.get {} b
def Half.modSer (x : Half) (b : Nat) (f : SerBus → SerBus) : Half := { x with net := { x.net with ser := x.net.ser.upd {} b f } }
/-- The type of a bus (R435). -/
def Half.serType (x : Half) (b : Nat) : Nat := x.fld (Reg.SER_B_CFG b) 2 0
/-- The bus is on. -/
def Half.serOn (x : Half) (b : Nat) : Bool := b < 2 && x.domainOn 4 && x.bit Reg.SER_CTRL 0 && x.serType b != 0
/-- The half's driver of the bus may be enabled (R435, R438). -/
def Half.serDrives (x : Half) (b : Nat) : Bool :=
  x.serOn b && (x.serBus b).drives && (x.st == .active || x.st == .relinquishing) && x.serType b != 2

/-- DRV_EN shown. -/
def Half.serShow (x : Half) (b : Nat) : Half := x.setBit (Reg.SER_B_STAT b) 0 (x.serDrives b)

/-- A frame or sentence leaves on a bus. -/
def Half.serSend (x : Half) (b : Nat) (m : Sent) : Half :=
  let t := x.fld (Reg.SER_B_TXQ b) 5 0 + 1
  let y : Half := (x.setFld (Reg.SER_B_TXQ b) 5 0 t).setFld (Reg.SER_B_TXQ b) 13 8 t
  ((y.incSat (Reg.SER_B_TXCNT b)).send m).serIrq (3 * b + 1)

/-- The values that a sentence carries. -/
def Half.sentenceVals (x : Half) (c : SentenceCfg) : List DWord := c.points.map fun p => (pointVal (x.point p)).v

/-- A sentence is sent (R431, R433, R435). -/
def Half.sendSentence (x : Half) (c : SentenceCfg) : Half :=
  let y : Half := { x with net := { x.net with sentVals := x.net.sentVals.put c.idx (x.sentenceVals c) } }
  match c.bus with
  | none =>
    if x.ethOn && x.linkUp 2 && x.bit Reg.ETH_CTRL 2 && x.drivesField && x.isActive then
      let n := nextLine (x.net.lines.get 0 c.group)
      ({ y with net := { y.net with lines := y.net.lines.put c.group n } } : Half).send (.sentence none c.idx n)
    else x
  | some b => if x.serDrives b && x.serType b = 1 then y.serSend b (.sentence (some b) c.idx 0) else x

/-- Sentences sent on change at the update instant of their owning task (R434). -/
def Half.sentUpdate (x : Half) (t : Nat) : Half :=
  (x.conf.sentences.filter fun c => c.send && c.onChange && c.owner == t).foldl (fun (y : Half) c =>
    if y.net.sentVals.get? c.idx == some (y.sentenceVals c) then y else y.sendSentence c) x

/-! ### Serial errors (R436, R444) -/

/-- A frame counted in the running 10 s; above 1 % of errors over it source 103 is raised (R444). -/
def Half.serJudge (x : Half) (b : Nat) (bad : Bool) : Half :=
  let s := x.serBus b
  if 10000000000 ≤ (x.mono - s.since).toNat then
    let y : Half := x.modSer b fun k => { k with since := x.mono, total := 1, bad := bad.toNat }
    y.raiseIf (decide (s.total < s.bad * 100)) 103
  else x.modSer b fun k => { k with total := k.total + 1, bad := k.bad + bad.toNat }

/-- A frame discarded and counted, with a bit of the bus's status. -/
def Half.serBad (x : Half) (b bit : Nat) : Half :=
  (((x.setBit (Reg.SER_B_STAT b) bit true).incSat (Reg.SER_B_ERRCNT b)).serIrq (3 * b + 2)).serJudge b true

/-- A frame or sentence received: the receive ring moves on (log 43). -/
def Half.serTaken (x : Half) (b : Nat) : Half :=
  let t := x.fld (Reg.SER_B_RXQ b) 13 8 + 1
  let y : Half := (x.setFld (Reg.SER_B_RXQ b) 13 8 t).setFld (Reg.SER_B_RXQ b) 5 0 t
  ((y.incSat (Reg.SER_B_RXCNT b)).serIrq (3 * b)).serJudge b false

/-! ### Modbus (R436, R437) -/

/-- A big-endian 16-bit number of a Modbus frame. -/
def be16 (bs : List Byte) (ofs : Nat) : Nat := (bs.getD ofs 0).toNat * 256 + (bs.getD (ofs + 1) 0).toNat
def beBytes (n : Nat) : List Byte := [BitVec.ofNat 8 (n / 256), BitVec.ofNat 8 n]

/-- Bits packed into bytes, least significant first. -/
def packBits (bs : List Bool) : List Byte :=
  (List.range ((bs.length + 7) / 8)).map fun k =>
    BitVec.ofNat 8 (((List.range 8).map fun i => if bs.getD (8 * k + i) false then 2 ^ i else 0).sum)
def bitAt (bs : List Byte) (i : Nat) : Bool := (bs.getD (i / 8) 0).getLsbD (i % 8)

/-- The slave's map of a number of a table. -/
def Half.slaveMap (x : Half) (b table num : Nat) : Option ModbusMap :=
  x.conf.modbusMaps.find? fun m => m.bus == b && m.table == table && m.num == num

/-- The maps of a run of numbers; none where one is unmapped. -/
def Half.slaveRun (x : Half) (b table start n : Nat) : Option (List ModbusMap) :=
  (List.range n).mapM fun i => x.slaveMap b table (start + i)

/-- A slave's write of values to a run of numbers: an exception code, or the half with every value written. -/
def Half.slaveWrite (x : Half) (b table start : Nat) (vs : List Nat) : Nat × Half :=
  match x.slaveRun b table start vs.length with
  | none => (2, x)
  | some ms =>
    let ok (m : ModbusMap) : Bool := m.writable && ((x.pointCfg m.point).any fun c => c.writer == .host)
    let inRange (m : ModbusMap) (v : Nat) : Bool :=
      (x.pointCfg m.point).any fun c => fillOk c.typ (BitVec.ofNat 64 v)
    if !ms.all ok then (2, x)
    else if !(ms.zip vs).all fun e => inRange e.1 e.2 then (3, x)
    else (0, (ms.zip vs).foldl (fun (y : Half) e =>
      let v : DWord := BitVec.ofNat 64 e.2
      (y.hostWrite e.1.point { v := v, q := qGood }).canRestart e.1.point v) x)

/-- What a slave answers (R436): an exception code or the answer's data, and the half. -/
def Half.slaveDo (x : Half) (b : Nat) (fn : Byte) (data : List Byte) : (Nat ⊕ List Byte) × Half :=
  let start := be16 data 0
  let n := be16 data 2
  let read (table most : Nat) (enc : List DWord → List Byte) : (Nat ⊕ List Byte) × Half :=
    if n = 0 || most < n then (.inl 3, x)
    else match x.slaveRun b table start n with
      | none => (.inl 2, x)
      | some ms =>
        let bs := enc (ms.map fun m => (pointVal (x.point m.point)).v)
        (.inr (BitVec.ofNat 8 bs.length :: bs), x)
  let bits (vs : List DWord) : List Byte := packBits (vs.map fun v => v != 0)
  let words (vs : List DWord) : List Byte := vs.flatMap fun v => beBytes (v.toNat % 65536)
  let write (table : Nat) (vs : List Nat) (ans : List Byte) : (Nat ⊕ List Byte) × Half :=
    match x.slaveWrite b table start vs with
    | (0, y) => (.inr ans, y)
    | (e, y) => (.inl e, y)
  match fn.toNat with
  | 0x01 => read 0 2000 bits
  | 0x02 => read 1 2000 bits
  | 0x03 => read 2 125 words
  | 0x04 => read 3 125 words
  | 0x05 => if n = 0xFF00 then write 0 [1] (data.take 4) else if n = 0 then write 0 [0] (data.take 4) else (.inl 3, x)
  | 0x06 => write 2 [n] (data.take 4)
  | 0x0F =>
    if n = 0 || 1968 < n || (data.getD 4 0).toNat != (n + 7) / 8 || data.length != 5 + (n + 7) / 8 then (.inl 3, x)
    else write 0 ((List.range n).map fun i => (bitAt (data.drop 5) i).toNat) (data.take 4)
  | 0x10 =>
    if n = 0 || 123 < n || (data.getD 4 0).toNat != 2 * n || data.length != 5 + 2 * n then (.inl 3, x)
    else write 2 ((List.range n).map fun i => be16 (data.drop 5) (2 * i)) (data.take 4)
  | _ => (.inl 1, x)

/-- The function codes that write. -/
def modbusWrites (fn : Byte) : Bool := fn == 0x05 || fn == 0x06 || fn == 0x0F || fn == 0x10

/-- A slave takes a frame to its address or a broadcast, and answers the former (R436). -/
def Half.slaveTake (x : Half) (b : Nat) (addr fn : Byte) (data : List Byte) : Half :=
  if addr = 0 then (if modbusWrites fn then (x.slaveDo b fn data).2 else x)
  else if addr.toNat != x.fld (Reg.SER_B_CFG b) 16 9 then x
  else
    let (r, y) := x.slaveDo b fn data
    y.serSend b (.modbusReply b (match r with
      | .inl e => [addr, fn ||| 0x80, BitVec.ofNat 8 e]
      | .inr bs => addr :: fn :: bs))

def Half.request (x : Half) (b r : Nat) : Option ModbusReq := x.conf.modbus.find? fun q => q.bus == b && q.req == r

/-- The request's frame, without its CRC; write data is what the owning task's output image last wrote (R437). -/
def Half.requestBytes (x : Half) (q : ModbusReq) : List Byte :=
  let vs := q.points.map fun p => (pointVal (x.point p)).v
  let v := (vs.headD 0).toNat
  let n := q.points.length
  [q.addr, q.fn] ++ beBytes q.start ++ match q.fn.toNat with
    | 0x05 => beBytes (if v = 0 then 0 else 0xFF00)
    | 0x06 => beBytes (v % 65536)
    | 0x0F =>
      let bs := packBits (vs.map fun v => v != 0)
      beBytes n ++ [BitVec.ofNat 8 bs.length] ++ bs
    | 0x10 => beBytes n ++ [BitVec.ofNat 8 (2 * n)] ++ vs.flatMap fun v => beBytes (v.toNat % 65536)
    | _ => beBytes n

/-- A request goes out on the bus, with its failed attempts so far. -/
def Half.pollSend (x : Half) (b r fails : Nat) : Half :=
  match x.request b r with
  | none => x.modSer b fun k => { k with pend := none }
  | some q => (x.modSer b fun k => { k with pend := some (r, fails), pendAt := x.mono }).serSend b (.modbusRequest b (x.requestBytes q))

/-- The bus is free: the next waiting request starts. -/
def Half.pollNext (x : Half) (b : Nat) : Half :=
  match (x.serBus b).queue with
  | [] => x.modSer b fun k => { k with pend := none }
  | r :: rest => (x.modSer b fun k => { k with pend := none, queue := rest }).pollSend b r 0

/-- An attempt of the pending request has failed (R437): it is sent again, or its objects take the stale bit. -/
def Half.pollFail (x : Half) (b : Nat) : Half :=
  match (x.serBus b).pend with
  | none => x
  | some (r, fails) =>
    match x.request b r with
    | none => x.pollNext b
    | some q =>
      if fails < q.retries then x.pollSend b r (fails + 1)
      else
        let y : Half := if modbusWrites q.fn then x else q.points.foldl Half.busStale x
        (y.raise 103).pollNext b

/-- The master takes a frame: an answer to its pending request ends it, an exception is a failed attempt (log 40). -/
def Half.masterTake (x : Half) (b : Nat) (addr fn : Byte) (data : List Byte) : Half :=
  match (x.serBus b).pend.bind fun p => x.request b p.1 with
  | none => x
  | some q =>
    let n := q.points.length
    if addr != q.addr then x
    else if fn = q.fn ||| 0x80 then x.pollFail b
    else if fn != q.fn then x
    else if modbusWrites fn then x.pollNext b
    else
      let bits := fn.toNat ≤ 2
      let len := if bits then (n + 7) / 8 else 2 * n
      if data.length != len + 1 || (data.headD 0).toNat != len then x.pollFail b
      else
        let vs := (List.range n).map fun i => if bits then (bitAt (data.drop 1) i).toNat else be16 (data.drop 1) (2 * i)
        ((q.points.zip vs).foldl (fun (y : Half) e => y.busWrite e.1 (BitVec.ofNat 64 e.2)) x).pollNext b

/-! ### Roles (R438) -/

/-- A half takes the serial buses, or leaves them: a pending request of the loser is gone. -/
def Half.serTake (x : Half) (b : Nat) : Half :=
  (x.modSer b fun k => { k with drives := true, pend := none, queue := [] }).serShow b
def Half.serLeave (x : Half) (b : Nat) : Half :=
  (x.modSer b fun k => { k with drives := false, pend := none, queue := [] }).serShow b
def Half.serTakeAll (x : Half) : Half := (x.serTake 0).serTake 1
def Half.serLeaveAll (x : Half) : Half := (x.serLeave 0).serLeave 1

end Sys2Proof.Machine
end

