-- ==== Sys2Proof/Machine/TimeOps.lean ====
section
/-! DEFINITION. The time unit's operations: segments, phase steps, the PI servo and its states, the capture FIFOs
(R381 to R390, R402). -/
namespace Sys2Proof.Machine

/-- Monotonic time as the unit counts it, in units of 2^-32 ns. -/
def Half.monoRaw (x : Half) : BitVec 96 :=
  match x.virt, x.ts.segs with
  | true, g :: _ => g.at_ x.ts.tick
  | _, _ => x.ts.mono

/-- A new segment of the VIRT mode; the unit keeps the current one and the seven before it (R384, R385). -/
def Half.newSegment (x : Half) (rho : Int) : Half :=
  if x.virt then
    let g : Segment := { mBase := x.monoRaw, cBase := x.ts.tick, rho := rho, acc := x.ts.acc }
    { x with ts := { x.ts with segs := (g :: x.ts.segs).take 8 } }
  else x

/-- ±500 ppm in units of 2^-40 (R388). -/
def rateLimit : Int := 549755813

/-- A value kept within ±500 ppm. -/
def clampRate (v : Int) : Int := max (-rateLimit) (min rateLimit v)

/-- A rate correction put in use (R384, R388): INC in ADJ mode, a new segment in VIRT mode, TS_RATE in both. -/
def Half.setRate (x : Half) (r : Int) (lim : Bool) : Half :=
  let y : Half := (x.wr Reg.TS_RATE (BitVec.ofInt 32 r)).setBit Reg.TS_STAT 3 lim
  if y.virt then y.newSegment r
  else
    let inc : Int := 4 * 2 ^ 32 + r / 64
    (y.wr Reg.TS_INC_LO (BitVec.ofInt 32 inc)).wr Reg.TS_INC_HI (BitVec.ofInt 32 (inc / 2 ^ 32 % 16))

/-- A servo state entered (R390); a change sets the SRV interrupt. -/
def Half.setServo (x : Half) (st : Nat) : Half :=
  if x.fld Reg.TS_STAT 2 1 = st then x else (x.setFld Reg.TS_STAT 2 1 st).tsIrq 3

/-- A phase step of station time by d ns (R389): the step accumulator, the step counter, STEPPED, the marks of the
entries captured before it, and a wrap of the station low word that the step causes (R386). -/
def Half.phaseStep (x : Half) (d : DWord) : Half :=
  let old := x.now
  let y : Half := { x with ts := { x.ts with
      acc := x.ts.acc + d
      stepTo := if d.msb then 0 else old + d
      fifos := x.ts.fifos.map fun p => (p.1, p.2.map fun c => { c with stepped := true }) } }
  let n := y.fld Reg.TS_STEP_CNT 30 0
  let y : Half := if n = 0x7FFFFFFF then y.setBit Reg.TS_STEP_CNT 31 true else y.setFld Reg.TS_STEP_CNT 30 0 (n + 1)
  let y : Half := (y.setBit Reg.TS_STAT 4 true).tsIrq 2
  let rho := match x.ts.segs with
    | g :: _ => g.rho
    | [] => 0
  let y : Half := y.newSegment rho
  if old >>> 32 = y.now >>> 32 then y else y.tsIrq 1

/-- The value of a finite binary32 times a power of two, as an integer rounded toward minus infinity (log 24). -/
def f32Scaled (w : F32) (n : Int) (d : Nat) : Option Int :=
  match fmt32.unpack w.toNat with
  | .fin neg m e =>
    let v : Int := (if neg then -(m : Int) else m) * n
    some (if 0 ≤ e then v * 2 ^ e.toNat / d else v / (d * 2 ^ (-e).toNat : Nat))
  | _ => none

/-- The servo state after an offset (R390): 16 consecutive offsets within 1 µs lock, 4 beyond it unlock. -/
def Half.servoState (x : Half) (small : Bool) : Half :=
  let within := if small then x.ts.within + 1 else 0
  let beyond := if small then 0 else x.ts.beyond + 1
  let y : Half := { x with ts := { x.ts with within := within, beyond := beyond } }
  if x.bit Reg.TS_CTRL 3 then y.setServo 3
  else match x.fld Reg.TS_STAT 2 1 with
    | 2 => if 4 ≤ beyond then ({ y with ts := { y.ts with within := 0 } } : Half).setServo 1 else y
    | 1 => if 16 ≤ within then (y.setServo 2).when (x.ts.source != 4) (·.setBit Reg.TS_STAT 0 true) else y
    | _ => ({ y with ts := { y.ts with within := if small then 1 else 0, beyond := 0 } } : Half).setServo 1

/-- The rate of the state the servo is in (R390): PI while acquiring or locked, I alone in holdover, 0 in free run. -/
def Half.servoRate (x : Half) (p : Int) (lim : Bool) : Half :=
  let full := match x.fld Reg.TS_STAT 2 1 with
    | 0 => 0
    | 3 => -x.ts.integ
    | _ => -(p + x.ts.integ)
  x.setRate (clampRate full) (lim || clampRate full != full)

/-- An offset θ, in units of 2^-8 ns, applied to the servo (R388, R389). The interval of the first update, and the
terms of gains that are no finite numbers, are free values (log 2). -/
def Half.applyOffset (x : Half) (theta : Int) (stepAllowed force : Bool) : Half :=
  let big := 256000000 < theta.natAbs
  let x : Half := { x with ts := { x.ts with offset := theta } }
  let y : Half := x.servoState (decide (theta.natAbs ≤ 256000))
  if stepAllowed && (big || force) then
    let y : Half := y.phaseStep (BitVec.ofInt 64 (-(theta / 256)))
    ({ y with ts := { y.ts with lastOfs := y.mono, anyOfs := true } } : Half).servoRate 0 false
  else
    let (dt, y) := if y.ts.anyOfs then ((y.mono - y.ts.lastOfs), y) else y.free
    let (fi, y) := y.free
    let (fp, y) := y.free
    -- θ·Δt in 2^-8 ns², to s² by 10^18, to units of 2^-40
    let di := (f32Scaled (y.rd Reg.TS_SRV_KI) (theta * (dt.toNat : Int) * 2 ^ 32) 1000000000000000000).getD fi.toInt
    let p := (f32Scaled (y.rd Reg.TS_SRV_KP) (theta * 2 ^ 32) 1000000000).getD fp.toInt
    let i := y.ts.integ + di
    let y : Half := { y with ts := { y.ts with integ := clampRate i, lastOfs := y.mono, anyOfs := true } }
    y.servoRate p (clampRate i != i)

/-- An edge stamped into a capture FIFO (R402): the newest 64 are kept. -/
def Half.capture (x : Half) (fifo : Nat) (rising halfNs : Bool) : Half :=
  let q := x.ts.fifos.get [] fifo
  let n := x.ts.capSeq.get 0 fifo
  let e : Capture := { t := x.now, tick := x.ts.tick, seq := n, rising := rising, halfNs := halfNs }
  let full := 64 ≤ q.length
  let y : Half := { x with ts := { x.ts with
      fifos := x.ts.fifos.put fifo ((if full then q.drop 1 else q) ++ [e])
      capSeq := x.ts.capSeq.put fifo (n + 1) } }
  if full then (y.setBit (Reg.TS_CAP_INFO fifo) 23 true).tsIrq 5 else y

/-- A captured tick converted with the segment in which it lies; APPROX where that segment is no longer kept
(R385). -/
def convertTick (segs : List Segment) (tick : DWord) : DWord × Bool :=
  match segs.find? fun g => decide (g.cBase.toNat ≤ tick.toNat) with
  | some g => (((g.at_ tick) >>> 32).setWidth 64 + g.acc, false)
  | none => match segs.getLast? with
    | some g => (((g.at_ tick) >>> 32).setWidth 64 + g.acc, true)
    | none => (0, true)

/-- What a capture FIFO's registers show: T, and INFO but for its OVF bit (R402, R406). -/
def Half.capShow (x : Half) (fifo : Nat) : DWord × Nat :=
  match x.ts.fifos.get [] fifo with
  | [] => (0, 0)
  | e :: q =>
    let (t, approx) := if x.virt then convertTick x.ts.segs e.tick else (e.t, false)
    (t, e.seq.toNat + e.rising.toNat * 0x100 + e.halfNs.toNat * 0x200 + e.stepped.toNat * 0x400 +
      approx.toNat * 0x800 + 0x1000 + (q.length + 1) * 0x10000)

/-- The source of the servo while the half is active or alone: the one selected (R334, R400). -/
def Half.setSource (x : Half) (src : Nat) : Half :=
  if x.ts.source = src then x
  else
    let y : Half := { x with ts := { x.ts with source := src, within := 0, beyond := 0,
                                               port := if src = 3 then 1 else if src = 2 then 0 else x.ts.port } }
    if src = 0 then ((y.setServo 0).servoRate 0 false) else y

/-- A source newly selected: the servo is in free run until its first offset (R390). -/
def Half.selectSource (x : Half) (src : Nat) : Half :=
  if x.ts.source = src then x else ((x.setSource src).setServo 0).servoRate 0 false

/-- Without the Span link a half is on the source that TIME_SOURCE or its configuration selects, not on source 4
(R399, R400; log 78). -/
def Half.leaveSource4 (x : Half) : Half :=
  if x.ts.source = 4 then x.setSource (x.ts.selected.getD x.conf.timeSource) else x

end Sys2Proof.Machine
end

