-- ==== Sys2Proof/Machine/RegOps.lean ====
section
/-! DEFINITION. A word stored into a register by the access codes of its bits, and what follows (R9): the same for a
register write and for the firmware's write of a configuration register. -/
namespace Sys2Proof.Machine

/-! ### Plain writes -/

/-- A word written by the access codes of its bits: RW bits take the value, a 1 clears a W1C bit and sets a W1S bit,
RO, RC and WO bits keep theirs (R9). -/
def accessWrite (d : RegDesc) (old value : Word) : Word :=
  ((old &&& ~~~d.rw) ||| (value &&& d.rw)) &&& ~~~(value &&& d.w1c) ||| (value &&& d.w1s)

/-- The register of an address as the half has it: bits that the manual makes RO for this index are RO here (R245,
R301, R384, R406, R504). -/
def Half.regNow (x : Half) (d : RegDesc) (a : Nat) : RegDesc :=
  if Nat.ble 0x30010100 a && Nat.blt a 0x30010130 then
    (if x.bit Reg.FC_CTRL 0 then { d with rw := 0 }
     else if [1, 2, 3, 9].contains ((a - 0x30010100) / 4) then { d with rw := d.rw &&& 0xFFFFBFFF } else d)
  else if Nat.ble 0x30010400 a && Nat.blt a 0x30010600 && x.bit Reg.FC_CTRL 0 then { d with rw := 0 }
  else if Nat.ble 0x30020100 a && Nat.blt a 0x30020300 && a % 0x40 == 4 && a != Reg.MBX_CH_SQ_TAIL 1 then { d with rw := 0 }
  else if Nat.ble 0x30020100 a && Nat.blt a 0x30020300 && a % 0x40 == 0x10 then { d with rw := 0 }
  else if a == Reg.TS_CTRL && x.bit a 0 then { d with rw := d.rw &&& 0xFFFFFFFD }
  else if (a == Reg.TS_INC_LO || a == Reg.TS_INC_HI) && x.bit Reg.TS_CTRL 2 then { d with rw := 0 }
  else if Nat.ble 0x300F0100 a && Nat.blt a 0x300F0500 && (a < Reg.ICU_SRC 3 || (Reg.ICU_SRC 16 ≤ a && a < Reg.ICU_SRC 24)) then
    { d with rw := d.rw &&& 0x10 }
  else d

/-- A level written below the minimum of its source takes the minimum (R227). -/
def srcCfgWrite (old value : Word) : Word :=
  putField old 1 0 (max (getField value 1 0) (getField old 3 2))

/-- What follows from the new content of a register, given its content before. -/
def Half.afterWrite (x : Half) (a : Nat) (old : Word) : Half :=
  if a == Reg.SYS_CTRL then
    (if !x.bit a 0 then x.loseClaim
     else if x.isActive && x.fld Reg.FC_STAT 1 0 < 2 then x.setBit Reg.SYS_STAT 3 true else x)
  else if Nat.ble 0x30080000 a && Nat.blt a 0x30090000 && a % 0x4000 == 4 then
    let c := (a - 0x30080000) / 0x4000
    let y : Half := if x.canMode c = 3 && getField old 2 0 != 3 then
        x.modCan c fun k => { k with cand := 0, good := 0, found := 0, candAt := x.mono, detAt := x.mono } else x
    let y : Half := if (x.wr a old).canEff c = 1 && y.canEff c != 1 then y.canDrop c else y
    y.canShow c
  else if Nat.ble 0x30048000 a && Nat.blt a 0x30048200 && a % 0x40 == 0 then
    let v := (a - 0x30048000) / 0x40
    let y : Half := x.vdFfWritten v
    if x.bit a 0 && !old.getLsbD 0 then y.vdEnabled v else y.vdShow v
  else if Nat.ble 0x30048000 a && Nat.blt a 0x30048200 then x.vdShow ((a - 0x30048000) / 0x40)
  else if a == Reg.DO_CMD || a == Reg.DO_DIAG_EN then x.doUpdate
  else if Nat.ble 0x30050600 a && Nat.blt a 0x30050700 && a % 0x20 == 4 then x.setAo ((a - 0x30050600) / 0x20) (x.rd a)
  else if Nat.ble 0x30050600 a && Nat.blt a 0x30050700 && a % 0x20 == 0 then x.aoUpdate
  else if a == Reg.TS_CTRL then (if x.bit a 3 && !old.getLsbD 3 then (x.setServo 3).servoRate 0 false else x)
  else if a == Reg.SER_CTRL || Nat.ble 0x300E0100 a && Nat.blt a 0x300E0180 && a % 0x40 == 0 then (x.serShow 0).serShow 1
  else if a == Reg.DSP_CTRL then (if old.getLsbD 1 && !x.bit a 1 then x.discharge else x)
  else if Nat.ble 0x30090110 a && Nat.blt a 0x300901B0 && (a - 0x30090100) % 0x40 < 0x30 && a % 8 == 0 then
    let p := (a - 0x30090100) / 0x40
    let q := ((a - 0x30090110) % 0x40) / 8
    let n := (getField (x.rd a) 7 0 + 256 - getField old 7 0) % 256
    { x with net := { x.net with queued := x.net.queued.put (4 * p + q) (x.net.queued.get 0 (4 * p + q) - n) } }
  else x

/-- A write by the access codes. FULL of a CAN object shows in two registers; FC_CTRL takes factory test mode only
with the fixture present (R243); the source levels keep their minima (R227). -/
def Half.regStore (x : Half) (d : RegDesc) (a : Nat) (value : Word) : Half :=
  let old := x.rd a
  let e := x.regNow d a
  if Nat.ble 0x30010400 a && Nat.blt a 0x30010600 then (if e.rw = 0 then x else x.wr a (srcCfgWrite old value))
  else if a == Reg.FC_CTRL then (if getField value 2 1 = 2 && !x.bit Reg.FC_STAT 5 then x else x.setFld a 2 1 (getField value 2 1))
  else if d.base = Reg.CAN_OBJ_CFG 0 0 then
    let c := (a - 0x30081000) / 0x4000
    let k := (a - 0x30081000) % 0x4000 / 0x10
    let y : Half := x.wr a (accessWrite e old value)
    if value.getLsbD 24 then y.setFull c k false else y
  else (x.wr a (accessWrite e old value)).afterWrite a old

end Sys2Proof.Machine
end

