-- ==== Sys2Proof/Machine/Images.lean ====
section
/-! DEFINITION. Image headers (R510), configuration slots and their online change (R45 to R50, R318 to R321), and the
registers that the firmware writes from a configuration. -/
namespace Sys2Proof.Machine

/-! ### Images (R510) -/

/-- The longest body of a kind (R510). -/
def imageMax (kind : Nat) : Nat := if kind = 1 then 0x03FFFF80 else if kind = 16 then 0x07FFFF80 else 3 * 2 ^ 20

/-- The target of a kind. -/
def imageTarget (kind : Nat) : Nat := if kind = 1 then 0 else if kind = 16 then 0xFF else 1

/-- The run-time limit that a kind may carry. -/
def imageLimitOk (kind limit : Nat) : Bool :=
  if kind = 1 || kind = 16 then limit = 0 else Nat.ble 1 limit && Nat.ble limit 5000

/-- Load and entry of a kind: a configuration image carries 0 in both (R318). -/
def imagePlace (kind load entry length : Nat) : Bool :=
  if kind = 16 then load = 0 && entry = 0 else load % 64 = 0 && load ≤ entry && entry < load + length

/-- The check of a body: CV3, ADDR fold, the first block at offset 128 (R510). -/
def imageCheck (body : List Byte) : DWord := cv3 (withAddr 128 body)

/-- An image's header and body as bytes. `wellFormed` covers every header field and the check, but not the signature. -/
def parseImage (bs : List Byte) : Image :=
  let kind := leGet bs 6 1
  let length := leGet bs 24 4
  let body := (bs.drop 128).take length
  let check : DWord := BitVec.ofNat 64 (leGet bs 48 8)
  let known := [1, 2, 3, 4, 5, 6, 16].contains kind
  let keyOk := if kind = 1 || kind = 16 then leGet bs 34 1 = 0 else leGet bs 34 1 ≤ 4
  let zero := leGet bs 35 1 = 0 && leGet bs 38 10 = 0 && leGet bs 120 8 = 0 &&
    (kind != 16 || (leGet bs 32 2 = 0 && leGet bs 56 64 = 0))
  { kind := kind, target := leGet bs 7 1, length := length, version := BitVec.ofNat 32 (leGet bs 28 4)
    secVer := leGet bs 32 2, keyId := leGet bs 34 1, limit := leGet bs 36 2, body := body, check := check
    wellFormed := 128 ≤ bs.length && leGet bs 0 4 = 0x4E564B49 && leGet bs 4 2 = 1 && known &&
      leGet bs 7 1 = imageTarget kind && length ≤ imageMax kind && body.length = length && keyOk && zero &&
      imageLimitOk kind (leGet bs 36 2) && imagePlace kind (leGet bs 8 8) (leGet bs 16 8) length &&
      imageCheck body == check }

/-! ### Registers from the configuration (log 38) -/

/-- The RW bits of a register replaced; TS_CTRL keeps EN and MODE while it runs (R384). -/
def Half.regPut (x : Half) (a : Nat) (v : Word) : Half :=
  match regDesc? a with
  | some d =>
    let m : Word := if a == Reg.TS_CTRL && x.bit a 0 then d.rw &&& 0xC else d.rw
    x.regStore d a ((x.rd a &&& d.rw &&& ~~~m) ||| (v &&& m))
  | none => x

/-- What the outputs and buses show after their registers change. -/
def Half.refresh (x : Half) : Half :=
  let y : Half := ((x.doUpdate).aoUpdate).vdUpdate
  ((List.range 4).foldl Half.canShow y).serShow 0 |>.serShow 1

/-- The configuration registers of the domains that `p` names, as the current configuration gives them. -/
def Half.loadRegs (x : Half) (p : Nat → Bool) : Half :=
  ((x.conf.regs.filter fun e => p (regDomain e.1)).foldl (fun (y : Half) e => y.regPut e.1 e.2) x).refresh

/-! ### Configuration slots (R45, R318) -/

/-- The slot that is not current. -/
def Half.otherCfg (x : Half) : Nat := if x.cfg.cur = some 0 then 1 else 0

/-- The content of a configuration image's body, with each task's call list and instances read from their bytes
(R38, R39). -/
def loadConf (body : List Byte) : StationCfg :=
  let c := Config.decodeImage body
  { c with tasks := c.tasks.map fun e => (e.1, buildTask c.consts inputCount e.2) }

/-- Data written into the slot that is not current; `first` empties it, `last` checks it (R318). Answers whether the
check passed. -/
def Half.stageWrite (x : Half) (first last : Bool) (data : List Byte) : Bool × Half :=
  let k := x.otherCfg
  let s : CfgSlot := if first then {} else x.cfgSlot k
  let s : CfgSlot := { s with bytes := s.bytes ++ data, verified := false }
  if last then
    let i := parseImage s.bytes
    let ok := i.wellFormed && i.kind = 16 && s.bytes.length = 128 + i.length
    (ok, x.setCfgSlot k { s with complete := ok, cfg := if ok then some (loadConf i.body) else none })
  else (true, x.setCfgSlot k s)

/-- The counter that a commit or rollback gives (R320, R321). -/
def Half.nextCommit (x : Half) : Word :=
  (if x.cfg.slot0.commit.toNat < x.cfg.slot1.commit.toNat then x.cfg.slot1.commit else x.cfg.slot0.commit) + 1

/-! ### Safety parameter set (R145, R179) -/

/-- The check of a configuration's safety parameter set: its last four bytes; none without a set (R145). -/
def setCheck (c : StationCfg) : Option Nat := if c.saf.isEmpty then none else some (leGet (c.saf.drop (c.saf.length - 4)) 0 4)

/-- The check of the set in force (R145). -/
def Half.setInForce (x : Half) : Option Nat := if x.bit Reg.SAF_STAT 3 then some (x.rd Reg.SAF_PCRC).toNat else none

/-- EDIT as the supervisor sees it (R179). -/
def Half.editOn (x : Half) : Bool := x.bit Reg.SAF_STAT 1

/-- The set that a commit or rollback delivers, with its check: EDIT is on and it differs from the set held (R145). -/
def Half.commitSet (x : Half) (new : StationCfg) : Option (List Byte × Word) :=
  match setCheck new with
  | none => none
  | some k => if x.editOn && x.setInForce != some k then some (new.saf, BitVec.ofNat 32 k) else none

/-! ### Online change (R45 to R50) -/

/-- What of a task a change of which affects it: everything but the figures that are computed from it (R45). -/
def taskBody (c : TaskCfg) : TaskCfg := { c with ci := 0, bMax := 0, region := 0 }

/-- The chains that a task owns. -/
def ownChains (c : StationCfg) (t : Nat) : List ChainCfg := c.chains.filter fun e => e.owner == t

/-- Task t is affected by a change between two configurations (R45). -/
def taskAffected (old new : StationCfg) (t : Nat) : Bool :=
  (taskIn old t).map taskBody != (taskIn new t).map taskBody || ownChains old t != ownChains new t

/-- The affected tasks as the mask of CFG_COMMIT. -/
def affectedMask (old new : StationCfg) : BitVec 16 :=
  (List.range 16).foldl (fun m t => if taskAffected old new t then m ||| (1#16 <<< t) else m) 0

/-- The chains of a configuration that a task owns take their descriptors. -/
def Half.takeOwned (x : Half) (t slot : Nat) : Half :=
  let cs := ownChains (x.taskConf t) t ++ ownChains ((x.cfgSlot slot).cfg.getD {}) t
  (cs.map (·.chain)).eraseDups.foldl (fun (z : Half) c => z.scheduleTake c slot) x

/-- A task that an online change adds: it enters WAITING at its first release instant, an event task at once (R46). -/
def newTask (runs : Bool) (slot : Nat) (c : TaskCfg) : TaskSt :=
  { slot := slot, switchTo := some slot
    state := if !runs then .tracking else if c.event then .waiting else .stopped, startDue := runs && !c.event }

/-- One task put on its way to a configuration slot; answers whether its switch is waited for (R46). A task stopped by
command runs no cycle and switches at once; so does one that only this change removes or adds while the half does not
run it. A task that an earlier change deleted starts as a new one. -/
def Half.sendTo (x : Half) (t slot : Nat) : Bool × Half :=
  let new := (x.cfgSlot slot).cfg.getD {}
  let runs := x.isActive
  match x.task.tasks.get? t, taskIn new t with
  | none, none => (false, x.takeOwned t slot)
  | none, some c => (true, { x with task := { x.task with tasks := x.task.tasks.put t (newTask runs slot c) } })
  | some k, none =>
    let y : Half := x.takeOwned t slot
    if !inCycle k then (false, y.modTsk t fun k =>
        { k with state := if runs then .stopped else k.state, switchTo := none, switchDue := false, startDue := false
                 gone := true, insts := [] })
    else (false, y.modTsk t fun k => { k with deleting := true, switchTo := none })
  | some k, some c =>
    if k.gone then (true, { x with task := { x.task with tasks := x.task.tasks.put t { newTask runs slot c with
      cycle := k.cycle, outCycle := k.outCycle } } })
    else if !taskAffected (x.taskConf t) new t then
      (false, x.modTsk t fun k => { k with switchTo := none, switchDue := false, deleting := false })
    else if k.state == .stopped && !k.startDue then (false, x.switchTask t slot)
    else (true, x.modTsk t fun k => { k with switchTo := some slot, deleting := false })

/-- A commit or a rollback begins (R46, R50): its safety set is delivered at once where EDIT permits (R145). -/
def Half.beginSwitch (x : Half) (rollback : Bool) (cmd : Option (Nat × Nat)) (slot : Nat) (mask : BitVec 16)
    (set : Option (List Byte × Word)) : Half :=
  let (ts, y) := (List.range 16).foldl (fun (acc : List Nat × Half) t =>
    let (w, y) := acc.2.sendTo t slot
    (if w then acc.1 ++ [t] else acc.1, y)) (([] : List Nat), x)
  let moved := x.taskIds.any fun t =>
    !(x.tsk t).gone && ((y.tsk t).slot != (x.tsk t).slot || (y.tsk t).gone)
  let y : Half := { y with cfg := { y.cfg with pend := some {
      rollback := rollback, cmd := cmd, slot := slot, mask := mask, waiting := ts, first := [], switched := moved
      at_ := x.mono, pcrc := set.map (·.2), safWait := if set.isSome then [x.id] else [] } } }
  match set with
  | some (bs, _) => y.deliverSet bs
  | none => y

/-- A pending commit or rollback is stopped before its first switch: every task keeps what it runs (R287). -/
def Half.cancelSwitch (x : Half) : Half :=
  match x.cfg.pend, x.cfg.cur with
  | some _, some k =>
    let y : Half := x.beginSwitch false none k 0 none
    { y with cfg := { y.cfg with pend := none } }
  | _, _ => x

/-- A digital output has a writer in a configuration: a task, or the host or a chain by its point (R16, R347). -/
def hasWriter (c : StationCfg) (n : Nat) : Bool :=
  let ps := (c.points.filter fun e => e.2.out == some (.dout n))
  let named (d : Dst) : Bool := d == .dout n || ps.any fun p => d == .obj p.1
  (c.tasks.any fun e => e.2.outs.any fun o => named o.dst) || ps.any (fun p => p.2.writer == .host) ||
    c.chains.any fun e => let w := (parseDesc e.desc).dst; srcKind w = 4 && named (.obj (srcIdx w))

/-- Digital outputs that no writer has are off, but for a forced one (R16, R347). -/
def Half.freeOutputs (x : Half) : Half :=
  ((List.range 32).filter fun n => !hasWriter x.conf n &&
      !(x.conf.points.any fun e => e.2.out == some (.dout n) && (x.point e.1).force.isSome)).foldl
    (fun (y : Half) n => y.setBit Reg.DO_CMD n false) x |>.doUpdate

/-- The commit is complete for a half if nothing is waited for; the registers follow the new configuration. -/
def Half.endCommit (x : Half) : Half :=
  let was := x.cfg.pend.isSome
  let y : Half := x.commitDone
  if was && y.cfg.pend.isNone then (y.loadRegs fun _ => true).freeOutputs else y

end Sys2Proof.Machine
end

