-- ==== Sys2Proof/Machine/League.lean ====
section
/-! DEFINITION. The League: commands LEAGUE_HEARTBEAT_SEND to STORE_BATCH (chapter 9). -/
namespace Sys2Proof.Machine

/-- A counter of LEAGUE_STATUS, saturating with OVF (R336). -/
def Half.leagueCount (x : Half) (w : Word) (put : ObjBlk → Word → ObjBlk) : Half :=
  { x with obj := { put x.obj (satAdd w 1) with ovf := x.obj.ovf || w == 0xFFFFFFFF } }

/-- The source of a frame: station × 16 + task. -/
def srcKey (station task : Nat) : Nat := station * 16 + task % 16

/-- A station of an object id. -/
def recStation (r : ObjRec) : Nat := r.oid.toNat / 8192

/-- The check of R251 on a received record: its crc, and the fill of its type where the configuration gives one. -/
def Half.recValid (x : Half) (r : ObjRec) : Bool :=
  sealRec r == r &&
    match x.foreign.find? fun e => e.1 == r.oid.toNat with
    | some e => fillOk e.2 r.value
    | none => true

/-- The class 0b10 of a received record is treated as bad (R250). -/
def classBad (r : ObjRec) : ObjRec :=
  if r.quality.toNat / 64 = 2 then sealRec { r with quality := r.quality &&& 0x3F } else r

/-- Objects of a source task. -/
def Half.ofTask (x : Half) (station task : Nat) (r : ObjRec) : Bool :=
  recStation r == station && x.obj.srcTask.get? r.oid.toNat == some task

/-- A lost station: every copy of its records becomes stale (R265). -/
def Half.staleStation (x : Half) (station : Nat) : Half :=
  (x.staleAbsent station).markStale fun r => recStation r == station

/-- A lost manager: every imported object becomes stale (R265). -/
def Half.staleAll (x : Half) : Half :=
  ((x.foreign.map fun e => e.1 / 8192).eraseDups.foldl Half.staleAbsent x).markStale fun _ => true

/-- Records applied in the running second (R330 of LEAGUE_STATUS: ingest). -/
def Half.countIngest (x : Half) (n : Nat) : Half :=
  let s := x.mono.toNat / 1000000000
  let o := x.obj
  if s = o.ingestSec then { x with obj := { o with ingestNow := o.ingestNow + n } }
  else { x with obj := { o with ingestSec := s, ingestNow := n, ingestLast := if s = o.ingestSec + 1 then o.ingestNow else 0 } }

/-- A station as the manager sees it, changed. -/
def Half.modStation (x : Half) (st : Nat) (f : StationSt → StationSt) : Half :=
  { x with obj := { x.obj with stations := x.obj.stations.upd {} st f } }

def Half.station (x : Half) (st : Nat) : StationSt := x.obj.stations.get {} st

/-- A gap of a source task at the manager, seen at a cycle number: REFRESH_REQ, and its objects stale until the refresh is
applied (R261). -/
def Half.gapAt (x : Half) (station task : Nat) (cycle : Word) : Half :=
  let y : Half := x.leagueCount x.obj.gaps fun o w => { o with gaps := w }
  let y : Half := y.modStation station fun s => { s with
    wait := if s.wait.contains task then s.wait else s.wait ++ [task]
    asked := s.asked.put task cycle }
  (y.send (.refreshReq station task)).markStale (y.ofTask station task)

/-- One record stored, with the task that it came from. -/
def Half.storeRec (x : Half) (task : Nat) (stale : Bool) (r : ObjRec) : Half :=
  let r := classBad r
  let y : Half := x.putRec (if stale then { r with quality := staleQ r.quality } else r)
  { y with obj := { y.obj with srcTask := y.obj.srcTask.put r.oid.toNat task } }

/-- A complete frame applied under the cycle table (R260, R261, R264). -/
def Half.applyFrame (x : Half) (f : LeagueFrame) (recs : List ObjRec) : Half :=
  let key := srcKey f.station f.task
  let last := x.obj.cycles.get? key
  let newer := match last with
    | some l => cycleNewer f.cycle l
    | none => true
  if !newer then x
  else
    let gap := match last with
      | some l => f.cycle != l + 1
      | none => false
    let y : Half := { x with obj := { x.obj with cycles := x.obj.cycles.put key f.cycle } }
    if y.conf.manager then
      let y : Half := if gap then y.gapAt f.station f.task f.cycle else y
      let stale := (y.station f.station).wait.contains f.task
      let y : Half := (recs.foldl (fun (z : Half) r => z.storeRec f.task stale r) y).countIngest recs.length
      y.relayOut f 1 recs
    else
      let mine := recs.filter fun r => y.conf.imports.any fun e => e.1 == r.oid
      let y : Half := if gap then y.markStale (y.ofTask f.station f.task) else y
      mine.foldl (fun (z : Half) r => z.storeRec f.task false r) y

/-- The records of a REFRESH applied one by one by seq (R263): answers whether the record was not older. -/
def Half.applyRefresh (x : Half) (task : Nat) (recs : List ObjRec) : Half :=
  recs.foldl (fun (y : Half) r =>
    match y.rec? r.oid.toNat with
    | none => y.storeRec task false r
    | some o =>
      if serialNewer o.seq r.seq then y
      else
        let fix := o.seq != r.seq || o.crc != r.crc
        let z : Half := if fix then y.leagueCount y.obj.refreshFix fun o w => { o with refreshFix := w } else y
        z.storeRec task false r) x

/-- The bytes of the ingest buffer in use: the fragments of frames not yet whole (R269). -/
def Half.ingestUsed (x : Half) : Nat :=
  (x.obj.parts.map fun p => (p.got.map fun g => 32 + 32 * g.2.length).sum).sum

/-- A received fragment (R251, R260, R269): a bad record, or a full ingest buffer, discards the frame whole and counts it
once; a frame whose fragments are all there is handed on. -/
def Half.takeFragment (x : Half) (f : LeagueFrame) : Option (List ObjRec) × Half :=
  let same (p : PartFrame) : Bool := p.station == f.station && p.task == f.task && p.cycle == f.cycle && p.origin == f.origin
  let old : PartFrame := (x.obj.parts.find? same).getD
    { station := f.station, task := f.task, cycle := f.cycle, origin := f.origin, cnt := f.fragCnt, at_ := x.mono }
  let spoiled := !f.recs.all x.recValid
  let full := x.conf.manager && Nat.blt (2 ^ 24) (x.ingestUsed + 32 + 32 * f.recs.length)
  let y : Half := if old.bad then x
    else if full then x.leagueCount x.obj.ingestDrop fun o w => { o with ingestDrop := w }
    else if spoiled then x.leagueCount x.obj.crcErr fun o w => { o with crcErr := w }
    else x
  let bad := old.bad || full || spoiled
  let kept : List (Nat × List ObjRec) := if bad then old.got.map fun g => (g.1, []) else old.got
  let p : PartFrame := { old with bad := bad, got := Tab.put kept f.fragIdx (if bad then [] else f.recs) }
  let y : Half := { y with obj := { y.obj with parts := y.obj.parts.filter fun p => !same p } }
  if p.cnt ≤ p.got.length then (if bad then none else some (p.got.flatMap (·.2)), y)
  else (none, { y with obj := { y.obj with parts := y.obj.parts ++ [p] } })

/-- Whether the manager's League table names a station (R256, R258). -/
def Half.knows (x : Half) (st : Nat) : Bool := x.conf.league.any fun e => e.station == st

/-- The last cycle numbers sent (R256, R257). -/
def Half.lastCycles (x : Half) : List (Nat × Word) := x.obj.lastSent

/-- LEAGUE_HEARTBEAT_SEND (R257). -/
def execLeagueHeartbeatSend (h : HalfId) (s : State) : Host.Outcome State Fault Refusal :=
  onHalf s h fun x =>
    if !(x.isActive || x.st == .standby || x.st == .syncing) then x
    else x.every .league 100000 fun x => x.send (.leagueHeartbeat {
      station := x.conf.station, half := x.id, state := BitVec.ofNat 8 x.st.code, fwVersion := x.boot.version
      cfgCommit := x.cfgCommit, lastCycles := if x.conf.manager then [] else x.lastCycles
      activeHalf := if x.isActive then x.id else x.id.other, epoch := x.obj.epoch
      present := (x.obj.stations.filter fun e => e.2.present).map (·.1) })

/-- JOIN sent by a worker half (R256). -/
def Half.sendJoin (x : Half) : Half := x.send (.join x.conf.station x.cfgCommit x.boot.version x.lastCycles)

/-- A worker's HEARTBEAT at the manager (R257, R261): its presence, and a REFRESH_REQ for each cycle missed. -/
def Half.hearWorker (x : Half) (hb : LeagueHb) : Half :=
  let act := hb.state == 5 || hb.state == 6
  let back := (x.station hb.station).lost
  let y : Half := x.modStation hb.station fun s =>
    if hb.half == .a then { s with present := true, lost := false, actA := act, hbAt := x.mono }
    else { s with present := true, lost := false, actB := act, hbAt := x.mono }
  let y : Half := if back && y.isActive then y.send (.stationState hb.station false) else y
  if !y.isActive then y
  else hb.lastCycles.foldl (fun (z : Half) e =>
    let missed := match z.obj.cycles.get? (srcKey hb.station e.1) with
      | some l => cycleNewer e.2 l
      | none => true
    if missed && (z.station hb.station).asked.get? e.1 != some e.2 then z.gapAt hb.station e.1 e.2 else z) y

/-- LEAGUE_HEARTBEAT (R257, R261, R266, R271). -/
def execLeagueHeartbeat (h : HalfId) (hb : LeagueHb) (s : State) : Host.Outcome State Fault Refusal :=
  onHalf s h fun x =>
    if x.conf.manager then
      if x.knows hb.station then x.hearWorker hb else x
    else if hb.station != 0 then x
    else
      let y : Half := { x with obj := { x.obj with managerHalf := hb.activeHalf, epoch := hb.epoch, managerAt := x.mono } }
      if x.obj.managerLost then
        ({ y with obj := { y.obj with managerLost := false, joined := false } } : Half).sendJoin
      else y

/-- WORKER_LOST (R257, R265). -/
def execWorkerLost (h : HalfId) (station : Nat) (s : State) : Host.Outcome State Fault Refusal :=
  onHalf s h fun x =>
    if !x.conf.manager || !x.knows station || !x.goneUs (x.station station).hbAt 3000000 then x
    else
      let y : Half := x.modStation station fun s => { s with present := false, lost := true, actA := false, actB := false }
      if y.isActive then (y.staleStation station).send (.stationState station true) else y

/-- MANAGER_LOST (R257, R265). -/
def execManagerLost (h : HalfId) (s : State) : Host.Outcome State Fault Refusal :=
  onHalf s h fun x =>
    if x.conf.manager || !x.domainOn 1 || !x.goneUs x.obj.managerAt 3000000 then x
    else ({ x with obj := { x.obj with managerLost := true } } : Half).staleAll

/-- EXCHANGE (R260, R261): the active manager applies a complete frame of a worker of its table. -/
def execExchange (h : HalfId) (f : LeagueFrame) (s : State) : Host.Outcome State Fault Refusal :=
  onHalf s h fun x =>
    if !x.conf.manager || !x.isActive || !x.knows f.station || !headerOk 1 f then x
    else match x.takeFragment { f with origin := 0 } with
      | (some recs, y) => y.applyFrame f recs
      | (none, y) => y

/-- A complete REFRESH at the manager (R261, R263, R264). -/
def Half.refreshed (y : Half) (f : LeagueFrame) (recs : List ObjRec) : Half :=
  let key := srcKey f.station f.task
  let y : Half := y.modStation f.station fun s => { s with wait := s.wait.filter (· != f.task) }
  let y : Half := (y.applyRefresh f.task recs).countIngest recs.length
  let y : Half := match y.obj.cycles.get? key with
    | some l => if cycleNewer f.cycle l then { y with obj := { y.obj with cycles := y.obj.cycles.put key f.cycle } } else y
    | none => { y with obj := { y.obj with cycles := y.obj.cycles.put key f.cycle } }
  y.relayOut f 2 recs

/-- REFRESH (R263, R264): each record by seq; a refresh that was asked for is applied with it (R261). -/
def execRefresh (h : HalfId) (f : LeagueFrame) (s : State) : Host.Outcome State Fault Refusal :=
  onHalf s h fun x =>
    if !x.conf.manager || !x.isActive || !x.knows f.station || !headerOk 2 f then x
    else match x.takeFragment { f with origin := 2 } with
      | (some recs, y) => y.refreshed f recs
      | (none, y) => y

/-- A complete RELAY at an importer (R264). -/
def Half.relayed (y : Half) (f : LeagueFrame) (recs : List ObjRec) : Half :=
  if f.origin = 2 then
    y.applyRefresh f.task (recs.filter fun r => y.conf.imports.any fun e => e.1 == r.oid)
  else y.applyFrame f recs

/-- RELAY (R264): an importer applies a relayed EXCHANGE under its cycles, a relayed REFRESH record by record. -/
def execRelay (h : HalfId) (f : LeagueFrame) (s : State) : Host.Outcome State Fault Refusal :=
  onHalf s h fun x =>
    if x.conf.manager || !x.isActive || !headerOk 3 f then x
    else match x.takeFragment f with
      | (some recs, y) => y.relayed f recs
      | (none, y) => y

/-- A JOIN accepted (R256): membership, and CFG_MISMATCH where the commit counter differs from the table's. -/
def Half.joinAccept (x : Half) (j : JoinFrame) : Half :=
  let want := (x.conf.league.find? fun e => e.station == j.station).map (·.commit)
  (x.modStation j.station fun s => { s with
    present := true, lost := false, cert := some j.certSerial, mismatch := want != some j.cfgCommit
    halves := if s.halves.contains j.half then s.halves else s.halves ++ [j.half] }).send
    (.joinReply j.station 0)

/-- JOIN (R256): JOIN_REPLY carries the result codes of LEAGUE_JOIN (R333): 1 unknown station, 2 certificate mismatch,
3 already joined. -/
def execJoin (h : HalfId) (j : JoinFrame) (s : State) : Host.Outcome State Fault Refusal :=
  onHalf s h fun x =>
    if !x.conf.manager then x
    else if !x.knows j.station then x.send (.joinReply j.station 1)
    else if j.certStation != j.station then x.send (.joinReply j.station 2)
    else match (x.station j.station).cert with
      | some c =>
        if c != j.certSerial then (x.logEvt (.joinRefused j.station 3)).send (.joinReply j.station 3) else x.joinAccept j
      | none => x.joinAccept j

/-- JOIN_REPLY (R256, R266, R336). -/
def execJoinReply (h : HalfId) (result : Nat) (mismatch : Bool) (epoch : Word) (s : State) :
    Host.Outcome State Fault Refusal :=
  onHalf s h fun x =>
    if x.conf.manager then x
    else
      let cmd := x.obj.joinCmd
      let y : Half := { x with obj := { x.obj with
        joined := result = 0, joinCmd := none, managerLost := if result = 0 then false else x.obj.managerLost
        epoch := if result = 0 then epoch else x.obj.epoch
        joinAt := if result = 0 then x.mono else x.obj.joinAt } }
      y.finishCmd cmd ST_OK (leNat 1 result ++ leNat 1 mismatch.toNat ++ [0, 0] ++ leNat 4 epoch.toNat)

/-- REFRESH_REQ (R261, R263). -/
def execRefreshReq (h : HalfId) (task : Nat) (s : State) : Host.Outcome State Fault Refusal :=
  onHalf s h fun x =>
    if x.conf.manager || !x.isActive || 16 ≤ task || x.obj.refresh.contains task then x
    else { x with obj := { x.obj with refresh := x.obj.refresh ++ [task] } }

/-- STATION_STATE (R265). -/
def execStationState (h : HalfId) (station : Nat) (lost : Bool) (s : State) : Host.Outcome State Fault Refusal :=
  onHalf s h fun x => if x.conf.manager || !lost then x else x.staleStation station

/-- FRAGMENT_TIMEOUT (R260): the frames whose first fragment came 100 ms ago. -/
def execFragmentTimeout (h : HalfId) (station : Nat) (task : Nat) (s : State) : Host.Outcome State Fault Refusal :=
  onHalf s h fun x =>
    { x with obj := { x.obj with parts := x.obj.parts.filter fun p =>
        !(p.station == station && p.task == task && x.goneUs p.at_ 100000) } }

/-- A REFRESH of a task sent now, with the number and the end of its last cycle. -/
def Half.refreshNow (x : Half) (t : Nat) : Half :=
  let y : Half := x.sendRefresh t (x.tsk t).outCycle (x.tsk t).outEnd
  { y with obj := { y.obj with refresh := y.obj.refresh.filter (· != t), fullRefresh := y.obj.fullRefresh.filter (· != t) } }

/-- REFRESH_SEND (R263): a task's turn. -/
def execRefreshSend (h : HalfId) (task : Nat) (s : State) : Host.Outcome State Fault Refusal :=
  onHalf s h fun x => if x.isActive && task < 16 then x.refreshNow task else x

/-- FULL_REFRESH_START (R266): (station number mod 100) × 90 ms after the acceptance. -/
def execFullRefreshStart (h : HalfId) (s : State) : Host.Outcome State Fault Refusal :=
  onHalf s h fun x =>
    if x.conf.manager || !x.isActive || !x.obj.joined || !x.goneUs x.obj.joinAt (90000 * (x.conf.station % 100)) then x
    else
      let ts := x.conf.tasks.map (·.1)
      { x with obj := { x.obj with refresh := (x.obj.refresh ++ ts).eraseDups, fullRefresh := ts, fullAt := x.mono } }

/-- FULL_REFRESH_DEADLINE (R266): 1 s after the start. -/
def execFullRefreshDeadline (h : HalfId) (task : Nat) (s : State) : Host.Outcome State Fault Refusal :=
  onHalf s h fun x => if x.isActive && x.obj.fullRefresh.contains task && x.goneUs x.obj.fullAt 1000000 then x.refreshNow task else x

/-- The 256 bytes of store block b: 8 records (R248, R270); a record that never arrived is bad, not yet written (R266). -/
def Half.storeBlock (x : Half) (b : Nat) : List Byte :=
  (List.range 8).flatMap fun i =>
    let oid := 8 * b + i
    recBytes ((x.rec? oid).getD (sealRec (x.absentRec oid)))

/-- The check of a batch: its dirty blocks, then the 1 MiB slice of the batch number, each block with its offset from the
base of the store (R270, R447, R448). -/
def Half.batchCheck (x : Half) (batch : Nat) (dirty : List (Nat × List Byte)) : Word :=
  let slice := (List.range 4096).map fun i => batch % 1024 * 4096 + i
  cv0 ((dirty.flatMap fun b => withAddr (BitVec.ofNat 32 b.1) b.2) ++
    slice.flatMap fun b => withAddr (BitVec.ofNat 32 (256 * b)) (x.storeBlock b))

/-- The next batch of the store to the standby half (R270). -/
def Half.batchOut (x : Half) : Half :=
  let n := x.obj.batch + 1
  let cyc := Config.cycleBlocks { cycles := x.obj.cycles, srcTask := x.obj.srcTask, epoch := x.obj.epoch }
  let bs := (x.obj.dirty.map fun b => (256 * b, x.storeBlock b)) ++
    cyc.filter fun b => !(x.copy.sentRegion.get [] 255).contains b
  let (k, y) := x.sendBlocks 0xFF 2 n bs
  let y : Half := y.spanPut fun seq => .cycleEnd seq {
    task := 0xFF, frames := BitVec.ofNat 16 k, cycle := n, check := x.batchCheck n.toNat bs, tEnd := x.now }
  { y with obj := { y.obj with batch := n, dirty := [], batchMs := some (x.mono.toNat / 1000000) }
           copy := { y.copy with sentRegion := y.copy.sentRegion.put 255 cyc } }

/-- STORE_BATCH (R270): once a millisecond, the dirty blocks of the store, and the changed blocks of the cycle table after
them. -/
def execStoreBatch (h : HalfId) (s : State) : Host.Outcome State Fault Refusal :=
  onHalf s h fun x =>
    if x.conf.manager && x.isActive && x.obj.batchMs != some (x.mono.toNat / 1000000) then x.batchOut else x

end Sys2Proof.Machine
end

