-- ==== Sys2Proof/Machine/RoleOps.lean ====
section
/-! DEFINITION. Roles (chapter 7): release of the partner, the claim, the copy that a standby half holds, the takeover,
and the start of a station. -/
namespace Sys2Proof.Machine

/-! ### The partner (R184 to R190, R213) -/


/-- The conditions of R187, as R188 restricts them. -/
def Half.releaseHolds (x : Half) : Bool :=
  (!x.partnerClaim && (x.role.relinq || (!x.role.claimLine && !x.hbOk))) || !x.partnerPresent

/-- SPAN_STAT.RELEASED clears when the conditions no longer hold. -/
def Half.showReleased (x : Half) : Half := if x.releaseHolds then x else x.setBit Reg.SPAN_STAT 2 false

/-- Firmware that may run beside other firmware (R213). -/
def fwCompat (v w : Word) (f g : BitVec 16) : Bool :=
  v >>> 24 == w >>> 24 && f == g &&
    (getField v 23 16 - getField w 23 16 ≤ 1 && getField w 23 16 - getField v 23 16 ≤ 1)


def Half.compatible (x : Half) : Bool :=
  x.role.partner.elim true fun p => fwCompat x.boot.version p.fwVersion x.boot.stateFormat p.stateFormat


/-- The claim is driven (R183). -/
def Half.claim (x : Half) : Half := (x.setBit Reg.SYS_CTRL 0 true).setBit Reg.SYS_STAT 3 true

/-! ### SYNCED and TAKEOVER_ARMED (R199, R200) -/

def Half.copyOf (x : Half) (t : Nat) : TaskCopy := x.copy.tasks.get {} t
def Half.modCopy (x : Half) (t : Nat) (f : TaskCopy → TaskCopy) : Half :=
  { x with copy := { x.copy with tasks := x.copy.tasks.upd {} t f } }

/-- Every task confirmed, the store copied on a manager, the configuration the partner's, the firmware compatible. -/
def Half.copyReady (x : Half) : Bool :=
  x.cfg.cur.isSome && x.cfg.pend.isNone && x.conf.tasks.all (fun t => (x.copyOf t.1).confirmed) &&
    (!x.conf.manager || x.copy.storeDone) && x.compatible && x.role.partner.any fun p => p.cfgCommit == x.cfgCommit

/-- A half in STANDBY shows whether its copy is complete. A divergence clears SYNCED and, so that R204 can resume an
unconfirmed task, not TAKEOVER_ARMED (log 48). -/
def Half.showArmed (x : Half) : Half :=
  if x.st == .standby then
    let c := x.copyReady || (x.cfg.pend.isSome && x.role.synced)
    { x with role := { x.role with armed := c || (x.role.armed && x.compatible), synced := c } }
  else { x with role := { x.role with armed := false, synced := false } }

/-- The mask of the configured tasks. -/
def Half.taskMask (x : Half) : BitVec 16 := x.conf.tasks.foldl (fun m t => m ||| (1#16 <<< t.1)) 0

/-- The tasks of the current configuration in a state. -/
def Half.placeTasks (x : Half) (st : TaskState) : Half :=
  { x with task := { x.task with tasks := x.conf.tasks.foldl (fun m t =>
      Tab.put m t.1 ({ slot := x.cfg.cur.getD 0, state := st } : TaskSt)) [] } }

/-- SYNCING is entered (R200): a full copy is requested, and the engine tracks (R114). -/
def Half.enterSyncing (x : Half) : Half :=
  let y : Half := { x with
    st := .syncing
    role := { x.role with armed := false, synced := false, negotiating := false, loading := false, takeover := false, ho := none }
    span := { x.span with lost := false }
    copy := { resync := x.taskMask } }
  ((y.placeTasks .tracking).setBit Reg.CE_CTRL 1 true).setBit Reg.CE_CTRL 2 false

/-! ### A cycle's end on the standby half (R195 to R197, R270) -/

/-- Blocks put into a copy. -/
def putBlocks (m : List (Nat × List Byte)) (es : List DeltaEntry) : List (Nat × List Byte) :=
  es.foldl (fun m e => Tab.put m e.offset.toNat e.data) m

/-- The output shadows of the tasks in the shadow registers (R194, R357, R380). -/
def Half.loadShadow (x : Half) : Half :=
  x.copy.tasks.foldl (fun (y : Half) e =>
    let s := Config.decodeShadow e.1 e.2.shadow
    let y : Half := s.douts.foldl (fun (z : Half) o => if o.1 < 32 then z.setBit Reg.DO_SHD o.1 o.2 else z) y
    s.aos.foldl (fun (z : Half) o => if o.1 < 8 then z.wr (Reg.AO_SHD o.1) o.2 else z) y) x

/-- What a confirmed region gives the half: the task's RETAIN fields in MRAM, its points and its cycle. -/
def Half.takeRegion (x : Half) (t : Nat) : Half :=
  match x.taskCfg t with
  | none => x
  | some c =>
    let d := Config.decodeRegion t (x.copyOf t).region
    let y : Half := x.putRetain t ((c.insts.filter fun e => e.2.retain).filterMap fun e =>
      (d.insts.find? fun i => i.1 == e.1).map fun i =>
        { task := t, key := e.2.key, ins := i.2.ins, outs := i.2.outs, st := i.2.st })
    let y : Half := d.points.foldl (fun (z : Half) p =>
      z.putPoint p.1 { z.point p.1 with kept := p.2.kept, pub := p.2.pub, seq := p.2.seq, tPub := p.2.tPub }) y
    y.modTsk t fun k => { k with cycle := d.cycle, missedEvent := false }

/-- A divergence (R196, R197): logged, a full copy requested; the third within 10 min raises source 61. -/
def Half.diverged (x : Half) (t : Nat) (cycle : Word) : Half :=
  let stamps := ((x.copyOf t).divergences.filter fun m => (x.mono - m).toNat < 600000000000) ++ [x.mono]
  let y : Half := x.modCopy t fun k => { k with confirmed := false, unconfirmed := true, chunks := false, divergences := stamps }
  let y : Half := { y with copy := { y.copy with resync := if t < 16 then y.copy.resync ||| (1#16 <<< t) else y.copy.resync
                                                 storeDone := y.copy.storeDone && t < 16 } }
  ((y.logEvt (.divergence t cycle)).raise 60).raiseIf (3 ≤ stamps.length) 61

/-- CYCLE_END of a task on the standby half. -/
def Half.confirm (x : Half) (t : Nat) (c : CycleEnd) : Half :=
  let k := x.copyOf t
  let n := (k.pend.filter fun d => d.cycle == c.cycle).length
  let of (r : Byte) : List DeltaEntry := (k.pend.filter fun d => d.region == r).flatMap (·.entries)
  let region := putBlocks k.region (of 0)
  let ok := n == c.frames.toNat && regionCheck region == c.check
  let asked := x.copy.resync.getLsbD t
  let y : Half := x.modCopy t fun k => { k with pend := [], frames := 0, region := region }
  if ok && !asked then
    let y : Half := y.modCopy t fun k => { k with
      confirmed := true, unconfirmed := false, chunks := false, cycle := c.cycle, shadow := putBlocks k.shadow (of 1) }
    (y.takeRegion t).loadShadow
  else if k.confirmed || k.chunks then y.diverged t c.cycle
  else y

/-- The record that 32 bytes hold (R248). -/
def parseRec (b : List Byte) : ObjRec :=
  { value := BitVec.ofNat 64 (leGet b 0 8), tStamp := BitVec.ofNat 64 (leGet b 8 8), quality := BitVec.ofNat 8 (leGet b 16 1)
    seq := BitVec.ofNat 16 (leGet b 18 2), oid := BitVec.ofNat 32 (leGet b 20 4), crc := BitVec.ofNat 16 (leGet b 30 2) }

/-- The 8 records of a store block put into the store; one that never arrived stays unlisted (R266). -/
def Half.putStoreBlock (x : Half) (b : List Byte) : Half :=
  (List.range 8).foldl (fun (y : Half) i =>
    let r := parseRec ((b.drop (32 * i)).take 32)
    if r == sealRec { quality := 0x20, oid := r.oid } then y
    else if r == sealRec { quality := 0x21, oid := r.oid } then y.staleAbsent (r.oid.toNat / 8192)
    else { y with obj := { y.obj with recs := y.obj.recs.put r.oid.toNat r } }) x

/-- The end of a batch on the standby half (R270). -/
def Half.confirmStore (x : Half) (c : CycleEnd) : Half :=
  let k := x.copyOf 255
  let es := k.pend.flatMap (·.entries)
  let mine := (k.pend.filter fun d => d.cycle == c.cycle)
  let store := es.filter fun e => e.offset.toNat < 2 ^ 30
  let region := putBlocks k.region (es.filter fun e => 2 ^ 30 ≤ e.offset.toNat)
  let y : Half := store.foldl (fun (z : Half) e => z.putStoreBlock e.data) (x.modCopy 255 fun k => { k with pend := [], region := region })
  let tab := Config.decodeCycles region
  let y : Half := { y with obj := { y.obj with
    cycles := tab.cycles, srcTask := tab.srcTask, epoch := tab.epoch, batch := c.cycle
    mramEpoch := if y.obj.mramEpoch.toNat < tab.epoch.toNat then tab.epoch else y.obj.mramEpoch } }
  let ok := mine.length == c.frames.toNat &&
    y.batchCheck c.cycle.toNat ((mine.flatMap (·.entries)).map fun e => (e.offset.toNat, e.data)) == c.check
  if ok then
    let y : Half := y.modCopy 255 fun k => { k with chunks := false }
    { y with copy := { y.copy with storeDone := y.copy.storeDone || k.chunks } }
  else if x.copy.storeDone then y.diverged 255 c.cycle
  else y

/-! ### What the active half sends for a full copy (R197, R200, R331) -/

/-- Region 3 chunks of a task, the last with LAST. -/
def Half.sendRegion (x : Half) (t : Nat) : Half :=
  let d := x.regionData t
  (x.sendBlocks t 3 d.cycle (Config.regionBlocks t d)).2

/-- A CFG item sent. -/
def Half.sendCfg (x : Half) (i : CfgItem) : Half := x.spanRel fun seq n => .cfg seq n i

/-- A slot's bytes as CFG chunks. -/
def Half.sendSlot (x : Half) (bs : List Byte) : Half :=
  let n := (bs.length + 4079) / 4080
  (List.range n).foldl (fun (y : Half) i =>
    y.sendCfg (.stage (i = 0) (i + 1 = n) (BitVec.ofNat 32 (4080 * i)) ((bs.drop (4080 * i)).take 4080))) x

/-- The current configuration, then the one staged beside it (R318). -/
def Half.sendConf (x : Half) : Half :=
  match x.cfg.cur with
  | none => x
  | some k =>
    let y : Half := (x.sendSlot (x.cfgSlot k).bytes).sendCfg (.commit (x.cfgSlot k).commit)
    y.sendSlot (x.cfgSlot (1 - k)).bytes


/-- The CE overlay, the forces and the display's copies for a half that joins (R314, R331, R484). -/
def Half.sendOverlay (x : Half) : Half :=
  let y : Half := x.ce.ovDesc.foldl (fun (z : Half) e => z.sendCfg (.desc e.1 (descBytes e.2))) x
  let y : Half := x.ce.ovSect.foldl (fun (z : Half) e =>
    ((z.sendCfg (.coef e.2.chain e.1 false e.2.a)).sendCfg (.coef e.2.chain e.1 true e.2.b)).sendCfg
      (.limits e.2.chain e.1 e.2.lo e.2.hi e.2.flags)) y
  let y : Half := x.obj.points.foldl (fun (z : Half) e => match e.2.force with
    | some v => z.sendCfg (.force e.1 (some (v.v, v.q)))
    | none => z) y
  let y : Half := (x.hostPoints.filter fun p => (x.obj.points.get? p).isSome).foldl (fun (z : Half) p => z.mirrorPoint p) y
  let y : Half := x.dsp.journal.foldl (fun (z : Half) e =>
    let z : Half := z.sendCfg (.journal e.1 e.2)
    if e.2.done then z.sendCfg (.journalDone e.1) else z) y
  let y : Half := if x.dsp.target.isEmpty then y
    else y.sendCfg (.target 0 0 dspWidth dspHeight ((rectPixels 0 0 dspWidth dspHeight).map fun i => levelOf x.dsp.target i))
  if x.dsp.stress.isEmpty then y else y.sendCfg (.stress (x.dsp.stress.map (·.2)))

/-- The whole store, the last frame with LAST. -/
def Half.sendStore (x : Half) : Half :=
  let bs := (x.obj.recs.map fun e => e.1 / 8).eraseDups
  (x.sendBlocks 0xFF 2 x.obj.batch (bs.map fun b => (256 * b, x.storeBlock b))).2

/-- The copies that a heartbeat of the partner asks for (R197, R200, R210). -/
def Half.answerCopy (x : Half) (hb : Heartbeat) : Half :=
  if !x.isActive || !(hb.state == 3 || hb.state == 4) then
    { x with copy := { x.copy with peerMask := 0, cfgSent := none, storeDone := false } }
  else
    let joins := hb.state == 3 && x.copy.cfgSent.isNone
    let y : Half := if joins && hb.cfgCommit != x.cfgCommit then x.sendConf else x
    let y : Half := if joins then { y.sendOverlay with copy := { y.sendOverlay.copy with cfgSent := some x.cfgCommit } } else y
    let new := hb.resyncMask &&& ~~~y.copy.peerMask
    let y : Half := (List.range 16).foldl (fun (z : Half) t =>
      if new.getLsbD t && (z.task.tasks.get? t).isSome then z.sendRegion t else z) y
    let y : Half := { y with copy := { y.copy with peerMask := hb.resyncMask } }
    if hb.synced then { y with copy := { y.copy with storeDone := false } }
    else if y.conf.manager && !y.copy.storeDone then
      let z : Half := y.sendStore
      { z with copy := { z.copy with storeDone := true } }
    else y

/-! ### Negotiation (R190, R210) -/

/-- The application is loaded for the active role. -/
def Half.startLoading (x : Half) : Half := { x with role := { x.role with loading := true, negotiating := false } }

/-- SYNCING, unless the firmware forbids it (R210). -/
def Half.trySync (x : Half) : Half :=
  if x.compatible then x.enterSyncing.loadChains
  else
    let y : Half := { x with role := { x.role with negotiating := false } }
    y.raiseIf (!x.srcBit (Reg.FC_ACTIVE 0) 63) 63

/-- The half waits for its partner, for up to 5 s from now (R190). -/
def Half.awaitPartner (x : Half) : Half :=
  if x.role.negotiating then x else { x with role := { x.role with negotiating := true, negAt := x.mono } }

/-- A half in NATIVE with its start-up done decides its role. -/
def Half.negotiate (x : Half) : Half :=
  if x.st != .native || !x.boot.startupDone || x.boot.recovery.isSome || x.role.loading then x
  else if x.partnerClaim then x.trySync
  else if !x.partnerPresent then x.startLoading
  else match x.peer with
    | some p =>
      if p.state == 2 && p.startupDone then
        let win := if p.cfgCommit == x.cfgCommit then (x.id == .b) == x.conf.preferB else p.cfgCommit.toNat < x.cfgCommit.toNat
        if win then x.startLoading else x.trySync
      else x.awaitPartner
    | none => x.awaitPartner

/-! ### Becoming active (R201, R204, R262, R400) -/

/-- A trial firmware slot is confirmed (R508). -/
def Half.confirmTrial (x : Half) : Half :=
  if x.boot.trial then { x with boot := { x.boot with trial := false, record := some (x.boot.running, none) } } else x

/-- Station firmware runs the station: engine outputs, valve drives, display and time source (R109, R201, R400, R485). -/
def Half.runStation (x : Half) : Half :=
  let y : Half := { x with
    st := .active
    role := { x.role with takeover := false, cold := false, loading := false, negotiating := false, released := false
                          proofTest := false, proofStep := 0, drives := true, armed := false, synced := false
                          startAt := (x.role.ho.filter fun k => !k.outgoing && 1 ≤ k.stage).elim 0 fun k => k.h + 150000 }
    saf := { x.saf with proof := false }
    copy := {} }
  let src := y.ts.selected.getD y.conf.timeSource
  ((y.setSource src).dispTake).refresh

/-- The engine writes the field, and the valve-drive levels run (R109, R127). -/
def Half.runField (x : Half) : Half := (((x.setBit Reg.CE_CTRL 1 false).setBit Reg.CE_CTRL 2 true).vdStart)

/-- CAN and serial buses are taken (R201). -/
def Half.runBuses (x : Half) : Half := (x.canTakeAll).serTakeAll

/-- The references of the valve drives from the tracked chains (R201). -/
def Half.chainRefs (x : Half) : Half :=
  x.ce.chains.foldl (fun (z : Half) e =>
    let d := z.desc e.1
    if e.2.present && srcKind d.dst = 2 && srcIdx d.dst < 8 then z.setIref (srcIdx d.dst) e.2.out else z) x

/-- The references of the valve drives from the output shadow and the tracked chains (R201). -/
def Half.shadowRefs (x : Half) : Half :=
  let y : Half := x.copy.tasks.foldl (fun (y : Half) e =>
    (Config.decodeShadow e.1 e.2.shadow).vds.foldl (fun (z : Half) v => if v.1 < 8 then z.setIref v.1 v.2 else z) y) x
  y.chainRefs

/-- The hardware brings the output shadow to the terminals (R201, R357, R380). -/
def Half.shadowOutputs (x : Half) : Half :=
  let y : Half := { x with role := { x.role with drives := true } }
  let y : Half := y.wr Reg.DO_CMD (y.rd Reg.DO_SHD)
  ((List.range 8).foldl (fun (z : Half) m => z.wr (Reg.AO_CMD m) (z.rd (Reg.AO_SHD m))) y).refresh

/-- An instance as a region holds it. -/
def instOf (r : RegionInst) : InstSt := { ins := r.ins, outs := r.outs, st := r.st, initDone := r.initDone, last := r.last }

/-- Tasks resume from the copy (R204): from the last confirmed cycle; in a worker's takeover one number later, with a
full publication (R262). A task stays TRACKING until its next release instant or event (R24). An online change goes on
(R320). -/
def Half.resumeTasks (x : Half) (takeover : Bool) : Half :=
  let skip := takeover && !x.conf.manager
  let ts := x.conf.tasks.map (·.1)
  let wait := x.cfg.pend.elim [] (·.waiting)
  let y : Half := ts.foldl (fun (y : Half) t =>
    let c := y.copyOf t
    let y : Half := if c.unconfirmed then y.takeRegion t else y
    let d := Config.decodeRegion t c.region
    let is : Tab InstSt := d.insts.foldl (fun m i => Tab.put m i.1 (instOf i.2)) []
    let y : Half := y.modTsk t fun k => { k with
      state := if k.state == .ready then .ready else .tracking
      pos := 0, effects := [], outSet := [], updDue := false, pendAct := false, sep := false
      firstCycle := false, started := false, instAt := none, startDue := false, stats := {}, insts := is
      cycle := if skip then d.cycle + 1 else d.cycle
      outCycle := if skip then d.cycle + 1 else d.cycle
      switchTo := if wait.contains t then x.cfg.pend.map (·.slot) else none }
    y.raiseIf (takeover && c.unconfirmed) 67) x
  let y : Half := if skip then { y with obj := { y.obj with fullPub := ts } } else y
  ts.foldl (fun (z : Half) t =>
    let k := z.tsk t
    if k.missedEvent && (z.taskCfg t).any (·.event) then z.activateTask t else z) y

/-- The application from initial values, with RETAIN fields from MRAM (R42, R204, R503). -/
def Half.startTasks (x : Half) : Half :=
  let y : Half := x.placeTasks .waiting
  y.conf.tasks.foldl (fun (z : Half) e =>
    let is : Tab InstSt := e.2.insts.foldl (fun m i => Tab.put m i.1 (z.restored e.1 i.2)) []
    z.modTsk e.1 fun k => { k with insts := is }) y

/-- Every digital output is off before the first cycle end of its owning task, but for a forced one (R16, R347). -/
def Half.coldOutputs (x : Half) : Half :=
  x.obj.points.foldl (fun (y : Half) e => if e.2.force.isSome then y.driveForced e.1 else y) ((x.wr Reg.DO_CMD 0).doUpdate)

/-- The application loaded and started cold (R204, R503). -/
def Half.startCold (x : Half) : Half :=
  let ps : Tab PointSt := x.obj.points.filterMap fun e => e.2.force.map fun f => (e.1, { force := some f })
  let y : Half := { x with obj := { x.obj with points := ps, recs := [], cycles := [], parts := [], srcTask := [], staleNew := [] } }
  (((y.loadRegs fun _ => true).coldOutputs).loadChains).startTasks

/-- The half starts to run the station with nothing to resume: the station's cold start, which clears the forces
(R314). -/
def Half.startStation (x : Half) : Half :=
  let y : Half := { x with obj := { x.obj with points := [] } }
  let y : Half := ((y.startCold.claim).runStation).runField.runBuses
  let y : Half := if y.conf.manager then
      { y with obj := { y.obj with epoch := y.obj.mramEpoch + 1, mramEpoch := y.obj.mramEpoch + 1 } }
    else { y.sendJoin with obj := { y.sendJoin.obj with joined := false } }
  let due : DWord := y.mono + BitVec.ofNat 64 (y.conf.swapHours * 3600000000000)
  ({ y with role := { y.role with lastSwap := y.mono, nextSwap := due } } : Half).confirmTrial

/-! ### Leaving the active role (R202, R207, R306, R313) -/

/-- The outgoing half opens its outputs (R202, R207). -/
def Half.releaseOutputs (x : Half) : Half :=
  (({ x with role := { x.role with drives := false } } : Half).doUpdate).aoUpdate

/-- The buses are left (R408, R438). -/
def Half.leaveBuses (x : Half) : Half := (x.canLeaveAll).serLeaveAll

/-- The hold window ends (R202), and the reset that waited for it begins (R237). -/
def Half.endHold (x : Half) : Half :=
  let y : Half := ({ x with
    role := { x.role with holdWindow := false }
    fc := { x.fc with quietAt := x.fc.quiet.map fun c => (c, x.mono) } } : Half).releaseOutputs
  ((((y.vdStop).endTuning).leaveBuses).dispLeave).beginReset

end Sys2Proof.Machine
end

