-- ==== Sys2Proof/Machine/Roles.lean ====
section
/-! DEFINITION. Roles and the Span link: the rows of chapter 7. A row about one half's view acts on that half; a row of
the controlled handover acts on both, as its frame reaches the partner. -/
namespace Sys2Proof.Machine

/-- The outcome of a command that acts on both halves; each function sees both as they were. -/
def onPair (s : State) (h : HalfId) (f g : Half → Half → Half) : Host.Outcome State Fault Refusal :=
  let x := s.half h
  let p := s.half h.other
  .next ((s.mod h (Half.live fun _ => f x p)).mod h.other (Half.live fun _ => g p x))

/-! ### The claim line -/

/-- CLAIM_INVALID (R184). -/
def execClaimInvalid (h : HalfId) (s : State) : Host.Outcome State Fault Refusal :=
  onHalf s h fun x => if x.st == .off || !x.partnerClaim then x else (x.setBit Reg.SYS_STAT 2 false).sysIrq 5

/-- Both claims valid (R189): Half B stops its claim, Half A records the event. -/
def Half.conflict (x : Half) : Half := if x.id == .b then x.raise 65 else x.logEvt .roleConflict

/-- A takeover that has not claimed yet ends as the partner's claim becomes valid (R186). -/
def Half.yieldTakeover (x : Half) : Half :=
  if x.role.takeover then { x with role := { x.role with takeover := false, cold := false } } else x

/-- CLAIM_VALID (R184, R186, R187, R189, R190, R202): the partner's earlier RELINQUISH no longer counts, and an open hold
window ends. -/
def execClaimValid (h : HalfId) (s : State) : Host.Outcome State Fault Refusal :=
  onHalf s h fun x =>
    if x.st == .off || x.partnerClaim then x
    else
      let y : Half := (x.setBit Reg.SYS_STAT 2 true).sysIrq 5
      let y : Half := ({ y with role := { y.role with relinq := false, claimAt := x.mono } } : Half).showReleased
      let y : Half := if y.role.holdWindow then y.endHold else y
      if y.claims then y.conflict else y.yieldTakeover.negotiate

/-- CLAIM_LINE_END (R188): the partner's claim has been valid for 1 s, and the condition ends in both halves. -/
def execClaimLineEnd (h : HalfId) (s : State) : Host.Outcome State Fault Refusal :=
  let drop (x : Half) : Half := { x with role := { x.role with claimLine := false } }
  let ok (x : Half) : Bool := x.partnerClaim && x.goneUs x.role.claimAt 1000000
  onPair s h (fun x _ => if ok x then drop x else x) (fun p x => if ok x then drop p else p)

/-- PRESENCE_BREAK (R185): the half reacts as at L2, with no domain to reset. -/
def execPresenceBreak (h : HalfId) (s : State) : Host.Outcome State Fault Refusal :=
  onHalf s h fun x =>
    if x.st == .off || x.st == .boot || x.st == .latched then x
    else
      let y : Half := if x.st == .active || x.st == .relinquishing then x.dropRole else x
      let y : Half := y.relinquish.loseClaim
      { y with st := fallToFault y.st, role := { y.role with ho := none, takeover := false } }

/-- PARTNER_ABSENT (R187, R217, R369): TWO_SRC clears; heartbeats that go on raise source 64. -/
def execPartnerAbsent (h : HalfId) (s : State) : Host.Outcome State Fault Refusal :=
  onHalf s h fun x =>
    if x.st == .off || !x.partnerPresent then x
    else
      let y : Half := ((x.setBit Reg.SYS_STAT 1 false).sysIrq 4).setBit Reg.AI_VAR 1 false
      let y : Half := if y.hbOk then y.raise 64 else { y with role := { y.role with partner := none } }
      y.negotiate

/-- PARTNER_PRESENT (R369, R505). -/
def execPartnerPresent (h : HalfId) (s : State) : Host.Outcome State Fault Refusal :=
  onHalf s h fun x =>
    if x.st == .off || x.partnerPresent then x
    else (((x.setBit Reg.SYS_STAT 1 true).sysIrq 4).setBit Reg.AI_VAR 1 true).showReleased

/-! ### Release and takeover -/

/-- The release of the partner as a standby half acts on it (R182, R201, R204, R207). -/
def Half.takeOver (x : Half) : Half :=
  match x.st with
  | .standby =>
    if x.role.ho.any fun k => !k.outgoing && 1 ≤ k.stage then
      ((((x.claim).shadowRefs).resumeTasks false).runStation).refresh
    else
      let y : Half := { x with role := { x.role with takeover := true, ho := none, cold := !x.role.armed } }
      if x.role.armed then (y.claim).shadowOutputs else y
  | .syncing => { x with role := { x.role with takeover := true, cold := true, ho := none } }
  | _ => x

/-- SPAN_STAT.RELEASED, set as the partner comes to count as released (R187, R505). -/
def Half.markReleased (x : Half) : Half :=
  if x.bit Reg.SPAN_STAT 2 then x else (x.setBit Reg.SPAN_STAT 2 true).spanIrq 6

/-- PARTNER_RELEASED (R186, R187, R188, R201): no control is taken while the partner's claim is valid, though an absent
presence pin counts as a release. -/
def execPartnerReleased (h : HalfId) (s : State) : Host.Outcome State Fault Refusal :=
  onHalf s h fun x =>
    if !x.domainOn 1 || !x.releaseHolds then x
    else if x.partnerClaim || x.role.takeover then x.markReleased
    else x.markReleased.takeOver

/-- What a cold start announces to the League: a manager's new epoch, else full publications with cycle and seq numbers
beyond the copied ones of half x (R262). -/
def Half.coldNumbers (y x : Half) : Half :=
  let old := x.copy.tasks
  let y : Half := x.obj.points.foldl (fun (z : Half) e =>
    { z with obj := { z.obj with points := z.obj.points.put e.1 { z.point e.1 with seq := e.2.seq } } }) y
  if y.conf.manager then
    { y with obj := { y.obj with epoch := y.obj.mramEpoch + 1, mramEpoch := y.obj.mramEpoch + 1 } }
  else
    let z : Half := y.taskIds.foldl (fun (z : Half) t => z.modTsk t fun k => { k with cycle := (Tab.get {} old t).cycle + 1, outCycle := (Tab.get {} old t).cycle + 1 }) y
    { z with obj := { z.obj with fullPub := y.taskIds } }

/-- A cold takeover with a configuration (R204): initial values, the claim, and full publications (R262). -/
def Half.takeCold (x : Half) : Half :=
  let y : Half := ((x.startCold.claim).runStation).coldNumbers x
  ((((y.runField).runBuses).raise 62).evrEvent 6).evrEvent 7

/-- A takeover with confirmed state (R201, R400). -/
def Half.takeWarm (x : Half) : Half :=
  let y : Half := ((x.shadowRefs).resumeTasks true).runStation
  ((y.runField).runBuses).evrEvent 6

/-- TAKEOVER_DECISION (R182, R186, R201, R204, R262, R400): a half without a configuration has no application to load, so
it stays where it is (log 94). -/
def execTakeoverDecision (h : HalfId) (s : State) : Host.Outcome State Fault Refusal :=
  onHalf s h fun x =>
    if !x.role.takeover || !(x.st == .standby || x.st == .syncing) then x
    else if x.role.cold then
      if x.partnerClaim || x.cfg.cur.isNone then x else x.takeCold
    else x.takeWarm

/-- HOLD_WINDOW_END (R202): 110 µs have passed, or the partner's claim is valid. -/
def execHoldWindowEnd (h : HalfId) (s : State) : Host.Outcome State Fault Refusal :=
  onHalf s h fun x =>
    if x.role.holdWindow && (x.partnerClaim || x.goneUs x.role.holdAt 110) then x.endHold else x

/-! ### The Span link -/

/-- HEARTBEAT_SEND (R192, R193). -/
def execHeartbeatSend (h : HalfId) (s : State) : Host.Outcome State Fault Refusal :=
  onHalf s h fun x =>
    if !x.linked then x
    else x.every .heartbeat 50 fun x =>
      let y : Half := x.spanPut fun seq => .heartbeat seq {
        state := BitVec.ofNat 8 x.st.code, fcLevel := BitVec.ofNat 8 ((x.pendLevel fun _ => true).getD 0)
        takeoverArmed := x.role.armed, synced := x.role.synced, released := x.role.released, partnerClaim := x.partnerClaim
        partnerPresent := x.partnerPresent, startupDone := x.boot.startupDone, fwVersion := x.boot.version
        stateFormat := x.boot.stateFormat, resyncMask := x.copy.resync, cfgCommit := x.cfgCommit, monoTime := x.mono
        hbCount := x.role.hbCount }
      { y with role := { y.role with hbCount := y.role.hbCount + 1 } }

/-- Commands that await a restarted partner (R324, R508). -/
def Half.fwWatch (x : Half) (hb : Heartbeat) : Half :=
  if !(hb.state == 4 && hb.synced) then x
  else (x.mbx.ctxs.filter fun c => c.done.isNone && c.expect.isSome).foldl (fun (y : Half) c =>
    y.finish c.ch c.tag (if c.expect == some hb.fwVersion then ST_OK else ST_CHECK_FAIL)
      (leNat 4 hb.fwVersion.toNat ++ leNat 4 hb.state.toNat)) x

/-- CLAIM_LINE arises: source 59 in both halves (R188). -/
def Half.claimLineOn (x : Half) : Half := ({ x with role := { x.role with claimLine := true } } : Half).raise 59

/-- Heartbeats report ACTIVE although the claim counts as invalid and no RELINQUISH came (R188). -/
def Half.claimLineSeen (x : Half) (hb : Heartbeat) : Bool :=
  !x.partnerClaim && !x.role.relinq && !x.role.claimLine && x.hbOk && hb.state == 5 && x.role.partner.any fun p => p.state == 5

/-- A heartbeat taken: the link's delay, the partner's word, the claim line, and what follows from the partner's state
(R188, R193, R197, R210, R217, R234). -/
def Half.hearHeartbeat (x : Half) (hdr : SpanHdr) (hb : Heartbeat) : Half :=
  let line := x.claimLineSeen hb
  let (d, y) := (x.spanAccept hdr).free
  let y : Half := (y.setFld Reg.SPAN_DELAY 15 0 d.toNat).setBit Reg.SPAN_STAT 1 true
  let y : Half := { y with role := { y.role with partner := some hb, hbAt := y.mono } }
  let y : Half := if line then y.claimLineOn else y
  let y : Half := if hb.state == 4 && hb.takeoverArmed then
      ({ y with role := { y.role with armedAt := y.mono } } : Half).setPeerArmed true else y
  let y : Half := if y.role.ho.any fun k => !k.outgoing && k.stage == 0 && hb.state == 5 && Nat.blt k.at_.toNat hb.monoTime.toNat then
      { y with role := { y.role with ho := none } } else y
  let y : Half := y.raiseIf (!y.partnerPresent && !y.srcBit (Reg.FC_ACTIVE 0) 64) 64
  ((((y.answerCopy hb).fwWatch hb).showArmed).showReleased).negotiate

/-- HEARTBEAT (R187, R188, R190, R193, R197, R200, R210, R217, R234, R399). -/
def execHeartbeat (h : HalfId) (hdr : SpanHdr) (hb : Heartbeat) (s : State) : Host.Outcome State Fault Refusal :=
  onPair s h
    (fun x _ => if x.linked then x.hearHeartbeat hdr hb else x)
    (fun p x => if x.linked && x.claimLineSeen hb then p.claimLineOn else p)

/-- HEARTBEAT_TIMEOUT (R187, R217). -/
def execHeartbeatTimeout (h : HalfId) (s : State) : Host.Outcome State Fault Refusal :=
  onHalf s h fun x =>
    if !x.hbOk || !x.goneUs x.role.hbAt 100 then x
    else
      let y : Half := (x.setBit Reg.SPAN_STAT 1 false).spanIrq 1
      let y : Half := { y with role := { y.role with partner := none } }
      (y.raiseIf y.partnerClaim 58).answerCopy {}

/-- REL items begin anew with the link: those without acknowledgement are given up, and numbers start at 1 again. -/
def Half.restartRel (x : Half) : Half :=
  let y : Half := x.span.unacked.foldl (fun (y : Half) u => y.itemLost u.item) x
  { y with span := { y.span with nextItem := 1, rxItem := 0, unacked := [], held := [] } }

/-- SPAN_LINK_LOSS (R182, R505): 100 ms without the link; channel 7 and the REL items start anew. -/
def execSpanLinkLoss (h : HalfId) (s : State) : Host.Outcome State Fault Refusal :=
  onHalf s h fun x =>
    if !x.bit Reg.SPAN_STAT 0 then x
    else
      let y : Half := ((((x.setBit Reg.SPAN_STAT 0 false).spanIrq 7).restartRel).clearChan 7).leaveSource4
      if y.st == .standby && y.partnerClaim then { y with span := { y.span with lost := true } } else y

/-- SPAN_LINK_UP (R182, R505). -/
def execSpanLinkUp (h : HalfId) (s : State) : Host.Outcome State Fault Refusal :=
  onHalf s h fun x =>
    if !x.linked || x.bit Reg.SPAN_STAT 0 then x
    else
      let y : Half := (x.setBit Reg.SPAN_STAT 0 true).spanIrq 7
      if y.span.lost && y.st == .standby then y.enterSyncing else { y with span := { y.span with lost := false } }

/-- PEER_ARMED_TIMEOUT (R234). -/
def execPeerArmedTimeout (h : HalfId) (s : State) : Host.Outcome State Fault Refusal :=
  onHalf s h fun x => if x.st == .off || !x.goneUs x.role.armedAt 100 then x else x.setPeerArmed false

/-- SPAN_FRAME_DISCARD (R192, R505). -/
def execSpanFrameDiscard (h : HalfId) (s : State) : Host.Outcome State Fault Refusal :=
  onHalf s h fun x => if x.linked then ((x.spanCount Reg.SPAN_CRC_ERR).spanIrq 2).raise 56 else x

/-- SPAN_REL_RETRANSMIT (R192, R505): 200 µs without acknowledgement; after the third retransmission the item is given up
with its request. -/
def execSpanRelRetransmit (h : HalfId) (item : BitVec 16) (s : State) : Host.Outcome State Fault Refusal :=
  onHalf s h fun x =>
    match x.span.unacked.find? fun u => u.item == item with
    | none => x
    | some u =>
      if !x.linked || !x.goneUs u.at_ 200 then x
      else if u.retries < 3 then
        let y : Half := { x with span := { x.span with unacked := x.span.unacked.map fun v =>
          if v.item == item then { v with retries := v.retries + 1, at_ := x.mono } else v } }
        (y.spanCount Reg.SPAN_RETX).spanAgain u
      else (({ x with span := { x.span with unacked := x.span.unacked.filter fun v => v.item != item } } : Half).spanIrq 4).itemLost item

/-! ### Copies on the standby half -/

/-- The half consumes the active half's copies (R192). -/
def Half.follows (x : Half) : Bool := x.st == .syncing || x.st == .standby

/-- STATE_DELTA (R194, R195, R197): a chunk of a full copy is applied as it arrives. -/
def execStateDelta (h : HalfId) (hdr : SpanHdr) (d : StateDelta) (s : State) : Host.Outcome State Fault Refusal :=
  onHalf s h fun x =>
    if !x.linked then x
    else
      let y : Half := x.spanAccept hdr
      let t := d.task.toNat
      if !y.follows then y
      else if d.region == 3 then
        let z : Half := y.modCopy t fun k => { k with region := putBlocks k.region d.entries, chunks := k.chunks || hdr.last }
        if hdr.last then { z with copy := { z.copy with resync := z.copy.resync &&& ~~~(1#16 <<< t) } } else z
      else if d.region.toNat < 3 then
        y.modCopy t fun k => { k with pend := k.pend ++ [d], chunks := k.chunks || (d.region == 2 && hdr.last) }
      else y

/-- CYCLE_END (R195 to R197, R270). -/
def execCycleEnd (h : HalfId) (hdr : SpanHdr) (c : CycleEnd) (s : State) : Host.Outcome State Fault Refusal :=
  onHalf s h fun x =>
    if !x.linked then x
    else
      let y : Half := x.spanAccept hdr
      if !y.follows then y
      else if c.task == 0xFF then (y.confirmStore c).showArmed
      else ((y.confirm c.task.toNat c).canSleepEdges y).showArmed

/-- FULL_COPY_COMPLETE (R199, R200, R440, R508): STANDBY, with the partner's station key. -/
def execFullCopyComplete (h : HalfId) (s : State) : Host.Outcome State Fault Refusal :=
  onPair s h
    (fun x p =>
      if x.st != .syncing || x.role.takeover || !x.copyReady then x
      else
        let y : Half := { x with st := .standby, role := { x.role with everStandby := true }
                                 boot := { x.boot with key := p.boot.key } }
        y.showArmed.confirmTrial)
    (fun p _ => p)

/-- A CFG item applied by a half in SYNCING or STANDBY (R46, R99, R107, R192, R314, R320, R321, R331, R484). -/
def Half.applyCfg (x : Half) (i : CfgItem) : Half :=
  let change (rollback : Bool) (n : Word) : Half :=
    let k := x.otherCfg
    if !(x.cfgSlot k).complete then x
    else
      let old := x.conf
      let x : Half := x.setCfgSlot k { x.cfgSlot k with commit := n }
      let new := (x.cfgSlot k).cfg.getD {}
      if x.st == .syncing || x.cfg.cur.isNone then
        let y : Half := { x with cfg := { x.cfg with cur := some k, pend := none } }
        let y : Half := y.setCfgSlot k { y.cfgSlot k with wasCurrent := true }
        (((y.loadRegs fun _ => true).enterSyncing).loadChains).deliverSet new.saf
      else (x.beginSwitch rollback none k (affectedMask old new) (x.commitSet new)).endCommit.showArmed
  match i with
  | .stage first last _ data => (x.stageWrite first last data).2
  | .commit n => change false n
  | .rollback n =>
    match x.cfg.pend, x.cfg.cur with
    | some _, some k =>
      ((x.setCfgSlot k { x.cfgSlot k with commit := n }).beginSwitch true none k 0 (x.commitSet x.conf)).endCommit.showArmed
    | _, _ => change true n
  | .cancelSwitch => x.cancelSwitch.showArmed
  | .taskSwitch t _ =>
    match x.cfg.pend with
    | some p =>
      let y : Half := (x.switchTask t p.slot).markSwitched t
      let y : Half := { y with cfg := { y.cfg with pend := y.cfg.pend.map fun q => { q with first := [] } } }
      y.endCommit.showArmed
    | none => x
  | .coef c k bankB cs =>
    let put (s : Sect) : Sect := if bankB then { s with b := cs } else { s with a := cs }
    let y : Half := (x.setSect k (put (x.sect k))).sealChain c
    { y with ce := { y.ce with ovSect := y.ce.ovSect.put k (y.sect k) } }
  | .limits c k lo hi flags =>
    let y : Half := (x.setSect k { x.sect k with lo := lo, hi := hi, flags := flags }).sealChain c
    { y with ce := { y.ce with ovSect := y.ce.ovSect.put k (y.sect k) } }
  | .desc c bs => x.writeDesc c (parseDesc bs)
  | .swap c bankB bumpless => if (x.chainSt c).present then x.requestSwap c { bankB := bankB, bumpless := bumpless } else x
  | .mode c m => x.setMode c m
  | .restart c => x.restartChain c
  | .force p v => x.putPoint p { x.point p with force := v.map fun e => { v := e.1, q := e.2 } }
  | .point p v pub tPub seq => x.putPoint p { x.point p with
      kept := { v := v.1, q := v.2 }, pub := { v := pub.1, q := pub.2 }, tPub := tPub, seq := seq }
  | .journal k e =>
    let n := if e.seq.toNat < x.dsp.nextSeq.toNat then x.dsp.nextSeq else e.seq + 1
    { x with dsp := { x.dsp with journal := x.dsp.journal.put k e, nextSeq := n } }
  | .target x0 y0 w h ls => { x with dsp := { x.dsp with target := putLevels x.dsp.target (rectPixels x0 y0 w h) ls } }
  | .journalDone k => { x with dsp := { x.dsp with journal := x.dsp.journal.put k { x.journal k with done := true } } }
  | .stress cs => { x with dsp := { x.dsp with stress := cs.zipIdx.map fun e => (e.2, e.1) } }

/-- A completion of the partner's channel 7 (R282, R300): the command that was forwarded completes with it. -/
def Half.peerReply (x : Half) (e : Entry) : Half :=
  let seq := x.mbx.fwdCqSeq
  if x.mbx.fwdBroken || e.length != 16 || e.getD 1 0 != seq || e.getD 15 0 != cv0 (foldSeq seq (wordsBytes (e.take 15))) then
    { x with mbx := { x.mbx with
        fwdBroken := true
        fwdErr := if x.mbx.fwdBroken then x.mbx.fwdErr else if e.length = 16 && e.getD 1 0 != seq then 2 else 1 } }
  else
    let w := e.getD 0 0
    let buf := x.mbx.fwdBuf ++ (wordsBytes (e.drop 2)).take (4 * getField w 23 20)
    let last := getField w 29 28 = 0 || getField w 29 28 = 3
    let y : Half := { x with mbx := { x.mbx with fwdCqSeq := seq + 1, fwdBuf := if last then [] else buf } }
    let t := getField w 13 8
    if !last then y
    else match y.mbx.ctxs.find? fun c => c.fwd == some t with
      | some c =>
        (((y.modCtx c.ch c.tag fun c => { c with fwd := none }).abortsLate t).finish c.ch c.tag (getField w 19 14) buf).sendAborts
      | none => match y.mbx.fwdAborts.find? fun a => a.1 == t with
        | none => y
        | some a =>
          let z : Half := { y with mbx := { y.mbx with fwdAborts := y.mbx.fwdAborts.filter fun a => a.1 != t } }
          let z : Half := z.abortsLate t
          (match a.2 with
          | none => z
          | some r => z.abortDone r (getField w 19 14)).sendAborts

/-- The entry of a PEER_MBX item: a submission of the partner enters channel 7's ring; a completion is taken (R300). -/
def Half.peerEntry (x : Half) (reply : Bool) (e : Entry) : Half :=
  if reply then x.peerReply e
  else if 64 ≤ x.sqUsed 7 then x
  else ((x.modChan 7 fun c => { c with sq := c.sq ++ [e] }).advance (Reg.MBX_CH_SQ_TAIL 7) 1).irq
    Reg.MBX_IRQ_STAT Reg.MBX_IRQ_EN 7 39

/-- Channel 7 is reset in one half (R283): what it had forwarded ends with ST_INTERNAL, which raises source 109
(R303). -/
def Half.resetPeer (x : Half) : Half :=
  let cs := x.mbx.ctxs.filter fun c => c.fwd.isSome && c.expect.isNone
  let y : Half := cs.foldl (fun (y : Half) c => y.finish c.ch c.tag ST_INTERNAL []) x
  (({ y with mbx := { y.mbx with fwdBroken := false } } : Half).clearChan 7).when (!cs.isEmpty) (·.raise 109)

/-- A REL item applied. -/
def Half.applyRel (x : Half) (l : RelLoad) : Half :=
  match l with
  | .cfg c => if x.follows then x.applyCfg c else x
  | .mbx r e => x.peerEntry r e
  | .role => x

/-- Held items that have become next in order (R192). -/
def Half.applyHeld : Nat → Half → Half
  | 0, x => x
  | fuel + 1, x =>
    let n := x.span.rxItem + 1
    match x.span.held.find? fun e => e.1 == n.toNat with
    | none => x
    | some e => Half.applyHeld fuel
        (({ x with span := { x.span with rxItem := n, held := x.span.held.filter fun k => k.1 != n.toNat } } : Half).applyRel e.2)

/-- A REL item's place in the order (R192): applied once and in order; one that runs ahead is held. -/
def Half.relOrder (y : Half) (n : BitVec 16) (l : RelLoad) : Half :=
  if n == y.span.rxItem + 1 then
    Half.applyHeld (y.span.held.length + 1) (({ y with span := { y.span with rxItem := n } } : Half).applyRel l)
  else if (n - y.span.rxItem).toNat < 0x8000 && n != y.span.rxItem then
    { y with span := { y.span with held := Tab.put y.span.held n.toNat l } }
  else y

/-- A REL frame received. -/
def Half.relTake (x : Half) (hdr : SpanHdr) (l : RelLoad) : Half := ((x.spanAccept hdr).spanIrq 0).relOrder hdr.relItem l

/-- A ROLE frame of the partner received as REL item n: its row gives the effect, and its item number counts (R192,
log 94). -/
def Half.roleSeen (x : Half) (n : BitVec 16) : Half := x.relOrder n .role

/-- CFG_FRAME (R192). -/
def execCfgFrame (h : HalfId) (hdr : SpanHdr) (item : CfgItem) (s : State) : Host.Outcome State Fault Refusal :=
  onHalf s h fun x => if x.linked then x.relTake hdr (.cfg item) else x

/-- A protocol error on channel 7 (R283): source 109 in the half that received the entry. -/
def Half.peerError (x : Half) (code : Nat) : Half :=
  let a := Reg.MBX_CH_ERRCNT 7
  let y : Half := if x.rd a == 0xFFFFFFFF then x.setBit (Reg.MBX_CH_CTX 7) 17 true else x
  (((y.incSat a).setFld (Reg.MBX_CH_CTRL 7) 15 12 code).irq Reg.MBX_IRQ_STAT Reg.MBX_IRQ_EN 15 47).raise 109

/-- PEER_MBX (R192, R283, R300): the producer of a completion learns the new completion head. -/
def execPeerMbx (h : HalfId) (hdr : SpanHdr) (reply : Bool) (entry : Entry) (s : State) :
    Host.Outcome State Fault Refusal :=
  let after (x : Half) : Half := if x.linked then x.relTake hdr (.mbx reply entry) else x
  onPair s h
    (fun x _ => let y := after x; if y.mbx.fwdBroken then (y.peerError y.mbx.fwdErr).resetPeer else y)
    (fun p x =>
      let y := after x
      if y.mbx.fwdBroken then p.resetPeer
      else p.cqTake 7 ((y.mbx.fwdCqSeq.toNat + 65536 - (p.rd (Reg.MBX_CH_CQ_HEAD 7)).toNat % 65536) % 65536))

end Sys2Proof.Machine
end

