-- ==== Sys2Proof/Machine/Handover.lean ====
section
/-! DEFINITION. The controlled handover (R205 to R209, R214, R215, R530): commands ROLE_OFFER to RELEASE_RECOVERY_HOLD
of chapter 7. -/
namespace Sys2Proof.Machine

/-! ### Offers -/

/-- An OFFER may be made (R205). -/
def Half.mayOffer (x : Half) : Bool := x.st == .active && x.role.ho.isNone && x.linked && x.peerSynced

/-- The handover that an offer begins: H at least 2 ms ahead, H_V 40 µs after it (R205, R206). -/
def Half.newOffer (x : Half) (cause : Cause) (at_ : DWord) : Handover :=
  let lo := x.mono + 2000000
  let h := if at_.toNat < lo.toNat then lo else at_
  { outgoing := true, offerId := x.role.nextOffer, cause := cause, h := h, hv := h + 40000, at_ := x.mono }

/-- The active half offers. -/
def Half.offers (x : Half) (k : Handover) (cmd : Option (Nat × Nat)) : Half :=
  let y : Half := { x with st := .relinquishing
                           role := { x.role with ho := some k, nextOffer := x.role.nextOffer + 1, cmd := cmd } }
  y.sendRole .offer

/-- The offer, REL item n, reaches a half in STANDBY; it takes the place of one before it. -/
def Half.offered (p : Half) (k : Handover) (n : BitVec 16) : Half :=
  if !p.linked then p
  else
    let q : Half := p.roleSeen n
    if q.st == .standby && q.role.ho.all fun o => !o.outgoing && o.stage == 0 then
      { q with role := { q.role with ho := some { k with outgoing := false } } }
    else q

/-- An offer made by half h, where it may be made. -/
def State.offer (s : State) (h : HalfId) (cause : Cause) (at_ : DWord) (cmd : Option (Nat × Nat)) : State :=
  let x := s.half h
  if x.mayOffer then
    let k := x.newOffer cause at_
    (s.mod h fun x => x.offers k cmd).mod h.other fun p => p.offered k x.span.nextItem
  else s

/-- ROLE_OFFER (R205, R206, R188). -/
def execRoleOffer (h : HalfId) (cause : Cause) (at_ : DWord) (s : State) : Host.Outcome State Fault Refusal :=
  .next (if (s.half h).role.claimLine then s else s.offer h cause at_ none)

/-- The reasons to refuse (R207, R325); x is the standby half, p the active one. -/
def Half.refuses (x p : Half) (k : Handover) : Bool :=
  !x.role.synced || x.saf.proof || x.role.proofTest ||
    (k.cause == .periodic && (x.role.released || (List.range 8).any (fun c => p.tcState c = 1 || p.tcState c = 2 || p.tcState c = 3) ||
      (List.range 4).any (fun g => p.tgState g = 1 || p.tgState g = 2)))

/-- The half's handover while H is ahead. -/
def Half.pendingHo (x : Half) (outgoing : Bool) : Option Handover :=
  x.role.ho.filter fun k => k.outgoing == outgoing && k.stage == 0

/-- A handover changed. -/
def Half.modHo (x : Half) (f : Handover → Handover) : Half := { x with role := { x.role with ho := x.role.ho.map f } }

/-- A ROLE frame from half x reaches its partner p. -/
def Half.hears (p x : Half) : Bool := x.linked && p.linked

/-- ROLE_ACCEPT (R207): the standby half accepts with the same H. -/
def execRoleAccept (h : HalfId) (s : State) : Host.Outcome State Fault Refusal :=
  let ok (x p : Half) : Bool := x.st == .standby && (x.pendingHo false).any fun k => !k.accepted && !x.refuses p k
  onPair s h
    (fun x p => if ok x p then (x.modHo fun k => { k with accepted := true }).sendRole .accept else x)
    (fun p x => if ok x p && p.hears x then (p.roleSeen x.span.nextItem).modHo fun k => { k with accepted := true } else p)

/-- The outgoing half stays ACTIVE: its command completes, and a periodic swap is retried after 1 h (R207, R208, R325). -/
def Half.staysActive (x : Half) (status : Nat) : Half :=
  match x.pendingHo true with
  | none => x
  | some k =>
    let cmd := x.role.cmd
    let next := if k.cause == .periodic then x.mono + 3600000000000 else x.role.nextSwap
    let y : Half := { x with st := if x.st == .relinquishing then .active else x.st
                             role := { x.role with ho := none, cmd := none, nextSwap := next } }
    y.finishCmd cmd status []

/-- The incoming half drops the offer. -/
def Half.dropOffer (x : Half) : Half := if (x.pendingHo false).isSome then { x with role := { x.role with ho := none } } else x

/-- ROLE_REFUSE (R207, R325). -/
def execRoleRefuse (h : HalfId) (s : State) : Host.Outcome State Fault Refusal :=
  let ok (x p : Half) : Bool := (x.pendingHo false).any fun k => !k.accepted && x.refuses p k
  onPair s h
    (fun x p => if ok x p then (x.sendRole .refuse).dropOffer else x)
    (fun p x => if ok x p && p.hears x then (p.roleSeen x.span.nextItem).staysActive ST_CONFLICT else p)

/-- ROLE_ABORT (R207): either half, before H. -/
def execRoleAbort (h : HalfId) (s : State) : Host.Outcome State Fault Refusal :=
  let ok (x : Half) : Bool := x.role.ho.any fun k => k.stage == 0
  onPair s h
    (fun x _ => if ok x then ((x.sendRole .abort).dropOffer).staysActive ST_ABORTED else x)
    (fun p x => if ok x && p.hears x then ((p.roleSeen x.span.nextItem).dropOffer).staysActive ST_ABORTED else p)

/-- ROLE_RELINQUISH (R185, R187, R505): received by half h. -/
def execRoleRelinquish (h : HalfId) (s : State) : Host.Outcome State Fault Refusal :=
  onHalf s h fun x =>
    if !x.linked then x
    else
      let y : Half := (x.setBit Reg.SPAN_STAT 3 true).spanIrq 5
      { y with role := { y.role with relinq := true } }

/-- OFFER_TIMEOUT (R182): 50 ms without an ACCEPT. -/
def execOfferTimeout (h : HalfId) (s : State) : Host.Outcome State Fault Refusal :=
  let ok (x : Half) : Bool := (x.pendingHo true).any fun k => !k.accepted && x.goneUs k.at_ 50000
  onPair s h (fun x _ => if ok x then x.staysActive ST_TIMEOUT else x) (fun p x => if ok x then p.dropOffer else p)

/-- HANDOVER_TIMEOUT (R206): no instant met the conditions within 10 s. -/
def execHandoverTimeout (h : HalfId) (s : State) : Host.Outcome State Fault Refusal :=
  let ok (x : Half) : Bool := (x.pendingHo true).any fun k => x.goneUs k.at_ 10000000
  onPair s h (fun x _ => if ok x then x.staysActive ST_TIMEOUT else x) (fun p x => if ok x then p.dropOffer else p)

/-! ### From H to the new standby half -/

/-- Every task's last cycle on the outgoing half is confirmed on the incoming one (R195, R206). -/
def lastConfirmed (out inc : Half) : Bool :=
  out.conf.tasks.all fun t => (inc.copyOf t.1).confirmed && (inc.copyOf t.1).cycle == (out.tsk t.1).cycle

/-- The handover may take place at this instant (R206): accepted, H reached, no task in a cycle, every last cycle
confirmed. -/
def handoverReady (out inc : Half) : Bool :=
  ((out.pendingHo true).any fun k => k.accepted && out.reached k.h) && (inc.pendingHo false).any (·.accepted) &&
    inc.st == .standby && inc.role.synced && lastConfirmed out inc &&
    !(out.task.tasks.any fun t => t.2.state == .running || t.2.state == .ready || t.2.state == .preempted)

/-- The outgoing half at H (R207, R306): the claim stops with RELINQUISH. -/
def Half.outAtH (x : Half) : Half :=
  let y : Half := match x.role.cmd with
    | some r => { x with mbx := { x.mbx with ctxs := x.mbx.ctxs.map fun c =>
        if c.ch == r.1 && c.uid == r.2 then { c with past := true } else c } }
    | none => x
  let y : Half := ((y.setBit Reg.SYS_STAT 3 false).relinquish).modHo fun k => { k with stage := 1 }
  ((y.endTuning).dropActiveCmds).dispLeave

/-- The incoming half at H (R181, R207). -/
def Half.inAtH (x : Half) : Half := (x.shadowOutputs).modHo fun k => { k with stage := 1 }

/-- The instant h, from H on, has come on the outgoing half of a handover. -/
def Half.hoReached (x : Half) (us : Nat) : Bool := x.role.ho.any fun k => x.reached (k.h + BitVec.ofNat 64 (1000 * us))

/-- HANDOVER_INSTANT_H (R206, R207). -/
def execHandoverInstantH (h : HalfId) (s : State) : Host.Outcome State Fault Refusal :=
  let step (x p : Half) : Half :=
    if handoverReady x p then x.outAtH else if handoverReady p x then x.inAtH else x
  onPair s h step step

/-- The stage of a handover on the outgoing or the incoming side. -/
def Half.atStage (x : Half) (outgoing : Bool) (n : Nat) : Bool := x.role.ho.any fun k => k.outgoing == outgoing && k.stage == n

/-- HANDOVER_INSTANT_H_V (R107, R207): outgoing levels stop, and the final CE_TRACK leaves. -/
def execHandoverInstantHV (h : HalfId) (s : State) : Host.Outcome State Fault Refusal :=
  let step (x p : Half) : Half :=
    if x.atStage true 1 && x.hoReached 40 then
      ((((x.setBit Reg.CE_CTRL 2 false).vdStop).sendTrack).modHo fun k => { k with stage := 2 })
    else if p.atStage true 1 && p.hoReached 40 && x.atStage false 1 then x.modHo fun k => { k with stage := 2 }
    else x
  onPair s h step step

/-- INCOMING_VD_START (R109, R128, R207): the levels start on the references that the output shadow gave at the release
and that the tracked chains give now. -/
def execIncomingVdStart (h : HalfId) (s : State) : Host.Outcome State Fault Refusal :=
  onHalf s h fun x => if x.st == .active && x.atStage false 2 && x.hoReached 41 then (x.chainRefs).runField else x

/-- HANDOVER_DO_RELEASE (R202, R207). -/
def execHandoverDoRelease (h : HalfId) (s : State) : Host.Outcome State Fault Refusal :=
  let step (x p : Half) : Half :=
    if x.atStage true 2 && x.hoReached 50 then (x.releaseOutputs).modHo fun k => { k with stage := 3 }
    else if p.atStage true 2 && p.hoReached 50 && x.atStage false 2 then x.modHo fun k => { k with stage := 3 }
    else x
  onPair s h step step

/-- The response of the command that asked for a handover (R322, R324). -/
def Half.handoverReply (x : Half) (k : Handover) : List Byte :=
  if k.cause == .firmware then leNat 4 x.boot.version.toNat ++ leNat 4 x.st.code else leBytes 8 k.h

/-- ROLE_CLAIMED (R207, R325): the incoming half h sends CLAIMED; the command on the outgoing half completes. -/
def execRoleClaimed (h : HalfId) (s : State) : Host.Outcome State Fault Refusal :=
  let ok (x p : Half) : Bool := x.st == .active && x.atStage false 3 && p.atStage true 3
  onPair s h
    (fun x p => if ok x p then x.sendRole .claimed else x)
    (fun p x =>
      if ok x p && p.hears x then
        let cmd := p.role.cmd
        let y : Half := p.roleSeen x.span.nextItem
        let y : Half := { y with role := { y.role with cmd := none } }
        y.finishCmd cmd ST_OK (p.handoverReply (p.role.ho.getD {}))
      else p)

/-- A completed handover in either half's counters (R208, R322, R460). -/
def Half.countHandover (x : Half) (k : Handover) : Half :=
  let due : DWord := x.mono + BitVec.ofNat 64 (x.conf.swapHours * 3600000000000)
  let n := satAdd x.role.handovers 1
  ({ x with role := { x.role with lastHandover := x.now, handovers := n, lastSwap := x.mono, nextSwap := due, ho := none } } :
    Half).evrEvent (k.cause.code - 1)

/-- The former active half in STANDBY: its own regions are its copy (R207, R209, R214). -/
def Half.becomesStandby (x : Half) (k : Handover) : Half :=
  let ts := x.conf.tasks.map (·.1)
  let copies : Tab TaskCopy := ts.foldl (fun m t =>
    Tab.put m t { region := Config.regionBlocks t (x.regionData t), confirmed := true, cycle := (x.tsk t).cycle }) []
  let y : Half := ts.foldl (fun (z : Half) t => z.modTsk t fun k => { k with state := .tracking, startDue := false, stopDue := false }) x
  let y : Half := { y with
    st := .standby
    copy := { tasks := copies, storeDone := true }
    role := { y.role with cmd := none, everStandby := true, armed := true, synced := true
                          proofTest := k.cause == .roleSwap || k.cause == .periodic
                          proofStep := 1
                          released := k.cause == .halfRelease || k.cause == .button } }
  (y.setBit Reg.CE_CTRL 1 true).countHandover k

/-- HANDOVER_COMPLETE (R207, R235): the outgoing half enters STANDBY; faults it held take effect now. -/
def execHandoverComplete (h : HalfId) (s : State) : Host.Outcome State Fault Refusal :=
  let ok (out inc : Half) : Bool := out.atStage true 3 && out.hoReached 100 && inc.atStage false 3 && inc.st == .active
  let step (x p : Half) : Half :=
    let k := x.role.ho.getD {}
    if ok x p then (x.becomesStandby k).releaseHeld
    else if ok p x then x.countHandover k
    else x
  onPair s h step step

/-! ### Swaps and the button -/

/-- PERIODIC_SWAP (R188, R208). -/
def execPeriodicSwap (h : HalfId) (at_ : DWord) (s : State) : Host.Outcome State Fault Refusal :=
  let x := s.half h
  if x.st != .active || x.role.ho.isSome || !x.reached x.role.nextSwap then .next s
  else if x.mayOffer && !x.role.claimLine && x.cfg.pend.isNone then .next (s.offer h .periodic at_ none)
  else onHalf s h fun x => { x with role := { x.role with nextSwap := x.mono + 3600000000000 } }

/-- SWAP_OVERDUE (R208): 168 h since the previous swap. -/
def execSwapOverdue (h : HalfId) (s : State) : Host.Outcome State Fault Refusal :=
  onHalf s h fun x => x.raiseIf (x.isActive && x.goneUs x.role.lastSwap 604800000000) 69

/-- RELEASE_BUTTON_HOLD (R214, R215, R530): RELEASE has been held for 2 s. -/
def execReleaseButtonHold (h : HalfId) (at_ : DWord) (s : State) : Host.Outcome State Fault Refusal :=
  let x := s.half h
  if x.st == .off then .next s
  else
    let t := s.mod h fun x => (x.setBit Reg.SYS_STAT 9 true).sysIrq 6
    if x.st != .active || x.role.ho.isSome then .next t
    else if x.mayOffer then .next (t.offer h .button at_ none)
    else onHalf t h fun x => { x with role := { x.role with refusedAt := some x.mono } }

/-- RELEASE_RECOVERY_HOLD (R516, R530): RELEASE has been held for 5 s since the power-on. -/
def execReleaseRecoveryHold (h : HalfId) (s : State) : Host.Outcome State Fault Refusal :=
  onHalf s h fun x =>
    if x.st == .boot || (x.st == .native && x.boot.recovery.isNone) then
      { x.setBit Reg.SYS_STAT 9 true with
        boot := { x.boot with recovery := some 3, images := [], imgInit := false, current := none }
        role := { x.role with negotiating := false, loading := false } }
    else x

end Sys2Proof.Machine
end

