-- ==== Sys2Proof/Machine/Power.lean ====
section
/-! DEFINITION. Power, hold-up and resets: the rows of chapter 20. -/
namespace Sys2Proof.Machine

/-! ### Power-on and power-off (R382, R462, R491, R496, R499) -/

/-- What outlives PD0: MRAM, NOR and the die's key store, and the model's own records (R499, R500). -/
def Half.survivors (x : Half) : Half :=
  let slot (c : CfgSlot) : CfgSlot := { c with verified := false }
  { id := x.id, fresh := x.fresh, tx := x.tx, rdata := x.rdata
    regs := x.regs.filter fun e => (List.range 12).any fun c => e.1 == Reg.FC_CLASS_REC c
    boot := { slot0 := x.boot.slot0, slot1 := x.boot.slot1, record := x.boot.record, key := x.boot.key }
    cfg := { slot0 := slot x.cfg.slot0, slot1 := slot x.cfg.slot1, cur := x.cfg.cur, images := x.cfg.images }
    fc := { stamps := x.fc.stamps, latch := x.fc.latch }
    task := { retain := x.task.retain }
    aio := { ai := x.aio.ai.map fun e => (e.1, { bins := e.2.bins }) }
    ce := { ovDesc := x.ce.ovDesc, ovSect := x.ce.ovSect }
    obj := { mramEpoch := x.obj.mramEpoch, wire := x.obj.wire }
    evr := { slot0 := x.evr.slot0, slot1 := x.evr.slot1, log := x.evr.log }
    span := { wire := x.span.wire }
    saf := { proofAt := x.saf.proofAt, overdue := x.saf.overdue }
    nor := x.nor
    dsp := { target := x.dsp.target, journal := x.dsp.journal, nextSeq := x.dsp.nextSeq, stress := x.dsp.stress, serial := x.dsp.serial }
    mbx := { nextUid := x.mbx.nextUid }
    sys := { mramOpmin := x.sys.mramOpmin, mramPcyc := x.sys.mramPcyc, mramTime := x.sys.mramTime, seconds := x.sys.seconds } }

/-- A half with its PD0 off. -/
def Half.powerOff (x : Half) : Half := { x.survivors with st := .off }

/-- PD0 comes up: BOOT, every other domain in reset; the slot code shows in HALF (R382, R462, R492, R499, R527). -/
def Half.powerOn (x : Half) (feeds : BitVec 4) (code : BitVec 2) : Half :=
  let y : Half := x.survivors
  let full := y.sys.mramPcyc == 0xFFFFFFFF
  let n := satAdd y.sys.mramPcyc 1
  let y : Half := { y with
    st := .boot
    sys := { y.sys with powered := true, partBase := y.sys.seconds, slotBad := code == 0 || code == 3, mramPcyc := n }
    ts := { acc := y.sys.mramTime } }
  let y : Half := ((y.wr Reg.SYS_PCYC n).wr Reg.SYS_OPMIN y.sys.mramOpmin).setBit Reg.SYS_PD 0 true
  let y : Half := (((y.setBit Reg.SYS_STAT 0 (code == 2)).setFld Reg.SYS_STAT 7 4 feeds.toNat).setBit Reg.SYS_STAT 10
    (y.sys.mramOpmin == 0xFFFFFFFF)).setBit Reg.SYS_STAT 11 full
  let y : Half := (y.feedSeen Reg.SYS_FEED 0).feedSeen Reg.SYS_FEED 1
  let y : Half := (y.feedSeen Reg.SYS_FLD 0).feedSeen Reg.SYS_FLD 1
  ((y.enterReset [1, 2, 3, 4, 5, 6, 7]).evrPowerOn).fcStatus

/-- PD0_POWER_ON (R462, R499, R527). -/
def execPd0PowerOn (h : HalfId) (slotCode : BitVec 2) (s : State) : Host.Outcome State Fault Refusal :=
  .next (s.mod h fun x => if x.st == .off then x.powerOn s.stn.feeds slotCode else x)

/-- The order of the sequencer (R492). -/
def railOrder : List Nat := [1, 4, 2, 3, 7, 6]

/-- PD_RAIL_GOOD (R492, R498), 100 µs after the previous rail: the domain leaves reset, unless a fault holds it there. -/
def execPdRailGood (h : HalfId) (pd : Nat) (s : State) : Host.Outcome State Fault Refusal :=
  onHalf s h fun x =>
    let before := railOrder.takeWhile (· != pd)
    if x.st == .off || !railOrder.contains pd || x.bit Reg.SYS_PD pd || !before.all (x.bit Reg.SYS_PD) ||
        !x.upGone x.sys.railAt 100 then x
    else
      let y : Half := ({ x with sys := { x.sys with railAt := x.sys.up } } : Half).setBit Reg.SYS_PD pd true
      let y : Half := if pd = 1 then y.setBit Reg.SYS_CLKMON 16 true else y
      if y.fc.domains.contains pd || y.bit Reg.FC_STAT 6 then y
      else
        let z : Half := y.setBit Reg.SYS_PD (8 + pd) false
        (List.range 4).foldl (fun (z : Half) i => z.clrReg (Reg.FC_INHIB i) (domainMask [pd] i)) z

/-! ### Feeds and hold-up (R488 to R496) -/

/-- A feed's place in FEED_OK (R505). -/
def feedBit : Feed → Nat
  | .psa => 0
  | .psb => 1
  | .flda => 2
  | .fldb => 3

/-- A feed's state on the baseplate. -/
def Station.setFeed (t : Station) (f : Feed) (b : Bool) : Station :=
  { t with feeds := if b then t.feeds ||| (1#4 <<< feedBit f) else t.feeds &&& ~~~(1#4 <<< feedBit f) }

/-- LOGIC_FEED_FAIL (R495): both logic feeds lie below 18 V. -/
def execLogicFeedFail (h : HalfId) (s : State) : Host.Outcome State Fault Refusal :=
  let t := s.modStn fun k => (k.setFeed .psa false).setFeed .psb false
  onHalf t h fun x =>
    if x.st == .off || x.sys.onStore then x
    else
      let y : Half := ({ x with sys := { x.sys with onStore := true, storeAt := x.sys.up } } : Half).setFld Reg.SYS_STAT 5 4 0
      let y : Half := (y.feedSeen Reg.SYS_FEED 0).feedSeen Reg.SYS_FEED 1
      ((y.sysIrq 0).raise 40).raise 41

/-- POWER_FAIL_CONFIRM (R382, R468, R483, R495): 1 ms later. -/
def execPowerFailConfirm (h : HalfId) (s : State) : Host.Outcome State Fault Refusal :=
  onHalf s h fun x =>
    if x.st == .off || !x.sys.onStore || x.sys.powerFail || !x.upGone x.sys.storeAt 1000 then x
    else
      let y : Half := { x with sys := { x.sys with powerFail := true, failAt := x.sys.up, mramTime := x.now, seconds := x.partMinute } }
      let y : Half := ((y.setBit Reg.EVR_STAT 1 true).sysIrq 2).discharge
      y.raise 52

/-- What is left of the power-fail sequence runs to its end (R496): the hold window and the final pass. -/
def Half.endPowerFail (x : Half) : Half :=
  let y : Half := if x.role.holdWindow then x.endHold else x
  if y.bit Reg.EVR_STAT 1 then y.evrPass else y

/-- LOGIC_FEED_RETURN (R495, R496): after source 52 the sequence runs to its end, and the half restarts as from
power-on. -/
def execLogicFeedReturn (h : HalfId) (feed : Feed) (s : State) : Host.Outcome State Fault Refusal :=
  if feed == .flda || feed == .fldb then .next s
  else
    let t := s.modStn fun k => k.setFeed feed true
    onHalf t h fun x =>
      if x.st == .off then x
      else if x.sys.powerFail then x.endPowerFail.powerOn t.stn.feeds (if x.sys.slotBad then 0 else if x.bit Reg.SYS_STAT 0 then 2 else 1)
      else
        let y : Half := ({ x with sys := { x.sys with onStore := false } } : Half).setBit Reg.SYS_STAT (4 + feedBit feed) true
        (y.feedSeen Reg.SYS_FEED (feedBit feed)).sysIrq 0

/-- HOLDUP_STORE_EMPTY (R495, R496): PD0 and PD5 off; with PWR_HOLDUP clear not before 5 ms after source 52. -/
def execHoldupStoreEmpty (h : HalfId) (s : State) : Host.Outcome State Fault Refusal :=
  onHalf s h fun x => 
    if x.st == .off || !x.sys.onStore ||
        (x.bit Reg.SYS_STAT 8 && !(x.sys.powerFail && x.upGone x.sys.failAt 5000)) then x
    else x.powerOff

/-- PWR_HOLDUP (R494, R505): the usable energy in mJ. -/
def execPwrHoldup (h : HalfId) (energy : BitVec 16) (s : State) : Host.Outcome State Fault Refusal :=
  onHalf s h fun x =>
    if x.st == .off then x
    else
      let ok := 100 ≤ energy.toNat
      let was := x.bit Reg.SYS_STAT 8
      let y : Half := (x.setFld Reg.SYS_HOLDUP 15 0 energy.toNat).setBit Reg.SYS_STAT 8 ok
      let y : Half := if was == ok then y else y.sysIrq 3
      y.raiseIf (!ok) 51

/-- FIELD_FEED_RANGE (R490, R505). -/
def execFieldFeedRange (h : HalfId) (feed : Feed) (inRange : Bool) (s : State) : Host.Outcome State Fault Refusal :=
  if feed == .psa || feed == .psb then .next s
  else
    let t := s.modStn fun k => k.setFeed feed inRange
    onHalf t h fun x =>
      if x.st == .off then x
      else
        let y : Half := (x.setBit Reg.SYS_STAT (4 + feedBit feed) inRange).sysIrq 1
        let y : Half := y.feedSeen Reg.SYS_FLD (feedBit feed - 2)
        y.raiseIf (!inRange) (if feed == .flda then 42 else 43)

/-- DOMAIN_RAIL_FAULT (R202, R228, R491): loss of PD6 leaves no hold window; Scruple resets itself. -/
def execDomainRailFault (h : HalfId) (pd : Nat) (s : State) : Host.Outcome State Fault Refusal :=
  onHalf s h fun x =>
    if x.st == .off || pd = 0 || 7 < pd then x
    else
      let y : Half := (x.setBit Reg.SYS_PD pd false)
      let y : Half := if pd = 6 then y.discharge else y
      let y : Half := y.raise (43 + pd)
      if pd = 6 && y.role.holdWindow then y.endHold
      else if pd = 5 then y.resetScruple
      else y

/-! ### Resets (R499 to R502) -/

/-- Resets are refused while the half claims or holds its outputs (R502). -/
def Half.mayReset (x : Half) : Bool := x.domainOn 1 && !x.claims && !x.role.holdWindow

/-- Domain resets by SYS_RST.DOM; one already in reset adds nothing (R501, R502). -/
def Half.resetDoms (x : Half) (doms : Byte) : Half :=
  let ds := [2, 3, 4, 6, 7].filter fun d => doms.getLsbD d && !x.bit Reg.SYS_PD (8 + d)
  if !x.mayReset || ds.isEmpty then x
  else (x.enterReset ds).setFld Reg.SYS_RCAUSE 15 8 (ds.foldl (fun m d => m + 2 ^ d) 0)

/-- The half reset by SYS_RST.HALF (R499, R506). -/
def Half.resetHalf (x : Half) : Half := if x.mayReset then (x.halfReset 3).reboot else x

/-- SYS_RST_DOMAIN (R502). -/
def execSysRstDomain (h : HalfId) (doms : Byte) (s : State) : Host.Outcome State Fault Refusal :=
  onHalf s h fun x => x.resetDoms doms

/-- SYS_RST_HALF (R502). -/
def execSysRstHalf (h : HalfId) (s : State) : Host.Outcome State Fault Refusal :=
  onHalf s h fun x => x.resetHalf

/-- DOMAIN_RESET_END (R237, R499): the domain's reset ends, after 10 µs at least; after an L3 the half stays held in reset until the quiet
periods have elapsed (R230). Outside FAULT the firmware sets the domain's registers again (log 38). -/
def execDomainResetEnd (h : HalfId) (pd : Nat) (s : State) : Host.Outcome State Fault Refusal :=
  onHalf s h fun x =>
    if !x.bit Reg.SYS_PD (8 + pd) || !x.bit Reg.SYS_PD pd || 7 < pd || !x.upGone (x.sys.rstAt.get 0 pd) 10 then x
    else
      let ds := x.fc.domains.erase pd
      let y : Half := { x with fc := { x.fc with
        domains := ds
        resetting := x.fc.resetting && !ds.isEmpty
        quietAt := if x.fc.resetting && ds.isEmpty then x.fc.quiet.map fun c => (c, x.mono) else x.fc.quietAt } }
      let y := if x.bit Reg.FC_STAT 6 then y
        else
          let z := y.setBit Reg.SYS_PD (8 + pd) false
          (List.range 4).foldl (fun (z : Half) i => z.clrReg (Reg.FC_INHIB i) (domainMask [pd] i)) z
      let y : Half := y.irq Reg.SYS_IRQ_STAT Reg.SYS_IRQ_EN 7 7
      if x.boot.startupDone && y.st != .fault && y.st != .latched then y.loadRegs fun a => regDomain a == pd else y

/-- SPAN_RELINQ (R185, R505). -/
def execSpanRelinq (h : HalfId) (s : State) : Host.Outcome State Fault Refusal :=
  onHalf s h fun x => if x.linked then x.relinquish else x

/-- FIXTURE_PRESENT (R243). -/
def execFixturePresent (h : HalfId) (s : State) : Host.Outcome State Fault Refusal :=
  onHalf s h fun x => if x.st == .off then x else x.setBit Reg.FC_STAT 5 true

/-! ### Interrupt controller (R504, R505) -/

/-- The pending enabled source of a target with the highest priority; of equal ones the lowest number (log 49). -/
def Half.topIrq (x : Half) (app : Bool) : Option Nat :=
  let ok (i : Nat) : Bool := x.bit (Reg.ICU_SRC i) 5 && x.bit (Reg.ICU_SRC i) 4 && x.bit (Reg.ICU_SRC i) 3 == app
  ((List.range 256).filter ok).foldl (fun m i => match m with
    | some j => if x.fld (Reg.ICU_SRC i) 2 0 < x.fld (Reg.ICU_SRC j) 2 0 then some i else some j
    | none => some i) none

/-- ICU_CLAIM_READ (R9, R505). -/
def execIcuClaimRead (h : HalfId) (app : Bool) (s : State) : Host.Outcome State Fault Refusal :=
  onHalf s h fun x =>
    if !x.domainOn 1 then x
    else match x.topIrq app with
    | some i => { x.setBit (Reg.ICU_SRC i) 5 false with rdata := BitVec.ofNat 32 i }
    | none => { x with rdata := 0x1FF }

end Sys2Proof.Machine
end

