-- ==== Sys2Proof/Machine/SafOps.lean ====
section
/-! DEFINITION. Scruple's operations (chapter 6): demand and pair faults, the trip matrices, the functions, the
permits and gates, the seal, the request queue, the reset inputs, and the SAF mirror. -/
namespace Sys2Proof.Machine

/-- Bit j of a mask of outputs replaced. -/
def maskBit (m : Byte) (j : Nat) (v : Bool) : Byte := if v then m ||| (1#8 <<< j) else m &&& ~~~(1#8 <<< j)

/-- A half with Scruple's state changed. -/
def Half.modSaf (x : Half) (f : SafBlk → SafBlk) : Half := { x with saf := f x.saf }

/-- Scruple's controller executes in a powered domain. -/
def Half.safRuns (x : Half) : Bool := x.saf.run && x.domainOn 5

/-- At least `ns` nanoseconds of Scruple's time have gone since `t`. -/
def Half.safPast (x : Half) (t : DWord) (ns : Nat) : Bool := Nat.ble ns (x.saf.clk - t).toNat

/-- A SAFE-class fault (R177, R179). -/
def Half.safRaise (x : Half) (src : Nat) : Half := x.raise src

/-- An output's entry in a table of instants: kept or begun while a condition holds, gone when it does not. -/
def sinceTab (m : Tab DWord) (now : DWord) (j : Nat) (c : Bool) : Tab DWord :=
  if !c then m.del j else if (m.get? j).isSome then m else m.put j now

/-! ### The set -/

/-- The body of the set held; an empty one where none is held. -/
def Half.safSet (x : Half) : SafBody := (x.saf.held.map (·.2.2)).getD {}
/-- A function of the set held. -/
def Half.safFunc (x : Half) (f : Nat) : Option SafFunc := (x.safSet.funcs.find? fun e => e.1 == f).map (·.2)
/-- A function's state. -/
def Half.safFn (x : Half) (f : Nat) : SafFn := x.saf.funcs.get {} f
/-- The outputs a function names. -/
def fnOuts (c : SafFunc) : Byte := c.imm ||| c.del
/-- The safety inputs of a function; a lock pair is not among them (R158). -/
def fnInputs (c : SafFunc) : List Nat := c.pairs.flatMap (fun p => [2 * p, 2 * p + 1]) ++ c.single.toList
/-- Whether a function names an output. -/
def fnNames (c : SafFunc) (j : Nat) : Bool := (fnOuts c).getLsbD j
/-- The functions of the set that name an output. -/
def Half.namers (x : Half) (j : Nat) : List (Nat × SafFunc) := x.safSet.funcs.filter fun e => fnNames e.2 j

/-- A well-formed set: header, length and check (R143, the header's table). -/
def setOk (bs : List Byte) : Bool :=
  16 ≤ bs.length && bs.length ≤ 65536 && leGet bs 0 4 == 0x53435250 && leGet bs 4 2 == 1 && leGet bs 6 1 ≤ 31
    && leGet bs 7 1 == 0 && leGet bs 8 4 == bs.length
    && leGet bs (bs.length - 4) 4 == (cv0 (bs.take (bs.length - 4))).toNat

/-! ### Inputs (R149 to R151) -/

/-- A filter's state; filter B where `b` holds. -/
def Half.safFlt (x : Half) (b : Bool) (i : Nat) : SafFilter := if b then x.saf.fltB.get {} i else x.saf.fltA.get {} i
/-- A filter's state replaced. -/
def Half.setFlt (x : Half) (b : Bool) (i : Nat) (f : SafFilter) : Half :=
  x.modSaf fun s => if b then { s with fltB := s.fltB.put i f } else { s with fltA := s.fltA.put i f }

/-- The mode of a pair. -/
def Half.pairMode (x : Half) (p : Nat) : PairMode :=
  ((x.safSet.pairs.find? fun e => e.1 == p).map (·.2.1)).getD .equivalent

/-- The healthy level of an input (R150). -/
def Half.siHealthy (x : Half) (i : Nat) : Bool :=
  match x.pairMode (i / 2) with
  | .equivalent => true
  | .antivalent => i % 2 == 0
  | .singles e o => if i % 2 = 0 then e else o

/-- An input is in demand on a filter (R150). -/
def Half.siDemand (x : Half) (b : Bool) (i : Nat) : Bool := (x.safFlt b i).out != x.siHealthy i
/-- An input is in demand for Scruple's software: on either filter (log 36). -/
def Half.siAny (x : Half) (i : Nat) : Bool := x.siDemand false i || x.siDemand true i

/-- A pair used as two single channels. -/
def Half.pairSingle (x : Half) (p : Nat) : Bool :=
  match x.pairMode p with
  | .singles _ _ => true
  | _ => false

/-- The discrepancy time of a pair in ms (R151). -/
def Half.pairTime (x : Half) (p : Nat) : Nat := ((x.safSet.pairs.find? fun e => e.1 == p).map (·.2.2)).getD 100

/-- The two channels of a pair disagree, on filter A (R151). -/
def Half.pairDiffers (x : Half) (p : Nat) : Bool := x.siDemand false (2 * p) != x.siDemand false (2 * p + 1)

/-- An assigned channel has read low in its last two dark pulses; an unassigned one needs none (R151). -/
def Half.darkOk (x : Half) (i : Nat) : Bool :=
  !(x.safSet.tps.any fun e => e.1 == i) || 2 ≤ (x.saf.dark.get {} i).low

/-- A fault of a pair (R151, R153). -/
def Half.pairFails (x : Half) (p diag : Nat) : Half :=
  (x.modSaf fun s => { s with pairFault := s.pairFault.put p { diag := diag } }).safRaise 115
/-- A fault of a single channel (R151). -/
def Half.chanFails (x : Half) (i : Nat) : Half :=
  (x.modSaf fun s => { s with chanFault := s.chanFault.put i { diag := 2 } }).safRaise 115

/-- A faulted pair on its way to clearing: both in demand together, then both healthy together (R151). -/
def Half.pairClear (x : Half) (p : Nat) : Half :=
  match x.saf.pairFault.get? p with
  | none => x
  | some f =>
    let de := x.siDemand false (2 * p)
    let dn := x.siDemand false (2 * p + 1)
    if f.demand && !de && !dn && x.darkOk (2 * p) && x.darkOk (2 * p + 1) then
      x.modSaf fun s => { s with pairFault := s.pairFault.del p }
    else if de && dn then x.modSaf fun s => { s with pairFault := s.pairFault.put p { f with demand := true } }
    else x

/-- A faulted single channel on its way to clearing (R151). -/
def Half.chanClear (x : Half) (i : Nat) : Half :=
  match x.saf.chanFault.get? i with
  | none => x
  | some f =>
    let d := x.siDemand false i
    if f.demand && !d && x.darkOk i then x.modSaf fun s => { s with chanFault := s.chanFault.del i }
    else if d then x.modSaf fun s => { s with chanFault := s.chanFault.put i { f with demand := true } }
    else x

/-! ### Trip matrices (R155, R156) -/

/-- The inputs in the mask of an output: of the functions whose path is the matrix, immediate or delayed. -/
def Half.maskInputs (x : Half) (j : Nat) (delayed : Bool) : List Nat :=
  x.safSet.funcs.flatMap fun e => if (if delayed then e.2.del else e.2.imm).getLsbD j then fnInputs e.2 else []

/-- A masked immediate, or delayed, input of an output is in demand on a matrix's filters. -/
def Half.matIn (x : Half) (b : Bool) (j : Nat) (delayed : Bool) : Bool := (x.maskInputs j delayed).any (x.siDemand b)

/-- Latches and running backstop delays of a matrix. -/
def Half.matLatch (x : Half) (b : Bool) : Byte := if b then x.saf.latchB else x.saf.latchA
def Half.matBack (x : Half) (b : Bool) : Byte := if b then x.saf.backB else x.saf.backA
def Half.setLatch (x : Half) (b : Bool) (j : Nat) (v : Bool) : Half :=
  x.modSaf fun s => if b then { s with latchB := maskBit s.latchB j v } else { s with latchA := maskBit s.latchA j v }
def Half.setBack (x : Half) (b : Bool) (j : Nat) (v : Bool) : Half :=
  x.modSaf fun s =>
    let t := if v then s.backAt.put (j + 8 * b.toNat) s.clk else s.backAt.del (j + 8 * b.toNat)
    if b then { s with backB := maskBit s.backB j v, backAt := t } else { s with backA := maskBit s.backA j v, backAt := t }

/-- The backstop delay of an output in ms (R156): the stop delay of its function plus 20 ms; of several functions the
longest (DESIGN CHOICE, log 93). -/
def Half.backDelay (x : Half) (j : Nat) : Nat :=
  ((x.safSet.funcs.filter fun e => e.2.del.getLsbD j).foldl (fun m e => max m e.2.delay) 0) + 20

/-- A running backstop delay has run (R156). -/
def Half.backDone (x : Half) (b : Bool) (j : Nat) : Bool :=
  (x.matBack b).getLsbD j && x.safPast (x.saf.backAt.get 0 (j + 8 * b.toNat)) (x.backDelay j * 1000000)

/-- A matrix drops an output: an immediate input, or a delayed one whose delay does not run (R155, R156). -/
def Half.matDrops (x : Half) (b : Bool) (j : Nat) : Bool :=
  x.matIn b j false || (x.matIn b j true && !(x.matBack b).getLsbD j)

/-- A matrix after a change of its inputs: latches set, backstop delays started. -/
def Half.matrix (x : Half) (b : Bool) : Half :=
  (List.range 8).foldl (fun (y : Half) j =>
    let z : Half := if y.matIn b j false then y.setLatch b j true else y
    if z.matIn b j true && !(z.matBack b).getLsbD j && !(z.matLatch b).getLsbD j then z.setBack b j true else z) x

/-- A matrix permit (R165). -/
def Half.matPermit (x : Half) (b : Bool) (j : Nat) : Bool := !x.matDrops b j && !(x.matLatch b).getLsbD j

/-- The latches of a function's outputs are cleared where the matrix no longer drops the output (R155). -/
def Half.clearLatches (x : Half) (c : SafFunc) : Half :=
  (List.range 8).foldl (fun (y : Half) j =>
    if fnNames c j then
      let z : Half := if y.matDrops false j then y else y.setLatch false j false
      if z.matDrops true j then z else z.setLatch true j false
    else y) x

/-! ### Gates (R165, R167) -/

/-- A switch that the proof test holds off (R176): every own path for its 20 ms with the test vectors, then each switch
in turn for 5 ms. The instants within the 10 min are the model's (DESIGN CHOICE, log 93). -/
def Half.proofOff (x : Half) (low : Bool) (j : Nat) : Bool :=
  let n := x.saf.proofMs
  x.saf.proof && Nat.ble 1 n && (Nat.ble n 20 || (Nat.ble n 100 && (n - 21) / 5 == 2 * j + low.toNat))

/-- XTRIP is asserted by the last step of the proof test, for its 100 µs (R176, log 93). -/
def Half.proofXtrip (x : Half) : Bool := x.saf.proof && x.saf.proofMs == 101

/-- Gate enable of the high-side switch, or the low-side switch where `low` holds (R36, R165, R167, R171, R176, R232). -/
def Half.gate (x : Half) (low : Bool) (j : Nat) : Bool :=
  x.safRuns && x.matPermit low j && x.saf.permit.getLsbD j && !x.saf.xforce && !x.bit Reg.FC_STAT 6 &&
    !(if low then x.saf.testLs else x.saf.testHs).getLsbD j && !x.proofOff low j

/-- The half's own path of an output is open (R166). -/
def Half.pathOpen (x : Half) (j : Nat) : Bool := !(x.gate false j && x.gate true j)

/-- Since when the own paths are open, after a change (R170). -/
def Half.notePaths (x : Half) : Half :=
  x.modSaf fun s => { s with openAt := (List.range 8).foldl (fun m j => sinceTab m s.clk j (x.pathOpen j)) s.openAt }

/-! ### Functions (R160 to R164) -/

/-- A state that withholds an output and is entered by a cause. -/
def tripState : FuncState → Bool
  | .delay => true
  | .tripped => true
  | .fault => true
  | _ => false

/-- A function's new state; a new trip is signalled (R179). -/
def Half.setFn (x : Half) (f : Nat) (n : SafFn) : Half :=
  let was := tripState (x.safFn f).state
  let y : Half := x.modSaf fun s => { s with funcs := s.funcs.put f n }
  if tripState n.state && !was then y.icuPend 248 else y

/-- A function is validly reset: ARMED, with the latches of its outputs cleared (R155, R173). -/
def Half.armFn (x : Half) (f : Nat) (c : SafFunc) : Half :=
  (x.setFn f { x.safFn f with state := .armed, diag := 0 }).clearLatches c

/-- The speed of a channel in rpm: of the last edge interval, or less once more time has passed (R163). -/
def Half.safSpeed (x : Half) (i : Nat) : F32 :=
  let k := x.saf.fi.get {} i
  match k.last with
  | none => 0
  | some t =>
    let ppr := max 1 (((x.safSet.fiPpr.find? fun e => e.1 == i).map (·.2)).getD 1)
    let d := (x.saf.clk - t).toNat
    if d = 0 then k.speed else f32min k.speed (f32quot 60000000000 (ppr * d))

/-- A hundredth part of a speed, times n. -/
def percent (r : F32) (n : Nat) : F64 := f64mul (f64of32 r) (f64rat n 100)

/-- Whether a channel is below 1 %, or above 10 %, of TRIP_RPM (R164). -/
def Half.fiBelow (x : Half) (c : SafFunc) (i : Nat) : Bool := f64lt (f64of32 (x.safSpeed i)) (percent c.tripRpm 1)
def Half.fiAbove (x : Half) (c : SafFunc) (i : Nat) : Bool := f64lt (percent c.tripRpm 10) (f64of32 (x.safSpeed i))

/-- The two channels of an overspeed function disagree: one lost, or more than 5 % of TRIP_RPM apart (R164). -/
def Half.fiLoss (x : Half) (c : SafFunc) : Bool := (x.fiBelow c 0 && x.fiAbove c 1) || (x.fiBelow c 1 && x.fiAbove c 0)
def Half.fiApart (x : Half) (c : SafFunc) : Bool :=
  f64lt (percent c.tripRpm 5) (f64abs (f64sub (f64of32 (x.safSpeed 0)) (f64of32 (x.safSpeed 1))))

/-- Since when the channels of each overspeed function disagree (R164). -/
def Half.noteSpeeds (x : Half) : Half :=
  x.safSet.funcs.foldl (fun (y : Half) e =>
    y.modSaf fun s => { s with fiAt := sinceTab s.fiAt s.clk e.1 (e.2.typ = 6 && e.2.fi.length = 2 && (x.fiLoss e.2 || x.fiApart e.2)) }) x

/-- The inputs of a function, its lock pair among them, have kept their filtered levels for `ns` nanoseconds. -/
def Half.fnStill (x : Half) (c : SafFunc) (ns : Nat) : Bool :=
  (fnInputs c ++ (c.lock.toList).flatMap fun p => [2 * p, 2 * p + 1]).all fun i =>
    x.safPast (x.safFlt false i).stamp ns && x.safPast (x.safFlt true i).stamp ns

/-- The input fault of a function, as a diagnostic; 0 for none (R151, R160). -/
def Half.fnFault (x : Half) (c : SafFunc) : Nat :=
  let ps := (c.pairs ++ c.lock.toList).map fun p => ((x.saf.pairFault.get? p).map SafInFault.diag).getD 0
  let cs := ((c.pairs ++ c.lock.toList).flatMap (fun p => [2 * p, 2 * p + 1]) ++ c.single.toList).map fun i =>
    ((x.saf.chanFault.get? i).map SafInFault.diag).getD 0
  ((ps ++ cs).find? (· != 0)).getD 0

/-- An input of the function demands; its lock shows unlocked; its speed exceeds TRIP_RPM (R160, R162, R163). -/
def Half.fnDemand (x : Half) (c : SafFunc) : Bool := (fnInputs c).any x.siAny
def Half.fnUnlocked (x : Half) (c : SafFunc) : Bool := c.lock.elim false fun p => x.siAny (2 * p) || x.siAny (2 * p + 1)
def Half.fnOver (x : Half) (c : SafFunc) : Bool := c.fi.any fun i => f32lt c.tripRpm (x.safSpeed i)

/-- The earliest stamp of the filter changes that made the present demand (R160). -/
def Half.demandStamp (x : Half) (c : SafFunc) : DWord :=
  let ts := (fnInputs c).flatMap fun i =>
    (if x.siDemand false i then [(x.safFlt false i).stamp] else []) ++ (if x.siDemand true i then [(x.safFlt true i).stamp] else [])
  ts.foldl (fun m t => if t.toNat < m.toNat then t else m) x.saf.clk

/-- Both hands, or either, as TWOHAND counts them: actuated at their healthy levels, released in demand (R161). -/
def Half.handOn (x : Half) (p : Nat) : Bool := !x.siAny (2 * p) && !x.siAny (2 * p + 1)
def Half.handOff (x : Half) (p : Nat) : Bool := x.siAny (2 * p) && x.siAny (2 * p + 1)

/-- TWOHAND in one cycle (R161). -/
def Half.evalTwohand (x : Half) (f : Nat) (c : SafFunc) : Half :=
  let n := x.safFn f
  match n.state with
  | .armed => if c.pairs.any x.handOn then x.setFn f { n with state := .sync, stamp := x.saf.clk } else x
  | .sync => if c.pairs.all x.handOn then (x.setFn f { n with state := .engaged, diag := 0 }).clearLatches c else x
  | .engaged => if c.pairs.all x.handOn then x else x.setFn f { n with state := .resetWait }
  | .resetWait => if c.pairs.all x.handOff then x.setFn f { n with state := .armed, diag := 0 } else x
  | _ => x

/-- A function in one safety cycle (R160 to R163). -/
def Half.evalFn (x : Half) (f : Nat) (c : SafFunc) : Half :=
  let n := x.safFn f
  let flt := x.fnFault c
  if flt != 0 && n.state != .fault then x.setFn f { n with state := .fault, diag := flt }
  else match n.state with
    | .fault =>
      let ok := if c.typ = 6 then c.fi.all (x.fiBelow c) else flt == 0
      if ok then x.setFn f { n with state := .resetWait } else x
    | s =>
      if c.typ = 3 then x.evalTwohand f c
      else match s with
        | .armed =>
          if x.fnUnlocked c then x.setFn f { n with state := .tripped, diag := 3 }
          else if x.fnOver c then x.setFn f { n with state := .tripped }
          else if x.fnDemand c then
            x.setFn f { n with state := if c.delay = 0 then .tripped else .delay, stamp := x.demandStamp c }
          else x
        | .tripped => if x.fnDemand c || x.fnUnlocked c || x.fnOver c then x else x.setFn f { n with state := .resetWait }
        | _ => x

/-- A function permits an output in its present state (R160). -/
def fnPermits (c : SafFunc) (n : SafFn) (j : Nat) : Bool :=
  match n.state with
  | .armed => c.typ != 3
  | .engaged => true
  | .delay => c.del.getLsbD j
  | _ => false

/-- P of an output (R159, R232). -/
def Half.permits (x : Half) (j : Nat) : Bool :=
  x.saf.sealOk && !x.bit Reg.FC_STAT 6 && !x.saf.qtrip.getLsbD j && !(x.namers j).isEmpty &&
    (x.namers j).all fun e => fnPermits e.2 (x.safFn e.1) j

/-- P written for every output. -/
def Half.writePermits (x : Half) : Half :=
  let m := (List.range 8).foldl (fun (m : Byte) j => maskBit m j (x.permits j)) 0
  x.modSaf fun s => { s with permit := m }

/-- A function is a trip cause of its outputs: TRIPPED, FAULT or expired DELAY (R170). -/
def Half.fnCause (x : Half) (e : Nat × SafFunc) : Bool :=
  let n := x.safFn e.1
  match n.state with
  | .tripped => true
  | .fault => true
  | .delay => (n.stamp + BitVec.ofNat 64 (e.2.delay * 1000000)).toNat ≤ x.saf.clk.toNat
  | _ => false

/-- A trip cause of an output is present in the half (R170). -/
def Half.soCause (x : Half) (j : Nat) : Bool :=
  x.saf.qtrip.getLsbD j || x.matDrops false j || x.matDrops true j || (x.namers j).any x.fnCause

/-- XTRIP ends for the outputs whose functions have been validly reset (R170). -/
def Half.releaseXtrip (x : Half) : Half :=
  let m := (List.range 8).foldl (fun (m : Byte) j =>
    let waits := (x.namers j).any fun e => tripState (x.safFn e.1).state || (x.safFn e.1).state == .resetWait
    if m.getLsbD j && !x.soCause j && !waits then maskBit m j false else m) x.saf.xout
  x.modSaf fun s => { s with xout := m }

/-! ### The seal (R143, R144, R146) -/

/-- R144: the set held meets FRAG and PROFILE. -/
def Half.sealTest (x : Half) : Bool :=
  match x.saf.held with
  | none => false
  | some (c, p, _) => c.toNat % 64 == x.saf.sealWord.toNat % 64 && p == x.saf.sealWord.toNat / 64 % 32

/-- Scruple's functions as they start (R146, R160). -/
def Half.initFns (x : Half) : Half :=
  x.modSaf fun s => { s with funcs := (x.safSet.funcs.filter fun e => e.2.typ != 0).map fun e => (e.1, {}) }

/-- EDIT in effect. -/
def Half.safEdit (x : Half) : Bool := x.saf.sealWord.getLsbD 11

/-- R143 and R144 tested: SEAL_OK, source 113, and the functions as they start running. -/
def Half.testSeal (x : Half) : Half :=
  let ok := !x.safEdit && x.sealTest
  let was := x.saf.sealOk
  let y : Half := x.modSaf fun s => { s with sealOk := ok, permit := if ok then s.permit else 0 }
  let y : Half := if ok && !was then y.initFns else y
  if ok || x.safEdit then y else y.safRaise 113

/-! ### The request queue (R147, R148) -/

/-- The kinds of queue entries. -/
inductive QKind where
  | trip (mask : Byte) | chunk (offset : Nat) (data : List Byte) | fin (len check : Nat) | time (t : DWord) | proof
  deriving DecidableEq, Repr

/-- Word i of the entry at the head of channel 1. -/
def Half.scrWord (x : Half) (i : Nat) : Word := x.rd (ringAddr 0x30026000 (x.rd (Reg.MBX_CH_SQ_HEAD 1)).toNat i)

/-- The entry at the head, where its format, check, sequence and fields are good (R147, R280, R282). -/
def Half.scrHead (x : Half) : Option QKind :=
  let ws := (List.range 15).map x.scrWord
  let w0 := x.scrWord 0
  let exp := x.rd (Reg.MBX_CH_SQ_SEQ 1)
  let len := getField w0 23 16
  let pl := ((wordsBytes ws).drop 8).take len
  let rest := (wordsBytes ws).drop (8 + len)
  let ok := cv0 (foldSeq exp (wordsBytes ws)) == x.scrWord 15 && x.scrWord 1 == exp && getField w0 31 28 == 0
    && getField w0 15 14 == 0 && getField w0 27 24 == 2 && len ≤ 52 && rest.all (· == 0)
  if !ok then none
  else match getField w0 7 0 with
    | 0xD0 => if len = 4 && leGet pl 1 1 < 16 && leGet pl 3 1 == 0 then some (.trip (BitVec.ofNat 8 (leGet pl 0 1))) else none
    | 0xD1 => if 4 < len && leGet pl 0 4 + (len - 4) ≤ 65536 then some (.chunk (leGet pl 0 4) (pl.drop 4)) else none
    | 0xD2 => if len = 8 then some (.fin (leGet pl 0 4) (leGet pl 4 4)) else none
    | 0xD3 => if len = 8 then some (.time (leValue pl)) else none
    | 0xD4 => if len = 0 then some .proof else none
    | _ => none

/-- The kind is allowed in the current state (R145, R147, R176); a PARAM_END must end a well-formed set (log 36). -/
def Half.kindOk (x : Half) (k : QKind) : Bool :=
  match k with
  | .trip _ => x.saf.sealOk
  | .chunk _ _ => x.saf.startUp || x.safEdit
  | .fin len check => (x.saf.startUp || x.safEdit) && x.saf.stage.length ≥ len && setOk (x.saf.stage.take len) &&
      leGet x.saf.stage (len - 4) 4 == check
  | .time _ => true
  | .proof => x.st == .standby && x.role.proofTest && x.saf.sealOk

/-- Bytes laid over a buffer at an offset; a gap is filled with zeros. -/
def overlay (buf : List Byte) (ofs : Nat) (bs : List Byte) : List Byte :=
  buf.take ofs ++ List.replicate (ofs - buf.length) 0 ++ bs ++ buf.drop (ofs + bs.length)

/-- A discarded entry (R147). -/
def Half.scrDiscard (x : Half) : Half :=
  (x.modSaf fun s => if s.invalid = 0x7FFF then { s with invOvf := true } else { s with invalid := s.invalid + 1 }).safRaise 118

/-- An accepted set takes the place of the one held; with EDIT off it is tested (R143 to R146, R157). -/
def Half.takeSet (x : Half) (bs : List Byte) (check : Nat) : Half :=
  let body := Config.safBody ((bs.drop 12).take (bs.length - 16))
  let y : Half := x.modSaf fun s => { s with
    held := some (BitVec.ofNat 32 check, leGet bs 6 1, body)
    stage := [], startUp := false, pairFault := [], chanFault := [], dark := [], fi := [], skew := [] }
  let y : Half := (y.initFns.matrix false).matrix true
  if y.safEdit then y else ({ y with saf := { y.saf with sealOk := false } } : Half).testSeal

/-- The effect of an accepted entry (R145, R148, R176). -/
def Half.scrApply (x : Half) (k : QKind) : Half :=
  match k with
  | .trip m => (x.modSaf fun s => { s with qtrip := s.qtrip ||| m, cycTrips := s.cycTrips ||| m }).icuPend 248
  | .chunk ofs bs => x.modSaf fun s => { s with stage := overlay s.stage ofs bs }
  | .fin len check => x.takeSet (x.saf.stage.take len) check
  | .time t => x.modSaf fun s => { s with station := t, stationAt := s.clk }
  | .proof => x.modSaf fun s => { s with proof := true, proofMs := 0 }

/-- The entry at the head of the queue is taken (R147, R148). A set that is not accepted at start-up leaves Scruple
without one, and R144 fails. -/
def Half.scrTake (x : Half) : Half :=
  if x.sqUsed 1 = 0 then x
  else
    let y : Half := (x.modSaf fun s => { s with taken := s.taken + 1 }).advance (Reg.MBX_CH_SQ_HEAD 1) 1
    match x.scrHead with
    | none => y.scrDiscard
    | some k =>
      if x.kindOk k then
        let seq := x.rd (Reg.MBX_CH_SQ_SEQ 1)
        let z : Half := y.wr (Reg.MBX_CH_SQ_SEQ 1) (seq + 1)
        let z : Half := (z.modSaf fun s => { s with lastSeq := seq, anyAcc := true }).icuPend 252
        z.scrApply k
      else
        let z : Half := y.scrDiscard
        match k with
        | .fin _ _ => if x.saf.startUp then z.testSeal else z
        | _ => z

/-- The entry at the head is taken if it is of a kind and the cycle still takes entries (R148). -/
def Half.scrTakeIf (x : Half) (p : QKind → Bool) : Half :=
  if x.safRuns && x.saf.taken < 8 && x.sqUsed 1 != 0 && x.scrHead.any p then x.scrTake.scrFill else x

/-- The entries of one cycle: at most 8 in all (R148). -/
def Half.scrCycle (x : Half) : Half := ((List.range (8 - x.saf.taken)).foldl (fun (y : Half) _ => y.scrTake) x).scrFill

/-! ### Reset inputs (R172, R173) -/

/-- A reset input's state. -/
def Half.safSrs (x : Half) (k : Nat) : SafSrs := x.saf.srs.get {} k
def Half.setSrs (x : Half) (k : Nat) (r : SafSrs) : Half := x.modSaf fun s => { s with srs := s.srs.put k r }

/-- A reset event of an input (R148, R155, R173). -/
def Half.resetEvent (x : Half) (k : Nat) : Half :=
  let m := (x.safSet.queueReset.filter fun e => e.2 == k).foldl (fun (m : Byte) e =>
    if e.1 < 8 && !x.saf.cycTrips.getLsbD e.1 then maskBit m e.1 false else m) x.saf.qtrip
  let y : Half := (x.modSaf fun s => { s with qtrip := m }).icuPend 249
  if !y.saf.sealOk then y
  else y.safSet.funcs.foldl (fun (z : Half) e =>
    if e.2.reset == some k && e.2.typ != 3 && (z.safFn e.1).state == .resetWait then z.armFn e.1 e.2 else z) y

/-! ### The mirror (R179) -/

/-- The diagnostic shown: 7 while the reset input of a function in RESET_WAIT is held, 8 while a queue trip holds one
of its outputs, where the function has none of its own (log 36). -/
def Half.fnDiag (x : Half) (f : Nat) (c : SafFunc) : Nat :=
  let n := x.safFn f
  if n.diag != 0 then n.diag
  else if n.state == .resetWait && c.reset.elim false (fun k => (x.safSrs k).held) then 7
  else if (fnOuts c &&& x.saf.qtrip) != 0 then 8
  else 0

/-- A word of eight bits by a predicate, shifted. -/
def maskOf (n : Nat) (p : Nat → Bool) : Nat := (List.range n).foldl (fun m j => if p j then m + 2 ^ j else m) 0

/-- A safety function shown in its register, as the half x has it (R179). -/
def Half.showFunc (y x : Half) (f : Nat) : Half :=
  match x.safFunc f with
  | some c => y.wr (Reg.SAF_FUNC f) (if c.typ = 0 then 0 else
      BitVec.ofNat 32 (c.typ % 16 + (x.safFn f).state.code * 16 + x.fnDiag f c * 2 ^ 8 + (fnOuts c).toNat * 2 ^ 16))
  | none => y.wr (Reg.SAF_FUNC f) 0

/-- The state of the safety system shown in the SAF registers but those of its functions (R179). -/
def Half.showSaf (x : Half) : Half :=
  let s := x.saf
  let b (c : Bool) (k : Nat) : Nat := if c then 2 ^ k else 0
  let stat := b (s.run && s.sealOk) 0 + b x.safEdit 1 + b s.sealOk 2 + b s.held.isSome 3 + b s.proof 4 +
    b (s.xout != 0 || x.proofXtrip) 5 +
    b s.xin 6 + b x.partnerPresent 7 + s.sealWord.toNat / 64 % 32 * 2 ^ 8 + s.sealWord.toNat % 64 * 2 ^ 13
  let w (v : Nat) : Word := BitVec.ofNat 32 v
  let y : Half := x.wr Reg.SAF_STAT (w stat)
  let y : Half := y.wr Reg.SAF_PCRC ((s.held.map (·.1)).getD 0)
  let y : Half := y.wr Reg.SAF_SI (w (maskOf 16 (fun i => (x.safFlt false i).out) + maskOf 16 (fun i => (x.safFlt true i).out) * 2 ^ 16))
  let y : Half := y.wr Reg.SAF_SO (w (s.permit.toNat + maskOf 8 (x.matPermit false) * 2 ^ 8 + maskOf 8 (x.matPermit true) * 2 ^ 16 +
    s.energised.toNat * 2 ^ 24))
  let y : Half := y.wr Reg.SAF_QTRIP (w s.qtrip.toNat)
  let y : Half := y.wr Reg.SAF_SRS (w ((List.range 4).foldl (fun m k => m + (x.safSrs k).state.code * 4 ^ k) 0 +
    maskOf 4 (fun k => (x.safSrs k).held) * 2 ^ 8))
  let y : Half := y.wr Reg.SAF_RQ (w (s.lastSeq.toNat % 65536 + s.invalid.toNat * 2 ^ 16 + b s.invOvf 31))
  (y.wr Reg.SAF_FI0 (x.safSpeed 0)).wr Reg.SAF_FI1 (x.safSpeed 1)

/-- The SAF window is refreshed (R179). -/
def Half.refreshSaf (x : Half) : Half :=
  let y : Half := (List.range 16).foldl (fun (y : Half) f => y.showFunc x f) x.showSaf
  y.modSaf fun s => { s with accepted := s.anyAcc }

/-- Latch disagreement between the matrices for more than 2 ms (R157). -/
def Half.checkSkew (x : Half) : Half :=
  (List.range 8).foldl (fun (y : Half) j =>
    if y.saf.latchA.getLsbD j == y.saf.latchB.getLsbD j then y.modSaf fun s => { s with skew := s.skew.del j }
    else match y.saf.skew.get? j with
      | none => y.modSaf fun s => { s with skew := s.skew.put j s.clk }
      | some t =>
        if 2000000 < (y.saf.clk - t).toNat then (y.modSaf fun s => { s with skew := s.skew.put j s.clk }).safRaise 116 else y) x

/-- The supervisor delivers the set of the current slot to a Scruple that has had none since its start; without a set
R144 fails at once (R144, R145). -/
def Half.startSet (x : Half) : Half :=
  if !x.safRuns || !x.saf.startUp || !x.domainOn 1 then x
  else match x.st with
    | .off => x
    | .boot => x
    | _ => if x.conf.saf.isEmpty then x.testSeal else x.deliverSet x.conf.saf

/-- Scruple starts: its channel is opened anew and the supervisor, if station firmware runs, delivers the set of the
current slot (R145, R146, R302, R551). -/
def Half.startScruple (x : Half) (word : BitVec 12) : Half :=
  let y : Half := (x.setBit Reg.SYS_PD 5 true).setBit Reg.SYS_PD 13 false
  let y : Half := (List.range 4).foldl (fun (y : Half) i => y.clrReg (Reg.FC_INHIB i) (domainMask [5] i)) y
  let y : Half := (y.setFld Reg.FC_LS_CAUSE 5 4 0)
  let y : Half := ([Reg.MBX_CH_SQ_TAIL 1, Reg.MBX_CH_SQ_HEAD 1, Reg.MBX_CH_SQ_SEQ 1]).foldl (fun (y : Half) a => y.wr a 0) y
  let y : Half := { y with fc := { y.fc with haltScr := false }, mbx := { y.mbx with scrSeq := 0, scrWait := [] } }
  (y.modSaf fun s => { run := true, startUp := true, sealWord := word, tpDrive := 0xFF, proofAt := s.proofAt
                       overdue := s.overdue }).startSet

end Sys2Proof.Machine
end

