-- ==== Sys2Proof/Machine/Boot.lean ====
section
/-! DEFINITION. Boot, native images and the start of a station: the rows of chapter 21, and NEGOTIATION_TIMEOUT and
APPLICATION_LOAD_DONE. -/
namespace Sys2Proof.Machine

/-! ### Boot ROM (R506 to R509) -/

/-- The first slot to try, with a pending trial cleared (R506). -/
def Half.bootChoose (x : Half) : Half :=
  match x.boot.record with
  | none => { x with boot := { x.boot with trying := some (0, false), noSlot := false, trial := false } }
  | some (cur, none) => { x with boot := { x.boot with trying := some (cur, false), noSlot := false, trial := false } }
  | some (cur, some t) =>
    { x with boot := { x.boot with trying := some (t, false), noSlot := false, trial := true, record := some (cur, none) } }

/-- The slot to try after the first has failed (R506). -/
def Half.bootNext (x : Half) (k : Nat) : Option (Nat × Bool) :=
  match x.boot.record with
  | none => some (1, true)
  | some (cur, _) =>
    if x.boot.trial then some (cur, true)
    else if (x.fwSlot (1 - k)).image.isSome then some (1 - k, true) else none

/-- The boot ROM may start (R494, R527). -/
def Half.mayBoot (x : Half) : Bool :=
  x.st == .boot && x.domainOn 1 && x.bit Reg.SYS_STAT 8 && !x.sys.slotBad && x.boot.trying.isNone

/-- BOOT_ROM_START (R506, R528): the presence contact has been made for 100 ms, as the command says. -/
def execBootRomStart (h : HalfId) (s : State) : Host.Outcome State Fault Refusal :=
  onHalf s h fun x => if x.mayBoot && !x.boot.noSlot then x.bootChoose else x

/-- BOOT_RETRY (R509): 60 s after no slot verified. -/
def execBootRetry (h : HalfId) (s : State) : Host.Outcome State Fault Refusal :=
  onHalf s h fun x => if x.mayBoot && x.boot.noSlot && x.upGone x.boot.noSlotAt 60000000 then x.bootChoose else x

/-- A firmware image that verifies (R507). -/
def fwVerifies (i : Image) (sigOk : Bool) : Bool :=
  i.wellFormed && i.kind = 1 && i.target = 0 && i.keyId = 0 && Config.minSecVer ≤ i.secVer && sigOk

/-- The station key: a half that holds none makes one where no partner holds one (R440). -/
def Half.makeKey (x : Half) (partnerHas : Bool) : Half :=
  if x.boot.key.isSome || partnerHas then x
  else
    let (v, y) := x.free
    { y with boot := { y.boot with key := some v } }

/-- BOOT_IMAGE_VERIFIED (R506 to R509): `sigOk` is the outcome of the signature's check. -/
def execBootImageVerified (h : HalfId) (sigOk : Bool) (s : State) : Host.Outcome State Fault Refusal :=
  let p := s.half h.other
  onHalf s h fun x =>
    match x.boot.trying with
    | none => x
    | some (k, second) =>
      if x.st != .boot then x
      else match (x.fwSlot k).image.filter fun i => fwVerifies i sigOk with
        | some i =>
          let y : Half := { x with boot := { x.boot with
            trying := none, running := k, version := i.version, stateFormat := Config.stateFormat i.body
            trial := x.boot.trial && !second } }
          let y : Half := (y.enterNative).makeKey (p.boot.key.isSome && p.st != .off)
          y.startSet
        | none =>
          let next := if second then none else x.bootNext k
          { x with boot := { x.boot with trying := next, noSlot := next.isNone, noSlotAt := x.sys.up, trial := x.boot.trial && second } }

/-! ### Native images (R511 to R513, R516) -/

/-- The images that station firmware and configuration carry for NATIVE, in their order (R243, R513, R516). -/
def Half.imageList (x : Half) : List Image :=
  let fw := (Config.firmwareImages (((x.fwSlot x.boot.running).image.getD {}).body)).map parseImage
  let kind (k : Nat) : List Image := fw.filter fun i => i.kind = k
  if x.boot.recovery.isSome then (x.conf.recoveryImage.toList.map parseImage) ++ kind 4
  else kind 2 ++ x.conf.startImages.map parseImage ++ (if x.fld Reg.FC_CTRL 2 1 = 2 then kind 3 else [])

/-- The list made, once. -/
def Half.initImages (x : Half) : Half :=
  if x.boot.imgInit then x else { x with boot := { x.boot with imgInit := true, images := x.imageList } }

/-- The image that runs ends; an integrator start-up image has used its time of the 1.0 s for all (R513). -/
def Half.imageEnds (x : Half) : Half :=
  { x with boot := { x.boot with
      intUsed := if x.boot.current.any (fun i => i.kind = 5) then x.boot.intUsed + (x.sys.up - x.boot.startedAt) else x.boot.intUsed
      current := none } }

/-- The microseconds that the image that runs may take (R512, R513). -/
def Half.imageLimit (x : Half) (i : Image) : Nat :=
  if i.kind = 5 then min (i.limit * 1000) (1000000 - x.boot.intUsed.toNat / 1000) else i.limit * 1000

/-- An image fails: recovery (R516); in recovery the next one follows. -/
def Half.imageFails (x : Half) : Half :=
  if x.boot.recovery.isSome then { x with boot := { x.boot with current := none } }
  else { x with boot := { x.boot with current := none, recovery := some 2, imgInit := false, images := [] } }

/-- NATIVE_IMAGE_START (R511). -/
def execNativeImageStart (h : HalfId) (sigOk : Bool) (s : State) : Host.Outcome State Fault Refusal :=
  onHalf s h fun x =>
    if x.st != .native || x.boot.startupDone || x.boot.current.isSome || !x.domainOn 2 then x
    else
      let y : Half := x.initImages
      match y.boot.images with
      | [] => y
      | i :: rest =>
        let y : Half := { y with boot := { y.boot with images := rest } }
        if i.wellFormed && i.target = 1 && sigOk then { y with boot := { y.boot with current := some i, startedAt := x.sys.up } } else y.imageFails

/-- NATIVE_IMAGE_RETURN (R511): the result in a0. -/
def execNativeImageReturn (h : HalfId) (a0 : DWord) (s : State) : Host.Outcome State Fault Refusal :=
  onHalf s h fun x =>
    if x.boot.current.isNone then x
    else if a0 == 0 then x.imageEnds
    else x.imageEnds.imageFails

/-- NATIVE_IMAGE_TIMEOUT (R512, R513): the limit has passed; PD2 is reset. -/
def execNativeImageTimeout (h : HalfId) (s : State) : Host.Outcome State Fault Refusal :=
  onHalf s h fun x => 
    match x.boot.current with
    | none => x
    | some i => if x.upGone x.boot.startedAt (x.imageLimit i) then (x.imageEnds.imageFails).resetDoms 4 else x

/-! ### To block service (R190, R503, R519, R526) -/

/-- Enables that the firmware sets for block service (log 38). -/
def serviceEnables : List Nat := [Reg.CE_CTRL, Reg.CV_CTRL, Reg.ETH_CTRL, Reg.SER_CTRL]

/-- The hand-over to the block executor (R519); a worker half in block service joins its League (R256). -/
def Half.handOver (x : Half) : Half :=
  let y : Half := ((x.cvStop 3).cvStop 7).resetDoms 4
  let y : Half := (List.range 256).foldl (fun (z : Half) i => z.setFld (Reg.ICU_SRC i) 4 0 0) y
  let y : Half := { y with boot := { y.boot with startupDone := true } }
  let y : Half := y.loadRegs fun _ => true
  let y : Half := (serviceEnables.foldl (fun (z : Half) a => z.setBit a 0 true) y).setFld (Reg.MBX_CH_CTRL 0) 10 8 3
  let y : Half := if y.cfg.cur.isSome && !y.conf.manager then y.sendJoin else y
  y.negotiate

/-- STARTUP_DONE (R182, R516, R519, R526). -/
def execStartupDone (h : HalfId) (s : State) : Host.Outcome State Fault Refusal :=
  onHalf s h fun x =>
    if x.st != .native || x.boot.startupDone || x.boot.current.isSome || x.boot.recovery.isSome then x
    else
      let y : Half := x.initImages
      if !y.boot.images.isEmpty then x
      else
        let into (c : Nat) : Half := { y with boot := { y.boot with recovery := some c, imgInit := false } }
        if !s.stn.identOk then into 4
        else if y.cfg.cur.isNone && !y.partnerClaim then into 1
        else y.handOver

/-- NEGOTIATION_TIMEOUT (R190). -/
def execNegotiationTimeout (h : HalfId) (s : State) : Host.Outcome State Fault Refusal :=
  onHalf s h fun x =>
    if x.st != .native || !x.role.negotiating || !x.goneUs x.role.negAt 5000000 then x else if x.partnerClaim then x.trySync else x.startLoading

/-- APPLICATION_LOAD_DONE (R182, R503): the half becomes ACTIVE, unless its partner claimed first. -/
def execApplicationLoadDone (h : HalfId) (s : State) : Host.Outcome State Fault Refusal :=
  onHalf s h fun x =>
    if x.st != .native || !x.role.loading then x
    else if x.partnerClaim then ({ x with role := { x.role with loading := false } } : Half).trySync
    else match x.cfg.cur with
      | none => ({ x with
          role := { x.role with loading := false }
          boot := { x.boot with recovery := some 1, startupDone := false } } : Half).setFld (Reg.MBX_CH_CTRL 0) 10 8 4
      | some _ => x.startStation

end Sys2Proof.Machine
end

