-- ==== Sys2Proof/Machine/Can.lean ====
section
/-! DEFINITION. The rows of chapter 15: CAN_FRAME_RECEIVE to CAN_XCVR. -/
namespace Sys2Proof.Machine

/-- A frame stored in an object (R413, R414). -/
def Half.canTakeFrame (x : Half) (c head : Nat) (f : CanFrame) : Half :=
  match x.canPlace c head with
  | none => ((x.canCount c (Reg.CAN_LOST c)).setBit (Reg.CAN_STAT c) 7 true |>.canIrq c 4).raise 98
  | some n =>
    let y : Half := if x.canFull c n then x.setBit (Reg.CAN_OBJ_CFG c n) 25 true else x
    let y : Half := (y.canStore c n y.now f).setFull c n true
    let y : Half := if (x.canObj c head).getLsbD 7 then
        { y with can := { y.can with fifo := y.can.fifo.put (canKey c head) (getField (y.canObj c n) 14 8) } } else y
    let y : Half := (y.canCount c (Reg.CAN_RXCNT c)).canIrq c 0
    y.canImport c head f.data

/-- The last frame of each own send object's identifier seen on the bus (R423). -/
def Half.canRecord (x : Half) (c : Nat) (f : CanFrame) : Half :=
  (x.canObjs c true).foldl (fun (y : Half) n =>
    let w := y.canObj c n
    if getField w 3 2 = f.fmt && (f.fmt = 2 || w.getLsbD 4 == f.ide) && ((y.rd (Reg.CAN_OBJ_ID c n) ^^^ f.id) &&& 0x1FFFFFFF) == 0
    then { y with can := { y.can with seen := y.can.seen.put (canKey c n) (f.data, y.mono) } }
    else y) x

/-- CAN_FRAME_RECEIVE (R409, R413 to R415, R420, R423): a remote frame and one that no object matches are discarded. -/
def execCanFrameReceive (h : HalfId) (ctl : Nat) (f : CanFrame) (s : State) : Host.Outcome State Fault Refusal :=
  onHalf s h fun x =>
    if !x.canReceives ctl || !x.canCarries ctl f then x
    else
      let y : Half := (x.canGood ctl f).canFall ctl false
      let y : Half := if (y.canCtl ctl).drives then y else (y.canIdle ctl).canRecord ctl f
      if f.rtr then y
      else match (y.canObjs ctl false).find? fun n => y.canMatch ctl n f with
        | some n => y.canTakeFrame ctl n f
        | none => y

/-- CAN_SEND_DUE (R416): a periodic object at its due instant, and at no other time. A frame of it that waits already brings no new data, and
is not counted as replaced. -/
def execCanSendDue (h : HalfId) (ctl : Nat) (obj : Nat) (s : State) : Host.Outcome State Fault Refusal :=
  onHalf s h fun x =>
    let due := x.conf.canSends.any fun o => o.ctl == ctl && o.obj == obj && x.canIsDue o
    if due && (x.canObj ctl obj).getLsbD 0 && (x.canObj ctl obj).getLsbD 1 && x.canSends ctl && !x.canFull ctl obj then
      x.setFull ctl obj true
    else x

/-- CAN_FRAME_SENT (R412, R416, R424): a frame that lost arbitration or met an error waits on; a half that has left the
bus may still finish the one in transmission. -/
def execCanFrameSent (h : HalfId) (ctl : Nat) (obj : Nat) (how : CanEnd) (s : State) : Host.Outcome State Fault Refusal :=
  onHalf s h fun x =>
    let waits := x.canFull ctl obj || (x.canCtl ctl).finishing.contains obj
    if how != .sent || !x.domainOn 4 || !(x.canObj ctl obj).getLsbD 1 || !waits || 2 ≤ x.canErr ctl then x
    else
      let f := x.canLoad ctl obj
      let y : Half := (((x.canIdle ctl).canStore ctl obj x.now f).setFull ctl obj false).send (.canFrame ctl obj f)
      ((y.canCount ctl (Reg.CAN_TXCNT ctl)).canIrq ctl 1).canFall ctl true

/-- CAN_ERROR (R418, R420, R425): the counters after an error, and the error state that they give. In listen-only they
stay at 0; in rate detection an error moves to the next candidate. -/
def execCanError (h : HalfId) (ctl : Nat) (tec : Nat) (rec : Nat) (s : State) : Host.Outcome State Fault Refusal :=
  onHalf s h fun x =>
    if !x.canHears ctl then x
    else if x.canDetects ctl then x.canNext ctl
    else if x.canEff ctl != 1 || 2 ≤ x.canErr ctl then x
    else
      let y : Half := x.setEcr ctl tec rec
      if 256 ≤ tec then
        let z : Half := y.setErr ctl 2
        if z.bit (Reg.CAN_CTRL ctl) 5 then z else z.canRelease ctl
      else y.setErr ctl (if 128 ≤ tec || 128 ≤ rec then 1 else 0)

/-- CAN_BUSOFF_RECOVERED (R418). -/
def execCanBusoffRecovered (h : HalfId) (ctl : Nat) (s : State) : Host.Outcome State Fault Refusal :=
  onHalf s h fun x => if x.canHears ctl && x.canErr ctl = 3 && x.goneUs (x.canCtl ctl).recovAt (x.canRecovery ctl) then (x.setEcr ctl 0 0).setErr ctl 0 else x

/-- BO_REL (R418, R426): a write of BO_REL in gated mode. -/
def execBoRel (h : HalfId) (ctl : Nat) (s : State) : Host.Outcome State Fault Refusal :=
  onHalf s h fun x => if x.canHears ctl && x.bit (Reg.CAN_CTRL ctl) 5 then x.canRelease ctl else x

/-- BO_DELAY (R419): BO_DELAY after bus off firmware releases, at most BO_MAX times within 60 operating minutes; after
that the controller stays bus off until its restart point is written. -/
def execBoDelay (h : HalfId) (ctl : Nat) (s : State) : Host.Outcome State Fault Refusal :=
  onHalf s h fun x =>
    let used := (x.canCtl ctl).releases.filter fun m => (x.opmin - m).toNat < 60
    if !x.canHears ctl || !x.bit (Reg.CAN_CTRL ctl) 5 || x.canErr ctl != 2 || (x.canCtl ctl).stuck ||
        !x.gone (x.canCtl ctl).offAt (x.fld (Reg.CAN_BO_CFG ctl) 15 0) then x
    else if x.fld (Reg.CAN_BO_CFG ctl) 19 16 ≤ used.length then x.modCan ctl fun k => { k with stuck := true }
    else
      let y : Half := x.modCan ctl fun k => { k with releases := used ++ [x.opmin] }
      (y.setFld (Reg.CAN_BO_CFG ctl) 23 20 (used.length + 1)).canRelease ctl

/-- CAN_RATE_CANDIDATE_TIMEOUT (R420). -/
def execCanRateCandidateTimeout (h : HalfId) (ctl : Nat) (s : State) : Host.Outcome State Fault Refusal :=
  onHalf s h fun x => 
    if x.canHears ctl && x.canDetects ctl && x.goneUs (x.canCtl ctl).candAt 100000 then x.canNext ctl else x

/-- CAN_RATE_NONE (R420): detection goes on. -/
def execCanRateNone (h : HalfId) (ctl : Nat) (s : State) : Host.Outcome State Fault Refusal :=
  onHalf s h fun x => 
    if x.canHears ctl && x.canDetects ctl && x.goneUs (x.canCtl ctl).detAt 10000000 then
      ((x.modCan ctl fun k => { k with detAt := x.mono }).setBit (Reg.CAN_ABD ctl) 5 true).canIrq ctl 6
    else x

/-- CAN_SLEEP (R421): the first bus idle after the rising edge of the sleep point, or in MODE 4 (log 84); frames waiting
are discarded and not counted. -/
def execCanSleep (h : HalfId) (ctl : Nat) (s : State) : Host.Outcome State Fault Refusal :=
  onHalf s h fun x => 
    if x.canHears ctl && ((x.canCtl ctl).sleepReq || x.canMode ctl = 4) then
      ((x.canDrop ctl).modCan ctl fun k => { k with sleepReq := false }).setBit (Reg.CAN_STAT ctl) 6 true
    else x

/-- CAN_BUS_WAKE (R422): by an edge, or by a frame that matches the wake filter. -/
def execCanBusWake (h : HalfId) (ctl : Nat) (frame : Option (CanFrame)) (s : State) : Host.Outcome State Fault Refusal :=
  onHalf s h fun x =>
    let ok := !x.bit (Reg.CAN_CTRL ctl) 7 || frame.any fun f =>
      let id := x.rd (Reg.CAN_WAKE_ID ctl)
      let dm := (x.rd (Reg.CAN_WAKE_DM_LO ctl)).toNat + (x.rd (Reg.CAN_WAKE_DM_HI ctl)).toNat * 2 ^ 32
      f.fmt = 0 && !f.rtr && f.ide == id.getLsbD 29 && ((f.id ^^^ id) &&& x.rd (Reg.CAN_WAKE_MASK ctl) &&& 0x1FFFFFFF) == 0 &&
        (dm = 0 || leGet f.data 0 8 &&& dm != 0)
    if 4 ≤ ctl || !x.domainOn 4 || !x.canAsleep ctl || !ok then x
    else
      (((x.modCan ctl fun k => { k with wokeAt := some x.mono }).setBit (Reg.CAN_STAT ctl) 6 false).setBit (Reg.CAN_STAT ctl) 5
        true).canIrq ctl 5

/-- CAN_ROLE_CHANGE (R207, R423, R424): at the first bus idle after H_V the incoming half takes the bus, the outgoing
half leaves it. -/
def execCanRoleChange (h : HalfId) (ctl : Nat) (s : State) : Host.Outcome State Fault Refusal :=
  onHalf s h fun x =>
    if 4 ≤ ctl || !x.domainOn 4 then x
    else
      let take (y : Half) : Half := if (y.canCtl ctl).drives then y else y.canTakeBus ctl
      match x.role.ho with
      | some k => if k.stage < 2 then x else if k.outgoing then (x.canLeaveBus ctl).canIdle ctl else take x
      | none => if x.isActive then take x else (x.canLeaveBus ctl).canIdle ctl

/-- CAN_XCVR (R425). -/
def execCanXcvr (h : HalfId) (ctl : Nat) (s : State) : Host.Outcome State Fault Refusal :=
  onHalf s h fun x => if ctl < 4 && x.domainOn 4 then (x.canIrq ctl 7).raise 99 else x

end Sys2Proof.Machine
end

