-- ==== Sys2Proof/Machine/Trace.lean ====
section
/-! DEFINITION. Generators and trace channels: commands TG_START to TC_RESET (chapter 5). -/
namespace Sys2Proof.Machine

/-- Generators and traces act on the active half only (R133). -/
def Half.tunes (x : Half) : Bool := x.isActive && x.domainOn 3

/-- TG_START (R132): a generator that is not running enters WAITING and arms the channels whose trigger is its start. -/
def execTgStart (h : HalfId) (tg : Nat) (s : State) : Host.Outcome State Fault Refusal :=
  onHalf s h fun x =>
    if 4 ≤ tg || !x.tunes || x.tgState tg = 1 || x.tgState tg = 2 then x
    else x.tgStarted tg (BitVec.ofNat 8 ((x.tcWith 3 tg).foldl (fun m c => m + 2 ^ c) 0)) none

/-- TG_STOP (R132): it ends early. -/
def execTgStop (h : HalfId) (tg : Nat) (s : State) : Host.Outcome State Fault Refusal :=
  onHalf s h fun x => if tg < 4 && (x.tgState tg = 1 || x.tgState tg = 2) then x.tgEnd tg ST_ABORTED else x

/-- TG_RUN_START (R132, R137): every named channel holds its pre-trigger samples; t = 0 is now. -/
def execTgRunStart (h : HalfId) (tg : Nat) (s : State) : Host.Outcome State Fault Refusal :=
  onHalf s h fun x =>
    let ready := (List.range 8).all fun c => !(x.tg tg).mask.getLsbD c || x.tcState c != 1
    if 4 ≤ tg || x.tgState tg != 1 || !ready then x
    else
      let seed := prbsSeed (x.fld (Reg.TG_PRBS tg) 4 0) (x.rd (Reg.TG_SEED tg))
      let y : Half := (x.setFld (Reg.TG_STAT tg) 1 0 2).modTg tg fun s =>
        { s with start := x.mono, t0 := x.now, prbs := seed, k := 0 }
      y.tcEvent 3 tg

/-- TG_DONE (R132): DUR has passed. -/
def execTgDone (h : HalfId) (tg : Nat) (s : State) : Host.Outcome State Fault Refusal :=
  onHalf s h fun x => if tg < 4 && x.tgState tg = 2 then x.tgEnd tg ST_OK else x

/-- TC_ARM (R136): from IDLE or DONE. -/
def execTcArm (h : HalfId) (tc : Nat) (s : State) : Host.Outcome State Fault Refusal :=
  onHalf s h fun x => if tc < 8 && x.tunes && (x.tcState tc = 0 || x.tcState tc = 4) then x.tcArmed tc else x

/-- TC_TRIGGER (R137). -/
def execTcTrigger (h : HalfId) (tc : Nat) (s : State) : Host.Outcome State Fault Refusal :=
  onHalf s h fun x => if tc < 8 then Half.tcTrigger 64 x [tc] else x

/-- TC_STOP (R136). -/
def execTcStop (h : HalfId) (tc : Nat) (s : State) : Host.Outcome State Fault Refusal :=
  onHalf s h fun x => if tc < 8 then x.tcStopped tc else x

/-- TC_RESET (R136): from DONE. -/
def execTcReset (h : HalfId) (tc : Nat) (s : State) : Host.Outcome State Fault Refusal :=
  onHalf s h fun x => if tc < 8 && x.tcState tc = 4 then x.tcIdle tc else x

end Sys2Proof.Machine
end

