-- ==== Sys2Proof/Machine/Mbx.lean ====
section
/-! DEFINITION. Mailbox commands from their entries to their meanings: abort points and ABORT (R287), the end of a
channel (R283, R284), consumption (R275 to R286), and the checks that every command passes in order (R305). -/
namespace Sys2Proof.Machine

/-! ### Abort points (R287) -/

/-- The opcode has an abort point (the tables of R308 to R333). -/
def abortable (c : Ctx) : Bool :=
  [0x30, 0x32, 0x33, 0x40, 0x41, 0x51, 0x52, 0x70, 0x81, 0x82, 0xA0].contains c.op || (c.op = 0x20 && c.payload.getD 1 0 == 2)

/-- A command that has not passed its last abort point is stopped there (R287); none where it has passed it. -/
def Half.cancel (x : Half) (c : Ctx) : Option Half :=
  let r := c.ref
  if c.done.isSome || c.past || !abortable c then none
  else if !c.started then some x
  else if c.op = 0x20 then x.dropStop r
  else if c.op = 0x32 || c.op = 0x33 then
    if x.cfg.pend.any fun p => p.cmd == some r && !p.switched then some (x.cancelSwitch.sendCfg .cancelSwitch) else none
  else if c.op = 0x41 || c.op = 0x51 || c.op = 0x52 then
    if x.role.cmd == some r && (x.pendingHo true).isSome then
      some ((x.sendRole .abort).staysActive ST_ABORTED)
    else none
  else if c.op = 0x81 then
    match x.ce.chains.find? fun e => e.2.swap.any fun w => w.cmd == some r with
    | none => none
    | some (k, m) =>
      let bank := ((m.flight.bind (·.swap)).map (·.bankB)).getD m.bankB
      some ((x.requestSwap k { bankB := bank }).forwardCe (.swap k bank false))
  else if c.op = 0x82 then
    match (List.range 4).find? fun g => (x.tg g).cmd == some r with
    | some g => some (x.tgEnd g ST_ABORTED)
    | none => none
  else none

/-- ABORT at its consumption (R287): `tag` is its own, `target` the one it names. -/
def Half.abortCmd (x : Half) (ch tag gen target : Nat) : Half :=
  let late (st : Nat) : LateDone := { op := 0xF0, tag := tag, status := st, gen := gen }
  match x.ctx ch target with
  | none => x.lateDone ch (late ST_NOT_PENDING)
  | some c =>
    match c.fwd with
    | some t => x.abortPeer t gen (some { ch := ch, tag := tag, gen := gen, uid := c.uid })
    | none =>
      let join (st : Nat) (y : Half) : Half := y.modCtx ch target fun d => { d with aborters := d.aborters ++ [(tag, st)] }
      match (join ST_OK x).cancel c with
      | some y => y.finish ch target ST_ABORTED []
      | none => join ST_NOT_PENDING x

/-! ### The end of a channel (R283, R284) -/

/-- Every pending command of a channel is stopped at its next abort point, a forwarded one at the partner (R284,
R300). -/
def Half.cancelAll (x : Half) (ch : Nat) : Half :=
  (x.mbx.ctxs.filter fun c => c.ch == ch && c.started).foldl (fun (y : Half) c =>
    let y : Half := y.stopPeer c
    ({ y with mbx := { y.mbx with ctxs := y.mbx.ctxs.filter fun d => !(d.ch == ch && d.tag == c.tag) } } : Half) |> fun z =>
      (z.cancel c).getD z) (x.orphan ch)

/-- A session of channels 2 to 6 ends, with CLOSE (R284, R291). -/
def Half.closeCh (x : Half) (ch code : Nat) : Half := (x.cancelAll ch).endSession ch code

/-- A protocol error of channels 0 and 2 to 6 (R283): channel 0 halts, a session ends. -/
def Half.protoError (x : Half) (ch code : Nat) : Half :=
  let a := Reg.MBX_CH_ERRCNT ch
  let y : Half := if x.rd a == 0xFFFFFFFF then x.setBit (Reg.MBX_CH_CTX ch) 17 true else x
  let y : Half := y.incSat a
  if ch = 0 then
    let y : Half := y.cancelAll 0
    let y : Half := ({ y with mbx := { y.mbx with
        ctxs := y.mbx.ctxs.filter fun c => c.ch != 0
        waits := y.mbx.waits.filter fun c => c != 0 } } : Half).poolStatus
    let y : Half := y.modChan 0 fun c => { c with late := [] }
    ((y.setBit (Reg.MBX_CH_CTRL 0) 1 true).setFld (Reg.MBX_CH_CTRL 0) 15 12 code).irq Reg.MBX_IRQ_STAT Reg.MBX_IRQ_EN 8 40
  else y.closeCh ch code

/-! ### Consumption (R275 to R286) -/

/-- The half serves a channel's submissions; a halted supervisor does not (R223). -/
def Half.mbxServes (x : Half) (ch : Nat) : Bool :=
  x.domainOn 1 && !x.fc.haltSup && x.bit Reg.MBX_CTRL 0 && ch < 8 && ch != 1 && x.chOpen ch && !x.bit (Reg.MBX_CH_CTRL ch) 1

/-- The entries in a submission ring, oldest first (R274, R301). -/
def Half.ring (x : Half) (ch : Nat) : List Entry :=
  if ch = 0 then
    (List.range (x.sqUsed 0)).map fun i =>
      (List.range 16).map fun j => x.rd (ringAddr 0x30024000 ((x.rd (Reg.MBX_CH_SQ_HEAD 0)).toNat + i) j)
  else (x.chan ch).sq

/-- The error of an entry against the seq expected of it (R282, R283). -/
def entryErr (e : Entry) (seq : Word) : Option Nat :=
  if e.length != 16 then some 1
  else if e.getD 1 0 != seq then some 2
  else if e.getD 15 0 != cv0 (foldSeq seq (wordsBytes (e.take 15))) then some 1
  else none

/-- The command at the head of a ring: its entries, none while a chain has not arrived whole, or the error that it
makes (R283, R286). -/
def gather : List Entry → Word → List Entry → Except Nat (Option (List Entry))
  | [], _, _ => .ok none
  | e :: es, seq, acc =>
    match entryErr e seq with
    | some k => .error k
    | none =>
      let w := e.getD 0 0
      let code := getField w 15 14
      match acc with
      | [] => if code = 0 then .ok (some [e]) else if code = 1 && getField w 27 24 = 3 then gather es (seq + 1) [e] else .error 5
      | f :: _ =>
        if code < 2 || getField w 13 0 != getField (f.getD 0 0) 13 0 || 32 ≤ acc.length then .error 5
        else if code = 3 then .ok (some (acc ++ [e]))
        else gather es (seq + 1) (acc ++ [e])

/-- Payload bytes of a submission entry (R280). -/
def entryPayload (e : Entry) : List Byte := (wordsBytes ((e.drop 2).take 13)).take (getField (e.getD 0 0) 23 16)

/-- A reserved bit of word 0 is set, or the length is above 52 (R280). -/
def entryBad (e : Entry) : Bool := getField (e.getD 0 0) 31 28 != 0 || Nat.blt 52 (getField (e.getD 0 0) 23 16)

/-- A generation that the channel takes (R272, R283). -/
def Half.genOk (x : Half) (ch gen : Nat) : Bool := if ch = 7 then gen = 2 || gen = 3 else gen = x.chGen ch

/-- A context is available to a channel (R277). -/
def Half.ctxAvail (x : Half) (ch : Nat) : Bool :=
  x.mbx.ctxs.length < 256 && x.ctxHeld ch < 64 && (ch = 0 || ch = 7 || x.ctxShared + (x.ctxReserve - 32) < 224)

/-- The opcodes of R308 to R333 that take a context. -/
def knownOps : List Nat :=
  [0x02, 0x03, 0x10, 0x11, 0x12, 0x13, 0x14, 0x15, 0x20, 0x21, 0x30, 0x31, 0x32, 0x33, 0x40, 0x41, 0x50, 0x51, 0x52, 0x60,
   0x61, 0x62, 0x70, 0x71, 0x80, 0x81, 0x82, 0x83, 0x84, 0x90, 0x91, 0xA0, 0xA1, 0xB0, 0xB1, 0xC0]

/-- The submission head passes n entries, and the command's tag is owned (R274, R282, R285). -/
def Half.takeHead (x : Half) (ch n tag : Nat) : Half :=
  let y : Half := (x.advance (Reg.MBX_CH_SQ_HEAD ch) n).wr (Reg.MBX_CH_SQ_SEQ ch) (x.rd (Reg.MBX_CH_SQ_SEQ ch) + BitVec.ofNat 32 n)
  let y : Half := { y with mbx := { y.mbx with waits := y.mbx.waits.filter fun c => c != ch } }
  (y.modChan ch fun c => { c with sq := c.sq.drop n, owned := c.owned ++ [tag] }).poolStatus

/-- NOP at its consumption (R308). -/
def nopDone (tag gen : Nat) (payload : List Byte) (bad : Bool) : LateDone :=
  if bad || Nat.blt 52 payload.length then { op := 1, tag := tag, status := ST_BAD_LENGTH, gen := gen }
  else { op := 1, tag := tag, status := ST_OK, gen := gen
         payload := payload ++ List.replicate ((4 - payload.length % 4) % 4) 0 }

/-- A command of an accepted entry or chain is consumed (R275, R277 to R279). -/
def Half.consumeCmd (x : Half) (ch : Nat) (es : List Entry) : Half :=
  let w := (es.headD []).getD 0 0
  let op := getField w 7 0
  let tag := getField w 13 8
  let gen := getField w 27 24
  let payload := es.flatMap entryPayload
  let bad := es.any entryBad
  if op = 1 then (x.takeHead ch es.length tag).lateDone ch (nopDone tag gen payload bad)
  else if op = 0xF0 then
    let y : Half := x.takeHead ch es.length tag
    if bad || payload.length != 1 || Nat.ble 64 (payload.headD 0).toNat then
      y.lateDone ch { op := op, tag := tag, status := ST_BAD_LENGTH, gen := gen }
    else if x.st == .latched then y.lateDone ch { op := op, tag := tag, status := ST_NOT_ACTIVE, gen := gen }
    else y.abortCmd ch tag gen (payload.headD 0).toNat
  else if !x.ctxAvail ch then
    let b := if ch = 0 || ch = 7 then 1 else 0
    let y : Half := if x.bit Reg.MBX_STAT b then x else
      (x.setBit Reg.MBX_STAT b true).irq Reg.MBX_IRQ_STAT Reg.MBX_IRQ_EN 17 49
    { y with mbx := { y.mbx with wasFull := true, waits := if y.mbx.waits.contains ch then y.mbx.waits else y.mbx.waits ++ [ch] } }
  else
    let c : Ctx := { ch := ch, tag := tag, op := op, gen := gen, payload := payload, malformed := bad, uid := x.mbx.nextUid
                     role := if ch = 7 then 4 else x.fld (Reg.MBX_CH_CTRL ch) 10 8 }
    let y : Half := x.takeHead ch es.length tag
    let y : Half := ({ y with mbx := { y.mbx with ctxs := y.mbx.ctxs ++ [c], nextUid := y.mbx.nextUid + 1 } } : Half).poolStatus
    if knownOps.contains op && (op != 0x13 || gen = 3) then y else y.finish ch tag ST_BAD_OPCODE []

/-- The command at a submission head, or the protocol error that its entries make (R283). -/
def Half.headCmd (x : Half) (ch : Nat) : Except Nat (Option (List Entry)) :=
  match gather (x.ring ch) (x.rd (Reg.MBX_CH_SQ_SEQ ch)) [] with
  | .error k => .error k
  | .ok none => .ok none
  | .ok (some es) =>
    if !es.all fun e => x.genOk ch (getField (e.getD 0 0) 27 24) then .error 6
    else if (x.chan ch).owned.contains (getField ((es.headD []).getD 0 0) 13 8) then .error 3
    else .ok (some es)

/-- A half's step may stop its own handover or break channel 7: the partner follows (R207, R283). -/
def consumeOn (s : State) (h : HalfId) (ch : Nat) (p : Nat → Bool) : State :=
  let x := s.half h
  if !x.mbxServes ch then s
  else match x.headCmd ch with
    | .ok none => s
    | .error k =>
      if ch = 7 then (s.mod h fun x => (x.peerError k).resetPeer).mod h.other Half.resetPeer
      else
        let y := x.protoError ch k
        let t := s.mod h fun _ => y
        if (x.pendingHo true).isSome && y.role.ho.isNone then t.mod h.other Half.dropOffer else t
    | .ok (some es) =>
      if p (getField ((es.headD []).getD 0 0) 13 0) then
        let y := x.consumeCmd ch es
        let t := s.mod h fun _ => y
        let t := if ch = 7 then t.mod h.other fun p => p.peerHead (y.rd (Reg.MBX_CH_SQ_SEQ 7)) else t
        if (x.pendingHo true).isSome && y.role.ho.isNone then t.mod h.other Half.dropOffer else t
      else s

/-! ### The checks of R305 -/

/-- The Half column of the tables (R306). -/
inductive Needs where
  | either | active | standby
  /-- As active; in recovery also for a service session on channel 6 (R517). -/
  | config
  deriving DecidableEq, Repr

/-- The half's state permits a command (R238, R306). -/
def Half.permitsCmd (x : Half) (n : Needs) (c : Ctx) : Bool :=
  if x.st == .latched then [0x02, 0x03, 0x50, 0x60, 0x61, 0x70, 0x71, 0xC0].contains c.op
  else match n with
    | .either => x.st != .off && x.st != .boot
    | .active => x.isActive
    | .standby => x.st == .standby
    | .config => x.isActive || (x.boot.recovery.isSome && x.st == .native && c.ch == 6 && c.role == 4)

/-- The oldest command of a channel that has not started (R275); a halted supervisor starts none (R223). -/
def Half.nextCmd (x : Half) (ch : Nat) : Option Ctx :=
  if x.fc.haltSup then none else x.mbx.ctxs.find? fun c => c.ch == ch && !c.started && c.done.isNone

/-- The status of a context completed. -/
def Half.reply (x : Half) (c : Ctx) (st : Nat) (payload : List Byte) : Half := x.finish c.ch c.tag st payload

/-- A command completes once the partner has acknowledged the REL item sent last; at once without a partner (R99, R318). -/
def Half.replyAcked (x : Half) (c : Ctx) (st : Nat) (payload : List Byte) : Half :=
  let n := x.span.nextItem - 1
  if (x.peer.any fun p => p.state == 3 || p.state == 4) && x.span.unacked.any fun u => u.item == n then
    x.modCtx c.ch c.tag fun d => { d with item := some (n, st, payload), past := true }
  else x.reply c st payload

/-- A command starts: the checks of R305 in order, then its own meaning. It completes with the first that fails. A
command without abort point is past its last one. -/
def Half.cmd (x : Half) (ch tag op : Nat) (lenOk : Ctx → Bool) (role : Ctx → Nat) (need : Ctx → Needs)
    (body : Half → Ctx → Half) : Half :=
  match x.nextCmd ch with
  | none => x
  | some c =>
    if c.tag != tag || c.op != op then x
    else
      let y : Half := x.modCtx ch tag fun d => { d with started := true, past := !abortable c, at_ := x.mono }
      if c.malformed || !lenOk c then y.reply c ST_BAD_LENGTH []
      else if c.role < role c then y.reply c ST_DENIED []
      else if !x.permitsCmd (need c) c then y.reply c ST_NOT_ACTIVE []
      else body y c

/-- Roles by rank (R296). -/
abbrev viewer : Ctx → Nat := fun _ => 1
abbrev operator : Ctx → Nat := fun _ => 2
abbrev engineer : Ctx → Nat := fun _ => 3
abbrev service : Ctx → Nat := fun _ => 4
abbrev onEither : Ctx → Needs := fun _ => .either
abbrev onActive : Ctx → Needs := fun _ => .active
/-- A request of n bytes. -/
def lenIs (n : Nat) : Ctx → Bool := fun c => c.payload.length = n
abbrev onConfig : Ctx → Needs := fun _ => .config
/-- A field of n bytes of the request. -/
def Ctx.num (c : Ctx) (ofs n : Nat) : Nat := leGet c.payload ofs n

end Sys2Proof.Machine
end

