-- ==== Sys2Proof/Machine/Verify.lean ====
section
/-! DEFINITION. The checks of CFG_VERIFY (R319 and the rules that its failure codes name), and of CE_CHAIN_WRITE
(R331) where the two share them. A check answers the number of its first offending item. -/
namespace Sys2Proof.Machine

/-- The number of the first item that breaks a rule. -/
def firstBad {α : Type} (l : List α) (bad : α → Bool) (num : α → Nat) : Option Nat := (l.find? bad).map num

/-- A sum of fractions. -/
def sumFrac (l : List (Nat × Nat)) : Nat × Nat := l.foldl (fun a f => (a.1 * f.2 + f.1 * a.2, a.2 * f.2)) (0, 1)

/-- Whether a fraction exceeds a whole number. -/
def fracAbove (f : Nat × Nat) (n : Nat) : Bool := Nat.blt (n * f.2) f.1

/-- A configuration register as an image gives it. -/
def cfgReg (c : StationCfg) (a : Nat) : Word := ((c.regs.find? fun e => e.1 == a).map (·.2)).getD (regReset a)

/-! ### Blocks (R51, R52, R54, R57, R550) -/

/-- The places of the TIME parameters of a type (R52, R59). -/
def timeParams (ty : Nat) : List Nat :=
  if ty = 0x0401 then [0, 1] else if ty = 0x0405 then [1, 2, 3] else if 0x0402 ≤ ty && ty ≤ 0x0404 then [2, 3]
  else if ty = 0x0201 || ty = 0x0202 || ty = 0x0203 then [0]
  else if ty = 0x0208 || ty = 0x0502 then [0, 1]
  else if ty = 0x0501 || ty = 0x0503 || ty = 0x0504 || ty = 0x0505 || ty = 0x0507 || ty = 0x0508 then [0]
  else if ty = 0x0506 || ty = 0x0602 then [1]
  else if ty = 0x0601 || ty = 0x0701 then [0]
  else if ty = 0x0604 then [2]
  else if ty = 0x0606 then [1, 2, 3]
  else if ty = 0x0607 then [1, 2, 3, 4, 5]
  else []

/-- The parameter ranges that the block library states (R52, R59, R62 to R64, R69, R70, R74, R75, R82, R115, R132, R158,
R550). The four priorities of an alarm have the codes 0 to 3 (log 88). -/
def paramsOk (ty : Nat) (ps : List DWord) : Bool :=
  let p (k : Nat) : Nat := (ps.getD k 0).toNat
  let alarm (cat : Nat) : Bool :=
    p cat < 3 && p (cat + 1) < 4 && Nat.ble 5000 (p (cat + 2)) && Nat.ble (p (cat + 2)) 300000 && p (cat + 3) < 2
  ((timeParams ty).all fun k => p k ≤ 2147483647) &&
    (if ty = 0x0401 then alarm 2
    else if 0x0402 ≤ ty && ty ≤ 0x0405 then alarm 4
    else if ty = 0x0407 then Nat.ble ps.length 32
    else if ty = 0x0504 then Nat.ble 3600000 (p 0)
    else if ty = 0x0601 then Nat.ble 1 (p 1) && Nat.ble (p 1) 6
    else if ty = 0x0801 || ty = 0x0802 || ty = 0x0803 then p 0 < 256
    else if ty = 0x0804 || ty = 0x0805 then p 0 < 8
    else if ty = 0x0806 then p 0 < 256 && p 1 < 256
    else if ty = 0x0807 then p 0 < 16
    else if ty = 0x0808 then p 0 < 8
    else true)

/-- A call record whose EN_BOUND finds no bound EN input (R54). -/
def enBad (r : CallRec) (i : InstCfg) : Bool :=
  r.enBound && match enInput i.typeId with
    | none => true
    | some e => i.binds.getD e .unbound == .unbound

/-- Fail 2: the first instance of a task's that breaks R51, R54, R57 or R550. -/
def badBlock (t : TaskCfg) : Option Nat :=
  firstBad t.insts (fun e =>
    !blockType e.2.typeId || e.2.version != 1 || (e.2.retain && !retainType e.2.typeId) || !paramsOk e.2.typeId e.2.params ||
      t.calls.any fun r => r.inst == e.1 && (enBad r e.2 || r.typeId != e.2.typeId || r.otherFlags != 0)) (·.1)

/-- The first rule of R38 to R41 that a configuration breaks: a layout, a reserved header flag, an instance key that is
not unique within the station, a parameter check. -/
def badBytes (c : StationCfg) : Option Nat :=
  let is := c.tasks.flatMap fun e => e.2.insts.map (·.2)
  (c.tasks.findSome? fun e => badLayout inputCount e.2).orElse fun _ =>
    if is.any (fun i => i.otherFlags.toNat / 4 != 0) || is.any (fun i => (is.filter fun j => j.key == i.key).length != 1) then some 39
    else if is.any fun i => cv2 i.paramBytes != i.paramCrc then some 41
    else none

/-- The letter of a data type. -/
def typeLetter : PType → Char
  | .bool => 'b'
  | .dint => 'i'
  | .time => 'i'
  | .real => 'r'
  | .lreal => 'l'
  | .dword => 'd'

/-- A value of type `a` may be bound to an input of type `b` (R52). -/
def bindsTo (a b : Char) : Bool := a == '?' || b == '?' || a == b || (a == 'l' && b == 'r')

/-- The letter of an input image entry. -/
def srcType (c : StationCfg) (s : Src) : Char :=
  let point (p : Nat) : Char := (((c.points.find? fun e => e.1 == p).map fun e => typeLetter e.2.typ)).getD '?'
  match s with
  | .di _ => 'b'
  | .ai _ => 'r'
  | .fi _ => 'r'
  | .obj p => point p
  | .imported st p => (((c.imports.find? fun e => e.1.toNat == st * 8192 + p).map fun e => typeLetter e.2)).getD '?'
  | .chainOut _ => 'r'
  | .vdCurrent _ => 'r'
  | .aoReadback _ => 'r'
  | _ => '?'

/-- A chain destination of kind 0x4 stands on a point of type REAL or LREAL (R249). -/
def dstTyped (c : StationCfg) (w : Word) : Bool :=
  srcKind w != 4 || c.points.any fun e => e.1 == srcIdx w && (e.2.typ == .real || e.2.typ == .lreal)

/-- Fail 17 of a task: the first instance with a binding of another type, else the first such output entry. -/
def badTypes (c : StationCfg) (t : TaskCfg) : Option Nat :=
  let inst (n : Nat) : Option InstCfg := instCfg t n
  let bindBad (i : InstCfg) (e : Bind × Nat) : Bool :=
    let want := ioType i.typeId e.2 false
    match e.1 with
    | .image k => match t.inputs[k]? with
      | some s => !bindsTo (srcType c s) want
      | none => true
    | .inst n f => match inst n with
      | some j => !bindsTo (ioType j.typeId f true) want
      | none => true
    | _ => false
  let outBad (o : OutBind) : Bool :=
    let have_ := ((inst o.inst).map fun j => ioType j.typeId o.field true).getD '?'
    let want : Char := match o.dst with
      | .dout _ => 'b'
      | .ao _ => 'r'
      | .obj p => (((c.points.find? fun e => e.1 == p).map fun e => typeLetter e.2.typ)).getD '?'
    !(have_ == '?' || want == '?' || have_ == want)
  (firstBad t.insts (fun e => e.2.binds.zipIdx.any (bindBad e.2)) (·.1)).orElse fun _ => firstBad t.outs outBad (·.inst)

/-! ### Tasks, capacity, writers (R16, R18, R19, R43, R44, R198) -/

/-- Fail 13. -/
def badTask (c : StationCfg) : Option Nat :=
  let rng (v : Nat) : Bool := Nat.ble 1 v && Nat.ble v 10000
  firstBad c.tasks (fun e =>
    let k := e.2
    Nat.ble 16 e.1 || Nat.ble 16 k.prio || (c.tasks.filter fun f => f.2.prio == k.prio).length != 1 ||
      (if k.event then !rng k.minSep || !rng k.deadline || (k.evDi.isSome == k.evObj.isSome)
       else !rng k.period || Nat.ble k.period k.phase)) (·.1)

/-- Fail 3 (R43). -/
def badCapacity (c : StationCfg) : Option Nat :=
  let insts := (c.tasks.map fun e => e.2.insts.length).sum
  let regions := (c.tasks.map fun e => e.2.region).sum
  let retain := (c.tasks.flatMap fun e => (e.2.insts.filter (·.2.retain)).map (·.2.kept)).sum
  if Nat.blt 16 c.tasks.length then some 16
  else if Nat.blt 262144 insts || Nat.blt (32 * 2 ^ 20) regions || Nat.blt (16 * 2 ^ 20) retain then
    some ((c.tasks.map (·.1)).headD 0)
  else firstBad c.tasks (fun e => Nat.blt 32768 e.2.inputs.length || Nat.blt 8192 e.2.outs.length) (·.1)

/-- T_i in ms: a period or a minimum separation. -/
def taskT (k : TaskCfg) : Nat := max 1 (if k.event then k.minSep else k.period)

/-- The instances of a task that keep state at a switch (R47). -/
def keptInsts (old : Option TaskCfg) (new : TaskCfg) : List InstCfg :=
  (new.insts.map (·.2)).filter fun i =>
    (old.elim [] (·.insts)).any fun e => e.2.key == i.key && e.2.typeId == i.typeId && e.2.version == i.version

/-- The state-copy time of a task in µs (R47). -/
def copyUs (old : Option TaskCfg) (new : TaskCfg) : Nat := 2 + (((keptInsts old new).map (·.kept)).sum + 999) / 1000

/-- The computed application load as a fraction (R44): C_i includes the copy of an affected task. -/
def appLoad (old new : StationCfg) : Nat × Nat :=
  sumFrac (new.tasks.map fun e =>
    (e.2.ci + (if taskAffected old new e.1 then copyUs (taskIn old e.1) e.2 else 0), 1000 * taskT e.2))

/-- The delta traffic bound in blocks of 256 bytes per ms (R198). -/
def deltaBound (c : StationCfg) : Nat × Nat := sumFrac (c.tasks.map fun e => (e.2.bMax, taskT e.2))

/-- Fail 6 (R198). -/
def badDelta (c : StationCfg) : Option Nat :=
  if fracAbove (deltaBound c) 1024 then some ((c.tasks.map (·.1)).headD 0)
  else firstBad c.tasks (fun e => Nat.blt (4 * 2 ^ 20 * taskT e.2) e.2.region) (·.1)

/-- What a writer writes: terminals, objects, setpoints of chains, VD references, trace channels, the values and the swap
requests of an engine link, send objects and sentences, by number (R16, R28, R74, R75, R83, R101). -/
inductive Target where
  | dout (n : Nat)
  | ao (n : Nat)
  | obj (p : Nat)
  | setpoint (c : Nat)
  | vd (v : Nat)
  | trace (c : Nat)
  | chainIo (c : Nat)
  | chainSwap (c : Nat)
  | canSend (ctl obj : Nat)
  | sentence (idx : Nat)
  deriving DecidableEq, Repr

def Target.num : Target → Nat
  | .dout n => n
  | .ao n => n
  | .obj p => p
  | .setpoint c => c
  | .vd v => v
  | .trace c => c
  | .chainIo c => c
  | .chainSwap c => c
  | .canSend _ o => o
  | .sentence i => i

/-- The target of a terminal or object. -/
def dstTarget : Dst → Target
  | .dout n => .dout n
  | .ao n => .ao n
  | .obj p => .obj p

/-- The target of a chain's destination word. -/
def chainTarget (w : Word) : Option Target :=
  match srcKind w with
  | 1 => some (.ao (srcIdx w))
  | 2 => some (.vd (srcIdx w))
  | 3 => some (.setpoint (srcIdx w))
  | 4 => some (.obj (srcIdx w))
  | 9 => some (.trace (srcIdx w))
  | _ => none

/-- The target that a point is: its output terminal where it has one (R28). -/
def pointTarget (c : StationCfg) (p : Nat) : Target :=
  (((c.points.find? fun e => e.1 == p).bind fun e => e.2.out).map dstTarget).getD (.obj p)

/-- The targets of the engine links of a task (R74, R75, R101). -/
def linkTargets (t : TaskCfg) : List Target :=
  t.insts.filterMap fun i =>
    let n := (i.2.params.getD 0 0).toNat
    if i.2.typeId = 0x0801 then some (.chainIo n) else if i.2.typeId = 0x0802 then some (.chainSwap n)
    else if i.2.typeId = 0x0804 then some (.vd n) else none

/-- Every writer of a configuration with what it writes (R16, R28). -/
def writers (c : StationCfg) : List (Writer × Target) :=
  let canon (t : Target) : Target := match t with
    | .obj p => pointTarget c p
    | t => t
  (c.tasks.flatMap fun e => ((e.2.outs.map fun o => canon (dstTarget o.dst)) ++ linkTargets e.2).map fun t => (Writer.task e.1, t)) ++
  (c.chains.filterMap fun e => (chainTarget (parseDesc e.desc).dst).map fun t => (Writer.chain e.chain, canon t)) ++
  ((c.points.filter fun e => e.2.writer == .host || e.2.writer == .scruple).map fun e => (e.2.writer, pointTarget c e.1)) ++
  (c.canSends.map fun o => (Writer.task o.owner, Target.canSend o.ctl o.obj)) ++
  (c.canPoints.flatMap fun p => ([p.state, p.tec, p.rec_].filterMap id).map fun n => (Writer.task p.owner, pointTarget c n)) ++
  ((c.sentences.filter (·.send)).map fun q => (Writer.task q.owner, Target.sentence q.idx))

/-- Fail 5 (R16, R44): a target with two writers, or a point with another writer than its own. -/
def badWriter (c : StationCfg) : Option Nat :=
  let ws := writers c
  firstBad ws (fun w => (ws.filter fun v => v.2 == w.2).length != 1 ||
    c.points.any fun e => pointTarget c e.1 == w.2 && e.2.writer != w.1) fun w => w.2.num

/-! ### Chains (R77 to R84, R89, R93, R95, R104, R106, R547) -/

/-- A chain as the checks see it; `fi` is the shortest edge interval of an FI-triggered chain, ns. -/
structure ChainView where
  c : Nat
  d : Desc
  ss : List Sect
  fi : Nat := 0
  owner : Nat := 0
  deriving DecidableEq, Repr

/-- Reserved bytes and bits of a chain descriptor, R82. -/
def descReserved (b : List Byte) : Bool :=
  leGet b 5 1 = 0 && (b.drop 0x48).all (· == 0) && getField (BitVec.ofNat 32 (leGet b 0 4)) 31 10 = 0

/-- The trigger field (R84). -/
def triggerOk (w : Word) : Bool :=
  match getField w 3 0 with
  | 1 => Nat.ble 1 (getField w 13 4) && Nat.ble (getField w 13 4) 1000 && getField w 23 14 < getField w 13 4 && getField w 31 24 = 0
  | 2 => getField w 31 9 = 0
  | 3 => getField w 15 7 = 0 && Nat.ble 20 (getField w 31 16) && Nat.ble (getField w 31 16) 20000
  | 4 => getField w 7 6 != 0 && getField w 31 8 = 0
  | _ => false

/-- Kind and index of the PV source, the SP source and the destination (R83). -/
def pvOk (w : Word) : Bool :=
  match srcKind w with
  | 0 => true
  | 1 => srcIdx w < 32
  | 2 => srcIdx w < 8
  | 3 => srcIdx w < 4
  | 4 => srcIdx w < 8192
  | 5 => srcIdx w < 256
  | 8 => srcIdx w < 4
  | _ => false
def spOk (w : Word) : Bool :=
  match srcKind w with
  | 0 => true
  | 1 => srcIdx w < 32
  | 4 => srcIdx w < 8192
  | 6 => true
  | 7 => true
  | 10 => true
  | _ => false
def dstOk (w : Word) : Bool :=
  match srcKind w with
  | 0 => true
  | 1 => srcIdx w < 8
  | 2 => srcIdx w < 8
  | 3 => srcIdx w < 256
  | 4 => srcIdx w < 8192
  | 9 => srcIdx w < 8
  | _ => false

/-- |v| ≤ 2^−40 and |v| < 2^−40. -/
def tiny40 : F64 := 0x3D70000000000000

/-- A section by itself (R79, R80). -/
def sectOk (c : Nat) (s : Sect) : Bool :=
  let pole (bankB : Bool) : Bool :=
    let k := s.bank bankB
    f64le (f64abs (f64add (f64add (f64int 1) (k.getD 3 0)) (k.getD 4 0))) tiny40
  s.chain = c && getField (s.flags.setWidth 32) 15 2 = 0 && f64lt s.lo s.hi && (!s.integ || (pole false && pole true))

/-- BUMPLESS and the gain after the last INTEG section (R104). -/
def bumplessOk (d : Desc) (ss : List Sect) : Bool :=
  !d.bumpless || match lastInteg ss with
    | none => false
    | some k => [false, true].all fun b => !f64lt (f64abs (affine b (ss.drop (k + 1)) none).1) tiny40

/-- A chain by itself (R77, R79 to R84, R104). -/
def chainOk (v : ChainView) : Bool :=
  let d := v.d
  v.c < 256 && d.startMode < 3 && Nat.ble 1 d.nSect && Nat.ble d.nSect 16 && Nat.ble (d.first + d.nSect) 2048 &&
    v.ss.length = d.nSect && triggerOk d.trigger && pvOk d.pv && spOk d.sp && dstOk d.dst && f64lt d.outMin d.outMax &&
    f64lt 0 d.rampRate && f64lt 0 d.rampAcc && !(d.trigKind = 4 && (d.rampEn || d.ffSrc = 3)) && v.ss.all (sectOk v.c) &&
    bumplessOk d v.ss

/-- The nominal sample period in ns (R84), given the RATE codes of the loop inputs. -/
def viewPeriod (rate : Nat → Nat) (v : ChainView) : Nat × Nat :=
  match v.d.trigKind with
  | 1 => (getField v.d.trigger 13 4 * 10000, 1)
  | 2 => (1000000000, max 1 (aiRate (rate (getField v.d.trigger 8 4))))
  | 3 => (getField v.d.trigger 31 16 * 500, 1)
  | _ => (max 1 v.fi, 1)

/-- The same-boundary predecessor of a chain (R106). -/
def predOf (vs : List ChainView) (v : ChainView) : Option ChainView :=
  vs.find? fun a => srcKind a.d.dst = 3 && srcIdx a.d.dst = v.c && a.d.trigKind = 1 && v.d.trigKind = 1 &&
    getField a.d.trigger 23 4 == getField v.d.trigger 23 4

/-- The predecessors of a chain, nearest first. -/
def predsOf (vs : List ChainView) : Nat → ChainView → List ChainView
  | 0, _ => []
  | fuel + 1, v =>
    match predOf vs v with
    | none => []
    | some a => a :: predsOf vs fuel a

/-- L − t_src of a NORMAL chain in units of 0.5 ns, iterated to its fixed point; none beyond the bound (R95). -/
def latFix (step : Nat → Nat) (high : Nat → Bool) : Nat → Nat → Option Nat
  | 0, _ => none
  | fuel + 1, l =>
    let n := step l
    if high n then none else if n = l then some l else latFix step high fuel n

/-- The latency bound of a chain lies within its period (R93, R95). -/
def latencyOk (rate : Nat → Nat) (vs : List ChainView) (v : ChainView) : Bool :=
  let dep := v.d.nSect + ((predsOf vs 256 v).map fun a => a.d.nSect).sum
  let others := vs.filter fun a => a.c != v.c
  let per := viewPeriod rate v
  let high (l : Nat) : Bool := Nat.blt (2 * per.1) (l * per.2)
  let base (w : Nat) : Nat := 2 * (w + 10 * dep) + 72 * dep + (if v.d.bumpless then 72 else 0) + 20
  if v.d.fast then
    !high (base 20 + 5 * ((others.filter fun a => a.d.fast).map fun a => a.d.nSect).sum)
  else
    let step (l : Nat) : Nat := base 100 + 5 * (others.map fun a =>
      let p := viewPeriod rate a
      a.d.nSect * ((l * p.2 + 2 * p.1 - 1) / (2 * p.1))).sum
    (latFix step high 100000 (base 100)).isSome

/-- Fail 8: a chain that breaks a rule on its fields, or the limits on FAST chains and on sections. -/
def badChain (vs : List ChainView) : Option Nat :=
  let fast := vs.filter fun v => v.d.fast
  let overlaps (v : ChainView) : Bool := vs.any fun a => a.c != v.c && a.d.first < v.d.first + v.d.nSect &&
    v.d.first < a.d.first + a.d.nSect
  let target (v : ChainView) : Bool := srcKind v.d.dst = 3 &&
    (!(vs.any fun a => a.c = srcIdx v.d.dst && srcKind a.d.sp = 10) ||
      vs.any fun a => a.c != v.c && srcKind a.d.dst = 3 && srcIdx a.d.dst = srcIdx v.d.dst)
  let loops (v : ChainView) : Bool := (predsOf vs 256 v).any fun a => a.c = v.c
  match firstBad vs (fun v => !chainOk v || overlaps v || target v || loops v) (·.c) with
  | some c => some c
  | none =>
    if Nat.blt 32 fast.length || Nat.blt 128 (fast.map fun v => v.d.nSect).sum then (fast.map (·.c)).head? else none

/-- Fail 7: demand or latency (R93). -/
def badDemand (rate : Nat → Nat) (vs : List ChainView) : Option Nat :=
  let demand := sumFrac ((vs.filter fun v => v.d.startMode = 1).map fun v =>
    let p := viewPeriod rate v
    (v.d.nSect * p.2, p.1))
  -- sections per ns against 0.32
  if Nat.blt (320 * demand.2) (1000 * demand.1) then (vs.map (·.c)).head?
  else firstBad vs (fun v => !latencyOk rate vs v) (·.c)

/-- The chains of a configuration as the checks see them. -/
def cfgViews (c : StationCfg) : List ChainView :=
  c.chains.map fun e => { c := e.chain, d := parseDesc e.desc, ss := e.sections.map parseSect, fi := e.fiPeriod, owner := e.owner }

/-- Fail 8 of a configuration: the descriptors' bytes, their first section, their owning tasks (R547), then the set. -/
def badCe (c : StationCfg) : Option Nat :=
  (firstBad c.chains (fun e => !descReserved e.desc || (parseDesc e.desc).first != e.first ||
      (e.sections.any fun b => b.length != 128 || leGet b 0x74 4 != 0) || (taskIn c e.owner).isNone) (·.chain)).orElse
    fun _ => badChain (cfgViews c)

/-! ### Field, buses, recorder (R115, R361, R364, R409 to R417, R434 to R437, R461) -/

/-- Fail 9 (R115). -/
def badVd (c : StationCfg) : Option Nat :=
  let on := (List.range 8).filter fun v => (cfgReg c (Reg.VD_CTRL v)).getLsbD 0
  let imax (v : Nat) : Nat := getField (cfgReg c (Reg.VD_BAND v)) 27 16
  match firstBad on (fun v => Nat.blt 2500 (imax v)) id with
  | some v => some v
  | none => if Nat.blt 12000 (on.map imax).sum then on.head? else none

/-- Fail 14 (R361, R364). -/
def badAi (c : StationCfg) : Option Nat :=
  firstBad (List.range 32) (fun n =>
    let w := cfgReg c (Reg.AI_CFG n)
    let k := getField w 13 8
    let is := (List.range k).map fun i => cfgReg c (Reg.AI_TBL_I n i)
    let rising := (is.zip (is.drop 1)).all fun p => f32lt p.1 p.2
    let inside := is.all fun i => f32le (f32rat 38 10) i && f32le i (f32rat 205 10)
    w.getLsbD 0 && (Nat.blt 10000 (getField w 29 16) || Nat.blt 200 (getField (cfgReg c (Reg.AI_CUT n)) 7 0) ||
      (getField w 5 4 = 2 && (k < 2 || Nat.blt 32 k || !rising || !inside)))) id

/-- An enabled message object: controller, number, its configuration word. -/
def canObjs (c : StationCfg) : List (Nat × Nat × Word) :=
  (List.range 4).flatMap fun k => (List.range 128).filterMap fun o =>
    let w := cfgReg c (Reg.CAN_OBJ_CFG k o)
    if w.getLsbD 0 then some (k, o, w) else none

/-- The largest data length of a format (R411). -/
def canMaxLen (fmt : Nat) : Nat := if fmt = 0 then 8 else if fmt = 2 then 2048 else 64

/-- Bit rates and PWM of a controller (R409, R410). -/
def canRateBad (c : StationCfg) (k : Nat) : Bool :=
  let ctl := cfgReg c (Reg.CAN_CTRL k)
  let mode := getField ctl 2 0
  let oper := getField ctl 4 3
  let nb := cfgReg c (Reg.CAN_NBT k)
  let db := cfgReg c (Reg.CAN_DBT k)
  let brp := if getField nb 8 0 = 0 then 512 else getField nb 8 0
  let n := brp * (1 + getField nb 16 9 + getField nb 23 17)
  let d := getField db 4 0 * (1 + getField db 10 5 + getField db 15 11)
  let pw := cfgReg c (Reg.CAN_PWM k)
  (mode = 1 || mode = 2 || mode = 4) &&
    (n < 80 || Nat.blt 8000 n || (oper != 0 && (d < (if oper = 3 then 8 else 10) || Nat.blt n d)) ||
      (oper = 3 && getField pw 5 0 + getField pw 13 8 != d))

/-- Fail 15 (R409 to R411, R415, R417). -/
def badCan (c : StationCfg) : Option Nat :=
  let os := canObjs c
  let buf (e : Nat × Nat × Word) : Nat × Nat :=
    let w := cfgReg c (Reg.CAN_OBJ_BUF e.1 e.2.1)
    (getField w 11 0, getField w 17 12)
  let fmt (e : Nat × Nat × Word) : Nat := getField e.2.2 3 2
  let group (e : Nat × Nat × Word) : Nat := if e.2.2.getLsbD 1 then 0 else getField e.2.2 21 16
  let groupBad (e : Nat × Nat × Word) : Bool :=
    let ms := os.filter fun f => group f == group e
    group e != 0 && ((ms.filter fun f => f.2.2.getLsbD 6).length != 1 || (ms.any fun f => f.2.2.getLsbD 7) ||
      ms.any fun f => f.1 != e.1)
  let objBad (e : Nat × Nat × Word) : Bool :=
    let b := buf e
    (getField (cfgReg c (Reg.CAN_CTRL e.1)) 4 3 = 3 && fmt e != 2) || 64 * b.2 < 16 + canMaxLen (fmt e) ||
      Nat.blt 4096 (b.1 + b.2) || groupBad e ||
      os.any fun f => (f.1 != e.1 || f.2.1 != e.2.1) && (buf f).1 < b.1 + b.2 && b.1 < (buf f).1 + (buf f).2
  let sendBad (s : CanSend) : Bool :=
    let f := getField (cfgReg c (Reg.CAN_OBJ_CFG s.ctl s.obj)) 3 2
    !(if f = 0 then Nat.ble s.length 8
      else if f = 1 then [0, 1, 2, 3, 4, 5, 6, 7, 8, 12, 16, 20, 24, 32, 48, 64].contains s.length
      else f = 2 && Nat.ble 1 s.length && Nat.ble s.length 2048)
  (firstBad (List.range 4) (canRateBad c) id).orElse fun _ =>
    (firstBad os objBad fun e => e.2.1).orElse fun _ => firstBad c.canSends sendBad (·.obj)

/-- Fail 16 (R461). -/
def badRec (c : StationCfg) : Option Nat :=
  firstBad c.recs (fun r =>
    let typ := ((c.points.find? fun e => e.1 == r.point).map fun e => e.2.typ)
    r.chan < 0x2000 || Nat.blt 0x3FFF r.chan || typ.isNone ||
      ((r.kind = 1 || r.kind = 2) && (typ == some .bool || typ == some .dword)) ||
      (r.kind = 1 && !(f32lt 0 r.width && f32fin r.width))) (·.chan)

/-- Fail 18: the rule that a sentence or a serial bus breaks (R434 to R437). -/
def badOther (c : StationCfg) : Option Nat :=
  let sentence (q : SentenceCfg) : Bool :=
    let ok := Nat.ble 100 q.timeout && Nat.ble q.timeout 60000
    if q.send then !(q.timeout = 0 || ok) else !ok
  let bus (b : Nat) : Bool :=
    let w := cfgReg c (Reg.SER_B_CFG b)
    let rate := getField w 6 3
    let frame := getField w 8 7
    match getField w 2 0 with
    | 0 => false
    | 1 => !((rate = 2 || rate = 5) && frame = 0)
    | 2 => !((rate = 2 || rate = 5) && frame = 0)
    | 3 => Nat.blt 7 rate || frame = 0
    | 4 => Nat.blt 7 rate || frame = 0 || !(Nat.ble 1 (getField w 16 9) && Nat.ble (getField w 16 9) 247)
    | _ => true
  let fns : List Byte := [1, 2, 3, 4, 5, 6, 15, 16]
  if c.sentences.any sentence then some 434
  else if (List.range 2).any bus then some 435
  else if c.modbus.any fun r => !fns.contains r.fn then some 436
  else if c.modbus.any (fun r => Nat.blt 3 r.retries || r.period < 10 || Nat.blt 60000 r.period || r.timeout < 10 ||
      Nat.blt 5000 r.timeout) || (List.range 2).any (fun b =>
      Nat.blt 64 (c.modbus.filter fun r => r.bus == b).length) then some 437
  else none

/-! ### Stations (R247, R268) -/

/-- Every point that a configuration names (R247). -/
def namedPoints (c : StationCfg) : List Nat :=
  c.points.map (·.1) ++
  (c.tasks.flatMap fun e => (e.2.inputs.filterMap fun s => match s with
      | .obj p => some p
      | .imported _ p => some p
      | _ => none) ++ (e.2.outs.filterMap fun o => match o.dst with
      | .obj p => some p
      | _ => none) ++ (e.2.evObj.map fun o => o % 8192).toList) ++
  (c.league.flatMap fun e => e.points.map (·.1)) ++ c.recs.map (·.point) ++ c.canMaps.map (·.point) ++
  (c.canPoints.flatMap fun p => [p.restart, p.sleep, p.state, p.tec, p.rec_].filterMap id) ++
  c.sentences.flatMap (·.points) ++ c.modbus.flatMap (·.points) ++ c.modbusMaps.map (·.point)

/-- Every station that a configuration names; a number behind an object id has its bits above [24] (R246, R247). -/
def namedStations (c : StationCfg) : List Nat :=
  c.league.map (·.station) ++ (c.league.flatMap fun e => e.imports.map fun o => o.toNat / 8192) ++
  c.imports.map (fun e => e.1.toNat / 8192) ++
  c.tasks.flatMap fun e => (e.2.inputs.filterMap fun s => match s with
      | .imported st _ => some st
      | _ => none) ++ (e.2.evObj.map fun o => o / 8192).toList

/-- Fail 10 (R247). -/
def badRole (c : StationCfg) : Option Nat :=
  if Nat.blt 4095 c.station || (!c.manager && c.station = 0) || (c.manager && c.station != 0) ||
      (!c.manager && !c.league.isEmpty) then some c.station
  else ((namedPoints c).find? fun p => Nat.blt 8191 p).orElse fun _ => (namedStations c).find? fun n => Nat.blt 4095 n

/-- Published points and period of a manager's own tasks. -/
def ownLoads (c : StationCfg) : List (Nat × Nat) :=
  c.tasks.map fun e => ((c.points.filter fun p => p.2.publish && ownsPoint c e.1 p.2).length, taskT e.2)

/-- The ingest demand in records per ms (R268). -/
def ingest (c : StationCfg) : Nat × Nat :=
  let ws := c.league.flatMap (·.tasks)
  sumFrac ((ws.map fun e => (e.1, max 1 e.2)) ++ (ws.map fun e => (e.1, 10000)) ++ ownLoads c)

/-- The mirror demand in blocks of 256 bytes per ms (R268). -/
def mirror (c : StationCfg) : Nat × Nat :=
  let ws := c.league.flatMap (·.tasks)
  sumFrac (deltaBound c :: (ws.map fun e => ((e.1 + 7) / 8, max 1 e.2)) ++ (ws.map fun e => ((e.1 + 7) / 8, 10000)) ++
    (ownLoads c).map fun e => ((e.1 + 7) / 8, e.2))

/-- Fail 11 (R268). -/
def badIngest (c : StationCfg) : Option Nat :=
  if c.manager && (fracAbove (ingest c) 1200 || fracAbove (mirror c) 2048) then some 0 else none

/-! ### CFG_VERIFY (R319) -/

/-- Every rule that a staged configuration breaks, by failure code, with its first offending item (R319). -/
def Half.failures (x : Half) (old new : StationCfg) : List (Nat × Nat) :=
  let rate (n : Nat) : Nat := getField (cfgReg new (Reg.AI_CFG n)) 3 2
  let one (code : Nat) (o : Option Nat) : List (Nat × Nat) := (o.map fun d => (code, d)).toList
  one 2 (new.tasks.findSome? fun e => badBlock e.2) ++ one 3 (badCapacity new) ++
    (if fracAbove (let u := appLoad old new; (10 * u.1, u.2)) 7 then [(4, (new.tasks.map (·.1)).headD 0)] else []) ++
    one 5 (badWriter new) ++ one 6 (badDelta new) ++ one 7 (badDemand rate (cfgViews new)) ++ one 8 (badCe new) ++
    one 9 (badVd new) ++ one 10 (badRole new) ++ one 11 (badIngest new) ++
    (if !x.editOn && setCheck new != x.setInForce then [(12, 0)] else []) ++
    one 13 (badTask new) ++ one 14 (badAi new) ++ one 15 (badCan new) ++ one 16 (badRec new) ++
    one 17 ((new.tasks.findSome? fun e => badTypes new e.2).orElse fun _ =>
      firstBad new.chains (fun e => !dstTyped new (parseDesc e.desc).dst) (·.chain)) ++
    one 18 (badBytes new) ++ one 18 (badOther new) ++
    (if Nat.ble 1 new.swapHours && Nat.ble new.swapHours 168 then [] else [(18, 208)]) ++
    (if Nat.blt 65536 new.imports.length then [(18, 264)] else []) ++ new.layoutFail.toList

/-- The lowest failure of a list; (0, 0) without one. -/
def lowestFail (l : List (Nat × Nat)) : Nat × Nat :=
  (l.foldl (fun (m : Option (Nat × Nat)) e =>
    match m with
    | some k => if e.1 < k.1 then some e else some k
    | none => some e) none).getD (0, 0)

/-- The status of a failure code (R319). -/
def failStatus (f : Nat) : Nat := if f = 0 then ST_OK else if f = 5 then ST_CONFLICT else if f = 12 then ST_SEALED else ST_CHECK_FAIL

/-- The response of CFG_VERIFY (R319). -/
def verifyReply (old new : StationCfg) (f : Nat × Nat) (gen : Nat) : List Byte :=
  let u := appLoad old new
  let d := deltaBound new
  let mask := affectedMask old new
  let head := leNat 2 (min 65535 (10000 * u.1 / u.2)) ++ leNat 2 (min 65535 ((d.1 + 4 * d.2 - 1) / (4 * d.2))) ++
    leNat 2 mask.toNat ++ leNat 2 f.1 ++ leNat 4 f.2 ++ leNat 4 ((setCheck new).getD 0)
  if gen = 3 then
    head ++ ((List.range 16).filter fun t => mask.getLsbD t).flatMap fun t =>
      match taskIn new t with
      | none => leNat 4 t ++ leNat 8 0
      | some k =>
        let kept := (keptInsts (taskIn old t) k).length
        leNat 2 t ++ leNat 2 (min 65535 (copyUs (taskIn old t) k)) ++ leNat 4 kept ++ leNat 4 (k.insts.length - kept)
  else head

end Sys2Proof.Machine
end

