-- ==== Sys2Proof/Machine/CmdCe.lean ====
section
/-! DEFINITION. The control-engine commands (R330 to R332): CE_CHAIN_WRITE, CE_COEF_SWAP, CE_INJECT, CE_TRACE_ARM and
CE_TRACE_READ. -/
namespace Sys2Proof.Machine

/-! ### Chain writes and swaps -/

/-- The chains as the engine holds them, for the checks that CFG_VERIFY shares (R331). -/
def Half.liveViews (x : Half) : List ChainView :=
  (x.ce.chains.filter fun e => e.2.present).map fun e =>
    let cc := x.conf.chains.find? fun k => k.chain == e.1
    { c := e.1, d := x.desc e.1, ss := x.chainSects (x.desc e.1), fi := (cc.map (·.fiPeriod)).getD 0, owner := (cc.map (·.owner)).getD 0 }

/-- The request of CE_CHAIN_WRITE (R330): its data's length by `what`, fields in range, reserved fields 0. -/
def chainWriteLen (c : Ctx) : Bool :=
  let d := c.payload.drop 8
  Nat.ble 8 c.payload.length && c.num 4 1 < 2 && c.num 5 3 = 0 && match c.num 1 1 with
    | 0 => c.gen = 3 && d.length = 128 && descReserved d
    | 1 => d.length = 40
    | 2 => d.length = 20 && leGet d 16 2 < 4 && leGet d 18 2 = 0
    | 3 => d.length = 0
    | _ => false

/-- The five coefficients of a COEF write. -/
def coefs (d : List Byte) : List F64 := (List.range 5).map fun i => BitVec.ofNat 64 (leGet d (8 * i) 8)

/-- The bank that a swap of the chain still waits for (R99). -/
def ChainSt.swapBank (k : ChainSt) : Option Bool := ((k.swap.orElse fun _ => k.flight.bind (·.swap))).map (·.bankB)

/-- A write is allowed at this moment (R99, R330). -/
def ChainSt.writable (k : ChainSt) (what : Nat) (bankB : Bool) : Bool :=
  let idle := k.mode == .off || k.mode == .hold
  if what = 1 then (idle || bankB != k.bankB) && k.swapBank != some bankB else idle

/-- The chains of the engine after a write that replaces one chain's view pass the checks of R331. -/
def Half.chainPasses (x : Half) (v : ChainView) : Bool :=
  let vs := x.liveViews.map fun a => if a.c = v.c then v else a
  let rate (n : Nat) : Nat := x.fld (Reg.AI_CFG n) 3 2
  (badChain vs).isNone && (badDemand rate vs).isNone

/-- The view of a chain with one section replaced. -/
def ChainView.withSect (v : ChainView) (k : Nat) (s : Sect) : ChainView :=
  { v with ss := v.ss.zipIdx.map fun e => if v.d.first + e.2 = k then s else e.1 }

/-- An accepted write of a section, with its overlay and the check recomputed (R111, R331). -/
def Half.writeSect (x : Half) (c k : Nat) (s : Sect) : Half :=
  let y : Half := (x.setSect k s).sealChain c
  { y with ce := { y.ce with ovSect := y.ce.ovSect.put k s } }

/-- CE_CHAIN_WRITE on a chain that exists. -/
def Half.chainWrite (x : Half) (c : Ctx) : Half :=
  let n := c.num 0 1
  let k := c.num 2 2
  let bankB := c.num 4 1 = 1
  let d := c.payload.drop 8
  let st := x.chainSt n
  let v : ChainView := (x.liveViews.find? fun a => a.c == n).getD { c := n, d := {}, ss := [] }
  let inside := v.d.first ≤ k && k < v.d.first + v.d.nSect
  let check (y : Half) : List Byte := leNat 4 (y.desc n).check.toNat
  match c.num 1 1 with
  | 0 =>
    let nd := parseDesc d
    let nv : ChainView := { v with d := nd, ss := x.chainSects nd }
    if !st.writable 0 bankB then x.reply c ST_CONFLICT []
    else if !x.chainPasses nv || !dstTyped x.conf nd.dst then x.reply c ST_CHECK_FAIL []
    else
      let y : Half := x.writeDesc n nd
      (y.sendCfg (.desc n d)).replyAcked c ST_OK (check y)
  | 1 =>
    let s := x.sect k
    let ns : Sect := if bankB then { s with b := coefs d } else { s with a := coefs d }
    if !inside then x.reply c ST_NO_OBJECT []
    else if !st.writable 1 bankB then x.reply c ST_CONFLICT []
    else if !x.chainPasses (v.withSect k ns) then x.reply c ST_CHECK_FAIL []
    else
      let y : Half := x.writeSect n k ns
      (y.sendCfg (.coef n k bankB (coefs d))).replyAcked c ST_OK (check y)
  | 2 =>
    let lo : F64 := BitVec.ofNat 64 (leGet d 0 8)
    let hi : F64 := BitVec.ofNat 64 (leGet d 8 8)
    let flags : BitVec 16 := BitVec.ofNat 16 (leGet d 16 2)
    let ns : Sect := { x.sect k with lo := lo, hi := hi, flags := flags }
    if !inside then x.reply c ST_NO_OBJECT []
    else if !st.writable 2 bankB then x.reply c ST_CONFLICT []
    else if !x.chainPasses (v.withSect k ns) then x.reply c ST_CHECK_FAIL []
    else
      let y : Half := x.writeSect n k ns
      (y.sendCfg (.limits n k lo hi flags)).replyAcked c ST_OK (check y)
  | _ =>
    let y : Half := x.modChain n fun e => { e with missed := 0, latMax := 0, missedOvf := false, latOvf := false }
    y.reply c ST_OK (check y)

/-- CE_CHAIN_WRITE (R331, R99, R110). -/
def execCeChainWrite (h : HalfId) (ch : Nat) (tag : Nat) (s : State) : Host.Outcome State Fault Refusal :=
  onHalf s h fun x => x.cmd ch tag 0x80 chainWriteLen engineer onActive fun y c =>
    if !(y.chainSt (c.num 0 1)).present then y.reply c ST_NO_OBJECT [] else y.chainWrite c

/-- An instance of a type whose first parameter names an item is configured: it is that item's one writer (R101, R138). -/
def Half.instWrites (x : Half) (ty item : Nat) : Bool :=
  x.conf.tasks.any fun t => t.2.insts.any fun i => i.2.typeId == ty && (i.2.params.getD 0 0).toNat == item

/-- CE_COEF_SWAP (R100, R101, R331). -/
def execCeCoefSwap (h : HalfId) (ch : Nat) (tag : Nat) (s : State) : Host.Outcome State Fault Refusal :=
  onHalf s h fun x =>
    x.cmd ch tag 0x81 (fun c => c.payload.length = 4 && c.num 1 1 < 2 && c.num 2 1 < 2 && c.num 3 1 = 0) engineer onActive
      fun y c =>
        let k := c.num 0 1
        let bankB := c.num 1 1 = 1
        let bumpless := c.num 2 1 = 1
        if !(y.chainSt k).present then y.reply c ST_NO_OBJECT []
        else if y.instWrites 0x0802 k then y.reply c ST_CONFLICT []
        else (y.requestSwap k { bankB := bankB, bumpless := bumpless, cmd := some c.ref }).forwardCe (.swap k bankB bumpless)

/-! ### Injection and trace -/

/-- The request of CE_INJECT (R330). A sweep with DUR 0 is left to R131. -/
def injectLen (c : Ctx) : Bool :=
  c.payload.length = 36 && Nat.ble 1 (c.num 1 1) && c.num 1 1 < 5 && c.num 2 1 < 2 && c.num 20 4 < 0x1000000 &&
    (c.num 20 4 != 0 || c.num 1 1 = 3) && Nat.ble 7 (c.num 32 1) && Nat.ble (c.num 32 1) 31 &&
    Nat.ble 1 (c.num 34 2) && Nat.ble (c.num 34 2) 1024

/-- The frequency is positive and not above 1/(4T) (R131). -/
def freqOk (period : Nat × Nat) (f : F32) : Bool :=
  f32lt 0 f && !f64lt (f64rat (period.2 * 1000000000) (4 * period.1)) (f64of32 f)

/-- A trace channel that host software may arm (R138, R332). -/
def Half.hostTrace (x : Half) (tc : Nat) : Bool := !x.instWrites 0x0808 tc && (x.tcState tc = 0 || x.tcState tc = 4)

/-- The registers of generator g as a CE_INJECT request gives them (R332). -/
def Half.tgSet (y : Half) (c : Ctx) (g : Nat) : Half :=
  let w (o : Nat) : Word := BitVec.ofNat 32 (c.num o 4)
  let z : Half := y.wr (Reg.TG_CTRL g) (BitVec.ofNat 32 (c.num 1 1 + 8 * c.num 2 1 + 16 * c.num 3 1 + 0x1000))
  let z : Half := (((z.wr (Reg.TG_AMP g) (w 4)).wr (Reg.TG_OFS g) (w 8)).wr (Reg.TG_F0 g) (w 12)).wr (Reg.TG_F1 g) (w 16)
  let z : Half := ((z.wr (Reg.TG_DUR g) (w 20)).wr (Reg.TG_TAPS g) (w 24)).wr (Reg.TG_SEED g) (w 28)
  z.wr (Reg.TG_PRBS g) (BitVec.ofNat 32 (c.num 32 1 + 0x10000 * c.num 34 2))

/-- The period T of a live chain (R84): of one that frequency edges trigger the interval measured last, where there is one. -/
def Half.livePeriod (y : Half) (v : ChainView) : Nat × Nat :=
  match v.d.trigKind, (y.chainSt v.c).edgeGap with
  | 4, some g => (max 1 g, 1)
  | _, _ => viewPeriod (fun n => y.fld (Reg.AI_CFG n) 3 2) v

/-- CE_INJECT (R129 to R133, R332): it completes when its generator enters DONE. -/
def execCeInject (h : HalfId) (ch : Nat) (tag : Nat) (s : State) : Host.Outcome State Fault Refusal :=
  onHalf s h fun x => x.cmd ch tag 0x82 injectLen engineer onActive fun y c =>
    let g := c.num 0 1
    let chain := c.num 3 1
    let mask : Byte := BitVec.ofNat 8 (c.num 33 1)
    let w (o : Nat) : Word := BitVec.ofNat 32 (c.num o 4)
    match y.liveViews.find? fun v => v.c == chain with
    | none => y.reply c ST_NO_OBJECT []
    | some v =>
      let per := y.livePeriod v
      let busy (k : Nat) : Bool := y.tgState k = 1 || y.tgState k = 2
      let same (k : Nat) : Bool := k != g && busy k && y.bit (Reg.TG_CTRL k) 12 && y.fld (Reg.TG_CTRL k) 11 4 = chain &&
        y.fld (Reg.TG_CTRL k) 3 3 = c.num 2 1
      if 4 ≤ g then y.reply c ST_NO_OBJECT []
      else if !freqOk per (w 12) || !freqOk per (w 16) || (c.num 20 4 = 0) then y.reply c ST_CHECK_FAIL []
      else if busy g || (List.range 4).any same || (y.chainSt chain).mode != .run then y.reply c ST_CONFLICT []
      else if (List.range 8).any fun t => mask.getLsbD t && (y.fld (Reg.TC_SRC t) 3 0 = 0 || !y.hostTrace t) then
        y.reply c ST_CONFLICT []
      else (y.tgSet c g).tgStarted g mask (some c.ref)

/-- The largest index of a trace source (R134). -/
def traceIndex (kind : Nat) : Nat :=
  match kind with
  | 0 => 0xFFF
  | 1 => 2047
  | 5 => 7
  | 6 => 3
  | _ => 255

/-- The largest index of a trigger (R139). -/
def trigIndex (trig : Nat) : Nat := if trig = 3 then 3 else if trig = 5 then 7 else 255

/-- The request of CE_TRACE_ARM (R330): ops 2 to 4 read only the channel. -/
def traceLen (c : Ctx) : Bool :=
  c.payload.length = 20 && c.num 1 1 < 5 && (Nat.ble 2 (c.num 1 1) ||
    (c.num 2 1 < 7 && c.num 3 1 < 32 && c.num 3 1 / 4 < 6 && Nat.ble (c.num 4 2) (traceIndex (c.num 2 1)) &&
      Nat.ble (c.num 6 1) (trigIndex (c.num 3 1 / 4)) && c.num 7 1 = 0 && c.num 8 2 != 0 &&
      Nat.ble 1 (c.num 12 4) && Nat.ble (c.num 12 4) 65536))

/-- The registers of trace channel t as a CE_TRACE_ARM request gives them (R332). -/
def Half.tcSet (y : Half) (c : Ctx) (t : Nat) : Half :=
  let z : Half := y.wr (Reg.TC_SRC t) (BitVec.ofNat 32 (c.num 2 1 + 16 * c.num 4 2))
  let z : Half := z.wr (Reg.TC_CFG t) (BitVec.ofNat 32 (c.num 3 1 + 256 * c.num 6 1))
  let z : Half := ((z.wr (Reg.TC_DEC t) (BitVec.ofNat 32 (c.num 8 2))).wr (Reg.TC_PRE t) (BitVec.ofNat 32 (c.num 10 2)))
  (z.wr (Reg.TC_DEPTH t) (BitVec.ofNat 32 (c.num 12 4))).wr (Reg.TC_LEVEL t) (BitVec.ofNat 32 (c.num 16 4))

/-- CE_TRACE_ARM (R136 to R138, R332). -/
def execCeTraceArm (h : HalfId) (ch : Nat) (tag : Nat) (s : State) : Host.Outcome State Fault Refusal :=
  onHalf s h fun x => x.cmd ch tag 0x83 traceLen engineer onActive fun y c =>
    let t := c.num 0 1
    let op := c.num 1 1
    let done (z : Half) : Half := z.reply c ST_OK (leNat 4 (z.tcState t))
    if 8 ≤ t then y.reply c ST_NO_OBJECT []
    else if y.instWrites 0x0808 t || (op < 2 && !y.hostTrace t) then y.reply c ST_CONFLICT []
    else if op < 2 then
      if Nat.ble (c.num 12 4) (c.num 10 2) then y.reply c ST_CHECK_FAIL []
      else
        let z : Half := y.tcSet c t
        done (if op = 1 then z.tcArmed t else z)
    else if op = 2 then done (Half.tcTrigger 64 y [t])
    else if op = 3 then done (y.tcStopped t)
    else done (if y.tcState t = 4 then y.tcIdle t else y)

/-- CE_TRACE_READ (R136, R332). -/
def execCeTraceRead (h : HalfId) (ch : Nat) (tag : Nat) (s : State) : Host.Outcome State Fault Refusal :=
  onHalf s h fun x =>
    x.cmd ch tag 0x84 (fun c => c.payload.length = 8 && c.num 1 1 = 0) viewer onActive fun y c =>
      let t := c.num 0 1
      let first := c.num 4 4
      let head (n : Nat) : List Byte := leNat 1 t ++ leNat 1 (y.fld (Reg.TC_STAT t) 7 0) ++ leNat 2 n ++ leNat 4 first
      if 8 ≤ t then y.reply c ST_NO_OBJECT []
      else if y.tcState t != 4 then y.reply c ST_CONFLICT []
      else if c.num 2 2 = 0 then
        y.reply c ST_OK (head 0 ++ leNat 4 (y.rd (Reg.TC_T_REF_LO t)).toNat ++ leNat 4 (y.rd (Reg.TC_T_REF_HI t)).toNat ++
          leNat 4 (y.rd (Reg.TC_COUNT t)).toNat ++ leNat 4 (y.rd (Reg.TC_OLDEST t)).toNat)
      else
        let es := ((y.tc t).entries.drop first).take (min (c.num 2 2) (if c.gen = 3 then 207 else 5))
        y.reply c ST_OK (head es.length ++ es.flatMap fun e =>
          let w := y.tcEntry t e
          leNat 4 w.1.toNat ++ leNat 4 w.2.toNat)

end Sys2Proof.Machine
end

