-- ==== Sys2Proof/Machine/CmdCfg.lean ====
section
/-! DEFINITION. The configuration commands (R317 to R321): CFG_STAGE, CFG_VERIFY, CFG_COMMIT and CFG_ROLLBACK. -/
namespace Sys2Proof.Machine

/-- The request of CFG_STAGE or FW_STAGE after its first two bytes: flags, offset, data (R317, R322). -/
def stageLen (limit : Nat) (c : Ctx) : Bool :=
  let n := c.payload.length
  let most := if c.gen = 3 then 1656 else 44
  Nat.ble 8 n && Nat.ble n (8 + most) && c.num 2 2 < 4 && Nat.ble (c.num 4 4 + (n - 8)) limit

/-- The end of the previous accepted CFG_STAGE of a channel's session set; a FIRST ends every other session's staging. -/
def Half.setCfgEnd (x : Half) (ch : Nat) (first : Bool) (e : Nat) : Half :=
  let y : Half := if first then
      { x with mbx := { x.mbx with chans := x.mbx.chans.map fun k => (k.1, { k.2 with cfgEnd := none }) } }
    else x
  y.modChan ch fun k => { k with cfgEnd := some e }

/-- CFG_STAGE for the executing station (R318, R49). -/
def Half.stageHere (x : Half) (c : Ctx) : Half :=
  let first := c.num 2 1 % 2 = 1
  let last := 2 ≤ c.num 2 1
  let ofs := c.num 4 4
  let data := c.payload.drop 8
  let staged := (x.cfgSlot x.otherCfg).bytes.length
  if x.cfg.pend.isSome || x.role.ho.isSome then x.reply c ST_CONFLICT []
  else if (if first then ofs != 0 else (x.chan c.ch).cfgEnd != some ofs) then x.reply c ST_CONFLICT (leNat 4 staged)
  else
    let (ok, y) := x.stageWrite first last data
    let y : Half := y.setCfgEnd c.ch first (ofs + data.length)
    let y : Half := y.sendCfg (.stage first last (BitVec.ofNat 32 ofs) data)
    y.replyAcked c (if ok then ST_OK else ST_CHECK_FAIL) (leNat 4 (y.cfgSlot y.otherCfg).bytes.length)

/-- The manager's copy of a worker's configuration image, as the forwarded pieces give it (R258). -/
def Half.keepImage (x : Half) (station : Nat) (c : Ctx) : Half :=
  let old : List Byte := if c.num 2 1 % 2 = 1 then [] else x.cfg.images.get [] station
  { x with cfg := { x.cfg with images := x.cfg.images.put station (old.take (c.num 4 4) ++ c.payload.drop 8) } }

/-- CFG_STAGE (R258, R318): a manager forwards one for a worker of its League table; `reply` is that worker's answer to
one already forwarded, its status and staged count. -/
def execCfgStage (h : HalfId) (ch : Nat) (tag : Nat) (reply : Option (Nat × Word)) (s : State) :
    Host.Outcome State Fault Refusal :=
  onHalf s h fun x =>
    match reply, x.ctx ch tag with
    | some (st, staged), some c =>
      if c.op = 0x30 && c.started && c.done.isNone && c.num 0 2 != x.conf.station then x.reply c st (leNat 4 staged.toNat) else x
    | _, _ => x.cmd ch tag 0x30 (stageLen 0x8000000) engineer onConfig fun y c =>
      let station := c.num 0 2
      if y.cfg.cur.isNone || station = y.conf.station then y.stageHere c
      else if y.conf.manager && y.conf.league.any fun e => e.station == station then
        ((y.keepImage station c).send (.cfgForward station c.payload)).modCtx ch tag fun d => { d with past := true }
      else y.reply c ST_NO_OBJECT []

/-- CFG_VERIFY (R319). -/
def execCfgVerify (h : HalfId) (ch : Nat) (tag : Nat) (s : State) : Host.Outcome State Fault Refusal :=
  onHalf s h fun x => x.cmd ch tag 0x31 (lenIs 0) engineer onConfig fun y c =>
    let k := y.otherCfg
    let sl := y.cfgSlot k
    if sl.bytes.isEmpty || sl.wasCurrent then y.reply c ST_NO_OBJECT []
    else match sl.cfg with
      | none => y.reply c ST_CHECK_FAIL (leNat 6 0 ++ leNat 2 1 ++ leNat 8 0)
      | some new =>
        let f := lowestFail (y.failures y.conf new)
        (y.setCfgSlot k { sl with verified := f.1 = 0 }).reply c (failStatus f.1) (verifyReply y.conf new f c.gen)

/-- The half's tasks begin to switch to a slot, with the safety set where one is delivered; in recovery no task runs
(R46, R145, R518). -/
def Half.startSwitch (x : Half) (rollback : Bool) (r : Nat × Nat) (slot : Nat) (mask : BitVec 16) : Half :=
  let set := x.commitSet ((x.cfgSlot slot).cfg.getD {})
  let both := x.peer.any fun p => p.state == 3 || p.state == 4
  let wait := if set.isNone then [] else if both then [x.id, x.id.other] else [x.id]
  if x.isActive then
    let y : Half := x.beginSwitch rollback (some r) slot mask set
    ({ y with cfg := { y.cfg with pend := y.cfg.pend.map fun p => { p with safWait := wait } } } : Half).endCommit
  else
    let p : Commit := { rollback := rollback, cmd := some r, slot := slot, mask := mask, at_ := x.mono, pcrc := set.map (·.2), safWait := wait }
    let y : Half := { x with cfg := { x.cfg with pend := some p } }
    let y : Half := match set with
      | some (bs, _) => y.deliverSet bs
      | none => y
    y.endCommit

/-- CFG_COMMIT (R320, R46 to R49, R145). -/
def execCfgCommit (h : HalfId) (ch : Nat) (tag : Nat) (s : State) : Host.Outcome State Fault Refusal :=
  onHalf s h fun x => x.cmd ch tag 0x32 (lenIs 0) engineer onConfig fun y c =>
    let k := y.otherCfg
    let sl := y.cfgSlot k
    if !sl.verified || !sl.complete || y.role.ho.isSome || y.cfg.pend.isSome then y.reply c ST_CONFLICT []
    else
      let n := y.nextCommit
      let mask := affectedMask y.conf (sl.cfg.getD {})
      let z : Half := y.setCfgSlot k { sl with verified := false, commit := n }
      (z.sendCfg (.commit n)).startSwitch false c.ref k mask

/-- The slot that CFG_ROLLBACK returns to (R50): the current one while a commit is pending; none where there is none. -/
def Half.rollbackSlot (x : Half) : Option Nat :=
  match x.cfg.pend with
  | some p => if p.rollback then none else x.cfg.cur
  | none =>
    let k := x.otherCfg
    if (x.cfgSlot k).complete && (x.cfgSlot k).wasCurrent && !(x.cfgSlot k).bad then some k else none

/-- CFG_ROLLBACK (R50, R145, R321). -/
def execCfgRollback (h : HalfId) (ch : Nat) (tag : Nat) (s : State) : Host.Outcome State Fault Refusal :=
  onHalf s h fun x => x.cmd ch tag 0x33 (lenIs 0) engineer onConfig fun y c =>
    match y.rollbackSlot with
    | none => y.reply c ST_CONFLICT []
    | some k =>
      let sl := y.cfgSlot k
      let new := sl.cfg.getD {}
      if !y.editOn && setCheck new != y.setInForce then y.reply c ST_SEALED []
      else
        let n := y.nextCommit
        let mask := affectedMask y.conf new
        let z : Half := y.finishCmd (y.cfg.pend.bind (·.cmd)) ST_ABORTED []
        let z : Half := z.setCfgSlot k { sl with commit := n }
        let z : Half := z.setCfgSlot z.otherCfg { z.cfgSlot z.otherCfg with verified := false }
        (z.sendCfg (.rollback n)).startSwitch true c.ref k mask

end Sys2Proof.Machine
end

