-- ==== Sys2Proof/Machine/CmdMisc.lean ====
section
/-! DEFINITION. The time, display, League and safety commands (R333 to R337, R546). -/
namespace Sys2Proof.Machine

/-! ### Time -/

/-- θ as TIME_GET reports it (R546): signed ns, saturated; 0 in free run. -/
def Half.shownOffset (x : Half) : Int :=
  if x.fld Reg.TS_STAT 2 1 = 0 then 0 else max (-2147483647) (min 2147483647 (x.ts.offset / 256))

/-- TIME_GET (R333, R546). -/
def execTimeGet (h : HalfId) (ch : Nat) (tag : Nat) (s : State) : Host.Outcome State Fault Refusal :=
  onHalf s h fun x => x.cmd ch tag 0x90 (lenIs 0) viewer onEither fun y c =>
    y.reply c ST_OK (leBytes 8 y.now ++ leBytes 8 y.mono ++ leNat 1 y.ts.source ++ leNat 1 (y.fld Reg.TS_STAT 2 1) ++
      leNat 1 y.virt.toNat ++ [0] ++ leBytes 4 (BitVec.ofInt 64 y.shownOffset) ++ leNat 4 0)

/-- TIME_SOURCE (R334, R389). -/
def execTimeSource (h : HalfId) (ch : Nat) (tag : Nat) (s : State) : Host.Outcome State Fault Refusal :=
  onHalf s h fun x =>
    x.cmd ch tag 0x91 (fun c => c.payload.length = 16 && c.num 0 1 < 3 && c.num 1 1 < 4 && c.num 2 6 = 0) engineer onActive
      fun y c =>
        let done (z : Half) : Half := z.reply c ST_OK (leNat 4 z.ts.source)
        let src := c.num 1 1
        match c.num 0 1 with
        | 0 => done y
        | 1 => done (({ y with ts := { y.ts with selected := some src } } : Half).selectSource src)
        | _ => if y.ts.source != 0 then y.reply c ST_CONFLICT [] else done ((y.phaseStep (BitVec.ofNat 64 (c.num 8 8) - y.now)).setBit Reg.TS_STAT 0 true)

/-! ### Display -/

/-- The request of DISP_UPDATE (R333, R335). -/
def dispLen (c : Ctx) : Bool :=
  let n := c.payload.length
  let w := c.num 6 2
  let h := c.num 8 2
  Nat.ble 16 n && Nat.ble n (16 + if c.gen = 3 then 1648 else 36) && c.num 0 1 < 3 && c.num 1 1 < 3 &&
    Nat.ble (c.num 2 2 + w) dspWidth && Nat.ble (c.num 4 2 + h) dspHeight && (c.num 0 1 != 2 || (0 < w && 0 < h))

/-- Op 1: bytes into the staging buffer at the offset, up to the rectangle's size. -/
def Half.stagePixels (x : Half) (c : Ctx) : Half :=
  let most := (c.num 6 2 * c.num 8 2 + 1) / 2
  let ofs := c.num 12 4
  let d := (c.payload.drop 16).take (most - ofs)
  { x with dsp := { x.dsp with staging := x.dsp.staging.write ofs d } }

/-- The level of pixel i of the staged rectangle. -/
def Half.stagedLevel (x : Half) (i : Nat) : Nat := (x.dsp.staging.get (i / 2)).toNat / 16 ^ (i % 2) % 16

/-- A region begins, if a slot is free (R480, R335): the entry's commit is the last abort point. -/
def Half.beginRegion (x : Half) (c : Ctx) (e : JournalEntry) (levels : List Nat) : Half :=
  match x.freeSlot with
  | none => x.reply c ST_CONFLICT []
  | some k =>
    let y : Half := x.modCtx c.ch c.tag fun d => { d with past := true }
    let y : Half := if e.isPage then { y with dsp := { y.dsp with page := e.page } } else y
    y.regionCommit k e levels (some c.ref)

/-- DISP_UPDATE (R335, R477, R480): the answer to op 1, which has no region, gives a free value as its number. -/
def execDispUpdate (h : HalfId) (ch : Nat) (tag : Nat) (s : State) : Host.Outcome State Fault Refusal :=
  onHalf s h fun x => x.cmd ch tag 0xA0 dispLen operator onActive fun y c =>
    let mode := c.num 1 1
    let w := c.num 6 2
    let h := c.num 8 2
    if !y.dspPresent then y.reply c ST_NO_OBJECT []
    else match c.num 0 1 with
      | 0 =>
        match y.conf.pages.find? fun p => p.1 == c.num 10 2 with
        | none => y.reply c ST_NO_OBJECT []
        | some (n, ls) =>
          y.beginRegion c { x := 0, y := 0, w := dspWidth, h := dspHeight, mode := mode, isPage := true, page := BitVec.ofNat 16 n }
            (ls.map fun l => newLevel mode l.toNat)
      | 1 =>
        let (v, z) := (y.stagePixels c).free
        z.reply c ST_OK (leNat 1 v.toNat ++ leNat 1 z.pendingSlots.length ++ [0, 0])
      | _ =>
        y.beginRegion c { x := c.num 2 2, y := c.num 4 2, w := w, h := h, mode := mode }
          ((List.range (w * h)).map fun i => newLevel mode (y.stagedLevel i))

/-- DISP_STATUS (R333). -/
def execDispStatus (h : HalfId) (ch : Nat) (tag : Nat) (s : State) : Host.Outcome State Fault Refusal :=
  onHalf s h fun x => x.cmd ch tag 0xA1 (lenIs 0) viewer onEither fun y c =>
    y.reply c ST_OK (leNat 1 (y.fld Reg.DSP_STAT 2 0) ++ leNat 1 y.pendingSlots.length ++ leNat 1 (y.fld Reg.DSP_STAT 15 13) ++
      leNat 1 (y.fld Reg.DSP_VCOM 7 0) ++ leNat 2 y.dsp.page.toNat ++ [0, 0] ++ leNat 4 (y.rd Reg.DSP_UPD).toNat ++
      leNat 4 (y.rd Reg.DSP_SMAX).toNat)

/-! ### League and safety -/

/-- LEAGUE_JOIN (R256, R336): the half leaves and joins again; JOIN_REPLY completes it. -/
def execLeagueJoin (h : HalfId) (ch : Nat) (tag : Nat) (s : State) : Host.Outcome State Fault Refusal :=
  onHalf s h fun x => x.cmd ch tag 0xB0 (lenIs 0) engineer onActive fun y c =>
    if y.conf.manager then y.reply c ST_CONFLICT []
    else { y.sendJoin with obj := { y.sendJoin.obj with joined := false, joinCmd := some c.ref } }

/-- Records applied over the last second (R333). -/
def Half.ingestRate (x : Half) : Nat :=
  let s := x.mono.toNat / 1000000000
  if s = x.obj.ingestSec then x.obj.ingestLast else if s = x.obj.ingestSec + 1 then x.obj.ingestNow else 0

/-- LEAGUE_STATUS (R333, R336). -/
def execLeagueStatus (h : HalfId) (ch : Nat) (tag : Nat) (s : State) : Host.Outcome State Fault Refusal :=
  onHalf s h fun x =>
    x.cmd ch tag 0xB1 (fun c => c.payload.length = 8 && c.num 0 1 < 2 && c.num 1 1 = 0 && Nat.ble 1 (c.num 4 2) &&
        Nat.ble (c.num 4 2) (if c.gen = 3 then 830 else 24) && c.num 6 2 = 0) viewer onActive fun y c =>
      let o := y.obj
      let count (p : StationSt → Bool) : Nat := (o.stations.filter fun e => p e.2).length
      if c.num 0 1 = 0 then
        y.reply c ST_OK (leNat 4 (y.conf.manager.toNat + 2 * o.managerLost.toNat + 4 * o.ovf.toNat) ++ leNat 4 o.epoch.toNat ++
          leNat 2 (count (·.present)) ++ leNat 2 (count (·.mismatch)) ++ leNat 4 o.crcErr.toNat ++ leNat 4 o.ingestDrop.toNat ++
          leNat 4 o.refreshFix.toNat ++ leNat 4 o.gaps.toNat ++ leNat 4 y.ingestRate)
      else if 4096 ≤ c.num 2 2 then y.reply c ST_NO_OBJECT []
      else if !y.conf.manager then y.reply c ST_CONFLICT []
      else
        let first := c.num 2 2
        let n := min (c.num 4 2) (4096 - first)
        y.reply c ST_OK (leNat 2 first ++ leNat 2 n ++ (List.range n).flatMap fun i =>
          let k := y.station (first + i)
          leNat 2 (k.present.toNat + 2 * k.lost.toNat + 4 * k.mismatch.toNat + 8 * k.actA.toNat + 16 * k.actB.toNat))

/-- SAFETY_STATUS (R179, R337): reserved offsets read 0. -/
def execSafetyStatus (h : HalfId) (ch : Nat) (tag : Nat) (s : State) : Host.Outcome State Fault Refusal :=
  onHalf s h fun x =>
    x.cmd ch tag 0xC0 (fun c => c.payload.length = 4 && c.num 0 1 < 32 && Nat.ble 1 (c.num 1 1) &&
        Nat.ble (c.num 1 1) (if c.gen = 3 then 32 else 13) && c.num 2 2 = 0) viewer onEither fun y c =>
      y.reply c ST_OK ((List.range (c.num 1 1)).flatMap fun i => leNat 4 (y.rd (0x30070000 + 4 * (c.num 0 1 + i))).toNat)

end Sys2Proof.Machine
end

