-- ==== Sys2Proof/Machine/Tasks.lean ====
section
/-! DEFINITION. Tasks and the block executor: commands TASK_RELEASE to OUTPUT_UPDATE (chapter 2). -/
namespace Sys2Proof.Machine

/-- An overrun of a task's running cycle (R32 to R34): counted once a cycle; the third in a row and each further one
raise source 105. -/
def Half.overrun (x : Half) (t : Nat) : Half :=
  let k := x.tsk t
  if k.overran then x
  else
    let n := min 255 (k.stats.consec.toNat + 1)
    let ovf := if k.stats.consec.toNat = 255 then k.stats.ovf ||| 4 else k.stats.ovf
    let y : Half := x.modTsk t fun k =>
      { k with overran := true, stats := { k.stats with consec := BitVec.ofNat 8 n, ovf := ovf } }
    y.raiseIf (3 ≤ n) 105


/-- A release instant that arrives while a cycle of the task is under way (R32): skipped and counted. -/
def Half.skipRelease (x : Half) (t : Nat) : Half :=
  let y : Half := x.modTsk t fun k =>
    let (n, o) := statAdd k.stats.skips 1
    { k with stats := { k.stats with skips := n, ovf := if o then k.stats.ovf ||| 2 else k.stats.ovf } }
  y.overrun t

/-- A commanded start takes effect (R316). -/
def Half.startTask (x : Half) (t : Nat) : Half :=
  let cmds := (x.tsk t).startCmd
  let y : Half := x.modTsk t fun k => { k with
    state := .waiting, startDue := false, startCmd := [], firstCycle := true, sep := false, pendAct := false }
  cmds.foldl (fun (z : Half) c => z.finishCmd (some c) ST_OK (z.taskReply t)) y

/-- The release instant of a periodic task at or before the present station time: the task's phase plus a whole number
of periods (R20). -/
def Half.releaseInstant (x : Half) (c : TaskCfg) : DWord :=
  let ti := taskTi c
  let now := x.now.toNat
  let ph := c.phase * 1000000
  BitVec.ofNat 64 (if ti = 0 || now < ph then now else (now - ph) / ti * ti + ph)

/-- A release instant that is none (R21): a forward step passed over it, it has been dealt with, or a backward step has
brought it round again and one period of monotonic time has not gone since the release of the last started cycle
(log 83). -/
def Half.relPassed (x : Half) (k : TaskSt) (at_ : DWord) (ti : Nat) : Bool :=
  let since := if inCycle k then k.relTime else k.lastRel
  Nat.blt at_.toNat x.ts.stepTo.toNat ||
    ((k.started || inCycle k) && Nat.blt at_.toNat (since.toNat + ti) && Nat.blt (x.mono - k.relMono).toNat ti) ||
    k.instAt.any fun i => i.1 == at_ && Nat.blt (x.mono - i.2).toNat ti

/-- TASK_RELEASE (R20, R21, R24, R32, R46, R316): the release instant is the last whole multiple of the period, less the
phase, of station time. -/
def execTaskRelease (h : HalfId) (task : Nat) (s : State) : Host.Outcome State Fault Refusal :=
  onHalf s h fun x =>
    match x.taskCfg task with
    | none => x
    | some c =>
      if c.event || !(x.appOn || x.appComes) then x
      else
        let at_ := x.releaseInstant c
        let k := x.tsk task
        if x.relPassed k at_ (taskTi c) then x
        else
          let x : Half := x.modTsk task fun k => { k with instAt := some (at_, x.mono) }
          let x : Half := if k.state == .stopped && k.startDue && !k.deleting then x.startTask task else x
          match (x.tsk task).state with
          | .stopped => x
          | .ready => x.skipRelease task
          | .running => x.skipRelease task
          | .preempted => x.skipRelease task
          | _ => (x.release task at_).modTsk task fun k => { k with switchDue := k.switchTo.isSome }

/-- MINIMUM_SEPARATION_END (R19, R23, R33): counted from the release (R44). -/
def execMinimumSeparationEnd (h : HalfId) (task : Nat) (s : State) : Host.Outcome State Fault Refusal :=
  onHalf s h fun x =>
    let k := x.tsk task
    let past := x.gone k.relMono ((x.taskCfg task).elim 0 (·.minSep))
    if !x.appOn || !k.sep || !past then x
    else
      let y : Half := x.modTsk task fun k => { k with sep := false }
      if k.pendAct && k.state == .waiting then y.activateTask task else y

/-- EVENT_TASK_DEADLINE (R33). -/
def execEventTaskDeadline (h : HalfId) (task : Nat) (s : State) : Host.Outcome State Fault Refusal :=
  onHalf s h fun x =>
    let k := x.tsk task
    if x.appOn && inCycle k && (x.taskCfg task).any fun c => c.event && x.gone k.relMono c.deadline then x.overrun task
    else x

/-- The time after its release at which a task that still runs counts as hung, ms (R35). -/
def hangMs (c : TaskCfg) : Nat := max (4 * if c.event then c.deadline else c.period) 10

/-- SW_TASK_HANG (R35). -/
def execSwTaskHang (h : HalfId) (task : Nat) (s : State) : Host.Outcome State Fault Refusal :=
  onHalf s h fun x =>
    let k := x.tsk task
    x.raiseIf (x.isActive && inCycle k && (x.taskCfg task).any fun c => x.gone k.relMono (hangMs c)) 106

/-- The priority of a task under the configuration it runs; 16 where it has none. -/
def Half.taskPrio (x : Half) (t : Nat) : Nat := ((x.taskCfg t).map (·.prio)).getD 16

/-- The task of the highest priority among those that `p` names. -/
def Half.topTask (x : Half) (p : TaskSt → Bool) : Option Nat :=
  ((x.task.tasks.filter fun e => p e.2).map (·.1)).foldl (fun m t =>
    match m with
    | some u => if x.taskPrio t < x.taskPrio u then some t else some u
    | none => some t) none

/-- The task that runs. -/
def Half.runningTask (x : Half) : Option Nat := x.topTask fun k => k.state == .running

/-- A preempted task runs again once no ready task ranks above it (R24). -/
def Half.resume (x : Half) : Half :=
  match x.runningTask, x.topTask fun k => k.state == .ready || k.state == .preempted with
  | none, some t => if (x.tsk t).state == .preempted then x.modTsk t fun k => { k with state := .running } else x
  | _, _ => x

/-- A cycle starts (R26, R37, R46, R262): the task switches its configuration first where that is due. -/
def Half.startCycle (x : Half) (t : Nat) : Half :=
  let k := x.tsk t
  let x : Half := match k.switchTo, k.switchDue with
    | some slot, true => (x.switchTask t slot).markSwitched t
    | _, _ => x
  let switched := k.switchTo.isSome && k.switchDue
  match x.taskCfg t with
  | none => x.modTsk t fun k => { k with state := .stopped }
  | some c =>
    let k := x.tsk t
    let delay := (x.mono - k.relMono).toNat / 1000
    let (n, o) := statAdd k.stats.cycles 1
    let y : Half := x.modTsk t fun k => { k with
      state := .running, startMono := x.mono, lastRel := k.relTime, started := true, pos := 0, effects := []
      withheld := [], cycle := k.cycle + 1
      stats := { k.stats with cycles := n, ovf := if o then k.stats.ovf ||| 1 else k.stats.ovf
                              startDelayMax := if k.stats.startDelayMax.toNat < delay then BitVec.ofNat 32 (min delay 0xFFFFFFFF)
                                else k.stats.startDelayMax } }
    let y : Half := if switched then y.spanRel fun seq n => .cfg seq n (.taskSwitch t (y.tsk t).cycle) else y
    let y : Half := { y with task := { y.task with badParams := y.task.badParams.filter fun b => b.1 != t } }
    y.fillImage t c

/-- TASK_CYCLE_START (R22, R26): the highest-ranking ready task, if no task runs and none preempted ranks above it. -/
def execTaskCycleStart (h : HalfId) (s : State) : Host.Outcome State Fault Refusal :=
  onHalf s h fun x =>
    if !x.appRuns then x
    else match x.runningTask, x.topTask fun k => k.state == .ready || k.state == .preempted with
      | none, some t => if (x.tsk t).state == .ready then x.startCycle t else x.resume
      | _, _ => x

/-- CONFIG_SWITCH_TIMEOUT (R46): an affected event task starts its first cycle under the new configuration. -/
def execConfigSwitchTimeout (h : HalfId) (task : Nat) (s : State) : Host.Outcome State Fault Refusal :=
  onHalf s h fun x =>
    let k := x.tsk task
    let due := (x.taskCfg task).any fun c => c.event && x.cfg.pend.any fun p => x.gone p.at_ c.deadline
    if x.appRuns && k.switchTo.isSome && (k.state == .waiting || k.state == .tracking) && due then x.activateTask task else x

/-- BLOCK_BOUNDARY (R22, R38): the running task's next call record is executed; then a ready task of higher priority
preempts. -/
def execBlockBoundary (h : HalfId) (s : State) : Host.Outcome State Fault Refusal :=
  onHalf s h fun x =>
    match (if x.appRuns then x.runningTask else none) with
    | none => x
    | some t =>
      match x.taskCfg t with
      | none => x
      | some c =>
        let y : Half := match c.calls[(x.tsk t).pos]? with
          | some r => (x.execCall t c r).modTsk t fun k => { k with pos := k.pos + 1 }
          | none => x
        match y.topTask fun k => k.state == .ready with
        | some u => if y.taskPrio u < y.taskPrio t then
            ((y.modTsk t fun k => { k with state := .preempted }).flush .app).startCycle u else y
        | none => y

/-- A stopped task: the quality of its objects becomes uncertain, stale source (R25). -/
def Half.stopObjects (x : Half) (t : Nat) : Half :=
  ((x.conf.points.filter fun e => e.2.writer == .task t).map (·.1)).foldl (fun (y : Half) p =>
    y.writePoint p { (y.point p).kept with q := qByte 1 5 }) x

/-- The results of a cycle of task t: its output set, statistics, retained instances and the copy for the standby half,
which holds its publications too (R27, R37, R42, R49, R194, R252, R262). -/
def Half.storeCycle (x : Half) (t : Nat) (c : TaskCfg) : Half :=
  let k := x.tsk t
  let us := (x.mono - k.startMono).toNat / 1000
  let w : Word := BitVec.ofNat 32 (min us 0xFFFFFFFF)
  let st := k.stats
  let st : TaskStats := { st with
    execLast := w, execMax := if st.execMax.toNat < w.toNat then w else st.execMax
    consec := if k.overran then st.consec else 0
    ovf := if 0xFFFFFFFF < us then st.ovf ||| 16 else st.ovf }
  let stop := k.stopDue || k.deleting
  let y : Half := x.modTsk t fun k => { k with
    state := .waiting, outImage := outValues c k, outSet := k.effects, outEnd := x.now, outCycle := k.cycle
    updDue := true
    stopAtUpd := stop, firstCycle := false, stats := st }
  let y : Half := y.storeRetain t c
  let y : Half := y.evrValue (0x1C0 + t) (f64int us)
  let done : Half := y.applyObjs t c
  let done : Half := (done.compareAll (done.ownedPoints t) y.now (y.obj.fullPub.contains t)).2
  let y : Half := y.sendCycle t c (done.regionData t) y.now
  { y with cfg := { y.cfg with pend := y.cfg.pend.map fun p => { p with first := p.first.filter (· != t) } } }

/-- The end of a cycle of task t whose call list has run (R23, R25, R27, R34): a task to be stopped stops, an event task
with a pending activation is released again, and the processor goes on. -/
def Half.endCycle (x : Half) (t : Nat) (c : TaskCfg) : Half :=
  let y : Half := x.storeCycle t c
  let cmds := (y.tsk t).stopCmd
  let y : Half := if (x.tsk t).stopDue || (x.tsk t).deleting then
      cmds.foldl (fun (z : Half) c => z.finishCmd (some c) ST_OK (z.taskReply t))
        (y.modTsk t fun k => { k with
          state := .stopped, stopDue := false, stopCmd := [], deleting := false, gone := k.deleting
          insts := if k.deleting then [] else k.insts })
    else if c.event && (y.tsk t).pendAct && !(y.tsk t).sep then y.activateTask t
    else y
  (y.endCommit.flush .app).resume

/-- TASK_CYCLE_END (R27, R34, R37, R42, R49, R194): the call list has run. -/
def execTaskCycleEnd (h : HalfId) (s : State) : Host.Outcome State Fault Refusal :=
  onHalf s h fun x =>
    match (if x.appRuns then x.runningTask else none) with
    | none => x
    | some t =>
      match x.taskCfg t with
      | none => x
      | some c =>
        let k := x.tsk t
        if k.pos < c.calls.length then x
        else
          x.endCycle t c

/-- The recorder channels of a task's points at its update instant (R461). -/
def Half.recordPoints (x : Half) (t : Nat) (before : Half) (published : List Nat) : Half :=
  if !x.role.drives then x
  else x.conf.recs.foldl (fun (y : Half) r =>
    if !(x.ownedPoints t).contains r.point then y
    else
      let typ := (x.pointCfg r.point).elim .real fun c => c.typ
      let v := (pointVal (x.point r.point)).v
      if r.kind = 3 then
        let rose := (pointVal (before.point r.point)).v == 0 && v != 0
        if typ == .bool then (if rose then y.evrTally r.chan else y)
        else if published.contains r.point then y.evrTally r.chan else y
      else
        let f := match typ with
          | .real => f64of32 (v.setWidth 32)
          | .lreal => v
          | _ => f64int (v.setWidth 32).toInt
        y.evrValue r.chan f) x

/-- The output set of a task's cycle reaches the field, the chains, the buses and its own objects (R25, R27, R48, R416,
R421). -/
def Half.applySet (x : Half) (task : Nat) (c : TaskCfg) : Half :=
  let k := x.tsk task
  let y : Half := (x.applyTerms task c).applyObjs task c
  let y : Half := k.outSet.foldl (fun (z : Half) e => z.applyEffect task e) y
  let y : Half := if k.stopAtUpd then y.stopObjects task else y
  (((y.canStatus task).canUpdate task).canSleepEdges x).sentUpdate task

/-- A task's points compared and published after an update (R260, R262, R263, R266). -/
def Half.publishSet (y : Half) (task : Nat) (cycle : Word) (tEnd : DWord) (before : Half) : Half :=
  let full := y.obj.fullPub.contains task
  let (ps, y) := y.compareAll (y.ownedPoints task) tEnd full
  let y : Half := y.sendExchange task cycle tEnd full ps
  let y : Half := { y with obj := { y.obj with fullPub := y.obj.fullPub.filter (· != task) } }
  let y : Half := if y.obj.refresh.contains task then
      let z : Half := y.sendRefresh task cycle tEnd
      { z with obj := { z.obj with refresh := z.obj.refresh.filter (· != task)
                                   fullRefresh := z.obj.fullRefresh.filter (· != task) } }
    else y
  y.recordPoints task before ps

/-- The update instant of a task: its output set reaches the field, and its objects are compared and published
(R27, R260, R262). -/
def Half.updateOutputs (x : Half) (task : Nat) (c : TaskCfg) : Half :=
  let k := x.tsk task
  ((x.applySet task c).publishSet task k.outCycle k.outEnd x).modTsk task
    fun k => { k with updDue := false, stopAtUpd := false, outSet := [] }

/-- OUTPUT_UPDATE (R25, R27, R28, R48, R252, R260, R262, R263, R416, R419, R421): the set of a task's cycle reaches the field, the
engine, the queue and the objects; then its points are compared and published. -/
def execOutputUpdate (h : HalfId) (task : Nat) (s : State) : Host.Outcome State Fault Refusal :=
  onHalf s h fun x =>
    let k := x.tsk task
    match x.taskCfg task with
    | none => x
    | some c =>
      if !k.updDue || !x.isActive then x
      else
        x.updateOutputs task c

end Sys2Proof.Machine
end

