-- ==== Sys2Proof/Machine/CmdObj.lean ====
section
/-! DEFINITION. Mailbox commands on signal objects and tasks: OBJ_READ to OBJ_FORCE (R309 to R314), TASK_STATE and
TASK_STATS (R315, R316), and the session commands (R308). -/
namespace Sys2Proof.Machine

/-! ### Objects -/

/-- The point of the half's own station that an object id names. -/
def Half.ownPoint (x : Half) (oid : Nat) : Option Nat :=
  if oid / 8192 == x.conf.station && (x.pointCfg (oid % 8192)).isSome then some (oid % 8192) else none

/-- The record that a half reads for an object id (R310); an object of another station that never arrived is bad, not yet
written (R266). -/
def Half.readObj (x : Half) (oid : Nat) : Option ObjRec :=
  match x.ownPoint oid with
  | some p => some (x.pointRec p)
  | none =>
    if (x.foreign.any fun e => e.1 == oid) || (x.conf.manager && (x.rec? oid).isSome) then
      some (sealRec ((x.rec? oid).getD (x.absentRec oid)))
    else none

/-- ST_STALE where a returned record has its stale bit set (R310). -/
def staleStatus (rs : List ObjRec) : Nat := if rs.any fun r => r.quality.getLsbD 0 then ST_STALE else ST_OK

/-- OBJ_WRITE on an object that exists (R311): the writer, then the fill; else the write. Answers the status and the
record as stored. -/
def Half.writeObj (x : Half) (oid : Nat) (v : DWord) : Nat × List Byte × Half :=
  match x.ownPoint oid with
  | none => (ST_CONFLICT, [], x)
  | some p =>
    match x.pointCfg p with
    | none => (ST_CONFLICT, [], x)
    | some c =>
      if c.writer != .host then (ST_CONFLICT, [], x)
      else if !fillOk c.typ v then (ST_BAD_LENGTH, [], x)
      else
        let y : Half := (x.hostWrite p { v := v, q := qGood }).canRestart p v
        (ST_OK, recBytes (y.pointRec p), y)

/-- OBJ_READ (R310). -/
def execObjRead (h : HalfId) (ch : Nat) (tag : Nat) (s : State) : Host.Outcome State Fault Refusal :=
  onHalf s h fun x => x.cmd ch tag 0x10 (lenIs 4) viewer onActive fun y c =>
    match y.readObj (c.num 0 4) with
    | none => y.reply c ST_NO_OBJECT []
    | some r => y.reply c (staleStatus [r]) (recBytes r)

/-- A point whose object is bound to RESET of a RUN_HOURS instance: a write needs the engineer role (R59). -/
def Half.resetsHours (x : Half) (oid : Nat) : Bool :=
  x.conf.tasks.any fun t => t.2.insts.any fun i => i.2.typeId == 0x0207 && (match i.2.binds.getD 1 .unbound with
    | .image e => (x.ownPoint oid).any fun p => t.2.inputs[e]? == some (.obj p)
    | _ => false)

/-- OBJ_WRITE (R59, R311). -/
def execObjWrite (h : HalfId) (ch : Nat) (tag : Nat) (s : State) : Host.Outcome State Fault Refusal :=
  onHalf s h fun x =>
    x.cmd ch tag 0x11 (fun c => c.payload.length = 16 && c.num 4 4 = 0) operator onActive fun y c =>
      if (y.readObj (c.num 0 4)).isNone then y.reply c ST_NO_OBJECT []
      else if y.resetsHours (c.num 0 4) && c.role < 3 then y.reply c ST_DENIED []
      else
        let (st, pl, z) := y.writeObj (c.num 0 4) (BitVec.ofNat 64 (c.num 8 8))
        z.reply c st pl

/-- OBJ_READ_GROUP (R312): one frame of a station is applied whole, so its records are read at one instant. -/
def execObjReadGroup (h : HalfId) (ch : Nat) (tag : Nat) (s : State) : Host.Outcome State Fault Refusal :=
  onHalf s h fun x =>
    x.cmd ch tag 0x12
      (fun c =>
        let n := c.num 0 1
        Nat.ble 1 n && Nat.ble n (if c.gen = 3 then 52 else 1) && c.num 1 3 = 0 && c.payload.length = 4 + 4 * n)
      viewer onActive fun y c =>
        let ids := (List.range (c.num 0 1)).map fun i => c.num (4 + 4 * i) 4
        let rs := ids.filterMap y.readObj
        if rs.length < ids.length then y.reply c ST_NO_OBJECT []
        else if ids.any fun i => i / 8192 != ids.headD 0 / 8192 then y.reply c ST_CONFLICT []
        else y.reply c (staleStatus rs) (rs.flatMap recBytes)

/-- OBJ_SUBSCRIBE (R288, R313). -/
def execObjSubscribe (h : HalfId) (ch : Nat) (tag : Nat) (s : State) : Host.Outcome State Fault Refusal :=
  onHalf s h fun x =>
    x.cmd ch tag 0x13
      (fun c =>
        let n := c.num 0 1
        Nat.ble 1 n && Nat.ble n 64 && c.num 1 1 = 0 && Nat.ble (c.num 2 2) 60000 && c.num 4 4 = 0 &&
          c.payload.length = 8 + 4 * n)
      viewer onActive fun y c =>
        let ids := (List.range (c.num 0 1)).map fun i => c.num (8 + 4 * i) 4
        let free := (List.range 256).find? fun k => !(y.mbx.subs.any fun b => b.num == k)
        if ids.any fun i => (y.readObj i).isNone then y.reply c ST_NO_OBJECT []
        else match free with
          | none => y.reply c ST_CONFLICT []
          | some k =>
            if 64 ≤ (y.mbx.subs.filter fun b => b.ch == c.ch).length then y.reply c ST_CONFLICT []
            else
              let sub : Sub := { num := k, ch := c.ch, minInterval := c.num 2 2
                                 items := ids.map fun i => { oid := BitVec.ofNat 32 i } }
              (({ y with mbx := { y.mbx with subs := y.mbx.subs ++ [sub] } } : Half).poolStatus).reply c ST_OK (leNat 4 k)

/-- OBJ_UNSUBSCRIBE (R288). -/
def execObjUnsubscribe (h : HalfId) (ch : Nat) (tag : Nat) (s : State) : Host.Outcome State Fault Refusal :=
  onHalf s h fun x =>
    x.cmd ch tag 0x14 (fun c => c.payload.length = 4 && c.num 1 3 = 0) viewer onEither fun y c =>
      let mine (b : Sub) : Bool := b.ch == c.ch && b.num == c.num 0 1
      if !y.mbx.subs.any mine then y.reply c ST_NO_OBJECT []
      else
        (({ y with mbx := { y.mbx with subs := y.mbx.subs.filter fun b => !mine b } } : Half).poolStatus).reply c ST_OK []

/-- The forces of the station (R314). -/
def Half.forces (x : Half) : Nat := (x.obj.points.filter fun e => e.2.force.isSome).length

/-- A force or a release takes effect and goes to the standby half (R314, R460). -/
def Half.setForce (x : Half) (p : Nat) (v : Option Val) : Half :=
  let y : Half := (x.putPoint p { x.point p with force := v }).driveForced p
  let y : Half := match y.pointCfg p with
    | some { writer := .host, .. } => (y.publishHost p).mirrorPoint p
    | _ => y
  (y.sendCfg (.force p (v.map fun e => (e.v, e.q)))).evrEvent (if v.isSome then 8 else 9)

/-- OBJ_FORCE (R314). -/
def execObjForce (h : HalfId) (ch : Nat) (tag : Nat) (s : State) : Host.Outcome State Fault Refusal :=
  onHalf s h fun x =>
    x.cmd ch tag 0x15
      (fun c => c.payload.length = 16 && c.num 4 1 < 2 && [0, 1, 3].contains (c.num 5 1) && c.num 6 2 = 0)
      engineer onActive fun y c =>
        let oid := c.num 0 4
        let v : DWord := BitVec.ofNat 64 (c.num 8 8)
        if (y.readObj oid).isNone then y.reply c ST_NO_OBJECT []
        else match y.ownPoint oid with
          | none => y.reply c ST_CONFLICT []
          | some p =>
            match y.pointCfg p with
            | none => y.reply c ST_CONFLICT []
            | some k =>
              let forced := (y.point p).force.isSome
              if k.writer == .scruple then y.reply c ST_CONFLICT []
              else if c.num 4 1 = 0 then
                let z : Half := if forced then y.setForce p none else y
                z.reply c ST_OK (recBytes (z.pointRec p))
              else if !fillOk k.typ v then y.reply c ST_BAD_LENGTH []
              else if !forced && 256 ≤ y.forces then y.reply c ST_CONFLICT []
              else
                let z : Half := y.setForce p (some { v := v, q := BitVec.ofNat 8 (c.num 5 1 * 64 + 0x1A) })
                z.reply c ST_OK (recBytes (z.pointRec p))

/-! ### Tasks (R315, R316) -/

/-- A task that runs no cycle stops at once (R25): its objects keep their values, stale; a set that still awaits its
update instant leaves with the change of quality. -/
def Half.stopIdle (x : Half) (t : Nat) : Half :=
  let cmds := (x.tsk t).startCmd
  let was := (x.tsk t).state
  let y : Half := x.modTsk t fun e => { e with state := .stopped, startDue := false, startCmd := [], stopAtUpd := e.updDue }
  let y : Half := cmds.foldl (fun (z : Half) r => z.finishCmd (some r) ST_ABORTED []) y
  if was == .stopped || (x.tsk t).updDue then y
  else
    let y : Half := (y.stopObjects t)
    ((y.compareAll (y.ownedPoints t) y.now false).2).sendRefresh t (y.tsk t).cycle y.now

/-- TASK_STATE (R25, R315, R316). -/
def execTaskState (h : HalfId) (ch : Nat) (tag : Nat) (s : State) : Host.Outcome State Fault Refusal :=
  onHalf s h fun x =>
    x.cmd ch tag 0x20 (fun c => c.payload.length = 4 && c.num 1 1 < 3 && c.num 2 2 = 0)
      (fun c => if c.num 1 1 = 0 then 1 else 3) (fun c => if c.num 1 1 = 0 then .either else .active) fun y c =>
        let t := c.num 0 1
        match taskIn y.conf t with
        | none => y.reply c ST_NO_OBJECT []
        | some k =>
          let st := (y.tsk t).state
          if c.num 1 1 = 1 then
            if st != .stopped then y.reply c ST_OK (y.taskReply t)
            else if k.event then
              let z : Half := y.modTsk t fun e => { e with state := .waiting, firstCycle := true, sep := false, pendAct := false }
              z.reply c ST_OK (z.taskReply t)
            else y.modTsk t fun e => { e with startDue := true, startCmd := e.startCmd ++ [c.ref] }
          else if c.num 1 1 = 2 then
            if st == .ready || st == .running || st == .preempted then
              y.modTsk t fun e => { e with stopDue := true, stopCmd := e.stopCmd ++ [c.ref] }
            else
              let z : Half := y.stopIdle t
              z.reply c ST_OK (z.taskReply t)
          else y.reply c ST_OK (y.taskReply t)

/-- TASK_STATS (R37, R316). -/
def execTaskStats (h : HalfId) (ch : Nat) (tag : Nat) (s : State) : Host.Outcome State Fault Refusal :=
  onHalf s h fun x =>
    x.cmd ch tag 0x21 (fun c => c.payload.length = 4 && c.num 1 1 < 2 && c.num 2 2 = 0)
      (fun c => if c.num 1 1 = 1 then 3 else 1) onActive fun y c =>
        let t := c.num 0 1
        match taskIn y.conf t with
        | none => y.reply c ST_NO_OBJECT []
        | some _ =>
          let k := (y.tsk t).stats
          let z : Half := if c.num 1 1 = 1 then y.modTsk t fun e => { e with stats := {} } else y
          z.reply c ST_OK (leNat 4 k.cycles.toNat ++ leNat 4 k.skips.toNat ++ leNat 4 k.merged.toNat ++ leNat 4 k.execLast.toNat ++
            leNat 4 k.execMax.toNat ++ leNat 4 k.startDelayMax.toNat ++ leNat 1 k.consec.toNat ++ leNat 1 k.ovf.toNat ++ [0, 0])

/-! ### Session and identity (R308) -/

/-- The partner's state code, 0xFF unknown (R308). -/
def Half.partnerCode (x : Half) : Nat := (x.peer.map fun p => p.state.toNat).getD 0xFF

/-- IDENTIFY (R308). -/
def execIdentify (h : HalfId) (ch : Nat) (tag : Nat) (s : State) : Host.Outcome State Fault Refusal :=
  onHalf s h fun x => x.cmd ch tag 0x02 (lenIs 0) viewer onEither fun y c =>
    y.reply c ST_OK (leNat 2 y.conf.station ++ leNat 1 (if y.id == .a then 0 else 1) ++ leNat 1 s.stn.variantDx.toNat ++
      leNat 1 y.st.code ++ leNat 1 y.partnerCode ++ leNat 2 y.boot.stateFormat.toNat ++ leNat 4 y.boot.version.toNat ++
      leNat 4 y.cfgCommit.toNat ++ leBytes 8 (Config.cartridgeSerial y.id) ++ leBytes 8 s.stn.serial ++
      leNat 4 y.opmin.toNat ++ leNat 4 y.pcyc.toNat ++ leNat 8 0)

/-- SESSION_INFO (R308). -/
def execSessionInfo (h : HalfId) (ch : Nat) (tag : Nat) (s : State) : Host.Outcome State Fault Refusal :=
  onHalf s h fun x => x.cmd ch tag 0x03 (lenIs 0) viewer onEither fun y c =>
    let k := y.chan c.ch
    y.reply c ST_OK (leNat 1 c.ch ++ leNat 1 c.gen ++ leNat 1 c.role ++ [0] ++ leNat 1 (y.ctxHeld c.ch) ++
      leNat 1 (y.mbx.subs.filter fun b => b.ch == c.ch).length ++ [0, 0] ++ leBytes 8 k.notAfter ++ leBytes 8 k.serial)

/-- NOP (R278, R308): executed at its consumption, from the head of its channel's ring. -/
def execNop (h : HalfId) (ch : Nat) (tag : Nat) (s : State) : Host.Outcome State Fault Refusal :=
  .next (consumeOn s h ch fun w => w % 256 == 1 && w / 256 == tag)

/-- ABORT (R278, R287): executed at its consumption, from the head of its channel's ring. -/
def execAbort (h : HalfId) (ch : Nat) (tag : Nat) (s : State) : Host.Outcome State Fault Refusal :=
  .next (consumeOn s h ch fun w => w % 256 == 0xF0 && w / 256 == tag)

end Sys2Proof.Machine
end

