-- ==== Sys2Proof/Machine/CmdRole.lean ====
section
/-! DEFINITION. The firmware and role commands (R322 to R325), the fault and recorder commands (R326 to R329). -/
namespace Sys2Proof.Machine

/-! ### Forwarding (R300, R306) -/

/-- A command forwarded to the partner; it waits, not started, while the partner's ring has no room for it or no tag is
free there (R274, R285). -/
def Half.forward (x : Half) (c : Ctx) : Half :=
  match x.peerTag with
  | some t =>
    if x.peerRoom < (pieces 32 c.payload).length then x.modCtx c.ch c.tag fun d => { d with started := false }
    else (x.modCtx c.ch c.tag fun d => { d with fwd := some t, past := true }).peerSubmit c.op t c.gen c.payload
  | none => x.modCtx c.ch c.tag fun d => { d with started := false }

/-- The command names the half itself (R306); on channel 7 it has been forwarded already. -/
def Half.named (x : Half) (c : Ctx) : Bool := c.ch = 7 || (c.num 0 1 = 1) == (x.id == .b)

/-- A handover that a command of half h began is offered to the partner. -/
def State.spread (s : State) (h : HalfId) (y : Half) : State :=
  let t := s.mod h fun _ => y
  match (s.half h).role.ho, y.role.ho with
  | none, some k => t.mod h.other fun p => p.offered k (y.span.nextItem - 1)
  | _, _ => t

/-! ### Firmware -/

/-- The inactive firmware slot. -/
def Half.otherFw (x : Half) : Nat := if x.boot.running = 0 then 1 else 0

/-- FW_STAGE on the named half (R318, R323): the slot is marked empty where LAST fails. -/
def Half.stageFw (x : Half) (c : Ctx) (sigOk : Bool) : Half :=
  let first := c.num 2 1 % 2 = 1
  let last := 2 ≤ c.num 2 1
  let ofs := c.num 4 4
  let data := c.payload.drop 8
  let k := x.otherFw
  let reply (y : Half) (st v : Nat) : Half := y.reply c st (leNat 4 (y.fwSlot k).staged.length ++ leNat 4 v)
  if (if first then ofs != 0 else (x.chan c.ch).fwEnd != some ofs) then reply x ST_CONFLICT 0
  else
    let y : Half := if first then
        { x with mbx := { x.mbx with chans := x.mbx.chans.map fun e => (e.1, { e.2 with fwEnd := none }) } }
      else x
    let y : Half := y.modChan c.ch fun e => { e with fwEnd := some (ofs + data.length) }
    let f : FwSlot := if first then {} else y.fwSlot k
    let f : FwSlot := { staged := f.staged ++ data }
    if !last then reply (y.setFwSlot k f) ST_OK 0
    else
      let i := parseImage f.staged
      if i.wellFormed && i.kind = 1 && i.keyId = 0 && f.staged.length = 128 + i.length && sigOk then
        reply (y.setFwSlot k { f with image := some i, complete := true, verified := true }) ST_OK i.version.toNat
      else (y.setFwSlot k {}).reply c ST_CHECK_FAIL (leNat 8 0)

/-- FW_STAGE (R323): `sigOk` is the outcome of the signature's check at LAST. -/
def execFwStage (h : HalfId) (ch : Nat) (tag : Nat) (sigOk : Bool) (s : State) : Host.Outcome State Fault Refusal :=
  onHalf s h fun x => x.cmd ch tag 0x40 (fun c => stageLen 0x4000000 c && c.num 0 1 < 2 && c.num 1 1 = 0) service onEither
    fun y c => if y.named c then y.stageFw c sigOk else y.forward c

/-- The half restarts into its staged slot, as a trial (R508). -/
def Half.restartInto (x : Half) (k : Nat) : Half :=
  let cur := (x.boot.record.map (·.1)).getD x.boot.running
  ((({ x with boot := { x.boot with record := some (cur, some k) } } : Half).evrEvent 12).halfReset 3).reboot

/-- The station's control stops, and the half restarts (R324). -/
def Half.stopAndRestart (x : Half) (k : Nat) : Half :=
  let y : Half := (x.dropSessions.relinquish).loseClaim
  ({ y with role := { y.role with holdWindow := false } } : Half).restartInto k

/-- FW_ACTIVATE on the named half (R324, R213): the half, and the version it restarts with where it does. -/
def Half.activate (x : Half) (c : Ctx) (at_ : DWord) : Half × Option Word :=
  let k := x.otherFw
  let stop := c.num 1 1 = 1
  match x.st with
  | .active =>
    if x.partnerPresent then
      if x.mayOffer && !x.role.claimLine && x.cfg.pend.isNone then (x.offers (x.newOffer .firmware at_) (some c.ref), none)
      else (x.reply c ST_CONFLICT [], none)
    else if !stop then (x.reply c ST_CONFLICT [], none)
    else if (x.fwSlot k).image.isNone then (x.reply c ST_CHECK_FAIL [], none)
    else (x.stopAndRestart k, none)
  | .relinquishing => (x.reply c ST_CONFLICT [], none)
  | .native | .syncing | .standby =>
    match (x.fwSlot k).image with
    | none => (x.reply c ST_CHECK_FAIL [], none)
    | some i =>
      if (x.peer.any fun p => !fwCompat i.version p.fwVersion (Config.stateFormat i.body) p.stateFormat) then
        (x.reply c ST_CONFLICT [], none)
      else (x.restartInto k, some i.version)
  | _ => (x.reply c ST_NOT_ACTIVE [], none)

/-- The originating half awaits the partner that restarts (R300). -/
def Half.awaitRestart (p : Half) (t : Nat) (v : Word) : Half :=
  match p.mbx.ctxs.find? fun c => c.fwd == some t with
  | some c => p.modCtx c.ch c.tag fun d => { d with fwd := none, expect := some v, past := true, at_ := p.mono }
  | none => p

/-- FW_ACTIVATE (R300, R324, R508): `at_` is the instant H that a controlled handover takes. -/
def execFwActivate (h : HalfId) (ch : Nat) (tag : Nat) (at_ : DWord) (s : State) : Host.Outcome State Fault Refusal :=
  let x := s.half h
  let fits (c : Ctx) : Bool := c.payload.length = 4 && c.num 0 1 < 2 && c.num 1 1 < 2 && c.num 2 2 = 0
  let y := x.cmd ch tag 0x41 fits service onEither fun y c => if y.named c then (y.activate c at_).1 else y.forward c
  let v := match x.nextCmd ch with
    | some c => if c.tag = tag && c.op = 0x41 && !c.malformed && fits c && 4 ≤ c.role && x.named c then (x.activate c at_).2 else none
    | none => none
  let t := s.spread h y
  match v with
  | some v => .next (if ch = 7 then t.mod h.other fun p => p.awaitRestart tag v else t)
  | none => .next t

/-! ### Roles -/

/-- ROLE_QUERY (R322). -/
def execRoleQuery (h : HalfId) (ch : Nat) (tag : Nat) (s : State) : Host.Outcome State Fault Refusal :=
  onHalf s h fun x => x.cmd ch tag 0x50 (lenIs 0) viewer onEither fun y c =>
    let r := y.role
    let flags := r.synced.toNat + 2 * r.armed.toNat + 4 * r.released.toNat + 8 * r.claimLine.toNat +
      16 * y.partnerPresent.toNat + 32 * (y.bit Reg.FC_STAT 2).toNat + 64 * r.ho.isSome.toNat
    y.reply c ST_OK (leNat 1 (if y.id == .a then 0 else 1) ++ leNat 1 y.st.code ++ leNat 1 y.partnerCode ++ [0] ++
      leNat 4 flags ++ leNat 4 ((r.nextSwap.toNat - y.mono.toNat) / 1000000000) ++ leNat 4 0 ++
      leBytes 8 r.lastHandover ++ leNat 4 r.handovers.toNat)

/-- A handover on command (R325). -/
def Half.askHandover (x : Half) (c : Ctx) (cause : Cause) (at_ : DWord) : Half :=
  if x.role.claimLine || x.cfg.pend.isSome || !x.mayOffer then x.reply c ST_CONFLICT []
  else x.offers (x.newOffer cause at_) (some c.ref)

/-- ROLE_SWAP (R325): `at_` is the instant H, at least 2 ms ahead. -/
def execRoleSwap (h : HalfId) (ch : Nat) (tag : Nat) (at_ : DWord) (s : State) : Host.Outcome State Fault Refusal :=
  .next (s.spread h ((s.half h).cmd ch tag 0x51 (lenIs 0) engineer onActive fun y c => y.askHandover c .roleSwap at_))

/-- HALF_RELEASE (R325). -/
def execHalfRelease (h : HalfId) (ch : Nat) (tag : Nat) (at_ : DWord) (s : State) : Host.Outcome State Fault Refusal :=
  .next (s.spread h ((s.half h).cmd ch tag 0x52 (lenIs 0) engineer onActive fun y c => y.askHandover c .halfRelease at_))

/-! ### Faults -/

/-- Four registers of a source bit set. -/
def Half.words4 (x : Half) (base : Nat) : List Byte := (List.range 4).flatMap fun i => leNat 4 (x.rd (base + 4 * i)).toNat

/-- The stamp of a class's recovery, `back` from the newest; 0 without one (R238). -/
def Half.stamp (x : Half) (cls back : Nat) : Nat :=
  ((((x.fc.stamps.get [] cls).reverse)[back]?).map (·.toNat)).getD 0

/-- FAULT_QUERY (R326). -/
def execFaultQuery (h : HalfId) (ch : Nat) (tag : Nat) (s : State) : Host.Outcome State Fault Refusal :=
  onHalf s h fun x =>
    x.cmd ch tag 0x60 (fun c => c.payload.length = 4 && c.num 0 1 < 3 && c.num 2 2 = 0) viewer onEither fun y c =>
      let i := c.num 1 1
      match c.num 0 1 with
      | 0 => y.reply c ST_OK (leNat 4 (y.rd Reg.FC_STAT).toNat ++ y.words4 (Reg.FC_ACTIVE 0) ++ y.words4 (Reg.FC_PEND 0) ++
          y.words4 (Reg.FC_HELD 0))
      | 1 =>
        if 12 ≤ i then y.reply c ST_NO_OBJECT []
        else y.reply c ST_OK (leNat 4 (y.rd (Reg.FC_CLASS_CFG i)).toNat ++ leNat 4 (y.rd (Reg.FC_CLASS_REC i)).toNat ++
          leNat 4 (y.stamp i 0) ++ leNat 4 (y.stamp i 1))
      | _ =>
        if 128 ≤ i then y.reply c ST_NO_OBJECT []
        else y.reply c ST_OK (leNat 4 (y.rd (Reg.FC_SRC_CFG i)).toNat ++ leNat 4 ((y.srcBit (Reg.FC_ACTIVE 0) i).toNat +
          2 * (y.srcBit (Reg.FC_PEND 0) i).toNat + 4 * (y.srcBit (Reg.FC_HELD 0) i).toNat +
          8 * (y.srcBit (Reg.FC_INVALID 0) i).toNat + 16 * (y.srcBit (Reg.FC_INHIB 0) i).toNat))

/-- The recovery stamps and the latch mark cleared (R327). -/
def Half.clearLatch (x : Half) : Half :=
  let y : Half := { x with fc := { x.fc with stamps := [], latch := none } }
  ((List.range 12).foldl (fun (z : Half) c => z.setFld (Reg.FC_CLASS_REC c) 18 17 0) y).fcStatus

/-- A LATCHED half goes to NATIVE through a half reset (R327, R499). -/
def Half.leaveLatched (x : Half) : Half :=
  let y : Half := (((x.halfReset 5).releaseResets).setBit Reg.FC_STAT 6 false).enterNative
  { y with fc := { y.fc with first := none, domains := [], quiet := [], reached := [] } }.fcStatus

/-- FAULT_ACK (R235, R327). -/
def execFaultAck (h : HalfId) (ch : Nat) (tag : Nat) (s : State) : Host.Outcome State Fault Refusal :=
  onHalf s h fun x =>
    x.cmd ch tag 0x61 (fun c => c.payload.length = 4 && 1 ≤ c.num 0 1 && c.num 0 1 ≤ 2 && c.num 1 3 = 0) service onEither
      fun y c =>
        if c.num 0 1 = 1 then
          let z : Half := y.clearLatch
          if z.st == .latched then (z.reply c ST_OK (leNat 4 HState.native.code)).leaveLatched
          else z.reply c ST_OK (leNat 4 z.st.code)
        else
          let z : Half := (y.heldSources.foldl (fun (z : Half) src => z.setSrc (Reg.FC_HELD 0) src false) y).fcStatus
          z.reply c ST_OK (leNat 4 z.st.code)

/-- FAULT_INJECT (R240, R241, R328). -/
def execFaultInject (h : HalfId) (ch : Nat) (tag : Nat) (s : State) : Host.Outcome State Fault Refusal :=
  onHalf s h fun x =>
    x.cmd ch tag 0x62 (fun c => c.payload.length = 4 && c.num 0 1 < 128 && c.num 1 3 = 0) service (fun _ => .standby) fun y c =>
      let mode := y.fld Reg.FC_CTRL 2 1
      let z : Half := ((y.clrReg Reg.FC_INJ_STAT 3).setFld Reg.FC_CTRL 2 1 1).inject (c.num 0 1)
      let z : Half := z.setFld Reg.FC_CTRL 2 1 mode
      if z.bit Reg.FC_INJ_STAT 1 then z.reply c ST_CONFLICT []
      else z.reply c ST_OK (leNat 1 (z.fld Reg.FC_INJ_STAT 3 2) ++ leNat 1 (z.fld Reg.FC_INJ_STAT 4 4) ++ [0, 0])

/-! ### Recorder -/

/-- The body of a record (R466). -/
def evrBody (r : EvrRec) : List Byte :=
  if r.kind = 1 then
    leNat 4 r.lo.toNat ++ leNat 4 r.width.toNat ++ (List.range 64).flatMap fun k => leNat 4 (Tab.get 0 r.bins k).toNat
  else if r.kind = 2 then
    leBytes 8 r.min ++ leBytes 8 r.max ++ leBytes 8 r.tMin ++ leBytes 8 r.tMax ++ leNat 4 r.opMin.toNat ++ leNat 4 r.opMax.toNat
  else leNat 4 r.count.toNat ++ leNat 4 0

/-- A record's bytes as its slot holds them (R466). -/
def evrBytes (ch : Nat) (s : EvrSlot) : List Byte :=
  let r := s.rec_
  let b := evrBody r
  let bs := leNat 4 s.seq.toNat ++ leNat 1 r.kind ++ leNat 1 (r.ovf.toNat + 2 * r.nan.toNat + 4 * r.restarted.toNat) ++
    leNat 2 ch ++ leNat 4 r.opmin.toNat ++ leNat 4 r.pcycle.toNat ++ leNat 4 r.opminStart.toNat ++ leNat 4 r.pcycleStart.toNat ++
    leNat 4 r.src ++ leNat 2 b.length ++ leNat 2 0 ++ b
  bs ++ leNat 4 (cv0 (foldSeq s.seq bs)).toNat

/-- REC_SNAPSHOT (R329, R470): without a consistent slot its retries end. -/
def execRecSnapshot (h : HalfId) (ch : Nat) (tag : Nat) (s : State) : Host.Outcome State Fault Refusal :=
  onHalf s h fun x =>
    x.cmd ch tag 0x70 (fun c => c.payload.length = 8 && c.num 0 2 < 16384 && c.num 2 2 = 0 && c.num 6 2 = 0) viewer onEither
      fun y c =>
        let k := c.num 0 2
        let ofs := c.num 4 2
        if (y.evrKind k).1 = 0 then y.reply c ST_NO_OBJECT []
        else match y.evr.newest k with
          | none => y.reply c ST_TIMEOUT []
          | some (_, e) =>
            let bs := evrBytes k e
            let d := (bs.drop ofs).take (if c.gen = 3 then 1652 else 40)
            y.reply c ST_OK (leNat 2 k ++ leNat 1 e.rec_.kind ++ leNat 1 (if ofs + d.length < bs.length then 1 else 0) ++
              leNat 4 e.seq.toNat ++ leNat 2 ofs ++ leNat 2 d.length ++ d)

/-- REC_LIST (R326, R460). -/
def execRecList (h : HalfId) (ch : Nat) (tag : Nat) (s : State) : Host.Outcome State Fault Refusal :=
  onHalf s h fun x =>
    x.cmd ch tag 0x71 (fun c => c.payload.length = 4 && Nat.ble 1 (c.num 2 2) && Nat.ble (c.num 2 2) (if c.gen = 3 then 830 else 24))
      viewer onEither fun y c =>
        let first := c.num 0 2
        let n := min (c.num 2 2) (16384 - first)
        if 16384 ≤ first then y.reply c ST_NO_OBJECT []
        else y.reply c ST_OK (leNat 2 first ++ leNat 2 n ++ (List.range n).flatMap fun i =>
          leNat 2 ((y.evrKind (first + i)).1 + 4 * (y.evrLive (first + i)).ovf.toNat))

end Sys2Proof.Machine
end

