-- ==== Sys2Proof/Machine/Cv.lean ====
section
/-! DEFINITION. The rows of chapter 17: CV_JOB_GO to NOR_ERASE. -/
namespace Sys2Proof.Machine

/-- CV_JOB_GO (R449 to R452). -/
def execCvJobGo (h : HalfId) (slot : Nat) (s : State) : Host.Outcome State Fault Refusal :=
  onHalf s h fun x => x.cvGo slot

/-- CV_JOB_STOP (R453). -/
def execCvJobStop (h : HalfId) (slot : Nat) (s : State) : Host.Outcome State Fault Refusal :=
  onHalf s h fun x => x.cvStop slot

/-- CV_JOB_DONE (R446, R447, R449 to R452, R455) of the slot being served: `data` are the bytes of the range as the engine read them;
those that the model holds of CE RAM are its own (R113). -/
def execCvJobDone (h : HalfId) (slot : Nat) (data : List Byte) (eccBad : Bool) (written : Bool) (s : State) :
    Host.Outcome State Fault Refusal :=
  onHalf s h fun x =>
    if slot < 8 && x.cvState slot = 1 && (eccBad || x.cvTook slot) && (eccBad || data.length = (x.cvJob slot).len) then
      x.cvDone slot (x.cvRead (x.cvJob slot).addr data) eccBad written
    else x

/-- CV_JOB_REPEAT (R453): REPEAT_MS have passed since the previous start. -/
def execCvJobRepeat (h : HalfId) (slot : Nat) (s : State) : Host.Outcome State Fault Refusal :=
  onHalf s h fun x =>
    if 8 ≤ slot || !x.cvOn || !x.bit (Reg.CV_JOB_CFG slot) 6 || (x.cv.jobs.get? slot).isNone ||
        !x.gone (x.cvJob slot).start (x.fld (Reg.CV_JOB_REP slot) 23 0) then x
    else if x.cvStarted slot then
      { x.setBit (Reg.CV_JOB_STAT slot) 5 true with cv := { x.cv with jobs := x.cv.jobs.upd {} slot fun k => { k with again := true } } }
    else x.cvStart slot

/-- The station firmware serves: a half in NATIVE or later whose supervisor runs. -/
def Half.serves (x : Half) : Bool := x.domainOn 1 && !x.fc.haltSup && x.st != .off && x.st != .boot

/-- A telemetry quantity enters its EXT and its HIST (R454, R460). -/
def Half.telemetry (x : Half) (v : Nat × F64) : Half :=
  if v.1 < 128 then (x.evrValue (0x80 + v.1) v.2).evrValue (0x100 + v.1) v.2 else x

/-- The injection of the proof-test subset, in proof-test mode (R209, R241). -/
def Half.proofInject (x : Half) : Half :=
  let mode := x.fld Reg.FC_CTRL 2 1
  let srcs := (List.range 128).filter fun k => isSource k && x.srcProof k
  (srcs.foldl (fun (y : Half) k => y.inject k) (x.setFld Reg.FC_CTRL 2 1 1)).setFld Reg.FC_CTRL 2 1 mode

/-- The next proof test of a new standby half after Scruple's, in their order: comparator self-test, injection, memory
walk, analogue self-calibration (R209); `bad` are the sources of the parts that failed. -/
def Half.nextProof (x : Half) (bad : List Nat) : Half :=
  let n := x.role.proofStep
  if x.st != .standby || !x.role.proofTest || n < 2 then x
  else
    let y : Half := if n = 3 then x.proofInject else x
    let y : Half := bad.foldl Half.raise y
    if n < 5 then { y with role := { y.role with proofStep := n + 1 } }
    else { y with role := { y.role with proofTest := false, proofStep := 0 } }

/-- The period of a background activity in ms; 0 where the table of R454 gives none. -/
def bgPeriod : Activity → Nat
  | .dramScrub => 86400000
  | .sramScrub => 10000
  | .scrupleScrub => 10000
  | .flashScan => 3600000
  | .paramChain => 10000
  | .selfCal => 600000
  | .norWear => 0
  | .displayStress => 0
  | .telemetry => 100
  | .proofTests => 0

/-- An activity falls due: a multiple of its period of monotonic time has passed since the half entered NATIVE (R454). -/
def Half.bgDue (x : Half) (a : Activity) : Bool :=
  bgPeriod a = 0 || x.onMultiple (x.mono - x.role.nativeAt) (bgPeriod a * 1000000)

/-- 1.5 periods have passed since an activity fell due (R454). -/
def Half.bgLate (x : Half) (a : Activity) : Bool :=
  bgPeriod a = 0 || (x.gone x.role.nativeAt (bgPeriod a * 3 / 2) &&
    x.onMultiple (x.mono - x.role.nativeAt - BitVec.ofNat 64 (bgPeriod a * 1500000)) (bgPeriod a * 1000000))

/-- BG_ACTIVITY_DUE (R41, R111, R209, R454, R455, R457): the activity runs. `values` are telemetry readings by
quantity; `bad` are the parts it found bad: slots of the flash scan, task and instance of a parameter field or 16 and
the chain, sources of failed proof tests. -/
def execBgActivityDue (h : HalfId) (act : Activity) (values : List (Nat × F64)) (bad : List (Nat × Nat)) (s : State) :
    Host.Outcome State Fault Refusal :=
  let p := s.half h.other
  onHalf s h fun x =>
    if !x.serves || !x.bgDue act then x
    else match act with
      | .flashScan =>
        let hit := bad.filter fun b => !x.scanSkips b.1
        (hit.foldl (fun (y : Half) b => y.scanBad b.1) x).scanRepair p
      | .paramChain =>
        let y : Half := bad.foldl (fun (y : Half) b => if b.1 = 16 then y.chainBad b.2 else y.paramBad b.1 b.2) x
        ((y.conf.chains.map (·.chain)).filter y.checkDiffers).foldl Half.chainBad y
      | .telemetry => values.foldl Half.telemetry x
      | .proofTests => x.nextProof (bad.map (·.1))
      | .dramScrub => x
      | .sramScrub => x
      | .scrupleScrub => x
      | .selfCal => x
      | .norWear => x
      | .displayStress => x

/-- SW_BG_BUDGET (R454). -/
def execSwBgBudget (h : HalfId) (act : Activity) (s : State) : Host.Outcome State Fault Refusal :=
  onHalf s h fun x => if x.serves && x.bgLate act then x.raise 110 else x

/-- NOR_ERASE (R456). -/
def execNorErase (h : HalfId) (block : Nat) (ok : Bool) (s : State) : Host.Outcome State Fault Refusal :=
  onHalf s h fun x => if x.domainOn 1 then x.norErased block ok else x

end Sys2Proof.Machine
end

