-- ==== Sys2Proof/Machine/Dsp.lean ====
section
/-! DEFINITION. The rows of chapter 19: DISP_FRAME to DISP_STRESS_SEND, DISP_RAIL_FAULT and DISP_RAILS_ON. -/
namespace Sys2Proof.Machine

/-- A frame boundary of the drive engine (R477 to R481). -/
def Half.dspFrame (x : Half) : Half :=
  let y : Half := { x with dsp := x.dsp.pass }
  let y : Half := y.clearPanel
  let y : Half := (y.recoverList.filter y.regionReady).foldl Half.regionStart y
  let y : Half := y.recoverStep
  let y : Half := y.dsp.pix.foldl (fun (z : Half) e => z.goOn e.1 e.2) y
  let y : Half := y.stressFrame
  let ended := y.pendingSlots.filter fun k =>
    (y.region k).started && !y.dsp.recov.contains k && !y.dsp.worksFor k
  (ended.foldl Half.regionDone y).dspShow

/-- DISP_FRAME (R472, R475 to R481), every 1/85 s: running waveforms advance, regions start, pixels go on, tiles count, regions end. -/
def execDispFrame (h : HalfId) (temp : BitVec 16) (s : State) : Host.Outcome State Fault Refusal :=
  onHalf s h fun x =>
    let x : Half := if x.domainOn 6 && x.dspPresent then
        (x.wr Reg.DSP_TEMP (temp.setWidth 32)).setFld Reg.DSP_STAT 15 13 (nextBand (x.fld Reg.DSP_STAT 15 13) temp.toInt)
      else x
    if !x.draws then x else x.every .frame 11764 Half.dspFrame

/-- A cover's data read at its detection; another cover's stress counters start again (R474, R479, R481). -/
def Half.coverNew (x : Half) (cover : CoverId) : Half :=
  let new := cover.serial != x.dsp.serial
  let y : Half := (x.setBit Reg.DSP_STAT 0 true).setBit Reg.DSP_STAT 4 (!cover.lutOk)
  let y : Half := ((y.wr Reg.DSP_VCOM (cover.vcom.setWidth 32)).wr (Reg.DSP_VTH 0) cover.vth0).wr (Reg.DSP_VTH 1) cover.vth1
  let y : Half := (y.wr (Reg.DSP_VTH 2) cover.vth2).wr Reg.DSP_SERIAL_LO (cover.serial.setWidth 32)
  let y : Half := (y.wr Reg.DSP_SERIAL_HI ((cover.serial >>> 32).setWidth 32)).dspIrq 4
  let y : Half := if cover.lutOk then y else (y.dspIrq 5).logEvt .panelTable
  let y : Half := { y with dsp := { y.dsp with cover := some cover } }
  let y : Half := if new then
      ({ y with dsp := { y.dsp with serial := cover.serial, stress := [], clearAll := !y.partnerClaim } } : Half).wr Reg.DSP_SMAX 0
        |>.setBit Reg.DSP_STAT 7 false
    else y
  if y.isActive then y.dispTake else y.dspShow

/-- COVER_DETECT (R474, R479, R481): a cover whose serial differs starts new stress counters. -/
def execCoverDetect (h : HalfId) (cover : CoverId) (s : State) : Host.Outcome State Fault Refusal :=
  onHalf s h fun x =>
    if !x.domainOn 6 then x
    else
      x.coverNew cover

/-- COVER_REMOVE (R474, R483, R487). -/
def execCoverRemove (h : HalfId) (s : State) : Host.Outcome State Fault Refusal :=
  onHalf s h fun x =>
    if x.dspPresent then
      let y : Half := (x.discharge.setBit Reg.DSP_STAT 0 false).dspIrq 4
      { y with dsp := { y.dsp with cover := none } }
    else x

/-- DISP_NO_CLAIM (R483, R485): neither claim has been valid for 5 ms. -/
def execDispNoClaim (h : HalfId) (s : State) : Host.Outcome State Fault Refusal :=
  onHalf s h fun x => if Nat.ble 5000000 x.sys.noClaim.toNat && !x.claims && !x.partnerClaim then x.discharge else x

/-- DISP_DISCHARGE_DONE (R483). -/
def execDispDischargeDone (h : HalfId) (s : State) : Host.Outcome State Fault Refusal :=
  onHalf s h fun x => x.setBit Reg.DSP_STAT 6 false

/-- DISP_JOURNAL_ACK_TIMEOUT (R484): 1 ms after the entry the region waits no more. -/
def execDispJournalAckTimeout (h : HalfId) (slot : Nat) (s : State) : Host.Outcome State Fault Refusal :=
  onHalf s h fun x => 
    if slot < 16 && awaits (x.journal slot) && x.goneUs (x.region slot).at_ 1000 then x.modRegion slot fun r => { r with ready := true } else x

/-- DISP_STRESS_SEND (R484). -/
def execDispStressSend (h : HalfId) (s : State) : Host.Outcome State Fault Refusal :=
  onHalf s h fun x => x.every .stress 10000000 fun x => x.dspCopy (.stress ((List.range 2028).map fun t => x.dsp.stress.get 0 t))

/-- DISP_RAIL_FAULT (R486, R487). -/
def execDispRailFault (h : HalfId) (s : State) : Host.Outcome State Fault Refusal :=
  onHalf s h fun x =>
    if x.bit Reg.DSP_STAT 1 then ((x.setBit Reg.DSP_STAT 5 true).setBit Reg.DSP_STAT 1 false).dspIrq 3 |>.logEvt .panelRail else x

/-- DISP_RAILS_ON (R481, R482, R485): enabled rails of the half whose claim is valid are all in range. -/
def execDispRailsOn (h : HalfId) (s : State) : Host.Outcome State Fault Refusal :=
  onHalf s h fun x =>
    if x.domainOn 6 && x.bit Reg.DSP_CTRL 1 && x.dspPresent && !x.bit Reg.DSP_STAT 6 && x.claims then
      x.setBit Reg.DSP_STAT 1 true
    else x

end Sys2Proof.Machine
end

