-- ==== Sys2Proof/Machine/Net.lean ====
section
/-! DEFINITION. The rows of chapter 16: LAN_FRAME_RECEIVE to AUTH_ADDRESS_UNBLOCK. -/
namespace Sys2Proof.Machine

/-- A good frame by its class (R430). -/
def Half.lanTake (x : Half) (port : Nat) (k : LanKind) : Half :=
  match lanQueue (x.bit Reg.MBX_CTRL 1) k with
  | none => x.incSat Reg.ETH_DROP
  | some q =>
    let (ok, y) := x.enqueue port q
    if !ok then y
    else
      let y : Half := y.netIrq (4 * port + q)
      let y : Half := if k = .prpSupervision then y.netIrq 12 else y
      if k = .icmpEcho then y.echo else y

/-- A LAN frame without error: counted, and the second copy of a pair discarded under PRP (R427 to R430). -/
def Half.lanGood (x : Half) (port : Nat) (f : LanFrame) : Half :=
  let y : Half := x.incSat (Reg.ETH_P_RXCNT port)
  match f.seq with
  | some q =>
    if x.bit Reg.ETH_CTRL 1 && f.kind != .ptp then
      let (dup, y) := y.prpHear port f.src q
      if dup then y.incSat Reg.ETH_DUP else y.lanTake port f.kind
    else y.lanTake port f.kind
  | none => y.lanTake port f.kind

/-- LAN_FRAME_RECEIVE (R427 to R430): `fcsOk` says that FCS and length are good. PTP carries no trailer (R429). -/
def execLanFrameReceive (h : HalfId) (port : Nat) (f : LanFrame) (s : State) : Host.Outcome State Fault Refusal :=
  onHalf s h fun x =>
    if 2 ≤ port || !x.ethOn || !x.linkUp port then x
    else if !f.fcsOk then x.incSat (Reg.ETH_P_ERR port)
    else
      x.lanGood port f

/-- PRP_SUPERVISION_SEND (R428). -/
def execPrpSupervisionSend (h : HalfId) (s : State) : Host.Outcome State Fault Refusal :=
  onHalf s h fun x => if x.ethOn && x.bit Reg.ETH_CTRL 1 then x.every .prp 2000000 (·.send .prpSupervision) else x

/-- PRP_NODE_FORGET (R428): a node unheard for 60 s leaves the table. -/
def execPrpNodeForget (h : HalfId) (src : DWord) (s : State) : Host.Outcome State Fault Refusal :=
  onHalf s h fun x =>
    if (x.net.nodes.get? src.toNat).any fun n => x.gone n.heard 60000 then
      (({ x with net := { x.net with nodes := x.net.nodes.del src.toNat } } : Half).prpShow).netIrq 12
    else x

/-- LAN_LINK_CHANGE (R427, R431, R444, R445): a LAN port at 1000 Mbit/s, the instrument port at 100 Mbit/s. -/
def execLanLinkChange (h : HalfId) (port : Nat) (up : Bool) (s : State) : Host.Outcome State Fault Refusal :=
  onHalf s h fun x =>
    if 3 ≤ port || !x.domainOn 4 || x.linkUp port == up then x
    else
      let speed := if !up then 0 else if port = 2 then 1 else 2
      let y : Half := (x.setBit (Reg.ETH_P_STAT port) 0 up).setFld (Reg.ETH_P_STAT port) 2 1 speed
      let y : Half := if up then y else { y with net := { y.net with downAt := y.net.downAt.put port x.mono } }
      let y : Half := y.netIrq (if port = 2 then 11 else 8 + port)
      y.raiseIf (!up) (if port = 2 then 102 else 100)

/-- NET_LAN_LOST (R444): both links have been down for 1 s; a link that never was up is down from the start. -/
def execNetLanLost (h : HalfId) (s : State) : Host.Outcome State Fault Refusal :=
  onHalf s h fun x => 
    if !x.linkUp 0 && !x.linkUp 1 && x.gone (x.net.downAt.get 0 0) 1000 && x.gone (x.net.downAt.get 0 1) 1000 then x.raise 101
    else x

/-- INS_SENTENCE_RECEIVE (R431 to R434): the station's own sentences give its line counts and no import. -/
def execInsSentenceReceive (h : HalfId) (sn : Sentence) (s : State) : Host.Outcome State Fault Refusal :=
  onHalf s h fun x =>
    if !x.ethOn || !x.linkUp 2 then x
    else
      let (ok, y) := (x.incSat (Reg.ETH_P_RXCNT 2)).enqueue 2 0
      if !ok then y
      else
        let y : Half := y.netIrq 10
        if !sn.checksumOk then { y with net := { y.net with badSentences := satAdd y.net.badSentences 1 } }
        else if sn.ownSource then { y with net := { y.net with lines := y.net.lines.put sn.group sn.line } }
        else y.importSentence sn

/-- SENTENCE_TIMEOUT (R434, R444): the timeout has passed since the sentence was last received, once until it comes again; a
sentence never received times out by the event alone (log 101). -/
def execSentenceTimeout (h : HalfId) (idx : Nat) (s : State) : Host.Outcome State Fault Refusal :=
  onHalf s h fun x =>
    match (x.sentenceCfg idx).filter fun c => !c.send with
    | none => x
    | some c =>
      if (x.net.heard.get? idx).any fun e => e.2 || !x.gone e.1 c.timeout then x
      else
        let y : Half := { x with net := { x.net with heard := x.net.heard.put idx (x.mono, true) } }
        (c.points.foldl Half.busStale y).raise 102

/-- SENTENCE_SEND_DUE (R431, R434): once in the sentence's period. -/
def execSentenceSendDue (h : HalfId) (idx : Nat) (s : State) : Host.Outcome State Fault Refusal :=
  onHalf s h fun x =>
    match (x.sentenceCfg idx).filter fun c => c.send && 0 < c.timeout with
    | none => x
    | some c => x.every (.sentence idx) (c.timeout * 1000) fun y => y.sendSentence c

/-- SER_FRAME_RECEIVE (R434 to R438): by the bus's type. A frame that breaks its limits is discarded with the framing
bit, one that fails its check with the check bit. -/
def execSerFrameReceive (h : HalfId) (bus : Nat) (f : SerFrame) (s : State) : Host.Outcome State Fault Refusal :=
  onHalf s h fun x =>
    if !x.serOn bus then x
    else match f with
      | .error framing parity =>
        let y : Half := if framing then x.setBit (Reg.SER_B_STAT bus) 2 true else x
        if parity then y.serBad bus 3 else if framing then y.serBad bus 2 else y
      | .sentence sn =>
        if x.serType bus != 2 then x
        else if !sn.checksumOk then x.serBad bus 4
        else (x.serTaken bus).importSentence sn
      | .modbus limitsOk crcOk addr fn data =>
        if x.serType bus != 3 && x.serType bus != 4 then x
        else if !limitsOk then x.serBad bus 2
        else if !crcOk then x.serBad bus 4
        else
          let y : Half := x.serTaken bus
          if !x.serDrives bus then y
          else if x.serType bus = 3 then y.masterTake bus addr fn data
          else y.slaveTake bus addr fn data

/-- MODBUS_POLL_DUE (R437): once in its period; a request that falls due while the bus is busy waits once and is counted as late. -/
def execModbusPollDue (h : HalfId) (bus : Nat) (req : Nat) (s : State) : Host.Outcome State Fault Refusal :=
  onHalf s h fun x =>
    match x.request bus req with
    | none => x
    | some q =>
      if !x.serDrives bus || x.serType bus != 3 then x
      else x.every (.poll bus req) (q.period * 1000) fun x =>
        if (x.serBus bus).pend.isNone then x.pollSend bus req 0
        else
          let y : Half := x.incSat (Reg.SER_B_LATE bus)
          y.modSer bus fun k => { k with queue := if k.queue.contains req then k.queue else k.queue ++ [req] }

/-- MODBUS_RESPONSE_TIMEOUT (R437, R444): the pending request's timeout has passed. A broadcast is not answered, so its
wait ends with no failure (R436, log 101). -/
def execModbusResponseTimeout (h : HalfId) (bus : Nat) (s : State) : Host.Outcome State Fault Refusal :=
  onHalf s h fun x => 
    match (x.serBus bus).pend.bind fun p => x.request bus p.1 with
    | none => x
    | some q =>
      if !x.serDrives bus || x.serType bus != 3 || !x.gone (x.serBus bus).pendAt q.timeout then x
      else if q.addr = 0 then x.pollNext bus else x.pollFail bus

/-- SER_ROLE_CHANGE (R438): after H_V the incoming half takes the bus and the outgoing half leaves it; a Modbus bus with a
response pending is not idle. -/
def execSerRoleChange (h : HalfId) (bus : Nat) (s : State) : Host.Outcome State Fault Refusal :=
  onHalf s h fun x =>
    if 2 ≤ bus || !x.domainOn 4 then x
    else match x.role.ho with
      | some k => if k.stage < 2 then x else if k.outgoing then (if (x.serBus bus).pend.isSome then x else x.serLeave bus) else x.serTake bus
      | none => if x.isActive && x.role.drives then (if (x.serBus bus).drives then x else x.serTake bus) else x.serLeave bus

/-- AUTH_ADDRESS_UNBLOCK (R442): 60 s have passed. -/
def execAuthAddressUnblock (h : HalfId) (addr : Word) (s : State) : Host.Outcome State Fault Refusal :=
  onHalf s h fun x =>
    if x.mbx.blocked.contains addr.toNat && ((x.mbx.authFails.get [] addr.toNat).getLast?.all fun t => x.gone t 60000) then
      { x with mbx := { x.mbx with
          blocked := x.mbx.blocked.filter fun a => a != addr.toNat
          authFails := x.mbx.authFails.del addr.toNat } }
    else x

end Sys2Proof.Machine
end

