-- ==== Sys2Proof/Machine/Recorder.lean ====
section
/-! DEFINITION. The rows of chapter 18: OPERATING_MINUTE and EVR_COMMIT_PASS. -/
namespace Sys2Proof.Machine

/-- IN_WIN of each class: its recoveries within the last 1,440 operating minutes (R238, R245). -/
def Half.recovMinute (x : Half) : Half :=
  (List.range 12).foldl (fun (y : Half) c => y.setFld (Reg.FC_CLASS_REC c) 18 17 (min 2 (y.recent c))) x

/-- OPERATING_MINUTE (R245, R462, R505), in the last second of a minute of powered time (log 101): the counter, its copy in MRAM, SYS_IRQ_STAT bit 9, and what BO_USED
(R419) and IN_WIN show. -/
def execOperatingMinute (h : HalfId) (s : State) : Host.Outcome State Fault Refusal :=
  onHalf s h fun x =>
    if x.st == .off || x.partMinute < 59 then x
    else
      let y : Half := if x.opmin = 0xFFFFFFFF then x.setBit Reg.SYS_STAT 10 true else x.wr Reg.SYS_OPMIN (x.opmin + 1)
      let y : Half := { y with sys := { y.sys with mramOpmin := y.opmin, seconds := 0, partBase := 0, minuteAt := y.sys.up } }
      (y.canMinute.recovMinute).sysIrq 9

/-- EVR_COMMIT_PASS (R467, R468): a pass; the final pass of the power-fail sequence ends with its own request,
and PD1 goes off after it (R495). -/
def execEvrCommitPass (h : HalfId) (s : State) : Host.Outcome State Fault Refusal :=
  onHalf s h fun x =>
    if x.st == .off || !(x.bit Reg.EVR_CTRL 0 || x.sys.powerFail) then x
    else
      let y : Half := x.evrPass
      if x.sys.powerFail then
        let y : Half := (y.setBit Reg.EVR_STAT 1 false).irq Reg.EVR_IRQ_STAT Reg.EVR_IRQ_EN 3 227
        (y.enterReset [1]).clrReg Reg.SYS_PD 2
      else y

end Sys2Proof.Machine
end

