-- ==== Sys2Proof/Machine/Time.lean ====
section
/-! DEFINITION. Station time, the servo and PTP: commands TS_SRV_GO to TS_CAP_POP and STATION_SECOND (chapter 14). Port
0 is LAN A and port 1 LAN B: a worker's PTP ports, or a manager's League ports; ports 2 and 3 are a manager's upstream
ports (R393, R394). -/
namespace Sys2Proof.Machine

/-- A port's state. -/
def Half.port (x : Half) (p : Nat) : PtpPort := x.ts.ports.get {} p
/-- A half with a port's state changed. -/
def Half.modPort (x : Half) (p : Nat) (f : PtpPort → PtpPort) : Half :=
  { x with ts := { x.ts with ports := x.ts.ports.upd {} p f } }

/-- A port that can be slave: a worker's ports, or a manager's upstream ports with an upstream VLAN configured
(R392, R394). -/
def Half.slavePort (x : Half) (p : Nat) : Bool :=
  if x.conf.manager then (p == 2 || p == 3) && x.conf.upstream else p == 0 || p == 1

/-- A port that acts as master: a manager's League ports (R394). -/
def Half.masterPort (x : Half) (p : Nat) : Bool := x.conf.manager && (p == 0 || p == 1)

/-- The port the half takes its offsets from: of LAN A and LAN B, on a manager the upstream one (R394, R395). -/
def Half.selectedPort (x : Half) : Nat := x.ts.port + (if x.conf.manager then 2 else 0)

/-- The offsets of the half's own ports enter its servo: PTP source 1, 2 or 3 (R395, R399). -/
def Half.ptpInUse (x : Half) : Bool := 1 ≤ x.ts.source && x.ts.source ≤ 3

/-- The PHY receive latency of a port, in units of 2^-16 ns, and its transmit latency in 0.1 ns (R396, R397, R406). -/
def Half.rxLatency (x : Half) (p : Nat) : Int :=
  (x.fld (if p % 2 = 0 then Reg.TS_LAT_A else Reg.TS_LAT_B) 15 0 : Int) * 65536 / 10
def Half.txLatency (x : Half) (p : Nat) : Int := x.fld (if p % 2 = 0 then Reg.TS_LAT_A else Reg.TS_LAT_B) 31 16

/-- Arrival of a Sync at the port less its departure at the master, in units of 2^-16 ns (R396, R398). -/
def Half.syncDelta (x : Half) (p : Nat) (m : PtpSync) : Int :=
  ((m.rx - m.origin).toInt) * 65536 - x.rxLatency p - m.correction.toInt

/-- The offset of a port's last Sync against its last path delay, in units of 2^-16 ns, once a delay is known
(R388, R398). -/
def Half.theta (x : Half) (p : Nat) : Option Int :=
  match (x.port p).lastSync, (x.port p).delays with
  | some m, d :: _ => some (x.syncDelta p m - d)
  | _, _ => none

/-- The offsets of LAN A and LAN B differ by more than 1 µs (R395). -/
def Half.abDiffer (x : Half) : Bool :=
  let b := if x.conf.manager then 2 else 0
  match (x.port b).offset, (x.port (b + 1)).offset with
  | some p, some q => Nat.blt 65536000 (p - q).natAbs
  | _, _ => false

/-- Since when the two ports' offsets differ. -/
def Half.abWatch (x : Half) : Half :=
  { x with ts := { x.ts with abSince := if x.abDiffer then some (x.ts.abSince.getD x.mono) else none } }

/-- The offset of a port computed, and handed to the servo from the selected port (R388, R395). -/
def Half.portOffset (x : Half) (p : Nat) : Half :=
  match x.theta p with
  | none => x
  | some th =>
    let y : Half := (x.modPort p fun q => { q with offset := some th }).abWatch
    if y.ptpInUse && p == y.selectedPort && y.bit Reg.TS_CTRL 2 then
      let t8 := th / 256
      let y : Half := y.wr Reg.TS_SRV_OFS_LO (BitVec.ofInt 32 (t8 / 256))
      let y : Half := y.wr Reg.TS_SRV_OFS_HI (BitVec.ofInt 32 (t8 / 256 / 2 ^ 32))
      (y.wr Reg.TS_SRV_OFS_FR (BitVec.ofInt 32 (t8 % 256))).applyOffset t8 true false
    else y

/-- The spread of a port's path delays (R395). -/
def PtpPort.spread (p : PtpPort) : Option Int :=
  match p.delays with
  | [] => none
  | d :: ds => some (ds.foldl max d - ds.foldl min d)

/-- Selection of the better of two ports at a Sync of the selected one (R395): the other port's spread smaller by at
least 20 ns for 16 consecutive Syncs. -/
def Half.portChoice (x : Half) (p : Nat) : Half :=
  if x.ts.source != 1 || p != x.selectedPort then x
  else
    let o := if p % 2 = 0 then p + 1 else p - 1
    let better := match (x.port p).spread, (x.port o).spread with
      | some a, some b => decide (b + 20 * 65536 ≤ a)
      | _, _ => false
    let n := if better then (x.port p).better + 1 else 0
    let y : Half := x.modPort p fun q => { q with better := n }
    if 16 ≤ n then
      let y : Half := y.modPort p fun q => { q with better := 0 }
      { y with ts := { y.ts with port := o % 2 } }
    else y

/-- A Sync with its origin time known is taken (R391, R396). -/
def Half.takeSync (x : Half) (p : Nat) (m : PtpSync) : Half :=
  ((x.modPort p fun q => { q with lastSync := some m, waitFollow := none, syncAt := x.mono }).portChoice p).portOffset p

/-- A message of a port's master (R391, R392): domain 24, a port that can be slave, the selected sender. -/
def Half.fromMaster (x : Half) (p domain : Nat) (sender : DWord) : Bool :=
  domain == 24 && x.slavePort p && (x.port p).master.any fun a => a.sender == sender

/-- The default data set comparison of IEEE 1588-2019, with the steps removed and the sender last (R391). -/
def announceKey (a : PtpAnnounce) : List Nat :=
  [a.priority1, a.clockClass, a.accuracy, a.variance, a.priority2, a.gm.toNat, a.steps, a.sender.toNat]

/-- Lexicographic order of keys. -/
def keyLt : List Nat → List Nat → Bool
  | a :: as, b :: bs => Nat.blt a b || (a == b && keyLt as bs)
  | _, _ => false

/-- The best of a port's announces. -/
def bestAnnounce (l : List PtpAnnounce) : Option PtpAnnounce :=
  l.foldl (fun b a => match b with
    | none => some a
    | some c => if keyLt (announceKey a) (announceKey c) then some a else some c) none

/-- The half's own clock identity, from its MAC address (R393). -/
def Half.clockIdentity (x : Half) : DWord :=
  (x.rd Reg.ETH_MAC_HI).setWidth 64 <<< 32 ||| (x.rd Reg.ETH_MAC_LO).setWidth 64

/-- A manager half's own data set (R392, R394). -/
def Half.ownAnnounce (x : Half) : PtpAnnounce :=
  { priority1 := 128, clockClass := 248, priority2 := if x.isActive then 64 else 96, gm := x.clockIdentity,
    sender := x.clockIdentity }

/-- What a manager half announces on its League ports (R392, R394): with its upstream port slave, the grandmaster's
identity and class, one step further. -/
def Half.sentAnnounce (x : Half) : PtpAnnounce :=
  match (x.port x.selectedPort).master with
  | some a =>
    if x.conf.manager then { x.ownAnnounce with clockClass := a.clockClass, gm := a.gm, steps := a.steps + 1, utcOffset := a.utcOffset }
    else x.ownAnnounce
  | none => x.ownAnnounce

/-- The BMCA of a port (R391, R394): a worker's port takes the best sender; an upstream port is slave only to a better
one than the manager itself. A change of master empties what was measured against the old one (log 25). -/
def Half.evalMaster (x : Half) (p : Nat) : Half :=
  let best := bestAnnounce ((x.port p).foreign.map (·.1))
  let best := if x.conf.manager then best.filter fun a => keyLt (announceKey a) (announceKey x.ownAnnounce) else best
  let same := match best, (x.port p).master with
    | some a, some b => a.sender == b.sender
    | none, none => true
    | _, _ => false
  let y : Half := x.modPort p fun q =>
    if same then { q with master := best }
    else { q with master := best, lastSync := none, waitFollow := none, delays := [], offset := none, better := 0 }
  if p == y.selectedPort then
    match best with
    | some a => { y with ts := { y.ts with gm := a.gm, utcOffset := a.utcOffset } }
    | none => y
  else y

/-- The θ in the offset registers, in units of 2^-8 ns (R388). -/
def Half.srvOfs (x : Half) : Int :=
  ((x.rd Reg.TS_SRV_OFS_HI ++ x.rd Reg.TS_SRV_OFS_LO : DWord)).toInt * 256 + x.fld Reg.TS_SRV_OFS_FR 7 0

/-! ### The commands -/

/-- TS_SRV_GO (R388, R389): θ from TS_SRV_OFS with the servo enabled. -/
def execTsSrvGo (h : HalfId) (s : State) : Host.Outcome State Fault Refusal :=
  onHalf s h fun x => if x.bit Reg.TS_CTRL 2 then x.applyOffset x.srvOfs true false else x
/-- TS_SRV_STEP (R389): GO with STEP. -/
def execTsSrvStep (h : HalfId) (s : State) : Host.Outcome State Fault Refusal :=
  onHalf s h fun x =>
    if x.bit Reg.TS_CTRL 2 then x.applyOffset x.srvOfs true true else x

/-- TS_MONO_READ (R386): the read latches station time, the step accumulator and the tick count at one tick. -/
def execTsMonoRead (h : HalfId) (s : State) : Host.Outcome State Fault Refusal :=
  onHalf s h fun x =>
    let y : Half := x.wr Reg.TS_STN (x.now.setWidth 32)
    let y : Half := y.wr Reg.TS_ACC_LO (x.ts.acc.setWidth 32)
    let y : Half := y.wr Reg.TS_ACC_HI ((x.ts.acc >>> 32).setWidth 32)
    let y : Half := y.wr Reg.TS_RAW (x.ts.tick.setWidth 32)
    { y with rdata := x.mono.setWidth 32 }

/-- MONO_WRAP (R386): monotonic time passes a multiple of 2^32 ns. -/
def execMonoWrap (h : HalfId) (s : State) : Host.Outcome State Fault Refusal :=
  onHalf s h fun x => if x.bit Reg.TS_CTRL 0 && x.onMultiple x.mono 0x100000000 then x.tsIrq 0 else x

/-- STATION_WRAP (R386): station time passes a multiple of 2^32 ns. -/
def execStationWrap (h : HalfId) (s : State) : Host.Outcome State Fault Refusal :=
  onHalf s h fun x => if x.bit Reg.TS_CTRL 0 && x.onMultiple x.now 0x100000000 then x.tsIrq 1 else x

/-- SERVO_HOLDOVER (R390): no offset for 3 intervals of the source while acquiring or locked. -/
def execServoHoldover (h : HalfId) (s : State) : Host.Outcome State Fault Refusal :=
  onHalf s h fun x =>
    let st := x.fld Reg.TS_STAT 2 1
    let gone := x.goneUs x.ts.lastOfs (if x.ts.source = 4 then 3000 else 375000)
    if (st = 1 || st = 2) && gone then (x.setServo 3).servoRate 0 false else x

/-- STATION_TIME_SAVE (R382): a minute after station time was last written. -/
def execStationTimeSave (h : HalfId) (s : State) : Host.Outcome State Fault Refusal :=
  onHalf s h fun x => x.every .saveTime 60000000 fun y => { y with sys := { y.sys with mramTime := y.now } }

/-- SYNC (R391, R396): a two-step Sync waits for its Follow_Up. -/
def execSync (h : HalfId) (port : Nat) (m : PtpSync) (s : State) : Host.Outcome State Fault Refusal :=
  onHalf s h fun x =>
    if !x.fromMaster port m.domain m.master then x
    else if m.twoStep then x.modPort port fun q => { q with waitFollow := some m }
    else x.takeSync port m

/-- FOLLOW_UP (R391): it completes the two-step Sync of the same master and sequence. -/
def execFollowUp (h : HalfId) (port : Nat) (m : PtpSync) (s : State) : Host.Outcome State Fault Refusal :=
  onHalf s h fun x =>
    if !x.fromMaster port m.domain m.master then x
    else match (x.port port).waitFollow with
      | some w =>
        if w.seq = m.seq then x.takeSync port { w with origin := m.origin, correction := w.correction + m.correction }
        else x
      | none => x

/-- DELAY_REQ (R391, R394, R396, R398): a master port answers with the request's corrected stamp and its correction. -/
def execDelayReq (h : HalfId) (port : Nat) (m : PtpDelayReq) (s : State) : Host.Outcome State Fault Refusal :=
  onHalf s h fun x =>
    if m.domain = 24 && x.masterPort port then
      x.send (.ptpDelayResp port ((m.rx.toNat : Int) * 10 - x.rxLatency port * 10 / 65536) m.requester m.seq m.correction)
    else x

/-- DELAY_RESP (R398): the path delay from the last Sync and this exchange, then the offset; an answer to another request
is passed over. -/
def execDelayResp (h : HalfId) (port : Nat) (m : PtpDelayResp) (s : State) : Host.Outcome State Fault Refusal :=
  onHalf s h fun x =>
    if !x.fromMaster port m.domain m.master then x
    else match (x.port port).lastSync, (x.port port).req with
      | some sy, some (seq, t3) =>
        if m.seq != seq then x
        else
          let sm := ((m.t4 - t3).toInt) * 65536 - m.correction.toInt
          let delay := (x.syncDelta port sy + sm) / 2
          (x.modPort port fun q => { q with delays := (delay :: q.delays).take 16, req := none }).portOffset port
      | _, _ => x

/-- ANNOUNCE (R391): the sender's data set replaces its former one, and the BMCA is evaluated. -/
def execAnnounce (h : HalfId) (port : Nat) (m : PtpAnnounce) (s : State) : Host.Outcome State Fault Refusal :=
  onHalf s h fun x =>
    if m.domain != 24 || !x.domainOn 4 || !x.slavePort port then x
    else (x.modPort port fun q =>
      { q with foreign := (q.foreign.filter fun a => a.1.sender != m.sender) ++ [(m, x.mono)] }).evalMaster port

/-- The interval of a kind of message, in µs (R392). -/
def sendInterval : PtpKind → Nat
  | .sync => 125000
  | .delayReq => 1000000
  | .announce => 1000000

/-- A message of a kind falls due on a port (R392). -/
def Half.sendDue (x : Half) (p : Nat) (kind : PtpKind) : Bool :=
  match (x.port p).sentAt.find? fun e => e.1 == kind with
  | some e => x.goneUs e.2 (sendInterval kind)
  | none => true

/-- PTP_MESSAGE_SEND (R392, R393, R394, R397): master ports send Sync and Announce, slave ports Delay_Req; an event
message takes its coarse originTimestamp as it is queued. -/
def execPtpMessageSend (h : HalfId) (port : Nat) (kind : PtpKind) (s : State) : Host.Outcome State Fault Refusal :=
  onHalf s h fun x =>
    let due := x.sendDue port kind
    let y : Half := x.modPort port fun q => { q with
      sentAt := (q.sentAt.filter fun e => e.1 != kind) ++ [(kind, x.mono)] }
    let q := y.modPort port fun q => { q with queued := some (kind, x.now) }
    match kind with
    | .sync => if due && x.masterPort port then q else x
    | .delayReq => if due && x.slavePort port && (x.port port).master.isSome then q else x
    | .announce => if due && x.masterPort port then y.send (.ptpAnnounce port x.sentAnnounce) else x

/-- PTP_FRAME_DEPARTURE (R397): a frame whose correction d is negative or above 1 ms is discarded and counted. -/
def execPtpFrameDeparture (h : HalfId) (port : Nat) (kind : PtpKind) (s : State) : Host.Outcome State Fault Refusal :=
  onHalf s h fun x =>
    match (x.port port).queued with
    | none => x
    | some (k, t) =>
      if k != kind then x
      else
        let d : Int := (x.now - t).toInt * 10 + x.txLatency port
        let y : Half := x.modPort port fun q => { q with queued := none }
        if d < 0 || 10000000 < d then (y.incSat Reg.TS_TX_LATE).tsIrq 6
        else
          let y : Half := if kind == .delayReq then
              y.modPort port fun q => { q with req := some (q.reqSeq, t), reqSeq := q.reqSeq + 1 } else y
          y.send (.ptp port kind t d)

/-- ANNOUNCE_RECEIPT_TIMEOUT (R392, R394): a master silent for 3 s is dropped and another selected. -/
def execAnnounceReceiptTimeout (h : HalfId) (port : Nat) (s : State) : Host.Outcome State Fault Refusal :=
  onHalf s h fun x =>
    match (x.port port).master with
    | none => x
    | some a =>
      if (x.port port).foreign.any fun b => b.1.sender == a.sender && !x.goneUs b.2 3000000 then x
      else (x.modPort port fun q => { q with foreign := q.foreign.filter fun b => b.1.sender != a.sender }).evalMaster port

/-- PTP_PORT_SYNC_LOSS (R395): the selected port has had no Sync for 375 ms, and the other port is selected. -/
def execPtpPortSyncLoss (h : HalfId) (s : State) : Host.Outcome State Fault Refusal :=
  onHalf s h fun x => if x.ts.source = 1 && x.goneUs (x.port x.selectedPort).syncAt 375000 then { x with ts := { x.ts with port := 1 - x.ts.port } } else x

/-- AB_DIS (R395): the two ports' offsets have differed by more than 1 µs for 10 s; the event is recorded. -/
def execAbDis (h : HalfId) (s : State) : Host.Outcome State Fault Refusal :=
  onHalf s h fun x =>
    if x.abDiffer && x.ts.abSince.any fun m => x.goneUs m 10000000 then
      ((x.setBit Reg.TS_STAT 5 true).tsIrq 7).when (!x.bit Reg.TS_STAT 5) (·.logEvt .abDisagree)
    else x

/-- SPAN_TIME_SEND (R399): the active half's TIME frame. -/
def execSpanTimeSend (h : HalfId) (s : State) : Host.Outcome State Fault Refusal :=
  onHalf s h fun x =>
    if x.st != .active && x.st != .relinquishing then x
    else x.every .time 1000 fun x => x.spanPut fun n =>
      .time n { tDep := x.now, mDep := x.mono, source := BitVec.ofNat 8 x.ts.source,
                state := BitVec.ofNat 8 (x.fld Reg.TS_STAT 2 1), utcOffset := x.ts.utcOffset,
                gmIdentity := if x.ts.source = 0 then 0 else x.ts.gm }

/-- The partner's monotonic time and step accumulator adopted once (R383). -/
def Half.adopt (x : Half) (p : TimePayload) : Half :=
  let m : DWord := p.mDep + BitVec.ofNat 64 (x.fld Reg.SPAN_DELAY 15 0)
  let y : Half := { x with
    ts := { x.ts with mono := m.setWidth 96 <<< 32, acc := p.tDep - p.mDep, segs := [] } }
  let y : Half := y.newSegment 0
  let y : Half := if y.virt then
      { y with ts := { y.ts with segs := y.ts.segs.map fun g => { g with mBase := m.setWidth 96 <<< 32 } } } else y
  (y.setBit Reg.TS_STAT 6 true).setBit Reg.TS_STAT 0 true

/-- SPAN_TIME_FRAME (R383, R399): consumed in SYNCING and STANDBY only (R192). -/
def execSpanTimeFrame (h : HalfId) (hdr : SpanHdr) (p : TimePayload) (s : State) : Host.Outcome State Fault Refusal :=
  onHalf s h fun x0 =>
    let x := if x0.linked then x0.spanAccept hdr else x0
    if !x0.linked then x0
    else if x.st != .syncing && x.st != .standby then x
    else
      let x := x.selectSource 4
      let x : Half := { x with ts := { x.ts with
        utcOffset := p.utcOffset, gm := p.gmIdentity
        selected := if p.source.toNat < 4 then some p.source.toNat else x.ts.selected } }
      if x.st = .syncing && !x.bit Reg.TS_STAT 6 then x.adopt p
      else
        let th : Int := (x.mono - p.mDep).toInt - x.fld Reg.SPAN_DELAY 15 0
        let y : Half := if x.bit Reg.TS_CTRL 2 then x.applyOffset (th * 256) false false else x
        let acc : DWord := p.tDep - p.mDep
        if acc = y.ts.acc then y else (y.phaseStep (acc - y.ts.acc)).setBit Reg.TS_STAT 0 true

/-- A captured edge of a continuous DI as its filter's stamp knows it (R345); `x0` is the half before the capture, whose
full FIFO loses its oldest entry. -/
def Half.diEdge (x x0 : Half) (di : Nat) (rising : Bool) : Half :=
  let q := x0.ts.fifos.get [] (di + 4)
  let lost : Option Byte := if 64 ≤ q.length then q.head?.map (·.seq) else none
  let keep (t : Tab (DWord × Byte)) : Tab (DWord × Byte) :=
    match t.get? di with
    | some e => if lost == some e.2 then t.del di else t
    | none => t
  let e : DWord × Byte := (x0.now, x0.ts.capSeq.get 0 (di + 4))
  let rise := keep x.dio.rise
  let fall := keep x.dio.fall
  { x with dio := { x.dio with
      rise := if rising then rise.put di e else rise
      fall := if rising then fall else fall.put di e
      leave := keep x.dio.leave } }

/-- EDGE_CAPTURE (R401, R402): FIFO 0–3 while its FI is not off, FIFO 4–19 while its DI is in continuous mode. -/
def execEdgeCapture (h : HalfId) (fifo : Nat) (rising : Bool) (halfNs : Bool) (s : State) :
    Host.Outcome State Fault Refusal :=
  onHalf s h fun x =>
    if !x.bit Reg.TS_CTRL 0 then x
    else if fifo < 4 then (if x.fld (Reg.FI_CFG fifo) 1 0 = 0 then x else x.capture fifo rising halfNs)
    else if fifo < 20 && x.bit Reg.DI_MODE (fifo - 4) then (x.capture fifo rising halfNs).diEdge x (fifo - 4) rising
    else x

/-- TS_CAP_POP (R402). -/
def execTsCapPop (h : HalfId) (fifo : Nat) (s : State) : Host.Outcome State Fault Refusal :=
  onHalf s h fun x => if fifo < 20 then { x with ts := { x.ts with fifos := x.ts.fifos.upd [] fifo fun q => q.drop 1 } } else x

/-- STATION_SECOND (R406): station time passes a whole second. -/
def execStationSecond (h : HalfId) (s : State) : Host.Outcome State Fault Refusal :=
  onHalf s h fun x => if x.bit Reg.TS_CTRL 0 && x.onMultiple x.now 1000000000 then x.tsIrq 4 else x

end Sys2Proof.Machine
end

