-- ==== Sys2Proof/Machine/Transport.lean ====
section
/-! DEFINITION. The carriers of the mailbox channels (chapter 10): consumption and posting, the on-chip rings, network
and maintenance sessions, MP1, and the timeouts of commands. -/
namespace Sys2Proof.Machine

/-! ### Consumption and posting -/

/-- COMMAND_CONSUME (R275 to R279, R282, R283, R285, R286). -/
def execCommandConsume (h : HalfId) (ch : Nat) (s : State) : Host.Outcome State Fault Refusal :=
  .next (consumeOn s h ch fun _ => true)

/-- COMPLETION_POST (R276, R287). -/
def execCompletionPost (h : HalfId) (ch : Nat) (tag : Nat) (s : State) : Host.Outcome State Fault Refusal :=
  onHalf s h fun x => if ch < 8 && tag < 64 && x.domainOn 1 then (x.tryPost ch tag).postLate ch else x

/-- The payload of a notification (R313). -/
def notifPayload (b : Sub) (initial ended : Bool) (index : Nat) (rec_ : List Byte) : List Byte :=
  leNat 1 b.num ++ leNat 1 (b.overrun.toNat + 2 * initial.toNat + 4 * ended.toNat) ++ leNat 2 index ++ rec_

/-- The first object of a subscription whose notification is due (R313). -/
def Half.dueItem (x : Half) (b : Sub) : Option (SubItem × Nat) :=
  b.items.zipIdx.find? fun e => e.1.due && (e.1.initial || Nat.ble (b.minInterval * 1000000) (x.mono - e.1.lastSent).toNat)

/-- A subscription changed. -/
def Half.modSub (x : Half) (num : Nat) (f : Sub → Sub) : Half :=
  { x with mbx := { x.mbx with subs := x.mbx.subs.map fun b => if b.num == num then f b else b } }

/-- The last notification of a subscription that has ended (R289, R313). -/
def Half.postLast (x : Half) (b : Sub) : Half :=
  let y : Half := x.putCq b.ch 0x13 0 ST_OK (x.chGen b.ch) 0 1 (notifPayload b false true 0xFFFF [])
  ({ y with mbx := { y.mbx with subs := y.mbx.subs.filter fun c => c.num != b.num } } : Half).poolStatus

/-- The notification of object k of a subscription (R313). -/
def Half.postItem (x : Half) (b : Sub) (i : SubItem) (k : Nat) : Half :=
  let r := ((x.readObj i.oid.toNat).map recBytes).getD []
  let y : Half := x.putCq b.ch 0x13 0 ST_OK (x.chGen b.ch) 0 1 (notifPayload b i.initial false k r)
  y.modSub b.num fun c => { c with
    overrun := false
    items := c.items.zipIdx.map fun e =>
      if e.2 == k then { e.1 with due := false, initial := false, lastSent := x.mono } else e.1 }

/-- NOTIFICATION_POST (R288, R289, R313). -/
def execNotificationPost (h : HalfId) (sub : Nat) (s : State) : Host.Outcome State Fault Refusal :=
  onHalf s h fun x =>
    match x.mbx.subs.find? fun b => b.num == sub with
    | none => x
    | some b =>
      let free := Nat.ble (x.cqUsed b.ch) 56
      if b.ended then
        if free then x.postLast b else x
      else match x.dueItem b with
        | none => x
        | some (i, k) =>
          if free then x.postItem b i k else x

/-! ### Channel 0 (R274, R276, R283) -/

/-- MBX_CH0_SQ_TAIL (R274, R276, R283, R301): the doorbell. -/
def execMbxCh0SqTail (h : HalfId) (v : Word) (s : State) : Host.Outcome State Fault Refusal :=
  if 65536 ≤ v.toNat then .fault (.reservedBits (Reg.MBX_CH_SQ_TAIL 0))
  else onHalf s h fun x =>
    if !x.domainOn 1 then x
    else if Nat.blt 64 ((v - x.rd (Reg.MBX_CH_SQ_HEAD 0)).toNat % 65536) then x.protoError 0 4
    else (x.wr (Reg.MBX_CH_SQ_TAIL 0) v).irq Reg.MBX_IRQ_STAT Reg.MBX_IRQ_EN 0 32

/-- MBX_CH0_CQ_HEAD (R276, R283, R301). -/
def execMbxCh0CqHead (h : HalfId) (v : Word) (s : State) : Host.Outcome State Fault Refusal :=
  if 65536 ≤ v.toNat then .fault (.reservedBits (Reg.MBX_CH_CQ_HEAD 0))
  else onHalf s h fun x =>
    let n := (v - x.rd (Reg.MBX_CH_CQ_HEAD 0)).toNat % 65536
    if !x.domainOn 1 then x
    else if Nat.blt (x.cqUsed 0) n then x.protoError 0 4
    else x.cqTake 0 n

/-- The end of a half's own handover by the end of a session reaches the partner (R284, R287). -/
def endOn (s : State) (h : HalfId) (f : Half → Half) : Host.Outcome State Fault Refusal :=
  let x := s.half h
  let y := Half.live f x
  let t := s.mod h fun _ => y
  .next (if (x.pendingHo true).isSome && y.role.ho.isNone then t.mod h.other Half.dropOffer else t)

/-- A channel that carries a session now. -/
def Half.inSession (x : Half) (ch : Nat) : Bool := 2 ≤ ch && ch ≤ 6 && (x.chOpen ch || (x.chan ch).shaken)

/-- MBX_CHN_CTRL_RESET (R283, R301). -/
def execMbxChnCtrlReset (h : HalfId) (ch : Nat) (s : State) : Host.Outcome State Fault Refusal :=
  endOn s h fun x =>
    if !x.domainOn 1 then x
    else if ch = 0 then ((x.cancelAll 0).clearChan 0).setBit (Reg.MBX_CH_CTRL 0) 1 false
    else if x.inSession ch then x.closeCh ch 0
    else x

/-- MBX_POOL_MAX_READ (R301): the read clears MAX. -/
def execMbxPoolMaxRead (h : HalfId) (s : State) : Host.Outcome State Fault Refusal :=
  onHalf s h fun x =>
    if !x.domainOn 1 then x
    else ({ x with rdata := x.rd Reg.MBX_POOL_MAX } : Half).setFld Reg.MBX_POOL_MAX 8 0 0

/-! ### Handshakes (R290, R294, R295, R439, R441, R442) -/

/-- Handshakes are answered: the mailbox and the ports run. -/
def Half.answers (x : Half) : Bool := x.domainOn 1 && x.domainOn 4 && x.bit Reg.MBX_CTRL 0

/-- Why a certificate is refused, as the code of a TLS alert; none where it is accepted (R295, R441, R442). -/
def Half.certRefused (x : Half) (ch : Nat) (c : Cert) : Option Nat :=
  let now := if x.bit Reg.TS_STAT 0 then x.now else x.sys.mramTime
  let commissioning := ch = 6 && c.commissioningCa && !x.conf.vesselCa
  if !c.authOk then some 42
  else if !(commissioning || (c.vesselCa && x.conf.vesselCa)) then some 48
  else if c.revoked || x.conf.revoked.contains c.serial then some 44
  else if now.toNat < c.notBefore.toNat || c.notAfter.toNat < now.toNat then some 45
  else if !commissioning && c.units.length != 1 then some 42
  else if ch != 6 && c.units.contains 4 && !x.conf.svcNet then some 49
  else none

/-- A failed authentication of an address: the tenth within 60 s blocks it for 60 s (R442). -/
def Half.authFailed (x : Half) (addr : Word) : Half :=
  let a := addr.toNat
  let l := ((x.mbx.authFails.get [] a).filter fun t => Nat.blt (x.mono - t).toNat 60000000000) ++ [x.mono]
  let y : Half := { x with mbx := { x.mbx with authFails := x.mbx.authFails.put a l } }
  let y : Half := if 10 ≤ l.length then { y with mbx := { y.mbx with blocked := (y.mbx.blocked ++ [a]).eraseDups } } else y
  y.evrEvent 17

/-- A handshake on a channel that is free for it. -/
def Half.shake (x : Half) (ch : Nat) (addr : Word) (c : Cert) : Half :=
  match x.certRefused ch c with
  | some a =>
    let y : Half := (x.setFld (Reg.MBX_CH_CTRL ch) 15 12 8).send (.alert ch a)
    if ch = 6 then y.evrEvent 17 else y.authFailed addr
  | none =>
    let role := if c.commissioningCa && !x.conf.vesselCa then 4 else c.units.headD 0
    x.modChan ch fun _ => { addr := addr, notAfter := c.notAfter, serial := c.serial, role := role, shaken := true
                            lastHeard := x.mono, lastSent := x.mono, keyAt := x.mono }

/-- DTLS_HANDSHAKE (R290, R294, R295, R439 to R442): on the maintenance port as channel 6, else from an address. -/
def execDtlsHandshake (h : HalfId) (ch : Option (Nat)) (addr : Word) (cert : Cert) (s : State) :
    Host.Outcome State Fault Refusal :=
  onHalf s h fun x =>
    if !x.answers then x
    else if ch == some 6 then
      let y : Half := ((x.setBit Reg.USB_STAT 0 true).setBit Reg.USB_STAT 1 true).usbCount Reg.USB_RXCNT
      if y.inSession 6 then y else y.shake 6 addr cert
    else if x.mbx.blocked.contains addr.toNat then x
    else
      let recent := x.mbx.shakes.filter fun t => Nat.blt (x.mono - t).toNat 1000000000
      let free := [2, 3, 4, 5].find? fun c => !x.inSession c
      if 4 ≤ recent.length then x
      else
        let y : Half := { x with mbx := { x.mbx with shakes := recent ++ [x.mono] } }
        match free with
        | none => y.send (.alert 2 40)
        | some c =>
          if x.boot.key.isNone || x.conf.certKey != x.boot.key then y.send (.alert c 40)
          else y.shake c addr cert

/-- DTLS_KEY_UPDATE (R290): after 2^24 records or 24 h of the session's key. -/
def execDtlsKeyUpdate (h : HalfId) (ch : Nat) (s : State) : Host.Outcome State Fault Refusal :=
  onHalf s h fun x =>
    let k := x.chan ch
    if x.inSession ch && !k.mp1 && (Nat.ble 0x1000000 k.records || x.goneUs k.keyAt 86400000000) then
      (x.send (.keyUpdate ch)).modChan ch fun c => { c with lastSent := x.mono, keyAt := x.mono, records := 0 }
    else x

/-! ### Transport datagrams (R291 to R293) -/

/-- A session opened on a channel with empty rings (R292, R301, R302). -/
def Half.openNew (x : Half) (ch gen : Nat) : Half :=
  let k := x.chan ch
  let y : Half := (x.clearChan ch).modChan ch fun _ => { k with lastHeard := x.mono, lastSent := x.mono }
  let y : Half := y.wr (Reg.MBX_CH_CTRL ch) (BitVec.ofNat 32 (1 + gen * 0x10 + k.role * 0x100))
  let y : Half := if ch = 6 then y.setBit Reg.USB_STAT 2 true else y
  (y.sendTr ch 1 gen 0 []).evrEvent 16

/-- OPEN (R292, R301, R302). -/
def execOpenSession (h : HalfId) (ch : Nat) (gen : Nat) (s : State) : Host.Outcome State Fault Refusal :=
  onHalf s h fun x =>
    let k := x.chan ch
    let x : Half := x.when (ch = 6 && x.domainOn 4) (·.usbCount Reg.USB_RXCNT)
    if !(2 ≤ ch && ch ≤ 6) || !k.shaken then x
    else if x.chOpen ch then (x.sendTr ch 1 (x.chGen ch) 0 []).modChan ch fun c => { c with lastHeard := x.mono }
    else if gen = 2 || (gen = 3 && x.bit Reg.MBX_CTRL 3) then x.openNew ch gen
    else x.closeCh ch 6

/-- A completion head that a datagram carries; one beyond the tail is no head. -/
def Half.hostHead (x : Half) (ch : Nat) (v : BitVec 16) : Half :=
  let n := (v.toNat + 65536 - (x.rd (Reg.MBX_CH_CQ_HEAD ch)).toNat) % 65536
  if Nat.ble n (x.cqUsed ch) then x.cqTake ch n else x

/-- The entries of a datagram up to the first that does not follow in seq order (R292). -/
def inSeq (es : List Entry) (first : Word) : List Entry :=
  (es.zipIdx.takeWhile fun p => p.1.getD 1 0 == first + BitVec.ofNat 32 p.2).map (·.1)

/-- The entries of an ENTRIES datagram taken into a channel's ring, and its completion head (R291, R293). -/
def Half.takeEntries (x : Half) (ch : Nat) (first : Word) (es : List (Entry)) (cqHead : BitVec 16) : Half :=
  let y : Half := (x.when (ch = 6 && x.domainOn 4) (·.usbCount Reg.USB_RXCNT)).modChan ch fun c => { c with lastHeard := x.mono }
  let next := x.rd (Reg.MBX_CH_SQ_SEQ ch) + BitVec.ofNat 32 (x.sqUsed ch)
  let old := (next - first).toNat
  let new := (inSeq es first).drop old
  if es.isEmpty || Nat.blt 21 es.length || 0x80000000 ≤ old then y
  else if Nat.blt 64 (x.sqUsed ch + new.length) then
    y.sendTr ch 3 (x.chGen ch) 0 []
  else
    let y : Half := y.hostHead ch cqHead
    if new.isEmpty then y
    else ((y.modChan ch fun c => { c with sq := c.sq ++ new }).advance (Reg.MBX_CH_SQ_TAIL ch) new.length).irq
      Reg.MBX_IRQ_STAT Reg.MBX_IRQ_EN ch (32 + ch)

/-- ENTRIES (R274, R276, R291 to R293): at most 21 entries, accepted from the first that is new. -/
def execEntries (h : HalfId) (ch : Nat) (first : Word) (es : List (Entry)) (cqHead : BitVec 16) (s : State) :
    Host.Outcome State Fault Refusal :=
  onHalf s h fun x =>
    if !(x.inSession ch && x.chOpen ch) || (x.chan ch).mp1 then x else x.takeEntries ch first es cqHead

/-- POINTERS (R291, R293): the host's tail covers entries that the station has or that it will send again. -/
def execPointers (h : HalfId) (ch : Nat) (_sqTail : BitVec 16) (cqHead : BitVec 16) (s : State) :
    Host.Outcome State Fault Refusal :=
  onHalf s h fun x =>
    if !(x.inSession ch && x.chOpen ch) || (x.chan ch).mp1 then x
    else ((x.when (ch = 6 && x.domainOn 4) (·.usbCount Reg.USB_RXCNT)).modChan ch fun c => { c with lastHeard := x.mono }).hostHead ch cqHead

/-- A channel that ends without a CLOSE from the station. -/
def Half.dropCh (x : Half) (ch code : Nat) : Half :=
  let y : Half := ((x.cancelAll ch).clearChan ch).wr (Reg.MBX_CH_CTRL ch) (BitVec.ofNat 32 (code % 16 * 0x1000))
  (y.when (ch = 6) (·.setBit Reg.USB_STAT 2 false)).irq Reg.MBX_IRQ_STAT Reg.MBX_IRQ_EN (8 + ch) (40 + ch)

/-- CLOSE (R284, R292). -/
def execCloseSession (h : HalfId) (ch : Nat) (s : State) : Host.Outcome State Fault Refusal :=
  endOn s h fun x =>
    if x.inSession ch && !(x.chan ch).mp1 then (x.when (ch = 6 && x.domainOn 4) (·.usbCount Reg.USB_RXCNT)).dropCh ch 0 else x

/-- COMPLETION_RETRANSMIT (R291, R293), 20 ms after completions were last sent: from the oldest completion that the host's head does not cover. -/
def execCompletionRetransmit (h : HalfId) (ch : Nat) (s : State) : Host.Outcome State Fault Refusal :=
  onHalf s h fun x =>
    if !(x.inSession ch && x.chOpen ch) || x.cqUsed ch = 0 || !x.goneUs (x.chan ch).cqAt 20000 then x
    else x.sendEntries ch (x.chan ch).cq

/-- POINTERS_KEEPALIVE (R293), 1 s after the station last sent anything. -/
def execPointersKeepalive (h : HalfId) (ch : Nat) (s : State) : Host.Outcome State Fault Refusal :=
  onHalf s h fun x =>
    if !(x.inSession ch && x.chOpen ch) || (x.chan ch).mp1 || !x.goneUs (x.chan ch).lastSent 1000000 then x
    else x.sendTr ch 3 (x.chGen ch) 0 []

/-- SESSION_TIMEOUT (R284, R293, R298): silent for 10 s, an MP1 session for 30 s. -/
def execSessionTimeout (h : HalfId) (ch : Nat) (s : State) : Host.Outcome State Fault Refusal :=
  endOn s h fun x =>
    if !x.inSession ch || !x.goneUs (x.chan ch).lastHeard (if (x.chan ch).mp1 then 30000000 else 10000000) then x
    else if (x.chan ch).mp1 then x.dropCh ch 7
    else x.closeCh ch 7

/-- USB_DISCONNECT (R297). -/
def execUsbDisconnect (h : HalfId) (s : State) : Host.Outcome State Fault Refusal :=
  endOn s h fun x =>
    if !x.domainOn 4 then x
    else
      let y : Half := (x.setBit Reg.USB_STAT 0 false).setBit Reg.USB_STAT 1 false
      if y.inSession 6 then y.dropCh 6 0 else y

/-! ### MP1 (R298, R299) -/

/-- The reply to an MP1 request. -/
def mp1Answer (op txid status oid : Nat) (r : Option ObjRec) : List Byte :=
  let r := r.getD {}
  let body := leNat 1 op ++ leNat 1 txid ++ leNat 1 status ++ leNat 1 1 ++ leNat 4 oid ++ leBytes 8 r.value ++
    leBytes 8 r.tStamp ++ [r.quality, 0] ++ leNat 2 r.seq.toNat ++ [0, 0]
  body ++ leNat 2 (cv2 body).toNat

/-- An MP1 request executed (R298, R299, R305): status, record, and the half. -/
def Half.mp1Run (x : Half) (bs : List Byte) : Nat × Option ObjRec × Half :=
  let op := leGet bs 0 1
  let oid := leGet bs 4 4
  if !(op = 0x10 || op = 0x11) then (ST_BAD_OPCODE, none, x)
  else if Nat.ble 0x2000000 oid || leGet bs 2 1 != 0 || leGet bs 25 1 != 0 || leGet bs 28 2 != 0 then (ST_BAD_LENGTH, none, x)
  else if op = 0x11 && !x.bit Reg.MBX_CTRL 2 then (ST_DENIED, none, x)
  else if !x.permitsCmd .active { ch := 0, tag := 0, op := op } then (ST_NOT_ACTIVE, none, x)
  else match x.readObj oid with
    | none => (ST_NO_OBJECT, none, x)
    | some r =>
      if op = 0x10 then (staleStatus [r], some r, x)
      else if !((x.ownPoint oid).bind x.pointCfg).any (·.mp1) || x.resetsHours oid then (ST_DENIED, none, x)
      else
        let (st, _, y) := x.writeObj oid (BitVec.ofNat 64 (leGet bs 8 8))
        (st, if st = ST_OK then y.readObj oid else none, y)

/-- The channel of an MP1 peer, and the half with it open; none where no channel is free (R298). -/
def Half.mp1Chan (x : Half) (addr : Word) (port : BitVec 16) : Option Nat × Half :=
  match [2, 3, 4, 5].find? fun c => (x.chan c).mp1 && (x.chan c).addr == addr && (x.chan c).mp1Port == port with
  | some c => (some c, x)
  | none =>
    match [2, 3, 4, 5].find? fun c => !x.inSession c with
    | none => (none, x)
    | some c =>
      let y : Half := (x.clearChan c).modChan c fun _ => { addr := addr, mp1 := true, mp1Port := port, role := 1 }
      (some c, (y.wr (Reg.MBX_CH_CTRL c) 0x111).evrEvent 16)

/-- A request of 32 bytes on its channel (R298, R299): a repeated transaction gets its kept reply. -/
def Half.mp1Take (y : Half) (ch : Nat) (bytes : List Byte) : Half :=
  let y : Half := y.modChan ch fun c => { c with lastHeard := y.mono }
  let txid := BitVec.ofNat 8 (leGet bytes 1 1)
  if bytes.length != 32 || leGet bytes 30 2 != (cv2 (bytes.take 30)).toNat || leGet bytes 3 1 != 1 ||
      !(y.ctxAvail ch || (y.chan ch).mp1Txid == some txid) then
    let a := Reg.MBX_CH_ERRCNT ch
    (if y.rd a == 0xFFFFFFFF then y.setBit (Reg.MBX_CH_CTX ch) 17 true else y).incSat a
  else if (y.chan ch).mp1Txid == some txid then y.send (.mp1Reply ch (y.chan ch).mp1Reply)
  else
    let (st, r, z) := y.mp1Run bytes
    let out := mp1Answer (leGet bytes 0 1) txid.toNat st (leGet bytes 4 4) r
    let z : Half := z.modChan ch fun c => { c with mp1Txid := some txid, mp1Reply := out }
    (z.incSat (Reg.MBX_CH_DONE ch)).send (.mp1Reply ch out)

/-- MP1_MESSAGE (R298, R299). -/
def execMp1Message (h : HalfId) (addr : Word) (port : BitVec 16) (bytes : List (Byte)) (s : State) :
    Host.Outcome State Fault Refusal :=
  onHalf s h fun x =>
    if !x.answers || !x.bit Reg.MBX_CTRL 1 || !x.conf.mp1Peers.contains addr then x
    else
      match x.mp1Chan addr port with
      | (none, y) => y
      | (some ch, y) => y.mp1Take ch bytes

/-! ### Timeouts of commands (R300, R318, R324, R336) -/

/-- A forwarded command no longer waits for the partner; its tag there stays taken. -/
def Half.leavePeer (x : Half) (c : Ctx) : Half :=
  ({ x with mbx := { x.mbx with fwdAborts := x.mbx.fwdAborts ++ (c.fwd.toList.map fun t => (t, none)) } } : Half).modCtx
    c.ch c.tag fun d => { d with fwd := none }

/-- PEER_COMMAND_TIMEOUT (R300): the partner is released or the link is lost. -/
def execPeerCommandTimeout (h : HalfId) (ch : Nat) (tag : Nat) (s : State) : Host.Outcome State Fault Refusal :=
  onHalf s h fun x =>
    match x.ctx ch tag with
    | none => x
    | some c =>
      if c.fwd.isSome && c.expect.isNone && (x.bit Reg.SPAN_STAT 2 || x.releaseHolds || !x.bit Reg.SPAN_STAT 0) then
        (x.leavePeer c).finish ch tag ST_TIMEOUT []
      else x

/-- COMMAND_TIMEOUT (R318, R324, R336): 60 s after the partner's restart, 5 s after a forwarded CFG_STAGE or a
LEAGUE_JOIN started. -/
def execCommandTimeout (h : HalfId) (ch : Nat) (tag : Nat) (s : State) : Host.Outcome State Fault Refusal :=
  onHalf s h fun x =>
    match x.ctx ch tag with
    | none => x
    | some c =>
      if !c.started || c.done.isSome then x
      else if c.op = 0x41 && c.expect.isSome && x.goneUs c.at_ 60000000 then
        (x.modCtx ch tag fun d => { d with fwd := none, expect := none }).finish ch tag ST_TIMEOUT []
      else if c.op = 0x30 && c.num 0 2 != x.conf.station && x.goneUs c.at_ 5000000 then x.finish ch tag ST_TIMEOUT []
      else if c.op = 0xB0 && x.goneUs c.at_ 5000000 then
        ({ x with obj := { x.obj with joinCmd := if x.obj.joinCmd == some c.ref then none else x.obj.joinCmd } } : Half).finish
          ch tag ST_TIMEOUT []
      else x

end Sys2Proof.Machine
end

