-- ==== Sys2Proof/Machine/RegWrite.lean ====
section
/-! DEFINITION. A write to a register (R8, R9): who may write which window, the access codes, the registers that the
manual gives a writing rule of their own, and the writes that are commands with rows of their own. -/
namespace Sys2Proof.Machine

/-! ### Views and windows (R273, R453, R514, R515) -/

/-- Channel 0 of the mailboxes: its registers, and its rings in the window's memory (R276, R301). -/
def mbxCh0 (a : Nat) : Bool :=
  (Nat.ble 0x30020100 a && Nat.blt a 0x30020140) || (Nat.ble 0x30024000 a && Nat.blt a 0x30026000)

/-- The rings in the mailbox window: channel 0's two, and the Scruple request queue (R301). -/
def mbxRing (a : Nat) : Bool := Nat.ble 0x30024000 a && Nat.blt a 0x30027000 && a % 4 == 0

/-- The application cluster may write the register: native code under R515, block service channel 0 only (R514). A
refused access is a bus error in the core, and nothing is written. Native code's limits are kept for it (log 51). -/
def Half.appMay (x : Half) (a : Nat) : Bool :=
  mbxCh0 a || (x.st == .native && match a / 0x10000 with
    | 0x3003 => true
    | 0x3004 => true
    | 0x3005 => true
    | 0x3006 => true
    | 0x300A => Nat.blt a 0x300A0100 || (a - 0x300A0100) / 0x40 == 3 || (a - 0x300A0100) / 0x40 == 7
    | 0x300F => true
    | _ => false)

/-! ### What a read returns (R9) -/

/-- Entry words that FC_EVT_CNT and FC_EVT_W0 to W3 show of the event FIFO: its length and its oldest entry (R244). -/
def Half.fcView (x : Half) (k : Nat) : Word :=
  let e : FcEvt := x.fc.fifo.headD {}
  match k with
  | 0 => BitVec.ofNat 32 x.fc.fifo.length
  | 1 => e.w0
  | 2 => e.time.setWidth 32
  | 3 => (e.time >>> 32).setWidth 32
  | _ => e.opmin

/-- The word that a read of a register returns: WO bits read zero; the event FIFO, the capture FIFOs and the monotonic
count show through their registers; every other register returns its content (R9, R244, R386, R402). -/
def Half.view (x : Half) (a : Nat) : Word :=
  if Nat.ble Reg.FC_EVT_CNT a && Nat.ble a Reg.FC_EVT_W3 && a % 4 == 0 then x.fcView ((a - Reg.FC_EVT_CNT) / 4)
  else if a == Reg.TS_MONO then x.mono.setWidth 32
  else if Nat.ble 0x30030200 a && Nat.blt a 0x30030340 then
    let i := (a - 0x30030200) / 0x10
    let (t, info) := x.capShow i
    if a % 0x10 == 0 then t.setWidth 32
    else if a % 0x10 == 4 then (t >>> 32).setWidth 32
    else if a % 0x10 == 8 then BitVec.ofNat 32 info ||| (x.rd a &&& 0x800000)
    else 0
  else match regDesc? a with
    | some d => x.rd a &&& ~~~d.wo
    | none => 0

/-! ### Memories in the windows -/

/-- The word's bytes, lowest first. -/
def wordBytes (w : Word) : List Byte := (List.range 4).map fun i => (w >>> (8 * i)).setWidth 8

/-- The controller of a word in the aperture of its message RAM (R426). -/
def canAperture (a : Nat) : Option Nat :=
  if Nat.ble 0x30080000 a && Nat.blt a 0x30090000 && Nat.ble 0x2000 ((a - 0x30080000) % 0x4000) && a % 4 == 0 then
    some ((a - 0x30080000) / 0x4000)
  else none

/-- A word written through the aperture of a controller, on the page that CAN_MRAM_PAGE selects (R426). -/
def Half.apertureWrite (x : Half) (c a : Nat) (v : Word) : Half :=
  let at_ := x.fld (Reg.CAN_MRAM_PAGE c) 4 0 * 0x2000 + (a - 0x30080000) % 0x2000
  { x with can := { x.can with ram := x.can.ram.write at_ (wordBytes v) } }

/-! ### Writes that are commands -/

/-- Outcomes in sequence. -/
def runSeq : List (State → Host.Outcome State Fault Refusal) → State → Host.Outcome State Fault Refusal
  | [], s => .next s
  | f :: fs, s => match f s with
    | .next t => runSeq fs t
    | .fault e => .fault e
    | .refused r => .refused r

/-- The commands that a write gives to registers with rows of their own; none where the register has no such row. -/
def actions (h : HalfId) (a : Nat) (v : Word) : Option (List (State → Host.Outcome State Fault Refusal)) :=
  let on (i : Nat) (f : State → Host.Outcome State Fault Refusal) : List (State → Host.Outcome State Fault Refusal) :=
    if v.getLsbD i then [f] else []
  let chain := getField v 7 0
  if a == Reg.CE_SWAP then some (on 31 (execCeSwap h chain (v.getLsbD 8) (v.getLsbD 9)))
  else if a == Reg.CE_CMD then
    some (match getField v 10 8 with
      | 0 => []
      | 1 => on 31 (execCeCmdRun h chain)
      | 2 => on 31 (execCeCmdHold h chain)
      | 3 => on 31 (execCeCmdOff h chain)
      | 4 => on 31 (execCeCmdRestart h chain)
      | _ => on 31 fun _ => .fault (.reservedBits a))
  else if Nat.ble 0x30049000 a && Nat.blt a 0x30049100 && a % 0x40 == 0x28 then
    let g := (a - 0x30049000) / 0x40
    some (on 0 (execTgStart h g) ++ on 1 (execTgStop h g))
  else if Nat.ble 0x3004A000 a && Nat.blt a 0x3004A200 && a % 0x40 == 0x2C then
    let c := (a - 0x3004A000) / 0x40
    some (on 0 (execTcArm h c) ++ on 1 (execTcTrigger h c) ++ on 2 (execTcStop h c) ++ on 3 (execTcReset h c))
  else if a == Reg.FC_EVT_POP then some (on 0 (execFcEvtPop h))
  else if a == Reg.FC_INJ then some (on 31 (execFcInj h (getField v 6 0)))
  else if a == Reg.FC_LS_CMD then some (on 0 (execFlushSup h) ++ on 1 (execFlushApp h))
  else if Nat.ble 0x30010050 a && Nat.blt a 0x30010060 then some [execFcPendClear h ((a - 0x30010050) / 4) v]
  else if a == Reg.MBX_CH_SQ_TAIL 0 then some [execMbxCh0SqTail h v]
  else if a == Reg.MBX_CH_CQ_HEAD 0 then some [execMbxCh0CqHead h v]
  else if Nat.ble 0x30020100 a && Nat.blt a 0x30020300 && a % 0x40 == 0 then
    some (on 2 (execMbxChnCtrlReset h ((a - 0x30020100) / 0x40)))
  else if a == Reg.TS_SRV_CMD then some (if v.getLsbD 1 then on 0 (execTsSrvStep h) else on 0 (execTsSrvGo h))
  else if Nat.ble 0x30030200 a && Nat.blt a 0x30030340 && a % 0x10 == 0xC then
    some (on 0 (execTsCapPop h ((a - 0x30030200) / 0x10)))
  else if Nat.ble 0x300A0100 a && Nat.blt a 0x300A0300 && a % 0x40 == 0x30 then
    let j := (a - 0x300A0100) / 0x40
    some (on 0 (execCvJobGo h j) ++ on 1 (execCvJobStop h j))
  else if a == Reg.SYS_RST then
    some ((if getField v 7 0 = 0 then [] else [execSysRstDomain h (v.setWidth 8)]) ++ on 31 (execSysRstHalf h))
  else none

/-- Bits of a register that are commands beside bits that are stored: LOCK (R227), RELINQ (R185), BO_REL (R419). -/
def sideActions (h : HalfId) (a : Nat) (v : Word) : List (State → Host.Outcome State Fault Refusal) :=
  if a == Reg.FC_CTRL && v.getLsbD 0 then [execFcLock h]
  else if a == Reg.SPAN_CTRL && v.getLsbD 1 then [execSpanRelinq h]
  else if Nat.ble 0x30080000 a && Nat.blt a 0x30090000 && a % 0x4000 == 4 && v.getLsbD 6 then
    [execBoRel h ((a - 0x30080000) / 0x4000)]
  else []

/-- REGISTER_WRITE (R8, R9, R273, R514, R515): `app` is a write by the application cluster. A half without power and a
domain in reset take no write, and a halted pair makes none (R223). -/
def execRegisterWrite (h : HalfId) (app : Bool) (addr : Nat) (value : Word) (s : State) :
    Host.Outcome State Fault Refusal :=
  let x := s.half h
  let dom := regDomain addr
  if !(Nat.ble 0x30000000 addr && Nat.blt addr 0x30100000 && addr % 4 == 0) then .fault (.notRegister addr)
  else if x.st == .off || (dom != 0 && !x.domainOn dom) || (app && !x.appMay addr) ||
      (if app then x.fc.haltApp else x.fc.haltSup) then .next s
  else if mbxRing addr then onHalf s h fun x => x.wr addr value
  else match canAperture addr with
    | some c => onHalf s h fun x => x.apertureWrite c addr value
    | none => match regDesc? addr with
      | none => if value = 0 then .next s else .fault (.reservedBits addr)
      | some d =>
        if value &&& d.resv != 0 || (addr == Reg.FC_CTRL && getField value 2 1 = 3) then .fault (.reservedBits addr)
        else match actions h addr value with
          | some l => runSeq l s
          | none => runSeq ((fun t => onHalf t h fun x => x.regStore d addr value) :: sideActions h addr value) s

end Sys2Proof.Machine
end

