-- ==== Sys2Proof/Machine/Scruple.lean ====
section
/-! DEFINITION. The rows of chapter 6: Scruple's safety cycle, request queue, inputs, matrices, functions, outputs,
cross-trip, reset inputs and proof test. -/
namespace Sys2Proof.Machine

/-- SAF_PCRC of half h shows a set's check: a commit that waits for it goes on (R145). -/
def Half.setShown (y : Half) (h : HalfId) (shown : Word) : Half :=
  match y.cfg.pend with
  | none => y
  | some p =>
    if p.pcrc == some shown && p.safWait.contains h then
      ({ y with cfg := { y.cfg with pend := some { p with safWait := p.safWait.filter (· != h) } } } : Half).endCommit
    else y

/-- A safety cycle takes the common terminals' reading and reads its masks back (R161, R224). -/
def Half.safReadback (x : Half) (readback : Byte) (masksOk : Bool) : Half :=
  let y : Half := x.scrCycle.modSaf fun s => { s with
    energised := readback, enAt := (List.range 8).foldl (fun m j => sinceTab m s.clk j (readback.getLsbD j)) s.enAt }
  if masksOk then y else y.safRaise 116

/-- One cycle of the safety task in a half whose Scruple runs (R147, R157 to R163, R170, R179). -/
def Half.safCycle (x : Half) (readback : Byte) (masksOk : Bool) : Half :=
  let y : Half := x.safReadback readback masksOk
  let y : Half := if y.saf.sealOk then y.safSet.funcs.foldl (fun (z : Half) e => if e.2.typ = 0 then z else z.evalFn e.1 e.2) y else y
  let y : Half := y.noteSpeeds.writePermits.checkSkew.releaseXtrip
  let y : Half := y.modSaf fun s => { s with
    taken := 0, cycTrips := 0, cycAt := s.clk, proofMs := if s.proof then s.proofMs + 1 else 0 }
  y.notePaths.refreshSaf.flush .scr

/-- SAFETY_TASK_CYCLE (R36, R147, R148, R157, R159 to R163, R170, R179, R224): one 1 ms cycle. `readback` is the common
terminals' reading, `masksOk` the outcome of reading the masks and delays back. -/
def execSafetyTaskCycle (h : HalfId) (readback : Byte) (masksOk : Bool) (s : State) : Host.Outcome State Fault Refusal :=
  let t := s.mod h fun x => if x.safRuns then x.safCycle readback masksOk else x
  let shown := (t.half h).rd Reg.SAF_PCRC
  let seen (y : Half) : Half := y.setShown h shown
  .next ((t.mod .a seen).mod .b seen)

/-- SAFE_WDG (R36): no cycle has completed for 3 ms. -/
def execSafeWdg (h : HalfId) (s : State) : Host.Outcome State Fault Refusal :=
  onHalf s h fun x =>
    if x.safRuns && x.safPast x.saf.cycAt 3000000 then
      (x.modSaf fun s => { s with run := false, wdg := true, tpMaster := false, tpDrive := 0 }).safRaise 112
    else x

/-- SEAL_CHANGE (R142 to R144, R146). -/
def execSealChange (h : HalfId) (word : BitVec 12) (s : State) : Host.Outcome State Fault Refusal :=
  onHalf (s.modStn fun t => { t with s1 := word }) h fun x =>
    if x.safRuns then ((x.modSaf fun s => { s with sealWord := word }).testSeal).icuPend 251 else x

/-- QUEUE_TRIP (R148): a TRIP entry at the head of the queue is taken. -/
def execQueueTrip (h : HalfId) (s : State) : Host.Outcome State Fault Refusal :=
  onHalf s h fun x => x.scrTakeIf fun k => match k with
    | .trip _ => true
    | _ => false

/-- PARAM_CHUNK (R145): a PARAM_CHUNK entry at the head of the queue is taken. -/
def execParamChunk (h : HalfId) (s : State) : Host.Outcome State Fault Refusal :=
  onHalf s h fun x => x.scrTakeIf fun k => match k with
    | .chunk _ _ => true
    | _ => false

/-- PARAM_END (R143 to R146): a PARAM_END entry at the head of the queue is taken. -/
def execParamEnd (h : HalfId) (s : State) : Host.Outcome State Fault Refusal :=
  onHalf s h fun x => x.scrTakeIf fun k => match k with
    | .fin _ _ => true
    | _ => false

/-- QUEUE_TIME_ENTRY (R148): a TIME entry at the head of the queue is taken. -/
def execQueueTimeEntry (h : HalfId) (s : State) : Host.Outcome State Fault Refusal :=
  onHalf s h fun x => x.scrTakeIf fun k => match k with
    | .time _ => true
    | _ => false

/-- PROOF_START (R147, R176): the supervisor of a standby half that has just been swapped places the entry if none
waits, and Scruple takes it. -/
def execProofStart (h : HalfId) (s : State) : Host.Outcome State Fault Refusal :=
  onHalf s h fun x =>
    let y : Half := if x.sqUsed 1 = 0 && x.st == .standby && x.role.proofTest && !x.saf.proof then x.scrPlace 0xD4 [] else x
    y.scrTakeIf fun k => match k with
      | .proof => true
      | _ => false

/-- PROOF_TEST_COMPLETE (R176, R178, R209): the other proof tests follow Scruple's own; the sources of the failed steps are raised; the result goes to the recorder. -/
def execProofTestComplete (h : HalfId) (failed : List Nat) (s : State) : Host.Outcome State Fault Refusal :=
  onHalf s h fun x =>
    if !x.safRuns || !x.saf.proof then x
    else
      let y : Half := x.modSaf fun s => { s with proof := false, proofAt := x.opmin, overdue := false }
      let y : Half := if y.role.proofTest && y.role.proofStep ≤ 1 then { y with role := { y.role with proofStep := 2 } } else y
      let y : Half := (y.evrEvent 13).icuPend 253
      let y : Half := if failed.isEmpty then y else y.evrEvent 14
      failed.foldl (fun (z : Half) src => if Nat.ble 112 src && Nat.ble src 119 then z.safRaise src else z.raise src) y

/-- One sample of a filter: the waiting sample is counted, the new one waits (R149). -/
def siCount (f : SafFilter) (v : Bool) : SafFilter :=
  { f with count := if f.sample then min 9 (f.count + 1) else f.count - 1, sample := v }

/-- The output that a filter's count gives (R149). -/
def siOut (f : SafFilter) : Bool := if 9 ≤ f.count then true else if f.count = 0 then false else f.out

/-- A sample of a safety input in both filters (R149). -/
def Half.siTake (y : Half) (i : Nat) (a b : Bool) : Half :=
  (y.setFlt false i (siCount (y.safFlt false i) a)).setFlt true i (siCount (y.safFlt true i) b)

/-- A sample of a reset input in one filter, whose output changes here (R149). -/
def Half.srsTake (z : Half) (b : Bool) (k : Nat) (v : Bool) : Half :=
  let f := siCount (z.safFlt b (16 + k)) v
  z.setFlt b (16 + k) (if siOut f == f.out then f else { f with out := siOut f, stamp := z.saf.clk })

/-- SI_SAMPLE (R149), every 25 µs: every comparator samples; the filters of the reset inputs change their outputs here. -/
def execSiSample (h : HalfId) (siA siB : BitVec 16) (srsA srsB : BitVec 4) (s : State) : Host.Outcome State Fault Refusal :=
  onHalf s h fun x =>
    if !x.domainOn 5 || (x.saf.run && x.saf.siAt.any fun m => Nat.blt (x.saf.clk - m).toNat 25000) then x
    else
      let x : Half := x.modSaf fun s => { s with siAt := some s.clk }
      let y : Half := (List.range 16).foldl (fun (y : Half) i => y.siTake i (siA.getLsbD i) (siB.getLsbD i)) x
      (List.range 4).foldl (fun (y : Half) k => (y.srsTake false k (srsA.getLsbD k)).srsTake true k (srsB.getLsbD k)) y

/-- SI_FILTER_CHANGE (R149 to R151, R155, R156): a filter at 9 or 0 changes its output; its matrix follows at once. -/
def execSiFilterChange (h : HalfId) (si : Nat) (filterB : Bool) (s : State) : Host.Outcome State Fault Refusal :=
  onHalf s h fun x =>
    let f := x.safFlt filterB si
    if 16 ≤ si || !x.domainOn 5 || siOut f == f.out then x
    else
      let y : Half := (x.setFlt filterB si { f with out := siOut f, stamp := x.saf.clk }).matrix filterB
      let y : Half := if filterB then y else (y.pairClear (si / 2)).chanClear si
      y.notePaths

/-- MATRIX_BACKSTOP_EXPIRE (R156): a running backstop delay ends and the latch is set. -/
def execMatrixBackstopExpire (h : HalfId) (matrixB : Bool) (so : Nat) (s : State) : Host.Outcome State Fault Refusal :=
  onHalf s h fun x =>
    if x.backDone matrixB so then ((x.setBack matrixB so false).setLatch matrixB so true).notePaths else x

/-- PAIR_DISCREPANCY (R151): the channels have disagreed for longer than the pair's discrepancy time. -/
def execPairDiscrepancy (h : HalfId) (pair : Nat) (s : State) : Host.Outcome State Fault Refusal :=
  onHalf s h fun x =>
    let long (i : Nat) : Bool := x.safPast (x.safFlt false i).stamp (x.pairTime pair * 1000000 + 1)
    if 8 ≤ pair || !x.safRuns || x.pairSingle pair || !x.pairDiffers pair || (x.saf.pairFault.get? pair).isSome ||
        !long (2 * pair) || !long (2 * pair + 1) then x
    else x.pairFails pair 1

/-- A dark pulse of input i read by the two comparators (R151): a second missing pulse in a row is a fault of the pair,
or of the single channel. -/
def Half.darkPulse (y : Half) (rawA rawB : BitVec 16) (i : Nat) : Half :=
  let d := y.saf.dark.get {} i
  if rawA.getLsbD i || rawB.getLsbD i then
    let z : Half := y.modSaf fun s => { s with dark := s.dark.put i { missing := d.missing + 1, low := 0 } }
    if d.missing + 1 < 2 then z
    else if z.pairSingle (i / 2) then (if (z.saf.chanFault.get? i).isSome then z else z.chanFails i)
    else if (z.saf.pairFault.get? (i / 2)).isSome then z
    else z.pairFails (i / 2) 2
  else
    ((y.modSaf fun s => { s with dark := s.dark.put i { missing := 0, low := d.low + 1 } }).pairClear (i / 2)).chanClear i

/-- TP_DARK_PULSE (R151, R153): the raw samples of both comparators during the dark pulse of one TP. -/
def execTpDarkPulse (h : HalfId) (tp : Nat) (rawA rawB : BitVec 16) (s : State) : Host.Outcome State Fault Refusal :=
  onHalf s h fun x =>
    if !x.safRuns then x
    else
      (x.safSet.tps.filter fun e => e.2 == tp && Nat.blt e.1 16).foldl (fun (y : Half) e => y.darkPulse rawA rawB e.1) x

/-- The pulse master (R154): Half A while its Scruple runs and no takeover has passed the role on; Half B else. -/
def State.pulseMaster (s : State) : Option HalfId :=
  if s.a.safRuns && s.a.saf.tpMaster then some .a
  else if s.b.safRuns && (s.b.saf.tpMaster || !s.a.safRuns) then some .b
  else none

/-- TP_MASTER_TAKEOVER (R154): a terminal stays dark; the monitoring half drives it and becomes pulse master. -/
def execTpMasterTakeover (h : HalfId) (tp : Nat) (s : State) : Host.Outcome State Fault Refusal :=
  if 8 ≤ tp || !(s.half h).safRuns || (s.half h).saf.tpMaster then .next s
  else
    let t := s.mod h.other fun x => x.modSaf fun k => { k with tpMaster := false }
    onHalf t h fun x => (x.modSaf fun k => { k with tpMaster := true, tpDrive := maskBit k.tpDrive tp true }).safRaise 115

/-- FUNCTION_DELAY_ELAPSED (R160): a category 1 delay has run from the stamp. -/
def execFunctionDelayElapsed (h : HalfId) (f : Nat) (s : State) : Host.Outcome State Fault Refusal :=
  onHalf s h fun x =>
    match x.safFunc f with
    | none => x
    | some c =>
      if x.safRuns && (x.safFn f).state == .delay && x.safPast (x.safFn f).stamp (c.delay * 1000000) then
        x.setFn f { x.safFn f with state := .tripped } else x

/-- TWOHAND_SYNC_TIMEOUT (R161): 0.5 s since the first hand. -/
def execTwohandSyncTimeout (h : HalfId) (f : Nat) (s : State) : Host.Outcome State Fault Refusal :=
  onHalf s h fun x =>
    if x.safRuns && (x.safFn f).state == .sync && (x.safFunc f).isSome && x.safPast (x.safFn f).stamp 500000000 then
      x.setFn f { x.safFn f with state := .resetWait, diag := 4 } else x

/-- GUARD_AUTO_RESET (R160): a guard closed, and locked where monitored, for 500 ms. -/
def execGuardAutoReset (h : HalfId) (f : Nat) (s : State) : Host.Outcome State Fault Refusal :=
  onHalf s h fun x => match x.safFunc f with
    | none => x
    | some c =>
      if x.safRuns && x.saf.sealOk && c.typ = 2 && c.auto && (x.safFn f).state == .resetWait && !x.fnDemand c &&
          !x.fnUnlocked c && x.fnStill c 500000000
      then x.armFn f c else x

/-- An edge of a safety frequency input gives a speed (R163). -/
def Half.scrFiEdge (x : Half) (fi : Nat) : Half :=
  let k := x.saf.fi.get {} fi
  let ppr := max 1 (((x.safSet.fiPpr.find? fun e => e.1 == fi).map (·.2)).getD 1)
  let sp : F32 := match k.last with
    | none => 0
    | some t =>
      let d := (x.saf.clk - t).toNat
      if d = 0 then 0x7F800000 else f32quot 60000000000 (ppr * d)
  x.modSaf fun s => { s with fi := s.fi.put fi { last := some s.clk, speed := sp } }

/-- A speed above a function's TRIP_RPM trips it at the edge (R163). -/
def Half.overspeed (z : Half) (fi : Nat) (f : Nat) (c : SafFunc) : Half :=
  if c.typ = 6 && c.fi.contains fi && f32lt c.tripRpm (z.saf.fi.get {} fi).speed && (z.safFn f).state == .armed then
    z.setFn f { z.safFn f with state := .tripped }
  else z

/-- SCRUPLE_FI_EDGE (R163): an edge at Scruple's comparator; a speed above TRIP_RPM trips. -/
def execScrupleFiEdge (h : HalfId) (fi : Nat) (s : State) : Host.Outcome State Fault Refusal :=
  onHalf s h fun x =>
    if 2 ≤ fi || !x.safRuns then x
    else
      let y : Half := x.scrFiEdge fi
      if !y.saf.sealOk then y else y.safSet.funcs.foldl (fun (z : Half) e => z.overspeed fi e.1 e.2) y

/-- SAFE_FI (R164): two channels have disagreed for 1 s. -/
def execSafeFi (h : HalfId) (f : Nat) (s : State) : Host.Outcome State Fault Refusal :=
  onHalf s h fun x => match x.safFunc f with
    | none => x
    | some c =>
      if !x.safRuns || !x.saf.sealOk || c.typ != 6 || c.fi.length != 2 || (x.safFn f).state == .fault ||
          !((x.saf.fiAt.get? f).any fun t => x.safPast t 1000000000) then x
      else if x.fiLoss c || x.fiApart c then
        (x.setFn f { x.safFn f with state := .fault, diag := if x.fiLoss c then 6 else 5 }).safRaise 119
      else x

/-- SO_SWITCH_TEST (R167): a switch is held off; the two switches of an output are never tested together. -/
def execSoSwitchTest (h : HalfId) (so : Nat) (low : Bool) (s : State) : Host.Outcome State Fault Refusal :=
  onHalf s h fun x =>
    if 8 ≤ so || !x.safRuns || x.saf.testHs.getLsbD so || x.saf.testLs.getLsbD so then x
    else x.modSaf fun s => if low then { s with testLs := maskBit s.testLs so true } else { s with testHs := maskBit s.testHs so true }

/-- SO_SWITCH_TEST_END (R167, R168). -/
def execSoSwitchTestEnd (h : HalfId) (so : Nat) (low confirmed : Bool) (s : State) : Host.Outcome State Fault Refusal :=
  onHalf s h fun x =>
    if !(if low then x.saf.testLs else x.saf.testHs).getLsbD so then x
    else
      let y : Half := x.modSaf fun s =>
        if low then { s with testLs := maskBit s.testLs so false } else { s with testHs := maskBit s.testHs so false }
      if confirmed then y else y.safRaise 114

/-- XTRIP_ASSERT (R170): the output still reads energised 2 ms after the own path opened. -/
def execXtripAssert (h : HalfId) (so : Nat) (s : State) : Host.Outcome State Fault Refusal :=
  onHalf s h fun x =>
    if so < 8 && x.safRuns && x.soCause so && x.pathOpen so && ((x.saf.openAt.get? so).any fun t => x.safPast t 2000000) then
      x.modSaf fun s => { s with xout := maskBit s.xout so true, energised := maskBit s.energised so true } else x

/-- XTRIP_RECEIVE (R169, R171): the gate drivers are forced off in hardware. -/
def execXtripReceive (h : HalfId) (s : State) : Host.Outcome State Fault Refusal :=
  onHalf s h fun x =>
    if x.domainOn 5 then x.modSaf fun s => { s with xin := true, xforce := true, xinAt := if s.xin then s.xinAt else s.clk } else x

/-- SAFE_XTRIP_RX (R171): the cross-trip has lasted 500 µs. -/
def execSafeXtripRx (h : HalfId) (s : State) : Host.Outcome State Fault Refusal :=
  onHalf s h fun x =>
    if x.domainOn 5 && x.saf.xin && !x.saf.xlatch && x.safPast x.saf.xinAt 500000 then (x.modSaf fun s => { s with xlatch := true }).safRaise 117 else x

/-- CROSS_TRIP_END (R171): the assertion ends; one shorter than 500 µs lifts the force and counts as a test. -/
def execCrossTripEnd (h : HalfId) (s : State) : Host.Outcome State Fault Refusal :=
  onHalf s h fun x =>
    if !x.saf.xin then x
    else x.modSaf fun s =>
      if s.xlatch then { s with xin := false } else { s with xin := false, xforce := false, xtests := s.xtests + 1 }

/-- XTRIP_WIRING (R169): equal rails for 100 µs while the partner's presence pin shows a cartridge. -/
def execXtripWiring (h : HalfId) (s : State) : Host.Outcome State Fault Refusal :=
  onHalf s h fun x => x.raiseIf (x.domainOn 5 && x.partnerPresent) 66

/-- SRS_LEVEL_CHANGE (R172, R173): both filters of a reset input show a new level. -/
def execSrsLevelChange (h : HalfId) (srs : Nat) (s : State) : Host.Outcome State Fault Refusal :=
  onHalf s h fun x =>
    let a := x.safFlt false (16 + srs)
    let b := x.safFlt true (16 + srs)
    let r := x.safSrs srs
    if 4 ≤ srs || !x.safRuns || a.out != b.out || a.out == r.level then x
    else
      let at_ : DWord := if a.stamp.toNat < b.stamp.toNat then b.stamp else a.stamp
      let t := (at_ - r.stamp).toNat
      let n : SafSrs := { r with level := a.out, stamp := at_ }
      match r.state, a.out with
      | .idle, true => x.setSrs srs { n with state := .pressed }
      | .pressed, false =>
        if 3000000000 < t then x.setSrs srs { n with state := .recover, held := true }
        else
          let y : Half := x.setSrs srs { n with state := .idle }
          if t < 50000000 then y else y.resetEvent srs
      | .held, false => x.setSrs srs { n with state := .recover }
      | .recover, true =>
        if 500000000 < t then x.setSrs srs { n with state := .pressed, held := false } else x.setSrs srs { n with state := .held }
      | _, _ => x.setSrs srs n

/-- RESET_HELD (R172): a reset input has stayed closed beyond 3 s. -/
def execResetHeld (h : HalfId) (srs : Nat) (s : State) : Host.Outcome State Fault Refusal :=
  onHalf s h fun x =>
    let r := x.safSrs srs
    if srs < 4 && x.safRuns && r.state == .pressed && x.safPast r.stamp 3000000001 then x.setSrs srs { r with state := .held, held := true } else x

/-- SRS_RECOVER_END (R172): a reset input has stayed open more than 0.5 s in RECOVER. -/
def execSrsRecoverEnd (h : HalfId) (srs : Nat) (s : State) : Host.Outcome State Fault Refusal :=
  onHalf s h fun x =>
    let r := x.safSrs srs
    if srs < 4 && x.safRuns && r.state == .recover && !r.level && x.safPast r.stamp 500000001 then x.setSrs srs { r with state := .idle, held := false } else x

/-- READBACK_RESET (R174): the outputs of a function in RESET_WAIT have read energised for 20 ms with no trip cause. -/
def execReadbackReset (h : HalfId) (f : Nat) (s : State) : Host.Outcome State Fault Refusal :=
  onHalf s h fun x => match x.safFunc f with
    | none => x
    | some c =>
      let cause := x.fnDemand c || x.fnUnlocked c || (List.range 8).any fun j => fnNames c j && x.soCause j
      let on := (List.range 8).all fun j => !fnNames c j || (x.saf.energised.getLsbD j &&
        (x.saf.enAt.get? j).any fun t => x.safPast t 20000000)
      if x.safRuns && x.saf.sealOk && c.typ != 3 && (x.safFn f).state == .resetWait && !cause && on then x.armFn f c else x

/-- PROOF_OVERDUE (R178): operating time since the last completed proof test passes 336 h. -/
def execProofOverdue (h : HalfId) (s : State) : Host.Outcome State Fault Refusal :=
  onHalf s h fun x =>
    if x.st == .off || x.saf.overdue || (x.opmin - x.saf.proofAt).toNat < 336 * 60 then x
    else (x.modSaf fun s => { s with overdue := true }).raise 70

/-- SCRUPLE_RESET_END (R141, R145, R154, R493, R499, R551): Scruple starts again. Half A becomes pulse master, but takes
the role back from Half B only with Half B present; Half B where Half A's Scruple does not run. -/
def execScrupleResetEnd (h : HalfId) (s : State) : Host.Outcome State Fault Refusal :=
  if (s.half h).st == .off then .next s
  else
    let t := s.mod h fun x => x.startScruple s.stn.s1
    match h with
    | .a =>
      if s.b.saf.tpMaster && !s.a.partnerPresent then .next t
      else .next ((t.mod .a fun x => x.modSaf fun k => { k with tpMaster := true }).mod .b fun x =>
        x.modSaf fun k => { k with tpMaster := false })
    | .b => .next (t.mod .b fun x => x.modSaf fun k => { k with tpMaster := !s.a.safRuns })

end Sys2Proof.Machine
end

