-- ==== Sys2Proof/Machine/Vd.lean ====
section
/-! DEFINITION. The valve-drive level: commands VD_THRESHOLD_CROSS to VD_REG_ERR (R116 to R128). -/
namespace Sys2Proof.Machine

/-- VD_THRESHOLD_CROSS (R119, R120): the comparators decide at the current; between the thresholds they ask nothing. -/
def execVdThresholdCross (h : HalfId) (vd : Nat) (i : F32) (s : State) : Host.Outcome State Fault Refusal :=
  onHalf s h fun x =>
    if 8 ≤ vd || !x.domainOn 6 then x
    else
      let y : Half := (x.vdShow vd).vdSee vd i
      y.vdCompare vd i

/-- VD_MIN_TIME_END (R120): a deferred decision takes effect if the limits have passed. -/
def execVdMinTimeEnd (h : HalfId) (vd : Nat) (i : F32) (s : State) : Host.Outcome State Fault Refusal :=
  onHalf s h fun x =>
    if 8 ≤ vd || !x.domainOn 6 then x
    else
      let y : Half := (x.vdShow vd).vdSee vd i
      match (y.vd_ vd).deferred with
      | some on => y.vdDecide vd on
      | none => y

/-- The thresholds of a channel refreshed (R123). -/
def Half.vdRefresh (x : Half) (vd : Nat) (i : F32) (slope : Option F32) : Half :=
  let y : Half := (x.vdShow vd).vdSee vd i
  if !y.bit (Reg.VD_CTRL vd) 1 then y
  else
    let (volts, y) := y.fieldVolts (vd / 4)
    let (sOn, sOff) := y.vdSlopes vd volts i
    let y : Half := y.modVd vd fun k => { k with upMove := y.vdMove vd sOn, loMove := y.vdMove vd sOff }
    match slope with
    | none => y
    | some m =>
      let bad := f64lt (f64div (f64abs sOn) (f64int 2)) (f64abs (f64sub (f64of32 m) sOn))
      let n := if bad then (y.vd_ vd).mismatches + 1 else 0
      let y : Half := y.modVd vd fun k => { k with mismatches := n }
      if 100 ≤ n then (y.modVd vd fun k => { k with ffHeld := true }).setBit (Reg.VD_STAT vd) 7 true else y

/-- VD_FF_REFRESH (R123): the thresholds are refreshed; `slope` is the slope in A/s of an on phase just ended. -/
def execVdFfRefresh (h : HalfId) (vd : Nat) (i : F32) (slope : Option (F32)) (s : State) :
    Host.Outcome State Fault Refusal :=
  onHalf s h fun x =>
    if 8 ≤ vd || !x.domainOn 6 then x
    else
      x.every (.refresh vd) 1 fun y => y.vdRefresh vd i slope

/-- The end of a millisecond: its mean current, the switching frequency, and the settled bit (R125). -/
def Half.vdMsEnd (y : Half) (vd : Nat) (i : F32) : Half :=
  let k := y.vd_ vd
  let ms := y.mono.toNat / 1000000
  if ms = k.msIdx then y
  else
    let mean : F32 := if k.msCount = 0 then i else f32of64 (f64div k.msSum (f64int k.msCount))
    let z : Half := (y.wr (Reg.VD_I_AVG1 vd) mean).setFld (Reg.VD_FSW vd) 19 0 (k.msOns * 1000)
    let w := f64add (f64int (z.vdH vd)) (f64rat (5 * z.vdMax vd) 100)
    let far := f64lt w (f64abs (f64sub (f64of32 mean) (f64of32 (z.vdRef vd).1)))
    let z : Half := if far then z else z.setBit (Reg.VD_STAT vd) 5 false
    z.modVd vd fun k => { k with
      msIdx := ms, msSum := 0, msCount := 0, msOns := 0
      farAt := if far then (k.farAt.or (some y.mono)) else none }

/-- A conversion of a channel's current taken into its means (R125). -/
def Half.vdConvert (x : Half) (vd : Nat) (i : F32) : Half :=
  let n := max 1 (x.fld (Reg.VD_TIMING vd) 23 16)
  let y : Half := (x.vdShow vd).vdSee vd i
  let y : Half := y.modVd vd fun k => { k with sar := (i :: k.sar).take 255 }
  let y : Half := (y.wr (Reg.VD_I_SAR vd) (meanOf n (y.vd_ vd).sar)).vdMsEnd vd i
  let y : Half := y.modVd vd fun k => { k with msSum := f64add k.msSum (f64of32 i), msCount := k.msCount + 1 }
  let y : Half := if (y.vd_ vd).retrying && !f32lt i (f32int 20) then
      (y.modVd vd fun k => { k with retrying := false }).setBit (Reg.VD_STAT vd) 1 false
    else y
  if y.isActive then y.tcSource 5 vd i false else y

/-- VD_SAR_CONVERSION (R125): the mean of N_AVG; the means of the last 1 ms at its end; a conversion during a retry of
an open load that finds current ends that condition, and a mean inside its band ends REG_ERR (R126). -/
def execVdSarConversion (h : HalfId) (vd : Nat) (i : F32) (s : State) : Host.Outcome State Fault Refusal :=
  onHalf s h fun x =>
    if 8 ≤ vd || !x.domainOn 6 then x
    else
      x.vdConvert vd i

/-- The references that a half which does not drive holds its measurements against: the tracked ones (R126, R201). -/
def Half.vdTracked (x : Half) : Half := if x.role.vdRun then x else x.shadowRefs

/-- An open load shows in the half's own measurements (R126): r of 50 mA or more, and less than 20 mA; where the half's
own stage drives, after 2 ms of continuous on phase. -/
def Half.vdOpen (x : Half) (vd : Nat) : Bool :=
  x.bit (Reg.VD_CTRL vd) 0 && !f32lt (x.vdRef vd).1 (f32int 50) && f32lt (x.vd_ vd).cur (f32int 20) &&
    (!x.role.vdRun || (x.bit (Reg.VD_STAT vd) 0 && Nat.ble 2000000 (x.mono - (x.vd_ vd).lastSwitch).toNat))

/-- VD_OPEN_LOAD (R126), suppressed while the group's feed is out of range (R490). -/
def execVdOpenLoad (h : HalfId) (vd : Nat) (s : State) : Host.Outcome State Fault Refusal :=
  onHalf s h fun x =>
    if 8 ≤ vd || !x.feedOk (vd / 4) then x
    else
      let y : Half := x.vdTracked
      if y.vdOpen vd then (y.modVd vd fun k => { k with retrying := false }).vdCond vd 1 92 else y

/-- VD_OPEN_LOAD_RETRY (R126). -/
def execVdOpenLoadRetry (h : HalfId) (vd : Nat) (s : State) : Host.Outcome State Fault Refusal :=
  onHalf s h fun x =>
    if 8 ≤ vd || !x.bit (Reg.VD_STAT vd) 1 || f32lt (x.vdRef vd).1 (f32int 50) || !x.vdRested vd 1000 then x
    else
      let y : Half := x.modVd vd fun k => { k with retrying := true, condAt := some x.mono }
      y.vdDecide vd true

/-- VD_SHORT (R126): the active half turns its high side off; the short after ten retries latches it off. -/
def execVdShort (h : HalfId) (vd : Nat) (s : State) : Host.Outcome State Fault Refusal :=
  onHalf s h fun x =>
    if 8 ≤ vd || !x.role.vdRun then x
    else
      let y : Half := if 10 ≤ (x.vd_ vd).retries then x.setBit (Reg.VD_STAT vd) 3 true else x
      y.vdCond vd 2 93

/-- VD_SHORT_RETRY (R126). -/
def execVdShortRetry (h : HalfId) (vd : Nat) (s : State) : Host.Outcome State Fault Refusal :=
  onHalf s h fun x =>
    if 8 ≤ vd || !x.bit (Reg.VD_STAT vd) 2 || x.bit (Reg.VD_STAT vd) 3 || !x.vdRested vd 100 then x
    else
      ((x.setBit (Reg.VD_STAT vd) 2 false).modVd vd fun k => { k with retries := k.retries + 1 }).vdResume vd

/-- VD_OVERTEMP (R126). -/
def execVdOvertemp (h : HalfId) (vd : Nat) (s : State) : Host.Outcome State Fault Refusal :=
  onHalf s h fun x => if 8 ≤ vd || !x.role.vdRun then x else x.vdCond vd 4 94

/-- VD_OVERTEMP_CLEAR (R126). -/
def execVdOvertempClear (h : HalfId) (vd : Nat) (s : State) : Host.Outcome State Fault Refusal :=
  onHalf s h fun x =>
    if 8 ≤ vd || !x.bit (Reg.VD_STAT vd) 4 then x
    else (x.setBit (Reg.VD_STAT vd) 4 false).vdResume vd

/-- The mean current has been outside its band for 5 ms (R126). -/
def Half.vdFar (x : Half) (vd : Nat) : Bool := (x.vd_ vd).farAt.any fun t => Nat.ble 5000000 (x.mono - t).toNat

/-- VD_REG_ERR (R126): the channel is enabled and no other condition applies; suppressed with the feed (R490). -/
def execVdRegErr (h : HalfId) (vd : Nat) (s : State) : Host.Outcome State Fault Refusal :=
  onHalf s h fun x =>
    if 8 ≤ vd || !x.feedOk (vd / 4) || !x.bit (Reg.VD_CTRL vd) 0 || x.fld (Reg.VD_STAT vd) 4 1 != 0 || !x.vdFar vd then x
    else x.vdCond vd 5 95

end Sys2Proof.Machine
end

