-- ==== Sys2Proof/Machine/Dispatch.lean ====
section
/-! DEFINITION. The command table: one arm per constructor of Instr, each one direct call of the command's meaning or
its rejection by name. -/
namespace Sys2Proof.Machine

def exec (i : Instr) (s : State) : Host.Outcome State Fault Refusal :=
  match i with
  | .taskRelease h task => Sys2Proof.Machine.execTaskRelease h task s
  | .minimumSeparationEnd h task => Sys2Proof.Machine.execMinimumSeparationEnd h task s
  | .eventTaskDeadline h task => Sys2Proof.Machine.execEventTaskDeadline h task s
  | .swTaskHang h task => Sys2Proof.Machine.execSwTaskHang h task s
  | .taskCycleStart h => Sys2Proof.Machine.execTaskCycleStart h s
  | .configSwitchTimeout h task => Sys2Proof.Machine.execConfigSwitchTimeout h task s
  | .blockBoundary h => Sys2Proof.Machine.execBlockBoundary h s
  | .taskCycleEnd h => Sys2Proof.Machine.execTaskCycleEnd h s
  | .outputUpdate h task => Sys2Proof.Machine.execOutputUpdate h task s
  | .chainTrigger h chain => Sys2Proof.Machine.execChainTrigger h chain s
  | .sampleDispatch h => Sys2Proof.Machine.execSampleDispatch h s
  | .chainSampleComplete h chain => Sys2Proof.Machine.execChainSampleComplete h chain s
  | .ceTrackSend h => Sys2Proof.Machine.execCeTrackSend h s
  | .ceTrack h hdr chains => Sys2Proof.Machine.execCeTrack h hdr chains s
  | .ceCmdRun h chain => Sys2Proof.Machine.execCeCmdRun h chain s
  | .ceCmdHold h chain => Sys2Proof.Machine.execCeCmdHold h chain s
  | .ceCmdOff h chain => Sys2Proof.Machine.execCeCmdOff h chain s
  | .ceCmdRestart h chain => Sys2Proof.Machine.execCeCmdRestart h chain s
  | .ceSwap h chain bankB bumpless => Sys2Proof.Machine.execCeSwap h chain bankB bumpless s
  | .ceLevelMaxRead h => Sys2Proof.Machine.execCeLevelMaxRead h s
  | .vdThresholdCross h vd iv => Sys2Proof.Machine.execVdThresholdCross h vd iv s
  | .vdMinTimeEnd h vd iv => Sys2Proof.Machine.execVdMinTimeEnd h vd iv s
  | .vdFfRefresh h vd iv slope => Sys2Proof.Machine.execVdFfRefresh h vd iv slope s
  | .vdSarConversion h vd iv => Sys2Proof.Machine.execVdSarConversion h vd iv s
  | .vdOpenLoad h vd => Sys2Proof.Machine.execVdOpenLoad h vd s
  | .vdOpenLoadRetry h vd => Sys2Proof.Machine.execVdOpenLoadRetry h vd s
  | .vdShort h vd => Sys2Proof.Machine.execVdShort h vd s
  | .vdShortRetry h vd => Sys2Proof.Machine.execVdShortRetry h vd s
  | .vdOvertemp h vd => Sys2Proof.Machine.execVdOvertemp h vd s
  | .vdOvertempClear h vd => Sys2Proof.Machine.execVdOvertempClear h vd s
  | .vdRegErr h vd => Sys2Proof.Machine.execVdRegErr h vd s
  | .tgStart h tg => Sys2Proof.Machine.execTgStart h tg s
  | .tgStop h tg => Sys2Proof.Machine.execTgStop h tg s
  | .tgRunStart h tg => Sys2Proof.Machine.execTgRunStart h tg s
  | .tgDone h tg => Sys2Proof.Machine.execTgDone h tg s
  | .tcArm h tc => Sys2Proof.Machine.execTcArm h tc s
  | .tcTrigger h tc => Sys2Proof.Machine.execTcTrigger h tc s
  | .tcStop h tc => Sys2Proof.Machine.execTcStop h tc s
  | .tcReset h tc => Sys2Proof.Machine.execTcReset h tc s
  | .safetyTaskCycle h readback masksOk => Sys2Proof.Machine.execSafetyTaskCycle h readback masksOk s
  | .safeWdg h => Sys2Proof.Machine.execSafeWdg h s
  | .sealChange h word => Sys2Proof.Machine.execSealChange h word s
  | .queueTrip h => Sys2Proof.Machine.execQueueTrip h s
  | .paramChunk h => Sys2Proof.Machine.execParamChunk h s
  | .paramEnd h => Sys2Proof.Machine.execParamEnd h s
  | .queueTimeEntry h => Sys2Proof.Machine.execQueueTimeEntry h s
  | .proofStart h => Sys2Proof.Machine.execProofStart h s
  | .proofTestComplete h failed => Sys2Proof.Machine.execProofTestComplete h failed s
  | .siFilterChange h si filterB => Sys2Proof.Machine.execSiFilterChange h si filterB s
  | .matrixBackstopExpire h matrixB so => Sys2Proof.Machine.execMatrixBackstopExpire h matrixB so s
  | .pairDiscrepancy h pair => Sys2Proof.Machine.execPairDiscrepancy h pair s
  | .tpDarkPulse h tp rawA rawB => Sys2Proof.Machine.execTpDarkPulse h tp rawA rawB s
  | .tpMasterTakeover h tp => Sys2Proof.Machine.execTpMasterTakeover h tp s
  | .functionDelayElapsed h f => Sys2Proof.Machine.execFunctionDelayElapsed h f s
  | .twohandSyncTimeout h f => Sys2Proof.Machine.execTwohandSyncTimeout h f s
  | .guardAutoReset h f => Sys2Proof.Machine.execGuardAutoReset h f s
  | .scrupleFiEdge h fi => Sys2Proof.Machine.execScrupleFiEdge h fi s
  | .safeFi h f => Sys2Proof.Machine.execSafeFi h f s
  | .soSwitchTest h so low => Sys2Proof.Machine.execSoSwitchTest h so low s
  | .soSwitchTestEnd h so low confirmed => Sys2Proof.Machine.execSoSwitchTestEnd h so low confirmed s
  | .xtripAssert h so => Sys2Proof.Machine.execXtripAssert h so s
  | .xtripReceive h => Sys2Proof.Machine.execXtripReceive h s
  | .safeXtripRx h => Sys2Proof.Machine.execSafeXtripRx h s
  | .xtripWiring h => Sys2Proof.Machine.execXtripWiring h s
  | .srsLevelChange h srs => Sys2Proof.Machine.execSrsLevelChange h srs s
  | .resetHeld h srs => Sys2Proof.Machine.execResetHeld h srs s
  | .srsRecoverEnd h srs => Sys2Proof.Machine.execSrsRecoverEnd h srs s
  | .readbackReset h f => Sys2Proof.Machine.execReadbackReset h f s
  | .proofOverdue h => Sys2Proof.Machine.execProofOverdue h s
  | .pd0PowerOn h slotCode => Sys2Proof.Machine.execPd0PowerOn h slotCode s
  | .pdRailGood h pd => Sys2Proof.Machine.execPdRailGood h pd s
  | .bootRomStart h => Sys2Proof.Machine.execBootRomStart h s
  | .bootImageVerified h sigOk => Sys2Proof.Machine.execBootImageVerified h sigOk s
  | .bootRetry h => Sys2Proof.Machine.execBootRetry h s
  | .nativeImageStart h sigOk => Sys2Proof.Machine.execNativeImageStart h sigOk s
  | .nativeImageReturn h a0 => Sys2Proof.Machine.execNativeImageReturn h a0 s
  | .nativeImageTimeout h => Sys2Proof.Machine.execNativeImageTimeout h s
  | .startupDone h => Sys2Proof.Machine.execStartupDone h s
  | .negotiationTimeout h => Sys2Proof.Machine.execNegotiationTimeout h s
  | .applicationLoadDone h => Sys2Proof.Machine.execApplicationLoadDone h s
  | .claimInvalid h => Sys2Proof.Machine.execClaimInvalid h s
  | .claimValid h => Sys2Proof.Machine.execClaimValid h s
  | .claimLineEnd h => Sys2Proof.Machine.execClaimLineEnd h s
  | .presenceBreak h => Sys2Proof.Machine.execPresenceBreak h s
  | .partnerAbsent h => Sys2Proof.Machine.execPartnerAbsent h s
  | .partnerReleased h => Sys2Proof.Machine.execPartnerReleased h s
  | .takeoverDecision h => Sys2Proof.Machine.execTakeoverDecision h s
  | .holdWindowEnd h => Sys2Proof.Machine.execHoldWindowEnd h s
  | .heartbeatSend h => Sys2Proof.Machine.execHeartbeatSend h s
  | .heartbeat h hdr hb => Sys2Proof.Machine.execHeartbeat h hdr hb s
  | .heartbeatTimeout h => Sys2Proof.Machine.execHeartbeatTimeout h s
  | .spanLinkLoss h => Sys2Proof.Machine.execSpanLinkLoss h s
  | .peerArmedTimeout h => Sys2Proof.Machine.execPeerArmedTimeout h s
  | .spanFrameDiscard h => Sys2Proof.Machine.execSpanFrameDiscard h s
  | .spanRelRetransmit h item => Sys2Proof.Machine.execSpanRelRetransmit h item s
  | .stateDelta h hdr d => Sys2Proof.Machine.execStateDelta h hdr d s
  | .cycleEnd h hdr c => Sys2Proof.Machine.execCycleEnd h hdr c s
  | .fullCopyComplete h => Sys2Proof.Machine.execFullCopyComplete h s
  | .cfgFrame h hdr item => Sys2Proof.Machine.execCfgFrame h hdr item s
  | .peerMbx h hdr reply entry => Sys2Proof.Machine.execPeerMbx h hdr reply entry s
  | .roleOffer h cause at_ => Sys2Proof.Machine.execRoleOffer h cause at_ s
  | .roleAccept h => Sys2Proof.Machine.execRoleAccept h s
  | .roleRefuse h => Sys2Proof.Machine.execRoleRefuse h s
  | .roleAbort h => Sys2Proof.Machine.execRoleAbort h s
  | .roleRelinquish h => Sys2Proof.Machine.execRoleRelinquish h s
  | .roleClaimed h => Sys2Proof.Machine.execRoleClaimed h s
  | .offerTimeout h => Sys2Proof.Machine.execOfferTimeout h s
  | .handoverInstantH h => Sys2Proof.Machine.execHandoverInstantH h s
  | .handoverInstantHV h => Sys2Proof.Machine.execHandoverInstantHV h s
  | .incomingVdStart h => Sys2Proof.Machine.execIncomingVdStart h s
  | .handoverDoRelease h => Sys2Proof.Machine.execHandoverDoRelease h s
  | .handoverComplete h => Sys2Proof.Machine.execHandoverComplete h s
  | .handoverTimeout h => Sys2Proof.Machine.execHandoverTimeout h s
  | .periodicSwap h at_ => Sys2Proof.Machine.execPeriodicSwap h at_ s
  | .swapOverdue h => Sys2Proof.Machine.execSwapOverdue h s
  | .releaseButtonHold h at_ => Sys2Proof.Machine.execReleaseButtonHold h at_ s
  | .releaseRecoveryHold h => Sys2Proof.Machine.execReleaseRecoveryHold h s
  | .faultRaise h src => Sys2Proof.Machine.execFaultRaise h src s
  | .sourcePairInvalid h src => Sys2Proof.Machine.execSourcePairInvalid h src s
  | .reactionWindowExpire h src => Sys2Proof.Machine.execReactionWindowExpire h src s
  | .fcPendClear h iv mask => Sys2Proof.Machine.execFcPendClear h iv mask s
  | .heldFaultRelease h => Sys2Proof.Machine.execHeldFaultRelease h s
  | .classClear h cls => Sys2Proof.Machine.execClassClear h cls s
  | .domainResetEnd h pd => Sys2Proof.Machine.execDomainResetEnd h pd s
  | .quietL2Expire h cls => Sys2Proof.Machine.execQuietL2Expire h cls s
  | .fcLatchMark h => Sys2Proof.Machine.execFcLatchMark h s
  | .lockstepMismatch h pair cause => Sys2Proof.Machine.execLockstepMismatch h pair cause s
  | .flushTimerExpire h pair => Sys2Proof.Machine.execFlushTimerExpire h pair s
  | .flushSup h => Sys2Proof.Machine.execFlushSup h s
  | .flushApp h => Sys2Proof.Machine.execFlushApp h s
  | .fcInj h src => Sys2Proof.Machine.execFcInj h src s
  | .fcEvtPop h => Sys2Proof.Machine.execFcEvtPop h s
  | .fcLock h => Sys2Proof.Machine.execFcLock h s
  | .fcCfgChk h => Sys2Proof.Machine.execFcCfgChk h s
  | .fixtureLoss h => Sys2Proof.Machine.execFixtureLoss h s
  | .swSupWdg h => Sys2Proof.Machine.execSwSupWdg h s
  | .eccError h mem uncorrectable => Sys2Proof.Machine.execEccError h mem uncorrectable s
  | .thermalThreshold h kind => Sys2Proof.Machine.execThermalThreshold h kind s
  | .clockMonitorWindow h dev mainLost safeLost => Sys2Proof.Machine.execClockMonitorWindow h dev mainLost safeLost s
  | .leagueHeartbeatSend h => Sys2Proof.Machine.execLeagueHeartbeatSend h s
  | .leagueHeartbeat h hb => Sys2Proof.Machine.execLeagueHeartbeat h hb s
  | .workerLost h station => Sys2Proof.Machine.execWorkerLost h station s
  | .managerLost h => Sys2Proof.Machine.execManagerLost h s
  | .exchange h f => Sys2Proof.Machine.execExchange h f s
  | .refresh h f => Sys2Proof.Machine.execRefresh h f s
  | .relay h f => Sys2Proof.Machine.execRelay h f s
  | .join h j => Sys2Proof.Machine.execJoin h j s
  | .joinReply h result mismatch epoch => Sys2Proof.Machine.execJoinReply h result mismatch epoch s
  | .refreshReq h task => Sys2Proof.Machine.execRefreshReq h task s
  | .stationState h station lost => Sys2Proof.Machine.execStationState h station lost s
  | .fragmentTimeout h station task => Sys2Proof.Machine.execFragmentTimeout h station task s
  | .refreshSend h task => Sys2Proof.Machine.execRefreshSend h task s
  | .fullRefreshStart h => Sys2Proof.Machine.execFullRefreshStart h s
  | .fullRefreshDeadline h task => Sys2Proof.Machine.execFullRefreshDeadline h task s
  | .storeBatch h => Sys2Proof.Machine.execStoreBatch h s
  | .commandConsume h ch => Sys2Proof.Machine.execCommandConsume h ch s
  | .completionPost h ch tag => Sys2Proof.Machine.execCompletionPost h ch tag s
  | .notificationPost h sub => Sys2Proof.Machine.execNotificationPost h sub s
  | .mbxCh0SqTail h v => Sys2Proof.Machine.execMbxCh0SqTail h v s
  | .mbxCh0CqHead h v => Sys2Proof.Machine.execMbxCh0CqHead h v s
  | .mbxChnCtrlReset h ch => Sys2Proof.Machine.execMbxChnCtrlReset h ch s
  | .mbxPoolMaxRead h => Sys2Proof.Machine.execMbxPoolMaxRead h s
  | .dtlsHandshake h ch addr cert => Sys2Proof.Machine.execDtlsHandshake h ch addr cert s
  | .dtlsKeyUpdate h ch => Sys2Proof.Machine.execDtlsKeyUpdate h ch s
  | .openSession h ch gen => Sys2Proof.Machine.execOpenSession h ch gen s
  | .entries h ch first es cqHead => Sys2Proof.Machine.execEntries h ch first es cqHead s
  | .pointers h ch sqTail cqHead => Sys2Proof.Machine.execPointers h ch sqTail cqHead s
  | .closeSession h ch => Sys2Proof.Machine.execCloseSession h ch s
  | .completionRetransmit h ch => Sys2Proof.Machine.execCompletionRetransmit h ch s
  | .pointersKeepalive h ch => Sys2Proof.Machine.execPointersKeepalive h ch s
  | .sessionTimeout h ch => Sys2Proof.Machine.execSessionTimeout h ch s
  | .mp1Message h addr port bytes => Sys2Proof.Machine.execMp1Message h addr port bytes s
  | .usbDisconnect h => Sys2Proof.Machine.execUsbDisconnect h s
  | .peerCommandTimeout h ch tag => Sys2Proof.Machine.execPeerCommandTimeout h ch tag s
  | .nop h ch tag => Sys2Proof.Machine.execNop h ch tag s
  | .identify h ch tag => Sys2Proof.Machine.execIdentify h ch tag s
  | .sessionInfo h ch tag => Sys2Proof.Machine.execSessionInfo h ch tag s
  | .abort h ch tag => Sys2Proof.Machine.execAbort h ch tag s
  | .objRead h ch tag => Sys2Proof.Machine.execObjRead h ch tag s
  | .objWrite h ch tag => Sys2Proof.Machine.execObjWrite h ch tag s
  | .objReadGroup h ch tag => Sys2Proof.Machine.execObjReadGroup h ch tag s
  | .objSubscribe h ch tag => Sys2Proof.Machine.execObjSubscribe h ch tag s
  | .objUnsubscribe h ch tag => Sys2Proof.Machine.execObjUnsubscribe h ch tag s
  | .objForce h ch tag => Sys2Proof.Machine.execObjForce h ch tag s
  | .taskState h ch tag => Sys2Proof.Machine.execTaskState h ch tag s
  | .taskStats h ch tag => Sys2Proof.Machine.execTaskStats h ch tag s
  | .cfgStage h ch tag reply => Sys2Proof.Machine.execCfgStage h ch tag reply s
  | .cfgVerify h ch tag => Sys2Proof.Machine.execCfgVerify h ch tag s
  | .cfgCommit h ch tag => Sys2Proof.Machine.execCfgCommit h ch tag s
  | .cfgRollback h ch tag => Sys2Proof.Machine.execCfgRollback h ch tag s
  | .fwStage h ch tag sigOk => Sys2Proof.Machine.execFwStage h ch tag sigOk s
  | .fwActivate h ch tag at_ => Sys2Proof.Machine.execFwActivate h ch tag at_ s
  | .roleQuery h ch tag => Sys2Proof.Machine.execRoleQuery h ch tag s
  | .roleSwap h ch tag at_ => Sys2Proof.Machine.execRoleSwap h ch tag at_ s
  | .halfRelease h ch tag at_ => Sys2Proof.Machine.execHalfRelease h ch tag at_ s
  | .faultQuery h ch tag => Sys2Proof.Machine.execFaultQuery h ch tag s
  | .faultAck h ch tag => Sys2Proof.Machine.execFaultAck h ch tag s
  | .faultInject h ch tag => Sys2Proof.Machine.execFaultInject h ch tag s
  | .recSnapshot h ch tag => Sys2Proof.Machine.execRecSnapshot h ch tag s
  | .recList h ch tag => Sys2Proof.Machine.execRecList h ch tag s
  | .ceChainWrite h ch tag => Sys2Proof.Machine.execCeChainWrite h ch tag s
  | .ceCoefSwap h ch tag => Sys2Proof.Machine.execCeCoefSwap h ch tag s
  | .ceInject h ch tag => Sys2Proof.Machine.execCeInject h ch tag s
  | .ceTraceArm h ch tag => Sys2Proof.Machine.execCeTraceArm h ch tag s
  | .ceTraceRead h ch tag => Sys2Proof.Machine.execCeTraceRead h ch tag s
  | .timeGet h ch tag => Sys2Proof.Machine.execTimeGet h ch tag s
  | .timeSource h ch tag => Sys2Proof.Machine.execTimeSource h ch tag s
  | .dispUpdate h ch tag => Sys2Proof.Machine.execDispUpdate h ch tag s
  | .dispStatus h ch tag => Sys2Proof.Machine.execDispStatus h ch tag s
  | .leagueJoin h ch tag => Sys2Proof.Machine.execLeagueJoin h ch tag s
  | .leagueStatus h ch tag => Sys2Proof.Machine.execLeagueStatus h ch tag s
  | .safetyStatus h ch tag => Sys2Proof.Machine.execSafetyStatus h ch tag s
  | .tsSrvGo h => Sys2Proof.Machine.execTsSrvGo h s
  | .tsSrvStep h => Sys2Proof.Machine.execTsSrvStep h s
  | .tsMonoRead h => Sys2Proof.Machine.execTsMonoRead h s
  | .monoWrap h => Sys2Proof.Machine.execMonoWrap h s
  | .stationWrap h => Sys2Proof.Machine.execStationWrap h s
  | .servoHoldover h => Sys2Proof.Machine.execServoHoldover h s
  | .stationTimeSave h => Sys2Proof.Machine.execStationTimeSave h s
  | .sync h port m => Sys2Proof.Machine.execSync h port m s
  | .followUp h port m => Sys2Proof.Machine.execFollowUp h port m s
  | .delayReq h port m => Sys2Proof.Machine.execDelayReq h port m s
  | .delayResp h port m => Sys2Proof.Machine.execDelayResp h port m s
  | .announce h port m => Sys2Proof.Machine.execAnnounce h port m s
  | .ptpMessageSend h port kind => Sys2Proof.Machine.execPtpMessageSend h port kind s
  | .ptpFrameDeparture h port kind => Sys2Proof.Machine.execPtpFrameDeparture h port kind s
  | .announceReceiptTimeout h port => Sys2Proof.Machine.execAnnounceReceiptTimeout h port s
  | .ptpPortSyncLoss h => Sys2Proof.Machine.execPtpPortSyncLoss h s
  | .abDis h => Sys2Proof.Machine.execAbDis h s
  | .spanTimeSend h => Sys2Proof.Machine.execSpanTimeSend h s
  | .spanTimeFrame h hdr p => Sys2Proof.Machine.execSpanTimeFrame h hdr p s
  | .edgeCapture h fifo rising halfNs => Sys2Proof.Machine.execEdgeCapture h fifo rising halfNs s
  | .tsCapPop h fifo => Sys2Proof.Machine.execTsCapPop h fifo s
  | .diFilterChange h di => Sys2Proof.Machine.execDiFilterChange h di s
  | .diSink h di => Sys2Proof.Machine.execDiSink h di s
  | .doLimit h ch => Sys2Proof.Machine.execDoLimit h ch s
  | .doOvertemp h ch => Sys2Proof.Machine.execDoOvertemp h ch s
  | .doOvertempClear h ch => Sys2Proof.Machine.execDoOvertempClear h ch s
  | .doGroup h group count => Sys2Proof.Machine.execDoGroup h group count s
  | .doGroupRestart h ch => Sys2Proof.Machine.execDoGroupRestart h ch s
  | .doOpenLoad h ch => Sys2Proof.Machine.execDoOpenLoad h ch s
  | .doShort24v h ch => Sys2Proof.Machine.execDoShort24v h ch s
  | .doStuck h ch => Sys2Proof.Machine.execDoStuck h ch s
  | .fiEdge h fi rising halfNs => Sys2Proof.Machine.execFiEdge h fi rising halfNs s
  | .fiSpeedUpdate h fi => Sys2Proof.Machine.execFiSpeedUpdate h fi s
  | .fiZero h fi => Sys2Proof.Machine.execFiZero h fi s
  | .aiConversion h ai raw vs supLim temp => Sys2Proof.Machine.execAiConversion h ai raw vs supLim temp s
  | .aiBandQuality h ai => Sys2Proof.Machine.execAiBandQuality h ai s
  | .aiComply h ai => Sys2Proof.Machine.execAiComply h ai s
  | .aiComplyEnd h ai => Sys2Proof.Machine.execAiComplyEnd h ai s
  | .aiCalibration h ai bin offset gain limitsOk voc vocSeen ratio => Sys2Proof.Machine.execAiCalibration h ai bin offset gain limitsOk voc vocSeen ratio s
  | .aoComply h ao readback drive => Sys2Proof.Machine.execAoComply h ao readback drive s
  | .aoComplyReturn h ao readback => Sys2Proof.Machine.execAoComplyReturn h ao readback s
  | .aoOpen h ao readback => Sys2Proof.Machine.execAoOpen h ao readback s
  | .aoSink h ao => Sys2Proof.Machine.execAoSink h ao s
  | .canFrameReceive h ctl f => Sys2Proof.Machine.execCanFrameReceive h ctl f s
  | .canSendDue h ctl obj => Sys2Proof.Machine.execCanSendDue h ctl obj s
  | .canFrameSent h ctl obj how => Sys2Proof.Machine.execCanFrameSent h ctl obj how s
  | .canError h ctl tec rec => Sys2Proof.Machine.execCanError h ctl tec rec s
  | .canBusoffRecovered h ctl => Sys2Proof.Machine.execCanBusoffRecovered h ctl s
  | .boRel h ctl => Sys2Proof.Machine.execBoRel h ctl s
  | .boDelay h ctl => Sys2Proof.Machine.execBoDelay h ctl s
  | .canRateCandidateTimeout h ctl => Sys2Proof.Machine.execCanRateCandidateTimeout h ctl s
  | .canRateNone h ctl => Sys2Proof.Machine.execCanRateNone h ctl s
  | .canSleep h ctl => Sys2Proof.Machine.execCanSleep h ctl s
  | .canBusWake h ctl frame => Sys2Proof.Machine.execCanBusWake h ctl frame s
  | .canRoleChange h ctl => Sys2Proof.Machine.execCanRoleChange h ctl s
  | .canXcvr h ctl => Sys2Proof.Machine.execCanXcvr h ctl s
  | .lanFrameReceive h port f => Sys2Proof.Machine.execLanFrameReceive h port f s
  | .prpSupervisionSend h => Sys2Proof.Machine.execPrpSupervisionSend h s
  | .prpNodeForget h src => Sys2Proof.Machine.execPrpNodeForget h src s
  | .lanLinkChange h port up => Sys2Proof.Machine.execLanLinkChange h port up s
  | .netLanLost h => Sys2Proof.Machine.execNetLanLost h s
  | .insSentenceReceive h sn => Sys2Proof.Machine.execInsSentenceReceive h sn s
  | .sentenceTimeout h idx => Sys2Proof.Machine.execSentenceTimeout h idx s
  | .sentenceSendDue h idx => Sys2Proof.Machine.execSentenceSendDue h idx s
  | .serFrameReceive h bus f => Sys2Proof.Machine.execSerFrameReceive h bus f s
  | .modbusPollDue h bus req => Sys2Proof.Machine.execModbusPollDue h bus req s
  | .modbusResponseTimeout h bus => Sys2Proof.Machine.execModbusResponseTimeout h bus s
  | .serRoleChange h bus => Sys2Proof.Machine.execSerRoleChange h bus s
  | .authAddressUnblock h addr => Sys2Proof.Machine.execAuthAddressUnblock h addr s
  | .cvJobGo h slot => Sys2Proof.Machine.execCvJobGo h slot s
  | .cvJobStop h slot => Sys2Proof.Machine.execCvJobStop h slot s
  | .cvJobDone h slot data eccBad written => Sys2Proof.Machine.execCvJobDone h slot data eccBad written s
  | .cvJobRepeat h slot => Sys2Proof.Machine.execCvJobRepeat h slot s
  | .bgActivityDue h act values bad => Sys2Proof.Machine.execBgActivityDue h act values bad s
  | .swBgBudget h act => Sys2Proof.Machine.execSwBgBudget h act s
  | .norErase h block ok => Sys2Proof.Machine.execNorErase h block ok s
  | .operatingMinute h => Sys2Proof.Machine.execOperatingMinute h s
  | .evrCommitPass h => Sys2Proof.Machine.execEvrCommitPass h s
  | .dispFrame h temp => Sys2Proof.Machine.execDispFrame h temp s
  | .coverDetect h cover => Sys2Proof.Machine.execCoverDetect h cover s
  | .coverRemove h => Sys2Proof.Machine.execCoverRemove h s
  | .dispNoClaim h => Sys2Proof.Machine.execDispNoClaim h s
  | .dispDischargeDone h => Sys2Proof.Machine.execDispDischargeDone h s
  | .dispJournalAckTimeout h slot => Sys2Proof.Machine.execDispJournalAckTimeout h slot s
  | .dispStressSend h => Sys2Proof.Machine.execDispStressSend h s
  | .logicFeedFail h => Sys2Proof.Machine.execLogicFeedFail h s
  | .powerFailConfirm h => Sys2Proof.Machine.execPowerFailConfirm h s
  | .logicFeedReturn h feed => Sys2Proof.Machine.execLogicFeedReturn h feed s
  | .holdupStoreEmpty h => Sys2Proof.Machine.execHoldupStoreEmpty h s
  | .pwrHoldup h energy => Sys2Proof.Machine.execPwrHoldup h energy s
  | .fieldFeedRange h feed inRange => Sys2Proof.Machine.execFieldFeedRange h feed inRange s
  | .domainRailFault h pd => Sys2Proof.Machine.execDomainRailFault h pd s
  | .sysRstDomain h doms => Sys2Proof.Machine.execSysRstDomain h doms s
  | .sysRstHalf h => Sys2Proof.Machine.execSysRstHalf h s
  | .spanRelinq h => Sys2Proof.Machine.execSpanRelinq h s
  | .icuClaimRead h app => Sys2Proof.Machine.execIcuClaimRead h app s
  | .registerWrite h app addr value => Sys2Proof.Machine.execRegisterWrite h app addr value s
  | .commandTimeout h ch tag => Sys2Proof.Machine.execCommandTimeout h ch tag s
  | .scrupleResetEnd h => Sys2Proof.Machine.execScrupleResetEnd h s
  | .partnerPresent h => Sys2Proof.Machine.execPartnerPresent h s
  | .fixturePresent h => Sys2Proof.Machine.execFixturePresent h s
  | .dispRailFault h => Sys2Proof.Machine.execDispRailFault h s
  | .dispRailsOn h => Sys2Proof.Machine.execDispRailsOn h s
  | .spanLinkUp h => Sys2Proof.Machine.execSpanLinkUp h s
  | .diSample h levels sunk => Sys2Proof.Machine.execDiSample h levels sunk s
  | .siSample h siA siB srsA srsB => Sys2Proof.Machine.execSiSample h siA siB srsA srsB s
  | .crossTripEnd h => Sys2Proof.Machine.execCrossTripEnd h s
  | .stationSecond h => Sys2Proof.Machine.execStationSecond h s

end Sys2Proof.Machine
end

