-- ==== Sys2Proof/Machine/Tick.lean ====
section
/-! DEFINITION. What happens on an empty queue: one 4 ns tick of each powered half's clocks (R384, log 1). -/
namespace Sys2Proof.Machine


/-- One tick of a half's time unit while it runs (TS_CTRL.EN, R384), on which CE_LOAD takes a completed 1 ms (R114). -/
def Half.tick (x : Half) : Half :=
  if x.st != .off && x.bit Reg.TS_CTRL 0 then
    ({ x with ts := { x.ts with tick := x.ts.tick + 1, mono := x.ts.mono + x.tickInc } } : Half).ceLoad 0
  else x

/-- One tick of PD0: powered time, and how long no claim has been valid (R462, R485). -/
def Half.tickSys (x : Half) : Half :=
  if x.st != .off then
    { x with sys := { x.sys with up := x.sys.up + 4
                                 noClaim := if x.claims || x.partnerClaim then 0 else x.sys.noClaim + 4 } }
  else x

/-- One tick of Scruple's own clock, while its controller runs. -/
def Half.tickSaf (x : Half) : Half :=
  if x.saf.run then { x with saf := { x.saf with clk := x.saf.clk + 4 } } else x

/-- One tick of both halves. -/
def State.tick (s : State) : State := { s with a := s.a.tick.tickSys.tickSaf, b := s.b.tick.tickSys.tickSaf }

end Sys2Proof.Machine
end

