-- ==== Sys2Proof/Machine/Leds.lean ====
section
/-! DEFINITION. The four LEDs of a cartridge (R531), which show the state of the half in every state but OFF. -/
namespace Sys2Proof.Machine

/-- A LED's pattern: off, on, flashing at 1 Hz, flashing at 4 Hz. -/
inductive LedPattern where
  | off
  | on
  | flash1
  | flash4
  deriving DecidableEq, Repr, Inhabited

/-- The patterns of RUN, ROLE, FAULT and SYNC. -/
structure Leds where
  run : LedPattern := .off
  role : LedPattern := .off
  fault : LedPattern := .off
  sync : LedPattern := .off
  deriving DecidableEq, Repr, Inhabited

/-- RUN, green. -/
def Half.ledRun (x : Half) : LedPattern :=
  if x.role.released then .flash1
  else match x.st with
    | .boot => .flash4
    | .native => .flash4
    | .syncing => .on
    | .standby => .on
    | .active => .on
    | .relinquishing => .on
    | _ => .off

/-- RELEASE has been refused within the last 2 s (R530). -/
def Half.refusedLately (x : Half) : Bool := x.role.refusedAt.any fun t => (x.mono - t).toNat < 2000000000

/-- ROLE, blue. -/
def Half.ledRole (x : Half) : LedPattern :=
  if x.refusedLately then .flash4
  else if x.st == .active || (x.st == .relinquishing && x.role.ho.elim true fun k => k.stage == 0) then .on
  else .off

/-- FAULT, red. -/
def Half.ledFault (x : Half) : LedPattern :=
  if x.st == .latched then .flash4
  else if x.st == .fault || (x.st == .boot && (x.boot.noSlot || x.sys.slotBad)) then .on
  else if x.bit Reg.FC_STAT 2 || (x.st == .native && x.boot.recovery.isSome) then .flash1
  else .off

/-- SYNC, amber. -/
def Half.ledSync (x : Half) : LedPattern :=
  if x.role.claimLine then .flash4
  else if x.st == .syncing then .flash1
  else if (x.st == .standby && x.role.synced) || (x.st == .active && x.peerSynced) then .on
  else .off

/-- The LEDs: dark in OFF, all lit for 1 s from the power-on of PD0, then each by its table. -/
def Half.leds (x : Half) : Leds :=
  if x.st == .off then {}
  else if (x.sys.up - x.sys.onAt).toNat < 1000000000 then { run := .on, role := .on, fault := .on, sync := .on }
  else { run := x.ledRun, role := x.ledRole, fault := x.ledFault, sync := x.ledSync }

end Sys2Proof.Machine
end

