-- ==== Sys2Proof/Safety.lean ====
section
/-! DEFINITION. What the statements speak about: the half a command names, the invariant that every step keeps, and when
the mailbox starts a command. -/
namespace Sys2Proof

/-- The half that a command is addressed to, or that its event occurs in. -/
def Instr.half (c : Instr) : HalfId :=
  match c with
  | .taskRelease h _ => h
  | .minimumSeparationEnd h _ => h
  | .eventTaskDeadline h _ => h
  | .swTaskHang h _ => h
  | .taskCycleStart h => h
  | .configSwitchTimeout h _ => h
  | .blockBoundary h => h
  | .taskCycleEnd h => h
  | .outputUpdate h _ => h
  | .chainTrigger h _ => h
  | .sampleDispatch h => h
  | .chainSampleComplete h _ => h
  | .ceTrackSend h => h
  | .ceTrack h _ _ => h
  | .ceCmdRun h _ => h
  | .ceCmdHold h _ => h
  | .ceCmdOff h _ => h
  | .ceCmdRestart h _ => h
  | .ceSwap h _ _ _ => h
  | .ceLevelMaxRead h => h
  | .vdThresholdCross h _ _ => h
  | .vdMinTimeEnd h _ _ => h
  | .vdFfRefresh h _ _ _ => h
  | .vdSarConversion h _ _ => h
  | .vdOpenLoad h _ => h
  | .vdOpenLoadRetry h _ => h
  | .vdShort h _ => h
  | .vdShortRetry h _ => h
  | .vdOvertemp h _ => h
  | .vdOvertempClear h _ => h
  | .vdRegErr h _ => h
  | .tgStart h _ => h
  | .tgStop h _ => h
  | .tgRunStart h _ => h
  | .tgDone h _ => h
  | .tcArm h _ => h
  | .tcTrigger h _ => h
  | .tcStop h _ => h
  | .tcReset h _ => h
  | .safetyTaskCycle h _ _ => h
  | .safeWdg h => h
  | .sealChange h _ => h
  | .queueTrip h => h
  | .paramChunk h => h
  | .paramEnd h => h
  | .queueTimeEntry h => h
  | .proofStart h => h
  | .proofTestComplete h _ => h
  | .siFilterChange h _ _ => h
  | .matrixBackstopExpire h _ _ => h
  | .pairDiscrepancy h _ => h
  | .tpDarkPulse h _ _ _ => h
  | .tpMasterTakeover h _ => h
  | .functionDelayElapsed h _ => h
  | .twohandSyncTimeout h _ => h
  | .guardAutoReset h _ => h
  | .scrupleFiEdge h _ => h
  | .safeFi h _ => h
  | .soSwitchTest h _ _ => h
  | .soSwitchTestEnd h _ _ _ => h
  | .xtripAssert h _ => h
  | .xtripReceive h => h
  | .safeXtripRx h => h
  | .xtripWiring h => h
  | .srsLevelChange h _ => h
  | .resetHeld h _ => h
  | .srsRecoverEnd h _ => h
  | .readbackReset h _ => h
  | .proofOverdue h => h
  | .pd0PowerOn h _ => h
  | .pdRailGood h _ => h
  | .bootRomStart h => h
  | .bootImageVerified h _ => h
  | .bootRetry h => h
  | .nativeImageStart h _ => h
  | .nativeImageReturn h _ => h
  | .nativeImageTimeout h => h
  | .startupDone h => h
  | .negotiationTimeout h => h
  | .applicationLoadDone h => h
  | .claimInvalid h => h
  | .claimValid h => h
  | .claimLineEnd h => h
  | .presenceBreak h => h
  | .partnerAbsent h => h
  | .partnerReleased h => h
  | .takeoverDecision h => h
  | .holdWindowEnd h => h
  | .heartbeatSend h => h
  | .heartbeat h _ _ => h
  | .heartbeatTimeout h => h
  | .spanLinkLoss h => h
  | .peerArmedTimeout h => h
  | .spanFrameDiscard h => h
  | .spanRelRetransmit h _ => h
  | .stateDelta h _ _ => h
  | .cycleEnd h _ _ => h
  | .fullCopyComplete h => h
  | .cfgFrame h _ _ => h
  | .peerMbx h _ _ _ => h
  | .roleOffer h _ _ => h
  | .roleAccept h => h
  | .roleRefuse h => h
  | .roleAbort h => h
  | .roleRelinquish h => h
  | .roleClaimed h => h
  | .offerTimeout h => h
  | .handoverInstantH h => h
  | .handoverInstantHV h => h
  | .incomingVdStart h => h
  | .handoverDoRelease h => h
  | .handoverComplete h => h
  | .handoverTimeout h => h
  | .periodicSwap h _ => h
  | .swapOverdue h => h
  | .releaseButtonHold h _ => h
  | .releaseRecoveryHold h => h
  | .faultRaise h _ => h
  | .sourcePairInvalid h _ => h
  | .reactionWindowExpire h _ => h
  | .fcPendClear h _ _ => h
  | .heldFaultRelease h => h
  | .classClear h _ => h
  | .domainResetEnd h _ => h
  | .quietL2Expire h _ => h
  | .fcLatchMark h => h
  | .lockstepMismatch h _ _ => h
  | .flushTimerExpire h _ => h
  | .flushSup h => h
  | .flushApp h => h
  | .fcInj h _ => h
  | .fcEvtPop h => h
  | .fcLock h => h
  | .fcCfgChk h => h
  | .fixtureLoss h => h
  | .swSupWdg h => h
  | .eccError h _ _ => h
  | .thermalThreshold h _ => h
  | .clockMonitorWindow h _ _ _ => h
  | .leagueHeartbeatSend h => h
  | .leagueHeartbeat h _ => h
  | .workerLost h _ => h
  | .managerLost h => h
  | .exchange h _ => h
  | .refresh h _ => h
  | .relay h _ => h
  | .join h _ => h
  | .joinReply h _ _ _ => h
  | .refreshReq h _ => h
  | .stationState h _ _ => h
  | .fragmentTimeout h _ _ => h
  | .refreshSend h _ => h
  | .fullRefreshStart h => h
  | .fullRefreshDeadline h _ => h
  | .storeBatch h => h
  | .commandConsume h _ => h
  | .completionPost h _ _ => h
  | .notificationPost h _ => h
  | .mbxCh0SqTail h _ => h
  | .mbxCh0CqHead h _ => h
  | .mbxChnCtrlReset h _ => h
  | .mbxPoolMaxRead h => h
  | .dtlsHandshake h _ _ _ => h
  | .dtlsKeyUpdate h _ => h
  | .openSession h _ _ => h
  | .entries h _ _ _ _ => h
  | .pointers h _ _ _ => h
  | .closeSession h _ => h
  | .completionRetransmit h _ => h
  | .pointersKeepalive h _ => h
  | .sessionTimeout h _ => h
  | .mp1Message h _ _ _ => h
  | .usbDisconnect h => h
  | .peerCommandTimeout h _ _ => h
  | .nop h _ _ => h
  | .identify h _ _ => h
  | .sessionInfo h _ _ => h
  | .abort h _ _ => h
  | .objRead h _ _ => h
  | .objWrite h _ _ => h
  | .objReadGroup h _ _ => h
  | .objSubscribe h _ _ => h
  | .objUnsubscribe h _ _ => h
  | .objForce h _ _ => h
  | .taskState h _ _ => h
  | .taskStats h _ _ => h
  | .cfgStage h _ _ _ => h
  | .cfgVerify h _ _ => h
  | .cfgCommit h _ _ => h
  | .cfgRollback h _ _ => h
  | .fwStage h _ _ _ => h
  | .fwActivate h _ _ _ => h
  | .roleQuery h _ _ => h
  | .roleSwap h _ _ _ => h
  | .halfRelease h _ _ _ => h
  | .faultQuery h _ _ => h
  | .faultAck h _ _ => h
  | .faultInject h _ _ => h
  | .recSnapshot h _ _ => h
  | .recList h _ _ => h
  | .ceChainWrite h _ _ => h
  | .ceCoefSwap h _ _ => h
  | .ceInject h _ _ => h
  | .ceTraceArm h _ _ => h
  | .ceTraceRead h _ _ => h
  | .timeGet h _ _ => h
  | .timeSource h _ _ => h
  | .dispUpdate h _ _ => h
  | .dispStatus h _ _ => h
  | .leagueJoin h _ _ => h
  | .leagueStatus h _ _ => h
  | .safetyStatus h _ _ => h
  | .tsSrvGo h => h
  | .tsSrvStep h => h
  | .tsMonoRead h => h
  | .monoWrap h => h
  | .stationWrap h => h
  | .servoHoldover h => h
  | .stationTimeSave h => h
  | .sync h _ _ => h
  | .followUp h _ _ => h
  | .delayReq h _ _ => h
  | .delayResp h _ _ => h
  | .announce h _ _ => h
  | .ptpMessageSend h _ _ => h
  | .ptpFrameDeparture h _ _ => h
  | .announceReceiptTimeout h _ => h
  | .ptpPortSyncLoss h => h
  | .abDis h => h
  | .spanTimeSend h => h
  | .spanTimeFrame h _ _ => h
  | .edgeCapture h _ _ _ => h
  | .tsCapPop h _ => h
  | .diFilterChange h _ => h
  | .diSink h _ => h
  | .doLimit h _ => h
  | .doOvertemp h _ => h
  | .doOvertempClear h _ => h
  | .doGroup h _ _ => h
  | .doGroupRestart h _ => h
  | .doOpenLoad h _ => h
  | .doShort24v h _ => h
  | .doStuck h _ => h
  | .fiEdge h _ _ _ => h
  | .fiSpeedUpdate h _ => h
  | .fiZero h _ => h
  | .aiConversion h _ _ _ _ _ => h
  | .aiBandQuality h _ => h
  | .aiComply h _ => h
  | .aiComplyEnd h _ => h
  | .aiCalibration h _ _ _ _ _ _ _ _ => h
  | .aoComply h _ _ _ => h
  | .aoComplyReturn h _ _ => h
  | .aoOpen h _ _ => h
  | .aoSink h _ => h
  | .canFrameReceive h _ _ => h
  | .canSendDue h _ _ => h
  | .canFrameSent h _ _ _ => h
  | .canError h _ _ _ => h
  | .canBusoffRecovered h _ => h
  | .boRel h _ => h
  | .boDelay h _ => h
  | .canRateCandidateTimeout h _ => h
  | .canRateNone h _ => h
  | .canSleep h _ => h
  | .canBusWake h _ _ => h
  | .canRoleChange h _ => h
  | .canXcvr h _ => h
  | .lanFrameReceive h _ _ => h
  | .prpSupervisionSend h => h
  | .prpNodeForget h _ => h
  | .lanLinkChange h _ _ => h
  | .netLanLost h => h
  | .insSentenceReceive h _ => h
  | .sentenceTimeout h _ => h
  | .sentenceSendDue h _ => h
  | .serFrameReceive h _ _ => h
  | .modbusPollDue h _ _ => h
  | .modbusResponseTimeout h _ => h
  | .serRoleChange h _ => h
  | .authAddressUnblock h _ => h
  | .cvJobGo h _ => h
  | .cvJobStop h _ => h
  | .cvJobDone h _ _ _ _ => h
  | .cvJobRepeat h _ => h
  | .bgActivityDue h _ _ _ => h
  | .swBgBudget h _ => h
  | .norErase h _ _ => h
  | .operatingMinute h => h
  | .evrCommitPass h => h
  | .dispFrame h _ => h
  | .coverDetect h _ => h
  | .coverRemove h => h
  | .dispNoClaim h => h
  | .dispDischargeDone h => h
  | .dispJournalAckTimeout h _ => h
  | .dispStressSend h => h
  | .logicFeedFail h => h
  | .powerFailConfirm h => h
  | .logicFeedReturn h _ => h
  | .holdupStoreEmpty h => h
  | .pwrHoldup h _ => h
  | .fieldFeedRange h _ _ => h
  | .domainRailFault h _ => h
  | .sysRstDomain h _ => h
  | .sysRstHalf h => h
  | .spanRelinq h => h
  | .icuClaimRead h _ => h
  | .registerWrite h _ _ _ => h
  | .commandTimeout h _ _ => h
  | .scrupleResetEnd h => h
  | .partnerPresent h => h
  | .fixturePresent h => h
  | .dispRailFault h => h
  | .dispRailsOn h => h
  | .spanLinkUp h => h
  | .diSample h _ _ => h
  | .siSample h _ _ _ _ => h
  | .crossTripEnd h => h
  | .stationSecond h => h

/-- The commands that act on both halves: they go over the Span link's roles (R188, R205 to R217), end a session or a
command that may carry a handover (R287, R301), show Scruple's parameter word to both supervisors (R146), or write a
register that does one of these. -/
def Instr.reachesPartner (c : Instr) : Bool :=
  match c with
  | .safetyTaskCycle .. => true
  | .tpMasterTakeover .. => true
  | .claimLineEnd .. => true
  | .heartbeat .. => true
  | .peerMbx .. => true
  | .roleOffer .. => true
  | .roleAccept .. => true
  | .roleRefuse .. => true
  | .roleAbort .. => true
  | .roleClaimed .. => true
  | .offerTimeout .. => true
  | .handoverInstantH .. => true
  | .handoverInstantHV .. => true
  | .handoverDoRelease .. => true
  | .handoverComplete .. => true
  | .handoverTimeout .. => true
  | .periodicSwap .. => true
  | .releaseButtonHold .. => true
  | .commandConsume .. => true
  | .mbxChnCtrlReset .. => true
  | .closeSession .. => true
  | .sessionTimeout .. => true
  | .usbDisconnect .. => true
  | .nop .. => true
  | .abort .. => true
  | .fwActivate .. => true
  | .roleSwap .. => true
  | .halfRelease .. => true
  | .registerWrite .. => true
  | .scrupleResetEnd .. => true
  | _ => false

/-- The commands that report a change of the baseplate itself: the seal switches and the feeds (R142, R488, R489). -/
def Instr.changesBaseplate (c : Instr) : Bool :=
  match c with
  | .sealChange .. => true
  | .logicFeedFail .. => true
  | .logicFeedReturn .. => true
  | .fieldFeedRange .. => true
  | _ => false

end Sys2Proof

namespace Sys2Proof.Machine

/-- Every capture FIFO holds at most 64 entries (R402). -/
def CapsOk (c : Tab (List Capture)) : Prop := ∀ p ∈ c, p.2.length ≤ 64

/-- The canonical form of the parts of a half that the manual bounds: its register file lists rising addresses and no
register at its reset value, its slot is the one it is fitted in, its event FIFO holds at most 64 entries (R244) and
its capture FIFOs at most 64 (R402), and its byte memories list rising addresses and no zero. `p` is what must hold where
a takeover has begun (R186). -/
def Canon (i : HalfId) (p : Prop) (r : RegFile) (j : HalfId) (q : List FcEvt) (c : Tab (List Capture)) (m d : Memory)
    (k : Bool) : Prop :=
  r.wf = true ∧ j = i ∧ q.length ≤ 64 ∧ CapsOk c ∧ m.wf = true ∧ d.wf = true ∧ (k = true → p)

/-- The canonical form of the half in slot i. -/
def Half.Sound (i : HalfId) (x : Half) : Prop :=
  Canon i True x.regs x.id x.fc.fifo x.ts.fifos x.can.ram x.dsp.staging x.role.takeover

/-- The invariant of the station: both halves are in canonical form, each in its own slot. -/
def State.Sound (s : State) : Prop := s.a.Sound .a ∧ s.b.Sound .b

/-- A station with one half replaced. -/
def State.put (s : State) (h : HalfId) (y : Half) : State := s.mod h fun _ => y

/-- The mailbox starts command `op` with this tag on this channel: it is the channel's next command, its entry is well
formed, its session's role is high enough, and the half's state permits it (R290, R296, R305, R306). -/
abbrev Half.Accepts (x : Half) (ch tag op role : Nat) (need : Needs) (c : Ctx) : Prop :=
  x.nextCmd ch = some c ∧ c.tag = tag ∧ c.op = op ∧ c.malformed = false ∧ role ≤ c.role ∧ x.permitsCmd need c = true

/-- The half once that command has started; a command without an abort point is past its last one (R287, R305). -/
def Half.begun (x : Half) (ch tag : Nat) (c : Ctx) : Half :=
  x.modCtx ch tag fun d => { d with started := true, past := !abortable c, at_ := x.mono }

end Sys2Proof.Machine
end

