-- ==== Sys2Proof/Certificates/Slice0/Obligations.lean ====
section
/-! DEFINITION. The statements for the provers. -/
open Sys2Proof Sys2Proof.Machine

/-- Each task event runs its task as its rule says (R20, R22, R23, R27, R33, R35, R46), from the task's present state. -/
def Obligations.TaskRowsComplete : Prop :=
  ∀ (s : State) (h : HalfId) (x : Half), s.half h = x → x.st ≠ .off →
    (∀ (task : Nat) (c : TaskCfg), x.taskCfg task = some c → c.event = false → (x.appOn || x.appComes) = true →
      (x.tsk task).state = .waiting → x.relPassed (x.tsk task) (x.releaseInstant c) (taskTi c) = false →
      exec (.taskRelease h task) s = .next (s.put h (((x.modTsk task fun k => { k with instAt := some (x.releaseInstant c, x.mono) }).release task (x.releaseInstant c)).modTsk task
      fun k => { k with switchDue := k.switchTo.isSome }))) ∧
    (∀ (task : Nat) (c : TaskCfg), x.taskCfg task = some c → c.event = false → (x.appOn || x.appComes) = true →
      (x.tsk task).state = .running → x.relPassed (x.tsk task) (x.releaseInstant c) (taskTi c) = false →
      exec (.taskRelease h task) s = .next (s.put h ((x.modTsk task fun k => { k with instAt := some (x.releaseInstant c, x.mono) }).skipRelease task))) ∧
    (∀ (task : Nat), x.appOn = true → (x.tsk task).sep = true → (x.tsk task).pendAct = false →
      x.gone (x.tsk task).relMono ((x.taskCfg task).elim 0 (·.minSep)) = true →
      exec (.minimumSeparationEnd h task) s = .next (s.put h (x.modTsk task fun k => { k with sep := false }))) ∧
    (∀ (task : Nat) (y : Half), x.appOn = true → (x.tsk task).sep = true → (x.tsk task).pendAct = true →
      (x.tsk task).state = .waiting → x.gone (x.tsk task).relMono ((x.taskCfg task).elim 0 (·.minSep)) = true →
      y = x.modTsk task (fun k => { k with sep := false }) →
      exec (.minimumSeparationEnd h task) s = .next (s.put h (y.activateTask task))) ∧
    (∀ (task : Nat) (c : TaskCfg), x.appOn = true → x.taskCfg task = some c → c.event = true →
      inCycle (x.tsk task) = true → x.gone (x.tsk task).relMono c.deadline = true →
      exec (.eventTaskDeadline h task) s = .next (s.put h (x.overrun task))) ∧
    (∀ (task : Nat) (c : TaskCfg), x.isActive = true → inCycle (x.tsk task) = true → x.taskCfg task = some c →
      x.gone (x.tsk task).relMono (hangMs c) = true →
      exec (.swTaskHang h task) s = .next (s.put h (x.raise 106))) ∧
    (∀ (t : Nat), x.appRuns = true → x.runningTask = none →
      x.topTask (fun k => k.state == .ready || k.state == .preempted) = some t → (x.tsk t).state = .ready →
      exec (.taskCycleStart h) s = .next (s.put h (x.startCycle t))) ∧
    (∀ (t : Nat), x.appRuns = true → x.runningTask = none →
      x.topTask (fun k => k.state == .ready || k.state == .preempted) = some t → (x.tsk t).state = .preempted →
      exec (.taskCycleStart h) s = .next (s.put h (x.resume))) ∧
    (∀ (task : Nat) (c : TaskCfg), x.appRuns = true → x.taskCfg task = some c → c.event = true →
      (x.tsk task).switchTo.isSome = true → (x.tsk task).state = .waiting →
      (x.cfg.pend.any fun p => x.gone p.at_ c.deadline) = true →
      exec (.configSwitchTimeout h task) s = .next (s.put h (x.activateTask task))) ∧
    (∀ (t : Nat) (c : TaskCfg) (r : CallRec) (y : Half), x.appRuns = true → x.runningTask = some t →
      x.taskCfg t = some c → c.calls[(x.tsk t).pos]? = some r →
      y = (x.execCall t c r).modTsk t (fun k => { k with pos := k.pos + 1 }) →
      y.topTask (fun k => k.state == .ready) = none → exec (.blockBoundary h) s = .next (s.put h (y))) ∧
    (∀ (t u : Nat) (c : TaskCfg), x.appRuns = true → x.runningTask = some t → x.taskCfg t = some c →
      c.calls[(x.tsk t).pos]? = none → x.topTask (fun k => k.state == .ready) = some u →
      x.taskPrio u < x.taskPrio t →
      exec (.blockBoundary h) s = .next (s.put h (((x.modTsk t fun k => { k with state := .preempted }).flush .app).startCycle u))) ∧
    (∀ (t : Nat) (c : TaskCfg), x.appRuns = true → x.runningTask = some t → x.taskCfg t = some c →
      c.calls.length ≤ (x.tsk t).pos → exec (.taskCycleEnd h) s = .next (s.put h (x.endCycle t c))) ∧
    (∀ (task : Nat) (c : TaskCfg), x.taskCfg task = some c → (x.tsk task).updDue = true → x.isActive = true →
      exec (.outputUpdate h task) s = .next (s.put h (x.updateOutputs task c)))

/-- Each control-engine event moves its samples as its rule says (R85, R86, R90, R91, R107). -/
def Obligations.ControlEngineRowsComplete : Prop :=
  ∀ (s : State) (h : HalfId) (x : Half), s.half h = x → x.st ≠ .off →
    (∀ (chain : Nat) (y : Half), chain < 256 → x.ceOn = true → (x.chainSt chain).present = true →
      (x.chainSt chain).mode = .run → x.fires chain (x.desc chain) = true → (x.desc chain).trigKind ≠ 4 →
      (x.chainSt chain).flight = none → x.ce.queue = [] →
      y = x.modChain chain (fun k => { k with tLast := x.now, lastTrig := some x.mono }) →
      exec (.chainTrigger h chain) s = .next (s.put h (({ y with ce := { y.ce with queue := [(chain, x.mono, x.now)] } } : Half).ceLevels))) ∧
    (∀ (c : Nat) (trig tTrig : DWord), x.ceOn = true → x.nextSample = some (c, trig, tTrig) →
      ((x.dequeueSample c).chainSt c).mode ≠ .off → ((x.dequeueSample c).chainSt c).mode ≠ .halted →
      exec (.sampleDispatch h) s = .next (s.put h ((x.dequeueSample c).latchSample c trig tTrig))) ∧
    (∀ (c : Nat) (trig tTrig : DWord), x.ceOn = true → x.nextSample = some (c, trig, tTrig) →
      ((x.dequeueSample c).chainSt c).mode = .halted →
      exec (.sampleDispatch h) s = .next (s.put h ((x.dequeueSample c).ceLevels))) ∧
    (∀ (chain : Nat) (l : Latch), (x.chainSt chain).flight = some l →
      exec (.chainSampleComplete h chain) s = .next (s.put h (x.completeSample chain l))) ∧
    (x.isActive = true → x.due .track 1000 = true →
      exec (.ceTrackSend h) s = .next (s.put h ((x.ran .track).sendTrack))) ∧
    (∀ (hdr : SpanHdr) (chains : List TrackChain), x.linked = true → (x.spanAccept hdr).st = .standby →
      exec (.ceTrack h hdr chains) s = .next (s.put h (chains.foldl Half.takeTrack (x.spanAccept hdr)))) ∧
    (∀ (hdr : SpanHdr) (chains : List TrackChain), x.linked = true → (x.spanAccept hdr).st = .syncing →
      exec (.ceTrack h hdr chains) s = .next (s.put h (chains.foldl Half.takeTrack (x.spanAccept hdr))))

/-- Each command to a chain acts on it as its rule says (R88, R100, R107, R114). -/
def Obligations.ChainCommandRowsComplete : Prop :=
  ∀ (s : State) (h : HalfId) (x : Half), s.half h = x → x.st ≠ .off →
    (∀ (chain : Nat), chain < 256 → x.domainOn 3 = true →
      exec (.ceCmdRun h chain) s = .next (s.put h ((x.setMode chain .run).forwardCe (.mode chain .run)))) ∧
    (∀ (chain : Nat), chain < 256 → x.domainOn 3 = true →
      exec (.ceCmdHold h chain) s = .next (s.put h ((x.setMode chain .hold).forwardCe (.mode chain .hold)))) ∧
    (∀ (chain : Nat), chain < 256 → x.domainOn 3 = true →
      exec (.ceCmdOff h chain) s = .next (s.put h ((x.setMode chain .off).forwardCe (.mode chain .off)))) ∧
    (∀ (chain : Nat), chain < 256 → x.domainOn 3 = true →
      exec (.ceCmdRestart h chain) s = .next (s.put h ((x.restartChain chain).forwardCe (.restart chain)))) ∧
    (∀ (chain : Nat) (bankB bumpless : Bool), chain < 256 → x.domainOn 3 = true → (x.chainSt chain).present = true →
      exec (.ceSwap h chain bankB bumpless) s = .next (s.put h ((x.requestSwap chain { bankB := bankB, bumpless := bumpless }).forwardCe (.swap chain bankB bumpless)))) ∧
    (exec (.ceLevelMaxRead h) s = .next (s.put h ({ x.wr Reg.CE_LEVEL_MAX 0 with rdata := x.rd Reg.CE_LEVEL_MAX })))

/-- Each valve-drive row acts on its channel as its rule says (R118, R123, R125, R126), for channels 0 to 7. -/
def Obligations.ValveDriveRowsComplete : Prop :=
  ∀ (s : State) (h : HalfId) (x : Half), s.half h = x → x.st ≠ .off →
    (∀ (vd : Nat) (i : F32) (y : Half), vd < 8 → x.domainOn 6 = true → y = (x.vdShow vd).vdSee vd i →
      exec (.vdThresholdCross h vd i) s = .next (s.put h (y.vdCompare vd i))) ∧
    (∀ (vd : Nat) (i : F32) (y : Half) (on : Bool), vd < 8 → x.domainOn 6 = true → y = (x.vdShow vd).vdSee vd i →
      (y.vd_ vd).deferred = some on → exec (.vdMinTimeEnd h vd i) s = .next (s.put h (y.vdDecide vd on))) ∧
    (∀ (vd : Nat) (i : F32) (slope : Option F32), vd < 8 → x.domainOn 6 = true → x.due (.refresh vd) 1 = true →
      exec (.vdFfRefresh h vd i slope) s = .next (s.put h ((x.ran (.refresh vd)).vdRefresh vd i slope))) ∧
    (∀ (vd : Nat) (i : F32), vd < 8 → x.domainOn 6 = true →
      exec (.vdSarConversion h vd i) s = .next (s.put h (x.vdConvert vd i))) ∧
    (∀ (vd : Nat), vd < 8 → x.feedOk (vd / 4) = true → x.vdTracked.vdOpen vd = true →
      exec (.vdOpenLoad h vd) s = .next (s.put h ((x.vdTracked.modVd vd fun k => { k with retrying := false }).vdCond vd 1 92))) ∧
    (∀ (vd : Nat), vd < 8 → x.bit (Reg.VD_STAT vd) 1 = true → f32lt (x.vdRef vd).1 (f32int 50) = false →
      x.vdRested vd 1000 = true →
      exec (.vdOpenLoadRetry h vd) s = .next (s.put h ((x.modVd vd fun k => { k with retrying := true, condAt := some x.mono }).vdDecide vd true))) ∧
    (∀ (vd : Nat), vd < 8 → x.role.vdRun = true → (x.vd_ vd).retries < 10 →
      exec (.vdShort h vd) s = .next (s.put h (x.vdCond vd 2 93))) ∧
    (∀ (vd : Nat), vd < 8 → x.role.vdRun = true → 10 ≤ (x.vd_ vd).retries →
      exec (.vdShort h vd) s = .next (s.put h ((x.setBit (Reg.VD_STAT vd) 3 true).vdCond vd 2 93))) ∧
    (∀ (vd : Nat), vd < 8 → x.bit (Reg.VD_STAT vd) 2 = true → x.bit (Reg.VD_STAT vd) 3 = false →
      x.vdRested vd 100 = true →
      exec (.vdShortRetry h vd) s = .next (s.put h (((x.setBit (Reg.VD_STAT vd) 2 false).modVd vd fun k => { k with retries := k.retries + 1 }).vdResume vd))) ∧
    (∀ (vd : Nat), vd < 8 → x.role.vdRun = true → exec (.vdOvertemp h vd) s = .next (s.put h (x.vdCond vd 4 94))) ∧
    (∀ (vd : Nat), vd < 8 → x.bit (Reg.VD_STAT vd) 4 = true →
      exec (.vdOvertempClear h vd) s = .next (s.put h ((x.setBit (Reg.VD_STAT vd) 4 false).vdResume vd))) ∧
    (∀ (vd : Nat), vd < 8 → x.feedOk (vd / 4) = true → x.bit (Reg.VD_CTRL vd) 0 = true →
      x.fld (Reg.VD_STAT vd) 4 1 = 0 → x.vdFar vd = true →
      exec (.vdRegErr h vd) s = .next (s.put h (x.vdCond vd 5 95)))

/-- Each test-generator and trace row moves its unit as its rule says (R132, R135, R136). -/
def Obligations.TuningRowsComplete : Prop :=
  ∀ (s : State) (h : HalfId) (x : Half), s.half h = x → x.st ≠ .off →
    (∀ (tg : Nat), tg < 4 → x.tunes = true → x.tgState tg = 0 →
      exec (.tgStart h tg) s = .next (s.put h (x.tgStarted tg (BitVec.ofNat 8 ((x.tcWith 3 tg).foldl (fun m c => m + 2 ^ c) 0)) none))) ∧
    (∀ (tg : Nat), tg < 4 → x.tgState tg = 2 → exec (.tgStop h tg) s = .next (s.put h (x.tgEnd tg ST_ABORTED))) ∧
    (∀ (tg : Nat), tg < 4 → x.tgState tg = 1 →
      ((List.range 8).all fun c => !(x.tg tg).mask.getLsbD c || x.tcState c != 1) = true →
      exec (.tgRunStart h tg) s = .next (s.put h (((x.setFld (Reg.TG_STAT tg) 1 0 2).modTg tg fun k => { k with
      start := x.mono, t0 := x.now, k := 0
      prbs := prbsSeed (x.fld (Reg.TG_PRBS tg) 4 0) (x.rd (Reg.TG_SEED tg)) }).tcEvent 3 tg))) ∧
    (∀ (tg : Nat), tg < 4 → x.tgState tg = 2 → exec (.tgDone h tg) s = .next (s.put h (x.tgEnd tg ST_OK))) ∧
    (∀ (tc : Nat), tc < 8 → x.tunes = true → x.tcState tc = 0 →
      exec (.tcArm h tc) s = .next (s.put h (x.tcArmed tc))) ∧
    (∀ (tc : Nat), tc < 8 → exec (.tcTrigger h tc) s = .next (s.put h (Half.tcTrigger 64 x [tc]))) ∧
    (∀ (tc : Nat), tc < 8 → exec (.tcStop h tc) s = .next (s.put h (x.tcStopped tc))) ∧
    (∀ (tc : Nat), tc < 8 → x.tcState tc = 4 → exec (.tcReset h tc) s = .next (s.put h (x.tcIdle tc)))

/-- Each CAN row changes the half as its rule says (R408 to R421). -/
def Obligations.CanRowsComplete : Prop :=
  ∀ (s : State) (h : HalfId) (x : Half), s.half h = x → x.st ≠ .off →
    (∀ (ctl : Nat) (f : CanFrame) (y : Half), x.canReceives ctl = true → x.canCarries ctl f = true → f.rtr = true →
      y = (x.canGood ctl f).canFall ctl false →
      exec (.canFrameReceive h ctl f) s = .next (s.put h (if (y.canCtl ctl).drives then y else (y.canIdle ctl).canRecord ctl f))) ∧
    (∀ (ctl : Nat) (f : CanFrame) (y z : Half) (n : Nat), x.canReceives ctl = true → x.canCarries ctl f = true →
      f.rtr = false → y = (x.canGood ctl f).canFall ctl false →
      z = (if (y.canCtl ctl).drives then y else (y.canIdle ctl).canRecord ctl f) →
      (z.canObjs ctl false).find? (fun n => z.canMatch ctl n f) = some n →
      exec (.canFrameReceive h ctl f) s = .next (s.put h (z.canTakeFrame ctl n f))) ∧
    (∀ (ctl obj : Nat), x.conf.canSends.any (fun o => o.ctl == ctl && o.obj == obj && x.canIsDue o) = true →
      (x.canObj ctl obj).getLsbD 0 = true → (x.canObj ctl obj).getLsbD 1 = true → x.canSends ctl = true →
      x.canFull ctl obj = false → exec (.canSendDue h ctl obj) s = .next (s.put h (x.setFull ctl obj true))) ∧
    (∀ (ctl obj : Nat) (f : CanFrame) (y : Half), x.domainOn 4 = true → (x.canObj ctl obj).getLsbD 1 = true →
      (x.canFull ctl obj || (x.canCtl ctl).finishing.contains obj) = true → x.canErr ctl < 2 →
      f = x.canLoad ctl obj →
      y = (((x.canIdle ctl).canStore ctl obj x.now f).setFull ctl obj false).send (.canFrame ctl obj f) →
      exec (.canFrameSent h ctl obj .sent) s = .next (s.put h (((y.canCount ctl (Reg.CAN_TXCNT ctl)).canIrq ctl 1).canFall ctl true))) ∧
    (∀ (ctl tec rec : Nat), x.canHears ctl = true → x.canDetects ctl = false → x.canEff ctl = 1 → x.canErr ctl < 2 →
      tec < 256 →
      exec (.canError h ctl tec rec) s = .next (s.put h ((x.setEcr ctl tec rec).setErr ctl (if (128 ≤ tec || 128 ≤ rec) then 1 else 0)))) ∧
    (∀ (ctl tec rec : Nat) (z : Half), x.canHears ctl = true → x.canDetects ctl = false → x.canEff ctl = 1 →
      x.canErr ctl < 2 → 256 ≤ tec → z = (x.setEcr ctl tec rec).setErr ctl 2 →
      exec (.canError h ctl tec rec) s = .next (s.put h (if z.bit (Reg.CAN_CTRL ctl) 5 then z else z.canRelease ctl))) ∧
    (∀ (ctl : Nat), x.canHears ctl = true → x.canErr ctl = 3 →
      x.goneUs (x.canCtl ctl).recovAt (x.canRecovery ctl) = true →
      exec (.canBusoffRecovered h ctl) s = .next (s.put h ((x.setEcr ctl 0 0).setErr ctl 0))) ∧
    (∀ (ctl : Nat), x.canHears ctl = true → x.bit (Reg.CAN_CTRL ctl) 5 = true →
      exec (.boRel h ctl) s = .next (s.put h (x.canRelease ctl))) ∧
    (∀ (ctl : Nat) (used : List Word), used = (x.canCtl ctl).releases.filter (fun m => (x.opmin - m).toNat < 60) →
      x.canHears ctl = true → x.bit (Reg.CAN_CTRL ctl) 5 = true → x.canErr ctl = 2 →
      (x.canCtl ctl).stuck = false → x.gone (x.canCtl ctl).offAt (x.fld (Reg.CAN_BO_CFG ctl) 15 0) = true →
      used.length < x.fld (Reg.CAN_BO_CFG ctl) 19 16 →
      exec (.boDelay h ctl) s = .next (s.put h (((x.modCan ctl (fun k => { k with releases := used ++ [x.opmin] })).setFld (Reg.CAN_BO_CFG ctl) 23 20 (used.length + 1)).canRelease ctl))) ∧
    (∀ (ctl : Nat), x.canHears ctl = true → x.canDetects ctl = true → x.goneUs (x.canCtl ctl).candAt 100000 = true →
      exec (.canRateCandidateTimeout h ctl) s = .next (s.put h (x.canNext ctl))) ∧
    (∀ (ctl : Nat), x.canHears ctl = true → x.canDetects ctl = true →
      x.goneUs (x.canCtl ctl).detAt 10000000 = true →
      exec (.canRateNone h ctl) s = .next (s.put h (((x.modCan ctl fun k => { k with detAt := x.mono }).setBit (Reg.CAN_ABD ctl) 5 true).canIrq ctl 6))) ∧
    (∀ (ctl : Nat), x.canHears ctl = true → ((x.canCtl ctl).sleepReq = true ∨ x.canMode ctl = 4) →
      exec (.canSleep h ctl) s = .next (s.put h (((x.canDrop ctl).modCan ctl fun k => { k with sleepReq := false }).setBit (Reg.CAN_STAT ctl) 6 true))) ∧
    (∀ (ctl : Nat) (frame : Option CanFrame), ctl < 4 → x.domainOn 4 = true → x.canAsleep ctl = true →
      x.bit (Reg.CAN_CTRL ctl) 7 = false →
      exec (.canBusWake h ctl frame) s = .next (s.put h ((((x.modCan ctl fun k => { k with wokeAt := some x.mono }).setBit (Reg.CAN_STAT ctl) 6 false).setBit (Reg.CAN_STAT ctl) 5 true).canIrq ctl 5))) ∧
    (∀ (ctl : Nat), ctl < 4 → x.domainOn 4 = true → x.role.ho = none → x.isActive = true →
      (x.canCtl ctl).drives = false → exec (.canRoleChange h ctl) s = .next (s.put h (x.canTakeBus ctl))) ∧
    (∀ (ctl : Nat), ctl < 4 → x.domainOn 4 = true → x.role.ho = none → x.isActive = false →
      exec (.canRoleChange h ctl) s = .next (s.put h ((x.canLeaveBus ctl).canIdle ctl))) ∧
    (∀ (ctl : Nat), ctl < 4 → x.domainOn 4 = true →
      exec (.canXcvr h ctl) s = .next (s.put h ((x.canIrq ctl 7).raise 99)))

/-- Each row of the network and serial ports changes the half as its rule says (R427 to R446). -/
def Obligations.PortRowsComplete : Prop :=
  ∀ (s : State) (h : HalfId) (x : Half), s.half h = x → x.st ≠ .off →
    (∀ (port : Nat) (f : LanFrame), port < 2 → x.ethOn = true → x.linkUp port = true → f.fcsOk = true →
      exec (.lanFrameReceive h port f) s = .next (s.put h (x.lanGood port f))) ∧
    (∀ (port : Nat) (f : LanFrame), port < 2 → x.ethOn = true → x.linkUp port = true → f.fcsOk = false →
      exec (.lanFrameReceive h port f) s = .next (s.put h (x.incSat (Reg.ETH_P_ERR port)))) ∧
    (x.ethOn = true → x.bit Reg.ETH_CTRL 1 = true → x.due .prp 2000000 = true →
      exec (.prpSupervisionSend h) s = .next (s.put h ((x.ran .prp).send .prpSupervision))) ∧
    (∀ (src : DWord) (n : PrpNode), x.net.nodes.get? src.toNat = some n → x.gone n.heard 60000 = true →
      exec (.prpNodeForget h src) s = .next (s.put h ((({ x with net := { x.net with nodes := x.net.nodes.del src.toNat } } : Half).prpShow).netIrq 12))) ∧
    (∀ (port : Nat) (up : Bool) (y z : Half), port < 2 → x.domainOn 4 = true → x.linkUp port ≠ up →
      y = (x.setBit (Reg.ETH_P_STAT port) 0 up).setFld (Reg.ETH_P_STAT port) 2 1 (if up then 2 else 0) →
      z = (if up then y else { y with net := { y.net with downAt := y.net.downAt.put port x.mono } }) →
      exec (.lanLinkChange h port up) s = .next (s.put h ((z.netIrq (8 + port)).raiseIf (!up) 100))) ∧
    (∀ (up : Bool) (y z : Half), x.domainOn 4 = true → x.linkUp 2 ≠ up →
      y = (x.setBit (Reg.ETH_P_STAT 2) 0 up).setFld (Reg.ETH_P_STAT 2) 2 1 (if up then 1 else 0) →
      z = (if up then y else { y with net := { y.net with downAt := y.net.downAt.put 2 x.mono } }) →
      exec (.lanLinkChange h 2 up) s = .next (s.put h ((z.netIrq 11).raiseIf (!up) 102))) ∧
    (x.linkUp 0 = false → x.linkUp 1 = false → x.gone (x.net.downAt.get 0 0) 1000 = true →
      x.gone (x.net.downAt.get 0 1) 1000 = true → exec (.netLanLost h) s = .next (s.put h (x.raise 101))) ∧
    (∀ (sn : Sentence) (y : Half), x.ethOn = true → x.linkUp 2 = true →
      (x.incSat (Reg.ETH_P_RXCNT 2)).enqueue 2 0 = (true, y) → sn.checksumOk = true → sn.ownSource = false →
      exec (.insSentenceReceive h sn) s = .next (s.put h ((y.netIrq 10).importSentence sn))) ∧
    (∀ (idx : Nat) (c : SentenceCfg) (y : Half), x.sentenceCfg idx = some c → c.send = false →
      ((x.net.heard.get? idx).any fun e => e.2 || !x.gone e.1 c.timeout) = false →
      y = { x with net := { x.net with heard := x.net.heard.put idx (x.mono, true) } } →
      exec (.sentenceTimeout h idx) s = .next (s.put h ((c.points.foldl Half.busStale y).raise 102))) ∧
    (∀ (idx : Nat) (c : SentenceCfg), x.sentenceCfg idx = some c → c.send = true → 0 < c.timeout →
      x.due (.sentence idx) (c.timeout * 1000) = true →
      exec (.sentenceSendDue h idx) s = .next (s.put h ((x.ran (.sentence idx)).sendSentence c))) ∧
    (∀ (bus : Nat) (framing : Bool), x.serOn bus = true →
      exec (.serFrameReceive h bus (.error framing true)) s = .next (s.put h (Half.serBad (if framing then x.setBit (Reg.SER_B_STAT bus) 2 true else x) bus 3))) ∧
    (∀ (bus : Nat) (sn : Sentence), x.serOn bus = true → x.serType bus = 2 → sn.checksumOk = true →
      exec (.serFrameReceive h bus (.sentence sn)) s = .next (s.put h ((x.serTaken bus).importSentence sn))) ∧
    (∀ (bus : Nat) (addr fn : Byte) (data : List Byte) (y : Half), x.serOn bus = true → x.serType bus = 3 →
      y = x.serTaken bus → x.serDrives bus = true → y.serDrives bus = true → y.serType bus = 3 →
      exec (.serFrameReceive h bus (.modbus true true addr fn data)) s = .next (s.put h (y.masterTake bus addr fn data))) ∧
    (∀ (bus req : Nat) (q : ModbusReq) (y : Half), x.request bus req = some q → x.serDrives bus = true →
      x.serType bus = 3 → x.due (.poll bus req) (q.period * 1000) = true → y = x.ran (.poll bus req) →
      (y.serBus bus).pend.isSome = true →
      exec (.modbusPollDue h bus req) s = .next (s.put h ((y.incSat (Reg.SER_B_LATE bus)).modSer bus fun k => { k with queue := if k.queue.contains req then k.queue else k.queue ++ [req] }))) ∧
    (∀ (bus req : Nat) (q : ModbusReq) (y : Half), x.request bus req = some q → x.serDrives bus = true →
      x.serType bus = 3 → x.due (.poll bus req) (q.period * 1000) = true → y = x.ran (.poll bus req) →
      (y.serBus bus).pend = none → exec (.modbusPollDue h bus req) s = .next (s.put h (y.pollSend bus req 0))) ∧
    (∀ (bus req : Nat) (q : ModbusReq) (n : Nat), (x.serBus bus).pend = some (req, n) → x.request bus req = some q →
      x.serDrives bus = true → x.serType bus = 3 → x.gone (x.serBus bus).pendAt q.timeout = true →
      exec (.modbusResponseTimeout h bus) s = .next (s.put h (if q.addr = 0 then x.pollNext bus else x.pollFail bus))) ∧
    (∀ (bus : Nat), bus < 2 → x.domainOn 4 = true → x.role.ho = none → x.isActive = true → x.role.drives = true →
      (x.serBus bus).drives = false → exec (.serRoleChange h bus) s = .next (s.put h (x.serTake bus))) ∧
    (∀ (bus : Nat), bus < 2 → x.domainOn 4 = true → x.role.ho = none → x.isActive = false →
      exec (.serRoleChange h bus) s = .next (s.put h (x.serLeave bus))) ∧
    (∀ (addr : Word), x.mbx.blocked.contains addr.toNat = true →
      ((x.mbx.authFails.get [] addr.toNat).getLast?.all fun t => x.gone t 60000) = true →
      exec (.authAddressUnblock h addr) s = .next (s.put h ({ x with mbx := { x.mbx with blocked := x.mbx.blocked.filter (fun a => a != addr.toNat), authFails := x.mbx.authFails.del addr.toNat } })))

/-- Each row of verification jobs, background work and the recorder changes the half as its rule says (R448 to R467). -/
def Obligations.CoverageRowsComplete : Prop :=
  ∀ (s : State) (h : HalfId) (x : Half), s.half h = x → x.st ≠ .off →
    (∀ (slot : Nat), exec (.cvJobGo h slot) s = .next (s.put h (x.cvGo slot))) ∧
    (∀ (slot : Nat), exec (.cvJobStop h slot) s = .next (s.put h (x.cvStop slot))) ∧
    (∀ (slot : Nat) (data : List Byte) (ecc wr : Bool), slot < 8 → x.cvState slot = 1 →
      (ecc = true ∨ (x.cvTook slot = true ∧ data.length = (x.cvJob slot).len)) →
      exec (.cvJobDone h slot data ecc wr) s = .next (s.put h (x.cvDone slot (x.cvRead (x.cvJob slot).addr data) ecc wr))) ∧
    (∀ (slot : Nat), slot < 8 → x.cvOn = true → x.bit (Reg.CV_JOB_CFG slot) 6 = true →
      (x.cv.jobs.get? slot).isSome = true →
      x.gone (x.cvJob slot).start (x.fld (Reg.CV_JOB_REP slot) 23 0) = true → x.cvStarted slot = false →
      exec (.cvJobRepeat h slot) s = .next (s.put h (x.cvStart slot))) ∧
    (∀ (slot : Nat), slot < 8 → x.cvOn = true → x.bit (Reg.CV_JOB_CFG slot) 6 = true →
      (x.cv.jobs.get? slot).isSome = true →
      x.gone (x.cvJob slot).start (x.fld (Reg.CV_JOB_REP slot) 23 0) = true → x.cvStarted slot = true →
      exec (.cvJobRepeat h slot) s = .next (s.put h ({ x.setBit (Reg.CV_JOB_STAT slot) 5 true with cv := { x.cv with jobs := x.cv.jobs.upd {} slot fun k => { k with again := true } } }))) ∧
    (∀ (vs : List (Nat × F64)) (bad : List (Nat × Nat)), x.serves = true → x.bgDue .flashScan = true →
      exec (.bgActivityDue h .flashScan vs bad) s = .next (s.put h (((bad.filter fun b => !x.scanSkips b.1).foldl (fun (y : Half) b => y.scanBad b.1) x).scanRepair (s.half h.other)))) ∧
    (∀ (vs : List (Nat × F64)) (bad : List (Nat × Nat)) (y : Half), x.serves = true → x.bgDue .paramChain = true →
      y = bad.foldl (fun (y : Half) b => if b.1 = 16 then y.chainBad b.2 else y.paramBad b.1 b.2) x →
      exec (.bgActivityDue h .paramChain vs bad) s = .next (s.put h (((y.conf.chains.map (·.chain)).filter y.checkDiffers).foldl Half.chainBad y))) ∧
    (∀ (vs : List (Nat × F64)) (bad : List (Nat × Nat)), x.serves = true → x.bgDue .telemetry = true →
      exec (.bgActivityDue h .telemetry vs bad) s = .next (s.put h (vs.foldl Half.telemetry x))) ∧
    (∀ (vs : List (Nat × F64)) (bad : List (Nat × Nat)), x.serves = true → x.bgDue .proofTests = true →
      exec (.bgActivityDue h .proofTests vs bad) s = .next (s.put h (x.nextProof (bad.map (·.1))))) ∧
    (∀ (act : Activity) (vs : List (Nat × F64)) (bad : List (Nat × Nat)), (act = .dramScrub ∨ act = .sramScrub ∨ act = .scrupleScrub ∨ act = .selfCal ∨ act = .norWear ∨ act = .displayStress) →
      exec (.bgActivityDue h act vs bad) s = .next (s.put h (x))) ∧
    (∀ (act : Activity), x.serves = true → x.bgLate act = true →
      exec (.swBgBudget h act) s = .next (s.put h (x.raise 110))) ∧
    (∀ (block : Nat) (ok : Bool), x.domainOn 1 = true →
      exec (.norErase h block ok) s = .next (s.put h (x.norErased block ok))) ∧
    (x.bit Reg.EVR_CTRL 0 = true → x.sys.powerFail = false →
      exec (.evrCommitPass h) s = .next (s.put h (x.evrPass))) ∧
    (x.sys.powerFail = true →
      exec (.evrCommitPass h) s = .next (s.put h ((((x.evrPass.setBit Reg.EVR_STAT 1 false).irq Reg.EVR_IRQ_STAT Reg.EVR_IRQ_EN 3 227).enterReset [1]).clrReg Reg.SYS_PD 2)))

/-- Each display row, and the read of an interrupt claim, changes the half as its rule says (R474 to R481, R504). -/
def Obligations.DisplayRowsComplete : Prop :=
  ∀ (s : State) (h : HalfId) (x : Half), s.half h = x → x.st ≠ .off →
    (∀ (temp : BitVec 16) (z : Half), z = (if x.domainOn 6 && x.dspPresent then (x.wr Reg.DSP_TEMP (temp.setWidth 32)).setFld Reg.DSP_STAT 15 13 (nextBand (x.fld Reg.DSP_STAT 15 13) temp.toInt) else x) →
      z.draws = true → z.due .frame 11764 = true →
      exec (.dispFrame h temp) s = .next (s.put h ((z.ran .frame).dspFrame))) ∧
    (∀ (cover : CoverId), x.domainOn 6 = true → exec (.coverDetect h cover) s = .next (s.put h (x.coverNew cover))) ∧
    (∀ (y : Half), x.dspPresent = true → y = (x.discharge.setBit Reg.DSP_STAT 0 false).dspIrq 4 →
      exec (.coverRemove h) s = .next (s.put h ({ y with dsp := { y.dsp with cover := none } }))) ∧
    (5000000 ≤ x.sys.noClaim.toNat → x.claims = false → x.partnerClaim = false →
      exec (.dispNoClaim h) s = .next (s.put h (x.discharge))) ∧
    (exec (.dispDischargeDone h) s = .next (s.put h (x.setBit Reg.DSP_STAT 6 false))) ∧
    (∀ (slot : Nat), slot < 16 → awaits (x.journal slot) = true → x.goneUs (x.region slot).at_ 1000 = true →
      exec (.dispJournalAckTimeout h slot) s = .next (s.put h (x.modRegion slot fun r => { r with ready := true }))) ∧
    (∀ (y : Half), x.due .stress 10000000 = true → y = x.ran .stress →
      exec (.dispStressSend h) s = .next (s.put h (y.dspCopy (.stress ((List.range 2028).map fun t => y.dsp.stress.get 0 t))))) ∧
    (x.bit Reg.DSP_STAT 1 = true →
      exec (.dispRailFault h) s = .next (s.put h ((((x.setBit Reg.DSP_STAT 5 true).setBit Reg.DSP_STAT 1 false).dspIrq 3).logEvt .panelRail))) ∧
    (x.domainOn 6 = true → x.bit Reg.DSP_CTRL 1 = true → x.dspPresent = true → x.bit Reg.DSP_STAT 6 = false →
      x.claims = true → exec (.dispRailsOn h) s = .next (s.put h (x.setBit Reg.DSP_STAT 1 true))) ∧
    (∀ (app : Bool) (i : Nat), x.domainOn 1 = true → x.topIrq app = some i →
      exec (.icuClaimRead h app) s = .next (s.put h ({ x.setBit (Reg.ICU_SRC i) 5 false with rdata := BitVec.ofNat 32 i }))) ∧
    (∀ (app : Bool), x.domainOn 1 = true → x.topIrq app = none →
      exec (.icuClaimRead h app) s = .next (s.put h ({ x with rdata := 0x1FF })))

/-- Consumption from a submission ring (R275 to R287, R308); x is the half named. -/
def Obligations.ConsumeRowsComplete : Prop :=
  ∀ (s : State) (h : HalfId) (x : Half), s.half h = x → x.st ≠ .off →
    (∀ (ch : Nat) (es : List Entry) (y : Half) (t : State), x.mbxServes ch = true → x.headCmd ch = .ok (some es) →
      y = x.consumeCmd ch es →
      t = (if ch = 7 then (s.mod h fun _ => y).mod h.other (fun p => p.peerHead (y.rd (Reg.MBX_CH_SQ_SEQ 7))) else (s.mod h fun _ => y)) →
      exec (.commandConsume h ch) s = .next (if (x.pendingHo true).isSome && y.role.ho.isNone then t.mod h.other Half.dropOffer else t)) ∧
    (∀ (ch k : Nat) (y : Half), x.mbxServes ch = true → x.headCmd ch = .error k → ch ≠ 7 → y = x.protoError ch k →
      exec (.commandConsume h ch) s = .next (if (x.pendingHo true).isSome && y.role.ho.isNone then ((s.mod h fun _ => y).mod h.other Half.dropOffer) else (s.mod h fun _ => y))) ∧
    (∀ (k : Nat), x.mbxServes 7 = true → x.headCmd 7 = .error k →
      exec (.commandConsume h 7) s = .next ((s.mod h fun x => (x.peerError k).resetPeer).mod h.other Half.resetPeer)) ∧
    (∀ (ch tag : Nat) (es : List Entry) (y : Half) (t : State), x.mbxServes ch = true →
      x.headCmd ch = .ok (some es) → getField ((es.headD []).getD 0 0) 13 0 = 256 * tag + 1 →
      y = x.consumeCmd ch es →
      t = (if ch = 7 then (s.mod h fun _ => y).mod h.other (fun p => p.peerHead (y.rd (Reg.MBX_CH_SQ_SEQ 7))) else (s.mod h fun _ => y)) →
      exec (.nop h ch tag) s = .next (if (x.pendingHo true).isSome && y.role.ho.isNone then t.mod h.other Half.dropOffer else t)) ∧
    (∀ (ch tag : Nat) (es : List Entry) (y : Half) (t : State), x.mbxServes ch = true →
      x.headCmd ch = .ok (some es) → getField ((es.headD []).getD 0 0) 13 0 = 256 * tag + 0xF0 →
      y = x.consumeCmd ch es →
      t = (if ch = 7 then (s.mod h fun _ => y).mod h.other (fun p => p.peerHead (y.rd (Reg.MBX_CH_SQ_SEQ 7))) else (s.mod h fun _ => y)) →
      exec (.abort h ch tag) s = .next (if (x.pendingHo true).isSome && y.role.ho.isNone then t.mod h.other Half.dropOffer else t))

/-- Writes of the bus masters (R8, R9, R273, R276, R426). -/
def Obligations.RegisterWritesComplete : Prop :=
  ∀ (s : State) (h : HalfId) (x : Half), s.half h = x → x.st ≠ .off →
    (∀ (app : Bool) (addr : Nat) (v : Word) (d : RegDesc), 0x30000000 ≤ addr → addr < 0x30100000 → addr % 4 = 0 →
      (regDomain addr = 0 ∨ x.domainOn (regDomain addr) = true) → (app = true → x.appMay addr = true) →
      (if app then x.fc.haltApp else x.fc.haltSup) = false → mbxRing addr = false → canAperture addr = none →
      regDesc? addr = some d → v &&& d.resv = 0 → (addr = Reg.FC_CTRL → getField v 2 1 ≠ 3) →
      actions h addr v = none → sideActions h addr v = [] →
      exec (.registerWrite h app addr v) s = .next (s.put h (x.regStore d addr v))) ∧
    (∀ (app : Bool) (addr : Nat) (v : Word), 0x30000000 ≤ addr → addr < 0x30100000 → addr % 4 = 0 →
      x.domainOn (regDomain addr) = true → (app = true → x.appMay addr = true) →
      (if app then x.fc.haltApp else x.fc.haltSup) = false → mbxRing addr = true →
      exec (.registerWrite h app addr v) s = .next (s.put h (x.wr addr v))) ∧
    (∀ (app : Bool) (addr c : Nat) (v : Word), 0x30000000 ≤ addr → addr < 0x30100000 → addr % 4 = 0 →
      x.domainOn (regDomain addr) = true → (app = true → x.appMay addr = true) →
      (if app then x.fc.haltApp else x.fc.haltSup) = false → canAperture addr = some c →
      exec (.registerWrite h app addr v) s = .next (s.put h (x.apertureWrite c addr v))) ∧
    (∀ (app : Bool) (addr : Nat) (v : Word), (addr < 0x30000000 ∨ 0x30100000 ≤ addr ∨ addr % 4 ≠ 0) →
      exec (.registerWrite h app addr v) s = .fault (.notRegister addr)) ∧
    (∀ (app : Bool) (addr : Nat) (v : Word), 0x30000000 ≤ addr → addr < 0x30100000 → addr % 4 = 0 →
      (if app then x.fc.haltApp else x.fc.haltSup) = true → exec (.registerWrite h app addr v) s = .next s) ∧
    (∀ (app : Bool) (addr : Nat) (v : Word), 0x30000000 ≤ addr → addr < 0x30100000 → addr % 4 = 0 →
      regDomain addr ≠ 0 → x.domainOn (regDomain addr) = false → exec (.registerWrite h app addr v) s = .next s) ∧
    (∀ (app : Bool) (addr : Nat) (v : Word) (d : RegDesc), 0x30000000 ≤ addr → addr < 0x30100000 → addr % 4 = 0 →
      (regDomain addr = 0 ∨ x.domainOn (regDomain addr) = true) → (app = true → x.appMay addr = true) →
      (if app then x.fc.haltApp else x.fc.haltSup) = false → mbxRing addr = false → canAperture addr = none →
      regDesc? addr = some d → v &&& d.resv ≠ 0 →
      exec (.registerWrite h app addr v) s = .fault (.reservedBits addr)) ∧
    (∀ (app : Bool) (addr : Nat) (v : Word), 0x30000000 ≤ addr → addr < 0x30100000 → addr % 4 = 0 →
      (regDomain addr = 0 ∨ x.domainOn (regDomain addr) = true) → (app = true → x.appMay addr = true) →
      (if app then x.fc.haltApp else x.fc.haltSup) = false → mbxRing addr = false → canAperture addr = none →
      regDesc? addr = none → v ≠ 0 → exec (.registerWrite h app addr v) s = .fault (.reservedBits addr))

/-- A step takes the command at the front of the queue. -/
def Obligations.StepRunsFrontCommand : Prop :=
  ∀ (c : Instr) (s : State) (rest : List Instr), step { s with pending := c :: rest } = exec c { s with pending := rest }

/-- The idle step is a tick (the model's choice, log 1). -/
def Obligations.IdleStepTicks : Prop :=
  ∀ s : State, s.pending = [] → step s = .next s.tick ∧ s.tick.pending = []

/-- The state after reset. That it is the state before power comes up is the model's choice (log 5). -/
def Obligations.ResetLeavesHalvesOff : Prop :=
  State.reset.pending = [] ∧ (∀ h : HalfId, (State.reset.half h).st = .off ∧ (State.reset.half h).id = h ∧
    (State.reset.half h).fc.fifo = [] ∧ (State.reset.half h).ts.fifos = [] ∧ (State.reset.half h).can.ram = [] ∧
    (State.reset.half h).dsp.staging = []) ∧
  ∀ (h : HalfId) (a : Nat), (h = .a ∨ a ≠ Reg.SYS_STAT) → (State.reset.half h).rd a = regReset a

/-- The invariant at reset. -/
def Obligations.ResetIsSound : Prop :=
  State.reset.Sound

/-- The invariant of every step (R244, R402). -/
def Obligations.StepKeepsSound : Prop :=
  ∀ s t : State, s.Sound → step s = .next t → t.Sound

/-- Control is taken from a released partner only, and never while its claim is valid (R186). -/
def Obligations.TakeoverOnlyOnRelease : Prop :=
  (∀ (c : Instr) (s t : State) (h : HalfId), s.Sound → exec c s = .next t → (s.half h).role.takeover = false →
    (t.half h).role.takeover = true →
    c = .partnerReleased h ∧ (s.half h).releaseHolds = true ∧ (s.half h).partnerClaim = false) ∧
  ∀ (s : State) (h : HalfId), (s.half h).role.takeover = false → exec (.takeoverDecision h) s = .next s

/-- The frame of the queue. -/
def Obligations.CommandsKeepQueue : Prop :=
  ∀ (c : Instr) (s t : State), exec c s = .next t → t.pending = s.pending

/-- No command is refused; only writes of reserved bits fault (R8). -/
def Obligations.EveryCommandCompletes : Prop :=
  ∀ (c : Instr) (s : State), (∀ r, exec c s ≠ .refused r) ∧
    ((∀ h app a v, c ≠ .registerWrite h app a v) → (∀ h v, c ≠ .mbxCh0SqTail h v) → (∀ h v, c ≠ .mbxCh0CqHead h v) →
      ∃ t, exec c s = .next t)

/-- Each half has its own state; what crosses goes over the Span link. -/
def Obligations.PartnerUnchanged : Prop :=
  ∀ (c : Instr) (s t : State), c.reachesPartner = false → exec c s = .next t →
    t.half c.half.other = s.half c.half.other

/-- The frame of the baseplate. -/
def Obligations.BaseplateUnchanged : Prop :=
  ∀ (c : Instr) (s t : State), c.changesBaseplate = false → exec c s = .next t → t.stn = s.stn

/-- The writing side of the table of R9. -/
def Obligations.AccessCodesByBit : Prop :=
  ∀ (d : RegDesc) (old v : Word) (i : Nat), i < 32 → (accessWrite d old v).getLsbD i =
    (v.getLsbD i && d.w1s.getLsbD i || (!(v.getLsbD i && d.w1c.getLsbD i) && if d.rw.getLsbD i then v.getLsbD i else old.getLsbD i))

/-- LOCK freezes the collector's configuration (R227). -/
def Obligations.LockedConfigIgnoresWrites : Prop :=
  ∀ (s : State) (h : HalfId) (app : Bool) (a : Nat) (v : Word) (d : RegDesc), (s.half h).regs.wf = true →
    (s.half h).bit Reg.FC_CTRL 0 = true → ((∃ c < 12, a = Reg.FC_CLASS_CFG c) ∨ ∃ k < 128, a = Reg.FC_SRC_CFG k) →
    regDesc? a = some d → v &&& d.resv = 0 → exec (.registerWrite h app a v) s = .next s

/-- A raise at L0 (R231). -/
def Obligations.RaiseAtRecordOnly : Prop :=
  ∀ (x : Half) (src initial : Nat) (b : Bool), x.regs.wf = true → isSource src = true → x.st ≠ .off →
    x.srcBit (Reg.FC_INHIB 0) src = false → (x.decision src initial).1 = 0 → (x.decision src initial).2.2 = false →
    (x.take src initial b).srcBit (Reg.FC_ACTIVE 0) src = true ∧
    (∀ k < 128, (x.take src initial b).srcBit (Reg.FC_PEND 0) k = x.srcBit (Reg.FC_PEND 0) k) ∧
    (x.take src initial b).fc.windows = x.fc.windows

/-- A raise at L1 (R231). -/
def Obligations.RaiseToHandle : Prop :=
  ∀ (x : Half) (src initial : Nat) (b : Bool), x.regs.wf = true → isSource src = true → x.st ≠ .off →
    x.srcBit (Reg.FC_INHIB 0) src = false → (x.decision src initial).1 = 1 → (x.decision src initial).2.2 = false →
    (x.take src initial b).srcBit (Reg.FC_ACTIVE 0) src = true ∧ (x.take src initial b).srcBit (Reg.FC_PEND 0) src = true ∧
    (x.take src initial b).fc.windows = x.fc.windows ++ [{ src := src, level := 1, at_ := x.mono }]

/-- The event FIFO (R244). -/
def Obligations.FifoKeepsFirst64 : Prop :=
  ∀ (x : Half) (w : Word), x.regs.wf = true →
    (x.fc.fifo.length < 64 → (x.fcEntry w).fc.fifo = x.fc.fifo ++ [{ w0 := w, time := x.mono, opmin := x.opmin }] ∧
      (x.fcEntry w).rd Reg.FC_EVT_LOST = x.rd Reg.FC_EVT_LOST) ∧
    (64 ≤ x.fc.fifo.length → (x.fcEntry w).fc.fifo = x.fc.fifo ∧
      (x.fcEntry w).rd Reg.FC_EVT_LOST = if x.rd Reg.FC_EVT_LOST = 0xFFFFFFFF then 0xFFFFFFFF else x.rd Reg.FC_EVT_LOST + 1)

/-- The capture FIFOs (R402). -/
def Obligations.CaptureKeepsNewest64 : Prop :=
  ∀ (x : Half) (k : Nat) (rising half : Bool), (x.ts.fifos.get [] k).length ≤ 64 →
    (∃ e : Capture, e.t = x.now ∧ e.tick = x.ts.tick ∧ e.rising = rising ∧
      (x.capture k rising half).ts.fifos.get [] k =
        ((x.ts.fifos.get [] k ++ [e]).drop ((x.ts.fifos.get [] k).length - 63))) ∧
    ∀ j, j ≠ k → (x.capture k rising half).ts.fifos.get [] j = x.ts.fifos.get [] j

/-- The gate equation (R165). -/
def Obligations.GateEquation : Prop :=
  ∀ (x : Half) (j : Nat), x.safRuns = true → x.bit Reg.FC_STAT 6 = false → x.saf.testHs.getLsbD j = false →
    x.saf.testLs.getLsbD j = false → x.proofOff false j = false → x.proofOff true j = false →
    (x.gate false j = true ↔ x.matPermit false j = true ∧ x.saf.permit.getLsbD j = true ∧ x.saf.xforce = false) ∧
    (x.gate true j = true ↔ x.matPermit true j = true ∧ x.saf.permit.getLsbD j = true ∧ x.saf.xforce = false) ∧
    ∀ b, (x.matPermit b j = true ↔ x.matDrops b j = false ∧ (x.matLatch b).getLsbD j = false)

/-- FAULT_ACK (R327). -/
def Obligations.FaultAckClears : Prop :=
  ∀ (s : State) (h : HalfId) (ch tag : Nat) (c : Ctx), s.Sound → (s.half h).st ≠ .off →
    (s.half h).Accepts ch tag 0x61 4 .either c → c.payload.length = 4 → c.num 1 3 = 0 →
    (c.num 0 1 = 1 → ∃ t, exec (.faultAck h ch tag) s = .next t ∧ (t.half h).fc.stamps = [] ∧ (t.half h).fc.latch = none ∧
      ((s.half h).st = .latched → (t.half h).st = .native) ∧ ((s.half h).st ≠ .latched → (t.half h).st = (s.half h).st)) ∧
    (c.num 0 1 = 2 → ∃ t, exec (.faultAck h ch tag) s = .next t ∧ (t.half h).st = (s.half h).st ∧
      (∀ k < 128, (t.half h).srcBit (Reg.FC_HELD 0) k = false) ∧ (t.half h).bit Reg.FC_STAT 2 = false ∧
      ((s.half h).heldSources = [] → t = s.put h (((s.half h).begun ch tag c).fcStatus.reply c ST_OK (leNat 4 (s.half h).st.code))))

/-- Events of an event task (R23). -/
def Obligations.EventsMerge : Prop :=
  ∀ (x : Half) (t : Nat) (k : TaskSt), x.task.tasks.get? t = some k →
    (k.state = .running ∨ k.state = .preempted ∨ (k.state = .waiting ∧ k.sep = true)) →
    ((x.taskEvent t).tsk t).pendAct = true ∧ ((x.taskEvent t).tsk t).state = k.state ∧
    ((x.taskEvent t).tsk t).stats.merged =
      if k.pendAct = true ∧ k.stats.merged ≠ 0xFFFFFFFF then k.stats.merged + 1 else k.stats.merged

/-- The clamp of the output (R97). -/
def Obligations.OutputClamped : Prop :=
  ∀ (d : Desc) (ss : List Sect) (bank : Bool) (x ff g : F64),
    (evalSects d ss bank x ff g none).out = clamp64 (evalSects d ss bank x ff g none).u d.outMin d.outMax ∧
    (evalSects d ss bank x ff g none).satLo = f64le (evalSects d ss bank x ff g none).u d.outMin ∧
    (evalSects d ss bank x ff g none).satHi = f64le d.outMax (evalSects d ss bank x ff g none).u

/-- SYS_RST (R502). -/
def Obligations.ResetWritesIgnoredWhileClaiming : Prop :=
  ∀ (s : State) (h : HalfId) (doms : Byte), ((s.half h).claims = true ∨ (s.half h).role.holdWindow = true) →
    exec (.sysRstDomain h doms) s = .next s ∧ exec (.sysRstHalf h) s = .next s

/-- Resets leave Scruple alone (R141). -/
def Obligations.ScrupleSurvivesResets : Prop :=
  ∀ (s t : State) (h : HalfId) (doms : Byte), s.Sound →
    (exec (.sysRstDomain h doms) s = .next t ∨ exec (.sysRstHalf h) s = .next t) →
    (t.half h).saf = (s.half h).saf ∧ (t.half h).domainOn 5 = (s.half h).domainOn 5

/-- What resets keep (R500). -/
def Obligations.MramSurvivesResets : Prop :=
  ∀ (x : Half) (d : Nat), let y := x.resetDomain d
    y.cfg.slot0 = x.cfg.slot0 ∧ y.cfg.slot1 = x.cfg.slot1 ∧ y.cfg.cur = x.cfg.cur ∧ y.boot = x.boot ∧ y.task.retain = x.task.retain ∧
    y.evr.slot0 = x.evr.slot0 ∧ y.evr.slot1 = x.evr.slot1 ∧ y.fc.stamps = x.fc.stamps ∧ y.fc.latch = x.fc.latch ∧
    y.obj.mramEpoch = x.obj.mramEpoch ∧ (y.aio.ai.map fun e => (e.1, e.2.bins)) = (x.aio.ai.map fun e => (e.1, e.2.bins)) ∧
    y.dsp.journal = x.dsp.journal ∧ y.dsp.target = x.dsp.target ∧ y.dsp.stress = x.dsp.stress ∧ y.nor = x.nor

/-- The check of an entry (R280, R282). -/
def Obligations.SealedEntryAccepted : Prop :=
  ∀ (seq other w : Word) (ws : List Word), ws.length = 13 →
    entryErr (sealEntry seq (w :: seq :: ws)) seq = none ∧
    (other ≠ seq → entryErr (sealEntry seq (w :: seq :: ws)) other = some 2)

/-- The order of the checks (R305). -/
def Obligations.CommandChecksInOrder : Prop :=
  ∀ (x : Half) (ch tag op : Nat) (len : Ctx → Bool) (role : Ctx → Nat) (need : Ctx → Needs) (body : Half → Ctx → Half) (c : Ctx),
    x.nextCmd ch = some c → c.tag = tag → c.op = op →
    ((c.malformed = true ∨ len c = false) →
      x.cmd ch tag op len role need body = (x.begun ch tag c).reply c ST_BAD_LENGTH []) ∧
    (c.malformed = false → len c = true → c.role < role c →
      x.cmd ch tag op len role need body = (x.begun ch tag c).reply c ST_DENIED []) ∧
    (c.malformed = false → len c = true → role c ≤ c.role → x.permitsCmd (need c) c = false →
      x.cmd ch tag op len role need body = (x.begun ch tag c).reply c ST_NOT_ACTIVE [])

/-- Priorities of the interrupt controller (R504). -/
def Obligations.ClaimedInterruptIsHighest : Prop :=
  ∀ (x : Half) (app : Bool),
    (∀ i, x.topIrq app = some i → i < 256 ∧ x.bit (Reg.ICU_SRC i) 5 = true ∧ x.bit (Reg.ICU_SRC i) 4 = true ∧
      x.bit (Reg.ICU_SRC i) 3 = app ∧
      ∀ j < 256, x.bit (Reg.ICU_SRC j) 5 = true → x.bit (Reg.ICU_SRC j) 4 = true → x.bit (Reg.ICU_SRC j) 3 = app →
        x.fld (Reg.ICU_SRC i) 2 0 ≤ x.fld (Reg.ICU_SRC j) 2 0) ∧
    (x.topIrq app = none → ∀ j < 256, ¬(x.bit (Reg.ICU_SRC j) 5 = true ∧ x.bit (Reg.ICU_SRC j) 4 = true ∧
      x.bit (Reg.ICU_SRC j) 3 = app))

/-- The buffers of the message RAM (R411, R412). -/
def Obligations.CanBufferRoundTrip : Prop :=
  ∀ (x : Half) (c n : Nat) (t : DWord) (f : CanFrame), x.can.ram.wf = true → f.fmt < 4 → f.data.length < 4096 →
    (x.canStore c n t f).canLoad c n = { f with ide := (x.canObj c n).getLsbD 4, id := (x.rd (Reg.CAN_OBJ_ID c n)) &&& 0x1FFFFFFF, rtr := false } ∧
    ∀ a, (a < x.canBuf c n ∨ x.canBuf c n + 16 + f.data.length ≤ a) → (x.canStore c n t f).can.ram.get a = x.can.ram.get a

/-- Object ids (R246). -/
def Obligations.ObjectIdsRoundTrip : Prop :=
  ∀ (x : Half) (p : Nat), x.conf.station ≤ 4095 → p ≤ 8191 →
    x.oidOf p ≤ 33554431 ∧ x.oidOf p / 8192 = x.conf.station ∧ x.oidOf p % 8192 = p

/-- The filter of a digital input (R343). A pulsed input counts a window through which the half sank it or saw its partner's claim valid (R340). -/
def Obligations.InputFilterCounts : Prop :=
  (∀ (s : State) (h : HalfId) (x : Half), s.half h = x → x.regs.wf = true → x.st ≠ .off → x.domainOn 6 = true →
    (∀ levels : DWord, (x.partnerClaim = true ∨ x.role.drives = true) → x.timed = true →
      x.onMultiple x.mono 250000 = true → x.dio.sampled ≠ some (x.mono.toNat / 250000) →
      ∃ t, exec (.diSample h levels true) s = .next t ∧ ∀ i < 64, (t.half h).dio.count.get 0 i =
        if levels.getLsbD i then min (x.diN i) (min (x.diN i) (x.dio.count.get 0 i) + 1)
        else min (x.diN i) (x.dio.count.get 0 i) - 1) ∧
    (∀ di < 64, ∃ t, exec (.diFilterChange h di) s = .next t ∧ (t.half h).bit2 Reg.DI_LEVEL0 Reg.DI_LEVEL1 di =
      if x.diN di ≤ x.dio.count.get 0 di then true else if x.dio.count.get 0 di = 0 then false
      else x.bit2 Reg.DI_LEVEL0 Reg.DI_LEVEL1 di) ∧
    ∀ i < 64, 1 ≤ x.diN i ∧ x.diN i ≤ 255) ∧
  ∀ (h : HalfId), ∀ i < 64, (State.reset.half h).diN i = 12

/-- The LEDs of a cartridge (R531). -/
def Obligations.LedsShowTheState : Prop :=
  ∀ x : Half, (x.st = .off → x.leds = {}) ∧
    (x.st ≠ .off → (x.sys.up - x.sys.onAt).toNat < 1000000000 → x.leds = { run := .on, role := .on, fault := .on, sync := .on }) ∧
    (x.st ≠ .off → 1000000000 ≤ (x.sys.up - x.sys.onAt).toNat →
      (x.role.released = true → x.leds.run = .flash1) ∧
      (x.role.released = false → (x.st = .boot ∨ x.st = .native) → x.leds.run = .flash4) ∧
      (x.role.released = false → (x.st = .syncing ∨ x.st = .standby ∨ x.st = .active ∨ x.st = .relinquishing) → x.leds.run = .on) ∧
      (x.role.released = false → (x.st = .fault ∨ x.st = .latched) → x.leds.run = .off) ∧
      (x.refusedLately = true → x.leds.role = .flash4) ∧
      (x.refusedLately = false → x.st = .active → x.leds.role = .on) ∧
      (x.refusedLately = false → x.st ≠ .active → x.st ≠ .relinquishing → x.leds.role = .off) ∧
      (x.st = .latched → x.leds.fault = .flash4) ∧
      ((x.st = .fault ∨ x.st = .boot ∧ (x.boot.noSlot = true ∨ x.sys.slotBad = true)) → x.leds.fault = .on) ∧
      (x.st = .native → x.boot.recovery.isSome = true → x.leds.fault = .flash1) ∧
      (x.st = .active → x.leds.fault = if x.bit Reg.FC_STAT 2 then .flash1 else .off) ∧
      (x.role.claimLine = true → x.leds.sync = .flash4) ∧
      (x.role.claimLine = false → x.st = .syncing → x.leds.sync = .flash1) ∧
      (x.role.claimLine = false → x.st = .standby → x.leds.sync = if x.role.synced then .on else .off) ∧
      (x.role.claimLine = false → x.st = .active → x.leds.sync = if x.peerSynced then .on else .off))

/-- Each Scruple row acts on the safety state of its half as its rule says (R36, R147, R148, R149, R151, R160, R163, R167,
R170, R173). -/
def Obligations.ScrupleRowsComplete : Prop :=
  ∀ (s : State) (h : HalfId) (x : Half), s.half h = x → x.st ≠ .off →
    (x.safRuns = true → x.safPast x.saf.cycAt 3000000 = true →
      exec (.safeWdg h) s = .next (s.put h ((x.modSaf fun k => { k with run := false, wdg := true, tpMaster := false, tpDrive := 0 }).safRaise 112))) ∧
    (∀ (m : Byte), x.safRuns = true → x.saf.taken < 8 → x.sqUsed 1 ≠ 0 → x.scrHead = some (.trip m) →
      exec (.queueTrip h) s = .next (s.put h (x.scrTake.scrFill))) ∧
    (∀ (o : Nat) (bs : List Byte), x.safRuns = true → x.saf.taken < 8 → x.sqUsed 1 ≠ 0 →
      x.scrHead = some (.chunk o bs) → exec (.paramChunk h) s = .next (s.put h (x.scrTake.scrFill))) ∧
    (∀ (n w : Nat), x.safRuns = true → x.saf.taken < 8 → x.sqUsed 1 ≠ 0 → x.scrHead = some (.fin n w) →
      exec (.paramEnd h) s = .next (s.put h (x.scrTake.scrFill))) ∧
    (∀ (t : DWord), x.safRuns = true → x.saf.taken < 8 → x.sqUsed 1 ≠ 0 → x.scrHead = some (.time t) →
      exec (.queueTimeEntry h) s = .next (s.put h (x.scrTake.scrFill))) ∧
    (x.safRuns = true → x.saf.taken < 8 → x.sqUsed 1 ≠ 0 → x.scrHead = some .proof →
      exec (.proofStart h) s = .next (s.put h (x.scrTake.scrFill))) ∧
    (∀ (failed : List Nat) (y z : Half), x.safRuns = true → x.saf.proof = true →
      y = x.modSaf (fun k => { k with proof := false, proofAt := x.opmin, overdue := false }) →
      z = (if y.role.proofTest && y.role.proofStep ≤ 1 then { y with role := { y.role with proofStep := 2 } } else y) →
      exec (.proofTestComplete h failed) s = .next (s.put h (failed.foldl (fun (w : Half) src => if Nat.ble 112 src && Nat.ble src 119 then w.safRaise src else w.raise src)
        (if failed.isEmpty then (z.evrEvent 13).icuPend 253 else ((z.evrEvent 13).icuPend 253).evrEvent 14)))) ∧
    (∀ (si : Nat), si < 16 → x.domainOn 5 = true → siOut (x.safFlt false si) ≠ (x.safFlt false si).out →
      exec (.siFilterChange h si false) s = .next (s.put h (((((x.setFlt false si { x.safFlt false si with out := siOut (x.safFlt false si), stamp := x.saf.clk }).matrix false).pairClear (si / 2)).chanClear si).notePaths))) ∧
    (∀ (si : Nat), si < 16 → x.domainOn 5 = true → siOut (x.safFlt true si) ≠ (x.safFlt true si).out →
      exec (.siFilterChange h si true) s = .next (s.put h (((x.setFlt true si { x.safFlt true si with out := siOut (x.safFlt true si), stamp := x.saf.clk }).matrix true).notePaths))) ∧
    (∀ (b : Bool) (so : Nat), x.backDone b so = true →
      exec (.matrixBackstopExpire h b so) s = .next (s.put h (((x.setBack b so false).setLatch b so true).notePaths))) ∧
    (∀ (pair : Nat), pair < 8 → x.safRuns = true → x.pairSingle pair = false → x.pairDiffers pair = true →
      x.saf.pairFault.get? pair = none →
      x.safPast (x.safFlt false (2 * pair)).stamp (x.pairTime pair * 1000000 + 1) = true →
      x.safPast (x.safFlt false (2 * pair + 1)).stamp (x.pairTime pair * 1000000 + 1) = true →
      exec (.pairDiscrepancy h pair) s = .next (s.put h (x.pairFails pair 1))) ∧
    (∀ (tp : Nat) (rawA rawB : BitVec 16), x.safRuns = true →
      exec (.tpDarkPulse h tp rawA rawB) s = .next (s.put h ((x.safSet.tps.filter fun e => e.2 == tp && Nat.blt e.1 16).foldl (fun (y : Half) e => y.darkPulse rawA rawB e.1) x))) ∧
    (∀ (f : Nat) (c : SafFunc), x.safRuns = true → (x.safFn f).state = .delay → x.safFunc f = some c →
      x.safPast (x.safFn f).stamp (c.delay * 1000000) = true →
      exec (.functionDelayElapsed h f) s = .next (s.put h (x.setFn f { x.safFn f with state := .tripped }))) ∧
    (∀ (f : Nat), x.safRuns = true → (x.safFn f).state = .sync → (x.safFunc f).isSome = true →
      x.safPast (x.safFn f).stamp 500000000 = true →
      exec (.twohandSyncTimeout h f) s = .next (s.put h (x.setFn f { x.safFn f with state := .resetWait, diag := 4 }))) ∧
    (∀ (f : Nat) (c : SafFunc), x.safFunc f = some c → x.safRuns = true → x.saf.sealOk = true → c.typ = 2 →
      c.auto = true → (x.safFn f).state = .resetWait → x.fnDemand c = false → x.fnUnlocked c = false →
      x.fnStill c 500000000 = true → exec (.guardAutoReset h f) s = .next (s.put h (x.armFn f c))) ∧
    (∀ (fi : Nat), fi < 2 → x.safRuns = true → (x.scrFiEdge fi).saf.sealOk = true →
      exec (.scrupleFiEdge h fi) s = .next (s.put h ((x.scrFiEdge fi).safSet.funcs.foldl (fun (z : Half) e => z.overspeed fi e.1 e.2) (x.scrFiEdge fi)))) ∧
    (∀ (f : Nat) (c : SafFunc) (t : DWord), x.safFunc f = some c → x.safRuns = true → x.saf.sealOk = true →
      c.typ = 6 → c.fi.length = 2 → (x.safFn f).state ≠ .fault → x.saf.fiAt.get? f = some t →
      x.safPast t 1000000000 = true → (x.fiLoss c || x.fiApart c) = true →
      exec (.safeFi h f) s = .next (s.put h ((x.setFn f { x.safFn f with state := .fault, diag := if x.fiLoss c then 6 else 5 }).safRaise 119))) ∧
    (∀ (so : Nat) (low : Bool), so < 8 → x.safRuns = true → x.saf.testHs.getLsbD so = false →
      x.saf.testLs.getLsbD so = false →
      exec (.soSwitchTest h so low) s = .next (s.put h (x.modSaf fun k => if low then { k with testLs := maskBit k.testLs so true } else { k with testHs := maskBit k.testHs so true }))) ∧
    (∀ (so : Nat) (low confirmed : Bool) (y : Half), (if low then x.saf.testLs else x.saf.testHs).getLsbD so = true →
      y = x.modSaf (fun k => if low then { k with testLs := maskBit k.testLs so false } else { k with testHs := maskBit k.testHs so false }) →
      exec (.soSwitchTestEnd h so low confirmed) s = .next (s.put h (if confirmed then y else y.safRaise 114))) ∧
    (∀ (so : Nat) (t : DWord), so < 8 → x.safRuns = true → x.soCause so = true → x.pathOpen so = true →
      x.saf.openAt.get? so = some t → x.safPast t 2000000 = true →
      exec (.xtripAssert h so) s = .next (s.put h (x.modSaf fun k => { k with xout := maskBit k.xout so true, energised := maskBit k.energised so true }))) ∧
    (x.domainOn 5 = true →
      exec (.xtripReceive h) s = .next (s.put h (x.modSaf fun k => { k with xin := true, xforce := true, xinAt := if k.xin then k.xinAt else k.clk }))) ∧
    (x.domainOn 5 = true → x.saf.xin = true → x.saf.xlatch = false → x.safPast x.saf.xinAt 500000 = true →
      exec (.safeXtripRx h) s = .next (s.put h ((x.modSaf fun k => { k with xlatch := true }).safRaise 117))) ∧
    (x.saf.xin = true → x.saf.xlatch = false →
      exec (.crossTripEnd h) s = .next (s.put h (x.modSaf fun k => { k with xin := false, xforce := false, xtests := k.xtests + 1 }))) ∧
    (x.saf.xin = true → x.saf.xlatch = true →
      exec (.crossTripEnd h) s = .next (s.put h (x.modSaf fun k => { k with xin := false }))) ∧
    (x.domainOn 5 = true → x.partnerPresent = true → exec (.xtripWiring h) s = .next (s.put h (x.raise 66))) ∧
    (∀ (srs : Nat), srs < 4 → x.safRuns = true → (x.safFlt false (16 + srs)).out = true →
      (x.safFlt true (16 + srs)).out = true → (x.safSrs srs).level = false → (x.safSrs srs).state = .idle →
      exec (.srsLevelChange h srs) s = .next (s.put h (x.setSrs srs { x.safSrs srs with
      level := true, state := .pressed
      stamp := if (x.safFlt false (16 + srs)).stamp.toNat < (x.safFlt true (16 + srs)).stamp.toNat then (x.safFlt true (16 + srs)).stamp
        else (x.safFlt false (16 + srs)).stamp }))) ∧
    (∀ (srs : Nat), srs < 4 → x.safRuns = true → (x.safSrs srs).state = .pressed →
      x.safPast (x.safSrs srs).stamp 3000000001 = true →
      exec (.resetHeld h srs) s = .next (s.put h (x.setSrs srs { x.safSrs srs with state := .held, held := true }))) ∧
    (∀ (srs : Nat), srs < 4 → x.safRuns = true → (x.safSrs srs).state = .recover → (x.safSrs srs).level = false →
      x.safPast (x.safSrs srs).stamp 500000001 = true →
      exec (.srsRecoverEnd h srs) s = .next (s.put h (x.setSrs srs { x.safSrs srs with state := .idle, held := false }))) ∧
    (∀ (f : Nat) (c : SafFunc), x.safFunc f = some c → x.safRuns = true → x.saf.sealOk = true → c.typ ≠ 3 →
      (x.safFn f).state = .resetWait → x.fnDemand c = false → x.fnUnlocked c = false →
      ((List.range 8).any fun j => fnNames c j && x.soCause j) = false →
      ((List.range 8).all fun j => !fnNames c j || (x.saf.energised.getLsbD j && (x.saf.enAt.get? j).any fun t => x.safPast t 20000000)) = true →
      exec (.readbackReset h f) s = .next (s.put h (x.armFn f c))) ∧
    (x.saf.overdue = false → 336 * 60 ≤ (x.opmin - x.saf.proofAt).toNat →
      exec (.proofOverdue h) s = .next (s.put h ((x.modSaf fun k => { k with overdue := true }).raise 70))) ∧
    (∀ (siA siB : BitVec 16) (srsA srsB : BitVec 4) (y : Half), x.domainOn 5 = true → x.saf.siAt = none →
      y = x.modSaf (fun k => { k with siAt := some k.clk }) →
      exec (.siSample h siA siB srsA srsB) s = .next (s.put h ((List.range 4).foldl (fun (z : Half) k => (z.srsTake false k (srsA.getLsbD k)).srsTake true k (srsB.getLsbD k))
      ((List.range 16).foldl (fun (z : Half) i => z.siTake i (siA.getLsbD i) (siB.getLsbD i)) y))))

/-- The Scruple rows that both halves see (R142, R146, R153, R179); x is the half named, p its partner. -/
def Obligations.ScrupleRowsOfBothHalvesComplete : Prop :=
  ∀ (s : State) (h : HalfId) (x p : Half), s.half h = x → s.half h.other = p → x.st ≠ .off → p.st ≠ .off →
    (∀ (readback : Byte) (masksOk : Bool) (t : State), x.safRuns = true →
      t = s.put h (x.safCycle readback masksOk) →
      exec (.safetyTaskCycle h readback masksOk) s = .next ((t.mod .a fun y => y.setShown h ((t.half h).rd Reg.SAF_PCRC)).mod .b fun y => y.setShown h ((t.half h).rd Reg.SAF_PCRC))) ∧
    (∀ (tp : Nat), tp < 8 → x.safRuns = true → x.saf.tpMaster = false →
      exec (.tpMasterTakeover h tp) s = .next ((s.put h.other (p.modSaf fun k => { k with tpMaster := false })).put h
      ((x.modSaf fun k => { k with tpMaster := true, tpDrive := maskBit k.tpDrive tp true }).safRaise 115))) ∧
    (h = .b →
      exec (.scrupleResetEnd h) s = .next ((s.put h (x.startScruple s.stn.s1)).mod .b fun y => y.modSaf fun k => { k with tpMaster := !p.safRuns })) ∧
    (h = .a → (p.saf.tpMaster && !x.partnerPresent) = false →
      exec (.scrupleResetEnd h) s = .next (((s.put h (x.startScruple s.stn.s1)).mod .a fun y => y.modSaf fun k => { k with tpMaster := true }).mod .b fun y => y.modSaf fun k => { k with tpMaster := false })) ∧
    (h = .a → p.saf.tpMaster = true → x.partnerPresent = false →
      exec (.scrupleResetEnd h) s = .next (s.put h (x.startScruple s.stn.s1))) ∧
    (∀ (word : BitVec 12), x.safRuns = true →
      exec (.sealChange h word) s = .next ((s.modStn fun k => { k with s1 := word }).put h (((x.modSaf fun k => { k with sealWord := word }).testSeal).icuPend 251)))

/-- Power and reset rows act as their rules say (R488, R492 to R496, R499). -/
def Obligations.PowerRowsComplete : Prop :=
  ∀ (s : State) (h : HalfId) (x : Half), s.half h = x → x.st ≠ .off →
    (∀ (pd : Nat) (y : Half), railOrder.contains pd = true → x.bit Reg.SYS_PD pd = false →
      ((railOrder.takeWhile (· != pd)).all (x.bit Reg.SYS_PD)) = true → x.upGone x.sys.railAt 100 = true →
      y = ({ x with sys := { x.sys with railAt := x.sys.up } } : Half).setBit Reg.SYS_PD pd true → pd ≠ 1 →
      y.fc.domains.contains pd = false → y.bit Reg.FC_STAT 6 = false →
      exec (.pdRailGood h pd) s = .next (s.put h ((List.range 4).foldl (fun (z : Half) i => z.clrReg (Reg.FC_INHIB i) (domainMask [pd] i)) (y.setBit Reg.SYS_PD (8 + pd) false)))) ∧
    (x.sys.onStore = true → x.sys.powerFail = false → x.upGone x.sys.storeAt 1000 = true →
      exec (.powerFailConfirm h) s = .next (s.put h ((((({ x with sys := { x.sys with powerFail := true, failAt := x.sys.up, mramTime := x.now, seconds := x.partMinute } } : Half).setBit Reg.EVR_STAT 1 true).sysIrq 2).discharge).raise 52))) ∧
    (x.sys.onStore = true → (x.bit Reg.SYS_STAT 8 && !(x.sys.powerFail && x.upGone x.sys.failAt 5000)) = false →
      exec (.holdupStoreEmpty h) s = .next (s.put h (x.powerOff))) ∧
    (∀ (energy : BitVec 16), 100 ≤ energy.toNat → x.bit Reg.SYS_STAT 8 = true →
      exec (.pwrHoldup h energy) s = .next (s.put h ((x.setFld Reg.SYS_HOLDUP 15 0 energy.toNat).setBit Reg.SYS_STAT 8 true))) ∧
    (∀ (energy : BitVec 16), energy.toNat < 100 → x.bit Reg.SYS_STAT 8 = true →
      exec (.pwrHoldup h energy) s = .next (s.put h ((((x.setFld Reg.SYS_HOLDUP 15 0 energy.toNat).setBit Reg.SYS_STAT 8 false).sysIrq 3).raise 51))) ∧
    (∀ (pd : Nat), pd = 1 ∨ pd = 2 ∨ pd = 3 ∨ pd = 4 ∨ pd = 7 →
      exec (.domainRailFault h pd) s = .next (s.put h ((x.setBit Reg.SYS_PD pd false).raise (43 + pd)))) ∧
    (exec (.domainRailFault h 5) s = .next (s.put h (((x.setBit Reg.SYS_PD 5 false).raise 48).resetScruple))) ∧
    (((((x.setBit Reg.SYS_PD 6 false).discharge).raise 49).role.holdWindow) = false →
      exec (.domainRailFault h 6) s = .next (s.put h (((x.setBit Reg.SYS_PD 6 false).discharge).raise 49))) ∧
    (∀ (doms : Byte), exec (.sysRstDomain h doms) s = .next (s.put h (x.resetDoms doms))) ∧
    (exec (.sysRstHalf h) s = .next (s.put h (x.resetHalf))) ∧
    (∀ (pd : Nat) (y z : Half), pd ≤ 7 → x.bit Reg.SYS_PD (8 + pd) = true → x.bit Reg.SYS_PD pd = true →
      x.upGone (x.sys.rstAt.get 0 pd) 10 = true → x.bit Reg.FC_STAT 6 = false → x.boot.startupDone = false →
      x.fc.resetting = false → y = { x with fc := { x.fc with domains := x.fc.domains.erase pd } } →
      z = (List.range 4).foldl (fun (z : Half) i => z.clrReg (Reg.FC_INHIB i) (domainMask [pd] i)) (y.setBit Reg.SYS_PD (8 + pd) false) →
      exec (.domainResetEnd h pd) s = .next (s.put h (z.irq Reg.SYS_IRQ_STAT Reg.SYS_IRQ_EN 7 7))) ∧
    (∀ (y : Half), 59 ≤ x.partMinute → x.opmin ≠ 0xFFFFFFFF → y = x.wr Reg.SYS_OPMIN (x.opmin + 1) →
      exec (.operatingMinute h) s = .next (s.put h (({ y with sys := { y.sys with mramOpmin := y.opmin, seconds := 0, partBase := 0, minuteAt := x.sys.up } } : Half).canMinute.recovMinute.sysIrq 9))) ∧
    (∀ (y : Half), 59 ≤ x.partMinute → x.opmin = 0xFFFFFFFF → y = x.setBit Reg.SYS_STAT 10 true →
      exec (.operatingMinute h) s = .next (s.put h (({ y with sys := { y.sys with mramOpmin := y.opmin, seconds := 0, partBase := 0, minuteAt := x.sys.up } } : Half).canMinute.recovMinute.sysIrq 9)))

/-- The feed rows change the baseplate and show in the half (R488, R489, R494); the voltage read is a free value (log 30). -/
def Obligations.FeedRowsComplete : Prop :=
  ∀ (s : State) (h : HalfId) (x p : Half), s.half h = x → s.half h.other = p → x.st ≠ .off → p.st ≠ .off →
    (∀ (y : Half), x.sys.onStore = false →
      y = ({ x with sys := { x.sys with onStore := true, storeAt := x.sys.up } } : Half).setFld Reg.SYS_STAT 5 4 0 →
      exec (.logicFeedFail h) s = .next ((s.modStn fun k => (k.setFeed .psa false).setFeed .psb false).put h
        (((((y.feedSeen Reg.SYS_FEED 0).feedSeen Reg.SYS_FEED 1).sysIrq 0).raise 40).raise 41))) ∧
    (∀ (feed : Feed), feed = .psa ∨ feed = .psb → x.sys.powerFail = false →
      exec (.logicFeedReturn h feed) s = .next ((s.modStn fun k => k.setFeed feed true).put h
        (((({ x with sys := { x.sys with onStore := false } } : Half).setBit Reg.SYS_STAT (4 + feedBit feed) true).feedSeen Reg.SYS_FEED (feedBit feed)).sysIrq 0))) ∧
    (∀ (feed : Feed) (inRange : Bool), feed = .flda ∨ feed = .fldb →
      exec (.fieldFeedRange h feed inRange) s = .next ((s.modStn fun k => k.setFeed feed inRange).put h
        ((((x.setBit Reg.SYS_STAT (4 + feedBit feed) inRange).sysIrq 1).feedSeen Reg.SYS_FLD (feedBit feed - 2)).raiseIf (!inRange)
          (if feed = .flda then 42 else 43))))

/-- A half in OFF whose PD0 comes up takes the state that power-on gives it (R492, R499, R527). -/
def Obligations.PowerOnStartsAnUnpoweredHalf : Prop :=
  ∀ (s : State) (h : HalfId) (x : Half), s.half h = x →
    (∀ (slotCode : BitVec 2), x.st = .off →
      exec (.pd0PowerOn h slotCode) s = .next (s.put h (x.powerOn s.stn.feeds slotCode)))

/-- Boot and native start-up go on as their rules say (R187, R189, R506, R509, R512). -/
def Obligations.BootRowsComplete : Prop :=
  ∀ (s : State) (h : HalfId) (x : Half), s.half h = x → x.st ≠ .off →
    (x.mayBoot = true → x.boot.noSlot = false → exec (.bootRomStart h) s = .next (s.put h (x.bootChoose))) ∧
    (x.mayBoot = true → x.boot.noSlot = true → x.upGone x.boot.noSlotAt 60000000 = true →
      exec (.bootRetry h) s = .next (s.put h (x.bootChoose))) ∧
    (∀ (sigOk second : Bool) (k : Nat) (i : Image) (y : Half), x.st = .boot → x.boot.trying = some (k, second) →
      (x.fwSlot k).image = some i → fwVerifies i sigOk = true →
      y = ({ x with boot := { x.boot with trying := none, running := k, version := i.version, stateFormat := Config.stateFormat i.body, trial := x.boot.trial && !second } } : Half).enterNative.makeKey
        ((s.half h.other).boot.key.isSome && (s.half h.other).st != .off) →
      exec (.bootImageVerified h sigOk) s = .next (s.put h (y.startSet))) ∧
    (∀ (sigOk second : Bool) (k : Nat) (i : Image), x.st = .boot → x.boot.trying = some (k, second) →
      (x.fwSlot k).image = some i → fwVerifies i sigOk = false →
      exec (.bootImageVerified h sigOk) s = .next (s.put h ({ x with boot := { x.boot with trying := if second then none else x.bootNext k, noSlot := (if second then none else x.bootNext k).isNone, noSlotAt := x.sys.up, trial := x.boot.trial && second } }))) ∧
    (∀ (sigOk : Bool) (i : Image) (rest : List Image) (y : Half), x.st = .native → x.boot.startupDone = false →
      x.boot.current = none → x.domainOn 2 = true → y = x.initImages → y.boot.images = i :: rest →
      i.wellFormed = true → i.target = 1 → sigOk = true →
      exec (.nativeImageStart h sigOk) s = .next (s.put h ({ y with boot := { y.boot with images := rest, current := some i, startedAt := x.sys.up } }))) ∧
    (x.boot.current.isSome = true → exec (.nativeImageReturn h 0) s = .next (s.put h (x.imageEnds))) ∧
    (∀ (a0 : DWord), x.boot.current.isSome = true → a0 ≠ 0 →
      exec (.nativeImageReturn h a0) s = .next (s.put h (x.imageEnds.imageFails))) ∧
    (∀ (i : Image), x.boot.current = some i → x.upGone x.boot.startedAt (x.imageLimit i) = true →
      exec (.nativeImageTimeout h) s = .next (s.put h ((x.imageEnds.imageFails).resetDoms 4))) ∧
    (∀ (y : Half), x.st = .native → x.boot.startupDone = false → x.boot.current = none → x.boot.recovery = none →
      y = x.initImages → y.boot.images = [] → s.stn.identOk = true →
      (y.cfg.cur.isSome = true ∨ y.partnerClaim = true) →
      exec (.startupDone h) s = .next (s.put h (y.handOver))) ∧
    (x.st = .native → x.role.negotiating = true → x.goneUs x.role.negAt 5000000 = true → x.partnerClaim = false →
      exec (.negotiationTimeout h) s = .next (s.put h (x.startLoading))) ∧
    (x.st = .native → x.role.negotiating = true → x.goneUs x.role.negAt 5000000 = true → x.partnerClaim = true →
      exec (.negotiationTimeout h) s = .next (s.put h (x.trySync))) ∧
    (∀ (n : Nat), x.st = .native → x.role.loading = true → x.partnerClaim = false → x.cfg.cur = some n →
      exec (.applicationLoadDone h) s = .next (s.put h (x.startStation))) ∧
    (x.st = .boot →
      exec (.releaseRecoveryHold h) s = .next (s.put h ({ x.setBit Reg.SYS_STAT 9 true with
      boot := { x.boot with recovery := some 3, images := [], imgInit := false, current := none }
      role := { x.role with negotiating := false, loading := false } })))

/-- Claim, presence and link rows show in their bits and take their reactions (R183 to R185, R190, R193, R201 to R204). -/
def Obligations.ClaimAndPresenceRowsComplete : Prop :=
  ∀ (s : State) (h : HalfId) (x : Half), s.half h = x → x.st ≠ .off →
    (x.partnerClaim = true → exec (.claimInvalid h) s = .next (s.put h ((x.setBit Reg.SYS_STAT 2 false).sysIrq 5))) ∧
    (∀ (y z : Half), x.partnerClaim = false →
      y = ({ ((x.setBit Reg.SYS_STAT 2 true).sysIrq 5) with role := { ((x.setBit Reg.SYS_STAT 2 true).sysIrq 5).role with relinq := false, claimAt := x.mono } } : Half).showReleased →
      z = (if y.role.holdWindow then y.endHold else y) →
      exec (.claimValid h) s = .next (s.put h (if z.claims then z.conflict else z.yieldTakeover.negotiate))) ∧
    (∀ (y : Half), x.st = .standby ∨ x.st = .syncing ∨ x.st = .native ∨ x.st = .fault → y = x.relinquish.loseClaim →
      exec (.presenceBreak h) s = .next (s.put h ({ y with st := fallToFault y.st, role := { y.role with ho := none, takeover := false } }))) ∧
    (∀ (y : Half), x.st = .active ∨ x.st = .relinquishing → y = x.dropRole.relinquish.loseClaim →
      exec (.presenceBreak h) s = .next (s.put h ({ y with st := fallToFault y.st, role := { y.role with ho := none, takeover := false } }))) ∧
    (∀ (y : Half), x.partnerPresent = true →
      y = ((x.setBit Reg.SYS_STAT 1 false).sysIrq 4).setBit Reg.AI_VAR 1 false →
      exec (.partnerAbsent h) s = .next (s.put h ((if y.hbOk then y.raise 64 else { y with role := { y.role with partner := none } }).negotiate))) ∧
    (x.partnerPresent = false →
      exec (.partnerPresent h) s = .next (s.put h ((((x.setBit Reg.SYS_STAT 1 true).sysIrq 4).setBit Reg.AI_VAR 1 true).showReleased))) ∧
    (exec (.fixturePresent h) s = .next (s.put h (x.setBit Reg.FC_STAT 5 true))) ∧
    (x.fld Reg.FC_CTRL 2 1 ≠ 2 →
      exec (.fixtureLoss h) s = .next (s.put h (x.setBit Reg.FC_STAT 5 false))) ∧
    (x.fld Reg.FC_CTRL 2 1 = 2 →
      exec (.fixtureLoss h) s = .next (s.put h ((((x.setBit Reg.FC_STAT 5 false).enterReset halfDomains).resetFcConfig).reboot))) ∧
    (x.domainOn 1 = true → x.releaseHolds = true → (x.partnerClaim = true ∨ x.role.takeover = true) →
      exec (.partnerReleased h) s = .next (s.put h (x.markReleased))) ∧
    (x.domainOn 1 = true → x.releaseHolds = true → x.partnerClaim = false → x.role.takeover = false →
      exec (.partnerReleased h) s = .next (s.put h (x.markReleased.takeOver))) ∧
    (x.role.takeover = true → x.st = .standby → x.role.cold = false →
      exec (.takeoverDecision h) s = .next (s.put h (x.takeWarm))) ∧
    (∀ (n : Nat), x.role.takeover = true → x.st = .standby ∨ x.st = .syncing → x.role.cold = true →
      x.partnerClaim = false → x.cfg.cur = some n → exec (.takeoverDecision h) s = .next (s.put h (x.takeCold))) ∧
    (x.role.holdWindow = true → (x.partnerClaim || x.goneUs x.role.holdAt 110) = true →
      exec (.holdWindowEnd h) s = .next (s.put h (x.endHold))) ∧
    (∀ (y z : Half), x.hbOk = true → x.goneUs x.role.hbAt 100 = true →
      y = (x.setBit Reg.SPAN_STAT 1 false).spanIrq 1 → z = { y with role := { y.role with partner := none } } →
      exec (.heartbeatTimeout h) s = .next (s.put h ((z.raiseIf z.partnerClaim 58).answerCopy {}))) ∧
    (∀ (y : Half), x.bit Reg.SPAN_STAT 0 = true → x.st ≠ .standby →
      y = ((((x.setBit Reg.SPAN_STAT 0 false).spanIrq 7).restartRel).clearChan 7).leaveSource4 →
      y.st ≠ .standby → exec (.spanLinkLoss h) s = .next (s.put h (y))) ∧
    (∀ (y : Half), x.linked = true → x.bit Reg.SPAN_STAT 0 = false → y = (x.setBit Reg.SPAN_STAT 0 true).spanIrq 7 →
      y.span.lost = false →
      exec (.spanLinkUp h) s = .next (s.put h ({ y with span := { y.span with lost := false } }))) ∧
    (x.goneUs x.role.armedAt 100 = true → exec (.peerArmedTimeout h) s = .next (s.put h (x.setPeerArmed false))) ∧
    (x.linked = true →
      exec (.roleRelinquish h) s = .next (s.put h ({ (x.setBit Reg.SPAN_STAT 3 true).spanIrq 5 with role := { ((x.setBit Reg.SPAN_STAT 3 true).spanIrq 5).role with relinq := true } }))) ∧
    (x.linked = true → exec (.spanRelinq h) s = .next (s.put h (x.relinquish))) ∧
    (x.isActive = true → x.goneUs x.role.lastSwap 604800000000 = true →
      exec (.swapOverdue h) s = .next (s.put h (x.raise 69)))

/-- Span frames are sent and taken as their rules say (R192 to R195, R399). -/
def Obligations.SpanFrameRowsComplete : Prop :=
  ∀ (s : State) (h : HalfId) (x : Half), s.half h = x → x.st ≠ .off →
    (∀ (y : Half), x.linked = true → x.due .heartbeat 50 = true →
      y = (x.ran .heartbeat).spanPut (fun seq => .heartbeat seq {
        state := BitVec.ofNat 8 x.st.code, fcLevel := BitVec.ofNat 8 ((x.pendLevel fun _ => true).getD 0)
        takeoverArmed := x.role.armed, synced := x.role.synced, released := x.role.released, partnerClaim := x.partnerClaim
        partnerPresent := x.partnerPresent, startupDone := x.boot.startupDone, fwVersion := x.boot.version
        stateFormat := x.boot.stateFormat, resyncMask := x.copy.resync, cfgCommit := x.cfgCommit, monoTime := x.mono
        hbCount := x.role.hbCount }) →
      exec (.heartbeatSend h) s = .next (s.put h ({ y with role := { y.role with hbCount := y.role.hbCount + 1 } }))) ∧
    (x.linked = true →
      exec (.spanFrameDiscard h) s = .next (s.put h (((x.spanCount Reg.SPAN_CRC_ERR).spanIrq 2).raise 56))) ∧
    (∀ (item : BitVec 16) (u : RelItem) (y : Half), x.span.unacked.find? (fun v => v.item == item) = some u →
      x.linked = true → x.goneUs u.at_ 200 = true → u.retries < 3 →
      y = { x with span := { x.span with unacked := x.span.unacked.map fun v => if v.item == item then { v with retries := v.retries + 1, at_ := x.mono } else v } } →
      exec (.spanRelRetransmit h item) s = .next (s.put h ((y.spanCount Reg.SPAN_RETX).spanAgain u))) ∧
    (∀ (item : BitVec 16) (u : RelItem), x.span.unacked.find? (fun v => v.item == item) = some u → x.linked = true →
      x.goneUs u.at_ 200 = true → 3 ≤ u.retries →
      exec (.spanRelRetransmit h item) s = .next (s.put h (((({ x with span := { x.span with unacked := x.span.unacked.filter fun v => v.item != item } } : Half).spanIrq 4).itemLost item)))) ∧
    (∀ (hdr : SpanHdr) (d : StateDelta) (y : Half), x.linked = true → y = x.spanAccept hdr → y.follows = true →
      d.region.toNat < 3 →
      exec (.stateDelta h hdr d) s = .next (s.put h (y.modCopy d.task.toNat fun k => { k with pend := k.pend ++ [d], chunks := k.chunks || (d.region == 2 && hdr.last) }))) ∧
    (∀ (hdr : SpanHdr) (c : CycleEnd) (y : Half), x.linked = true → y = x.spanAccept hdr → y.follows = true →
      c.task = 0xFF → exec (.cycleEnd h hdr c) s = .next (s.put h ((y.confirmStore c).showArmed))) ∧
    (∀ (hdr : SpanHdr) (c : CycleEnd) (y : Half), x.linked = true → y = x.spanAccept hdr → y.follows = true →
      c.task ≠ 0xFF →
      exec (.cycleEnd h hdr c) s = .next (s.put h (((y.confirm c.task.toNat c).canSleepEdges y).showArmed))) ∧
    (∀ (hdr : SpanHdr) (item : CfgItem), x.linked = true →
      exec (.cfgFrame h hdr item) s = .next (s.put h (x.relTake hdr (.cfg item)))) ∧
    (x.st = .active ∨ x.st = .relinquishing → x.due .time 1000 = true →
      exec (.spanTimeSend h) s = .next (s.put h ((x.ran .time).spanPut fun n => .time n {
      tDep := x.now, mDep := x.mono, source := BitVec.ofNat 8 x.ts.source, state := BitVec.ofNat 8 (x.fld Reg.TS_STAT 2 1)
      utcOffset := x.ts.utcOffset, gmIdentity := if x.ts.source = 0 then 0 else x.ts.gm }))) ∧
    (∀ (hdr : SpanHdr) (p : TimePayload) (y z : Half), x.linked = true → y = (x.spanAccept hdr).selectSource 4 →
      (x.spanAccept hdr).st = .syncing → y.bit Reg.TS_STAT 6 = false →
      z = { y with ts := { y.ts with utcOffset := p.utcOffset, gm := p.gmIdentity, selected := if p.source.toNat < 4 then some p.source.toNat else y.ts.selected } } →
      z.st = .syncing → z.bit Reg.TS_STAT 6 = false →
      exec (.spanTimeFrame h hdr p) s = .next (s.put h (z.adopt p)))

/-- Each step of a handover changes both halves as its rule says (R188, R193, R205 to R209); x is the half named, p its partner. -/
def Obligations.HandoverRowsComplete : Prop :=
  ∀ (s : State) (h : HalfId) (x p : Half), s.half h = x → s.half h.other = p → x.st ≠ .off → p.st ≠ .off →
    (∀ (hdr : SpanHdr) (hb : Heartbeat), x.linked = true →
      exec (.heartbeat h hdr hb) s = .next ((s.put h (x.hearHeartbeat hdr hb)).put h.other (if x.claimLineSeen hb then p.claimLineOn else p))) ∧
    (∀ (y : Half), x.st = .syncing → x.role.takeover = false → x.copyReady = true →
      y = { x with st := .standby, role := { x.role with everStandby := true }, boot := { x.boot with key := p.boot.key } } →
      exec (.fullCopyComplete h) s = .next (s.put h (y.showArmed.confirmTrial))) ∧
    (∀ (hdr : SpanHdr) (reply : Bool) (entry : Entry) (y : Half), x.linked = true →
      y = x.relTake hdr (.mbx reply entry) → y.mbx.fwdBroken = false →
      exec (.peerMbx h hdr reply entry) s = .next ((s.put h (y)).put h.other (p.cqTake 7 ((y.mbx.fwdCqSeq.toNat + 65536 - (p.rd (Reg.MBX_CH_CQ_HEAD 7)).toNat % 65536) % 65536)))) ∧
    (∀ (cause : Cause) (at_ : DWord), x.role.claimLine = false → x.mayOffer = true →
      exec (.roleOffer h cause at_) s = .next ((s.put h (x.offers (x.newOffer cause at_) none)).put h.other (p.offered (x.newOffer cause at_) x.span.nextItem))) ∧
    (∀ (k : Handover), x.st = .standby → x.role.ho = some k → k.outgoing = false → k.stage = 0 →
      k.accepted = false → x.refuses p k = false → p.hears x = true →
      exec (.roleAccept h) s = .next ((s.put h ((x.modHo fun k => { k with accepted := true }).sendRole .accept)).put h.other ((p.roleSeen x.span.nextItem).modHo fun k => { k with accepted := true }))) ∧
    (∀ (k : Handover), x.role.ho = some k → k.outgoing = false → k.stage = 0 → k.accepted = false →
      x.refuses p k = true → p.hears x = true →
      exec (.roleRefuse h) s = .next ((s.put h ((x.sendRole .refuse).dropOffer)).put h.other ((p.roleSeen x.span.nextItem).staysActive ST_CONFLICT))) ∧
    (∀ (k : Handover), x.role.ho = some k → k.stage = 0 → p.hears x = true →
      exec (.roleAbort h) s = .next ((s.put h (((x.sendRole .abort).dropOffer).staysActive ST_ABORTED)).put h.other (((p.roleSeen x.span.nextItem).dropOffer).staysActive ST_ABORTED))) ∧
    (∀ (k : Handover) (y : Half), x.st = .active → x.role.ho = some k → k.outgoing = false → k.stage = 3 →
      p.atStage true 3 = true → p.hears x = true → y = p.roleSeen x.span.nextItem →
      exec (.roleClaimed h) s = .next ((s.put h (x.sendRole .claimed)).put h.other (({ y with role := { y.role with cmd := none } } : Half).finishCmd p.role.cmd ST_OK (p.handoverReply (p.role.ho.getD {}))))) ∧
    (∀ (k : Handover), x.role.ho = some k → k.outgoing = true → k.stage = 0 → k.accepted = false →
      x.goneUs k.at_ 50000 = true →
      exec (.offerTimeout h) s = .next ((s.put h (x.staysActive ST_TIMEOUT)).put h.other (p.dropOffer))) ∧
    (handoverReady x p = true → handoverReady p x = false →
      exec (.handoverInstantH h) s = .next ((s.put h (x.outAtH)).put h.other (p.inAtH))) ∧
    (x.atStage true 1 = true → x.hoReached 40 = true → p.atStage true 1 = false → p.atStage false 1 = true →
      exec (.handoverInstantHV h) s = .next ((s.put h (((((x.setBit Reg.CE_CTRL 2 false).vdStop).sendTrack).modHo fun k => { k with stage := 2 }))).put h.other (p.modHo fun k => { k with stage := 2 }))) ∧
    (x.st = .active → x.atStage false 2 = true → x.hoReached 41 = true →
      exec (.incomingVdStart h) s = .next (s.put h ((x.chainRefs).runField))) ∧
    (x.atStage true 2 = true → x.hoReached 50 = true → p.atStage true 2 = false → p.atStage false 2 = true →
      exec (.handoverDoRelease h) s = .next ((s.put h ((x.releaseOutputs).modHo fun k => { k with stage := 3 })).put h.other (p.modHo fun k => { k with stage := 3 }))) ∧
    (∀ (k m : Handover), x.role.ho = some k → k.outgoing = true → k.stage = 3 → x.hoReached 100 = true →
      p.role.ho = some m → m.outgoing = false → m.stage = 3 → p.st = .active →
      exec (.handoverComplete h) s = .next ((s.put h ((x.becomesStandby k).releaseHeld)).put h.other (p.countHandover m))) ∧
    (((x.pendingHo true).any fun k => x.goneUs k.at_ 10000000) = true →
      exec (.handoverTimeout h) s = .next ((s.put h (x.staysActive ST_TIMEOUT)).put h.other (p.dropOffer))) ∧
    (∀ (at_ : DWord), x.st = .active → x.role.ho = none → x.reached x.role.nextSwap = true →
      x.role.claimLine = false → x.cfg.pend = none → x.mayOffer = true →
      exec (.periodicSwap h at_) s = .next ((s.put h (x.offers (x.newOffer .periodic at_) none)).put h.other (p.offered (x.newOffer .periodic at_) x.span.nextItem))) ∧
    (∀ (at_ : DWord) (y : Half), y = (x.setBit Reg.SYS_STAT 9 true).sysIrq 6 → x.st = .active → x.role.ho = none →
      x.mayOffer = true → y.mayOffer = true →
      exec (.releaseButtonHold h at_) s = .next ((s.put h (y.offers (y.newOffer .button at_) none)).put h.other (p.offered (y.newOffer .button at_) y.span.nextItem))) ∧
    (x.partnerClaim = true → x.goneUs x.role.claimAt 1000000 = true →
      exec (.claimLineEnd h) s = .next ((s.put h ({ x with role := { x.role with claimLine := false } })).put h.other ({ p with role := { p.role with claimLine := false } })))

/-- Each fault-collector row acts on the collector as its rule says (R214, R220, R231, R235, R236, R240 to R245). -/
def Obligations.FaultRowsComplete : Prop :=
  ∀ (s : State) (h : HalfId) (x : Half), s.half h = x → x.st ≠ .off →
    (∀ (src : Nat), src ≠ 16 → src ≠ 17 → src ≠ 18 → src ≠ 34 →
      exec (.faultRaise h src) s = .next (s.put h (x.raise src))) ∧
    (exec (.faultRaise h 16) s = .next (s.put h (x.mismatch .sup .outputMismatch))) ∧
    (exec (.faultRaise h 17) s = .next (s.put h (x.mismatch .app .outputMismatch))) ∧
    (exec (.faultRaise h 18) s = .next (s.put h (x.mismatch .scr .outputMismatch))) ∧
    (exec (.faultRaise h 34) s = .next (s.put h ((x.setBit Reg.SYS_CLKMON 16 false).raise 34))) ∧
    (∀ (src : Nat), isSource src = true → src ≠ 120 → x.fld (Reg.FC_SRC_CFG src) 3 2 < 2 →
      ((x.setSrc (Reg.FC_INVALID 0) src true).take 120 (x.srcLevel 120) true).fld (Reg.FC_SRC_CFG src) 3 2 < 2 →
      exec (.sourcePairInvalid h src) s = .next (s.put h ((x.setSrc (Reg.FC_INVALID 0) src true).take 120 (x.srcLevel 120) true))) ∧
    (∀ (src : Nat) (w : FcWindow) (y : Half), x.fc.windows.find? (fun v => v.src == src) = some w →
      x.windowOver w = true →
      y = ({ x with fc := { x.fc with windows := x.fc.windows.erase w } } : Half).fcStatus → w.level ≤ 1 →
      w.handled = false → y.srcBit (Reg.FC_PEND 0) src = true →
      exec (.reactionWindowExpire h src) s = .next (s.put h (y.take src 2 false))) ∧
    (∀ (src : Nat) (w : FcWindow) (y : Half), x.fc.windows.find? (fun v => v.src == src) = some w →
      x.windowOver w = true →
      y = ({ x with fc := { x.fc with windows := x.fc.windows.erase w } } : Half).fcStatus →
      (1 < w.level ∨ w.handled = true ∨ y.srcBit (Reg.FC_PEND 0) src = false) →
      exec (.reactionWindowExpire h src) s = .next (s.put h (y))) ∧
    (∀ (i : Nat) (mask : Word), i < 4 → exec (.fcPendClear h i mask) s = .next (s.put h (x.pendClear i mask))) ∧
    (x.peerArmed = true → x.goneUs x.fc.peerAt 10000000 = true →
      exec (.heldFaultRelease h) s = .next (s.put h (x.releaseHeld))) ∧
    (∀ (cls : Nat) (srcs : List Nat), srcs = (List.range 128).filter (fun k => isSource k && x.srcClass k == cls) →
      srcs.any (x.srcBit (Reg.FC_PEND 0)) = false → srcs.any (x.srcBit (Reg.FC_ACTIVE 0)) = true →
      x.goneUs (x.fc.lastRaise.get 0 cls) (1000000 * x.fld (Reg.FC_CLASS_CFG cls) 23 16) = true →
      exec (.classClear h cls) s = .next (s.put h (((srcs.foldl (fun (y : Half) k => y.setSrc (Reg.FC_ACTIVE 0) k false) x).fcEntry (evtWord 127 0 cls false false false false true)).irq
        Reg.FC_IRQ_STAT Reg.FC_IRQ_EN 4 20))) ∧
    (∀ (cls : Nat) (y : Half), x.st = .fault → x.fc.quiet.contains cls = true → x.fc.resetting = false →
      x.role.holdWindow = false →
      x.goneUs (x.fc.quietAt.get 0 cls) (1000000 * x.fld (Reg.FC_CLASS_CFG cls) 31 24) = true →
      y = { x with fc := { x.fc with quiet := x.fc.quiet.erase cls } } →
      exec (.quietL2Expire h cls) s = .next (s.put h (if y.fc.quiet.isEmpty then y.recover else y))) ∧
    (x.st = .native → x.fc.latch.isSome = true → exec (.fcLatchMark h) s = .next (s.put h (x.raise 126))) ∧
    (∀ (pair : Pair) (cause : LsCause), exec (.lockstepMismatch h pair cause) s = .next (s.put h (x.mismatch pair cause))) ∧
    (∀ (pair : Pair), x.goneUs (x.fc.lastFlush.get 0 (pairIdx pair)) 100000 = true →
      exec (.flushTimerExpire h pair) s = .next (s.put h (x.flush pair))) ∧
    (exec (.flushSup h) s = .next (s.put h (x.flush .sup))) ∧
    (exec (.flushApp h) s = .next (s.put h (x.flush .app))) ∧
    (∀ (src : Nat), exec (.fcInj h src) s = .next (s.put h (x.inject src))) ∧
    (exec (.fcEvtPop h) s = .next (s.put h ({ x with fc := { x.fc with fifo := x.fc.fifo.drop 1 } }))) ∧
    (x.bit Reg.FC_CTRL 0 = false →
      exec (.fcLock h) s = .next (s.put h (({ x with fc := { x.fc with locked := x.fcConfig } } : Half).setBit Reg.FC_CTRL 0 true))) ∧
    (x.bit Reg.FC_CTRL 0 = true → x.fcConfig ≠ x.fc.locked → exec (.fcCfgChk h) s = .next (s.put h (x.raise 121))) ∧
    (exec (.swSupWdg h) s = .next (s.put h (x.raise 104))) ∧
    (∀ (mem : EccMem), exec (.eccError h mem true) s = .next (s.put h (x.raise (mem.source + 1)))) ∧
    (∀ (mem : EccMem), exec (.eccError h mem false) s = .next (s.put h ((x.raise mem.source).countEcc mem))) ∧
    (∀ (kind : Thermal), exec (.thermalThreshold h kind) s = .next (s.put h (x.raise kind.source))) ∧
    (∀ (dev : BitVec 16) (mainLost safeLost drift : Bool) (y : Half), drift = (1000 < dev.toInt.natAbs && !mainLost && !safeLost) →
      y = x.setFld Reg.SYS_CLKMON 15 0 dev.toNat →
      exec (.clockMonitorWindow h dev mainLost safeLost) s = .next (s.put h (((((if 500 < dev.toInt.natAbs then y.irq Reg.SYS_IRQ_STAT Reg.SYS_IRQ_EN 8 8 else y).raiseIf mainLost 32).raiseIf safeLost 35).raiseIf drift 33).raiseIf
        drift 36)))

/-- Each League row changes the half as its rule says (R256 to R270). -/
def Obligations.LeagueRowsComplete : Prop :=
  ∀ (s : State) (h : HalfId) (x : Half), s.half h = x → x.st ≠ .off →
    ((x.isActive = true ∨ x.st = .standby ∨ x.st = .syncing) → x.due .league 100000 = true →
      exec (.leagueHeartbeatSend h) s = .next (s.put h ((x.ran .league).send (.leagueHeartbeat {
      station := x.conf.station, half := x.id, state := BitVec.ofNat 8 x.st.code, fwVersion := x.boot.version
      cfgCommit := x.cfgCommit, lastCycles := if x.conf.manager then [] else x.lastCycles
      activeHalf := if x.isActive then x.id else x.id.other, epoch := x.obj.epoch
      present := (x.obj.stations.filter fun e => e.2.present).map (·.1) })))) ∧
    (∀ (hb : LeagueHb), x.conf.manager = true → x.knows hb.station = true →
      exec (.leagueHeartbeat h hb) s = .next (s.put h (x.hearWorker hb))) ∧
    (∀ (hb : LeagueHb), x.conf.manager = false → hb.station = 0 → x.obj.managerLost = false →
      exec (.leagueHeartbeat h hb) s = .next (s.put h ({ x with obj := { x.obj with managerHalf := hb.activeHalf, epoch := hb.epoch, managerAt := x.mono } }))) ∧
    (∀ (hb : LeagueHb), x.conf.manager = false → hb.station = 0 → x.obj.managerLost = true →
      exec (.leagueHeartbeat h hb) s = .next (s.put h (({ x with obj := { x.obj with managerHalf := hb.activeHalf, epoch := hb.epoch, managerAt := x.mono, managerLost := false, joined := false } } : Half).sendJoin))) ∧
    (∀ (st : Nat) (y : Half), x.conf.manager = true → x.knows st = true →
      x.goneUs (x.station st).hbAt 3000000 = true → x.isActive = true →
      y = x.modStation st (fun s => { s with present := false, lost := true, actA := false, actB := false }) →
      exec (.workerLost h st) s = .next (s.put h ((y.staleStation st).send (.stationState st true)))) ∧
    (∀ (st : Nat), x.conf.manager = true → x.knows st = true → x.goneUs (x.station st).hbAt 3000000 = true →
      x.isActive = false →
      exec (.workerLost h st) s = .next (s.put h (x.modStation st (fun s => { s with present := false, lost := true, actA := false, actB := false })))) ∧
    (x.conf.manager = false → x.domainOn 1 = true → x.goneUs x.obj.managerAt 3000000 = true →
      exec (.managerLost h) s = .next (s.put h (({ x with obj := { x.obj with managerLost := true } } : Half).staleAll))) ∧
    (∀ (f : LeagueFrame) (recs : List ObjRec) (y : Half), x.conf.manager = true → x.isActive = true →
      x.knows f.station = true → headerOk 1 f = true → x.takeFragment { f with origin := 0 } = (some recs, y) →
      exec (.exchange h f) s = .next (s.put h (y.applyFrame f recs))) ∧
    (∀ (f : LeagueFrame) (y : Half), x.conf.manager = true → x.isActive = true → x.knows f.station = true →
      headerOk 1 f = true → x.takeFragment { f with origin := 0 } = (none, y) →
      exec (.exchange h f) s = .next (s.put h (y))) ∧
    (∀ (f : LeagueFrame) (recs : List ObjRec) (y : Half), x.conf.manager = true → x.isActive = true →
      x.knows f.station = true → headerOk 2 f = true → x.takeFragment { f with origin := 2 } = (some recs, y) →
      exec (.refresh h f) s = .next (s.put h (y.refreshed f recs))) ∧
    (∀ (f : LeagueFrame) (y : Half), x.conf.manager = true → x.isActive = true → x.knows f.station = true →
      headerOk 2 f = true → x.takeFragment { f with origin := 2 } = (none, y) →
      exec (.refresh h f) s = .next (s.put h (y))) ∧
    (∀ (f : LeagueFrame) (recs : List ObjRec) (y : Half), x.conf.manager = false → x.isActive = true →
      headerOk 3 f = true → x.takeFragment f = (some recs, y) →
      exec (.relay h f) s = .next (s.put h (y.relayed f recs))) ∧
    (∀ (f : LeagueFrame) (y : Half), x.conf.manager = false → x.isActive = true → headerOk 3 f = true →
      x.takeFragment f = (none, y) → exec (.relay h f) s = .next (s.put h (y))) ∧
    (∀ (j : JoinFrame), x.conf.manager = true → x.knows j.station = true → j.certStation = j.station →
      ((x.station j.station).cert = none ∨ (x.station j.station).cert = some j.certSerial) →
      exec (.join h j) s = .next (s.put h (x.joinAccept j))) ∧
    (∀ (j : JoinFrame), x.conf.manager = true → x.knows j.station = false →
      exec (.join h j) s = .next (s.put h (x.send (.joinReply j.station 1)))) ∧
    (∀ (j : JoinFrame), x.conf.manager = true → x.knows j.station = true → j.certStation ≠ j.station →
      exec (.join h j) s = .next (s.put h (x.send (.joinReply j.station 2)))) ∧
    (∀ (j : JoinFrame) (c : DWord), x.conf.manager = true → x.knows j.station = true → j.certStation = j.station →
      (x.station j.station).cert = some c → c ≠ j.certSerial →
      exec (.join h j) s = .next (s.put h ((x.logEvt (.joinRefused j.station 3)).send (.joinReply j.station 3)))) ∧
    (∀ (res : Nat) (mm : Bool) (ep : Word) (y : Half), x.conf.manager = false →
      y = { x with obj := { x.obj with joined := res = 0, joinCmd := none, managerLost := if res = 0 then false else x.obj.managerLost, epoch := if res = 0 then ep else x.obj.epoch, joinAt := if res = 0 then x.mono else x.obj.joinAt } } →
      exec (.joinReply h res mm ep) s = .next (s.put h (y.finishCmd x.obj.joinCmd ST_OK (leNat 1 res ++ leNat 1 mm.toNat ++ [0, 0] ++ leNat 4 ep.toNat)))) ∧
    (∀ (t : Nat), x.conf.manager = false → x.isActive = true → t < 16 → x.obj.refresh.contains t = false →
      exec (.refreshReq h t) s = .next (s.put h ({ x with obj := { x.obj with refresh := x.obj.refresh ++ [t] } }))) ∧
    (∀ (st : Nat), x.conf.manager = false → exec (.stationState h st true) s = .next (s.put h (x.staleStation st))) ∧
    (∀ (st : Nat), exec (.stationState h st false) s = .next (s.put h (x))) ∧
    (∀ (st t : Nat), exec (.fragmentTimeout h st t) s = .next (s.put h ({ x with obj := { x.obj with parts := x.obj.parts.filter (fun p => !(p.station == st && p.task == t && x.goneUs p.at_ 100000)) } }))) ∧
    (∀ (t : Nat), x.isActive = true → t < 16 → exec (.refreshSend h t) s = .next (s.put h (x.refreshNow t))) ∧
    (x.conf.manager = false → x.isActive = true → x.obj.joined = true →
      x.goneUs x.obj.joinAt (90000 * (x.conf.station % 100)) = true →
      exec (.fullRefreshStart h) s = .next (s.put h ({ x with obj := { x.obj with refresh := (x.obj.refresh ++ x.conf.tasks.map (·.1)).eraseDups, fullRefresh := x.conf.tasks.map (·.1), fullAt := x.mono } }))) ∧
    (∀ (t : Nat), x.isActive = true → x.obj.fullRefresh.contains t = true → x.goneUs x.obj.fullAt 1000000 = true →
      exec (.fullRefreshDeadline h t) s = .next (s.put h (x.refreshNow t))) ∧
    (x.conf.manager = true → x.isActive = true → x.obj.batchMs ≠ some (x.mono.toNat / 1000000) →
      exec (.storeBatch h) s = .next (s.put h (x.batchOut)))

/-- Each row of the mailbox carriers changes the half as its rule says (R274 to R301). -/
def Obligations.MailboxCarrierRowsComplete : Prop :=
  ∀ (s : State) (h : HalfId) (x : Half), s.half h = x → x.st ≠ .off →
    (∀ (ch tag : Nat), ch < 8 → tag < 64 → x.domainOn 1 = true →
      exec (.completionPost h ch tag) s = .next (s.put h ((x.tryPost ch tag).postLate ch))) ∧
    (∀ (sub : Nat) (b : Sub), x.mbx.subs.find? (fun b => b.num == sub) = some b → b.ended = true →
      x.cqUsed b.ch ≤ 56 → exec (.notificationPost h sub) s = .next (s.put h (x.postLast b))) ∧
    (∀ (sub : Nat) (b : Sub) (i : SubItem) (k : Nat), x.mbx.subs.find? (fun b => b.num == sub) = some b →
      b.ended = false → x.dueItem b = some (i, k) → x.cqUsed b.ch ≤ 56 →
      exec (.notificationPost h sub) s = .next (s.put h (x.postItem b i k))) ∧
    (∀ (v : Word), v.toNat < 65536 → x.domainOn 1 = true → (v - x.rd (Reg.MBX_CH_SQ_HEAD 0)).toNat % 65536 ≤ 64 →
      exec (.mbxCh0SqTail h v) s = .next (s.put h ((x.wr (Reg.MBX_CH_SQ_TAIL 0) v).irq Reg.MBX_IRQ_STAT Reg.MBX_IRQ_EN 0 32))) ∧
    (∀ (v : Word), v.toNat < 65536 → x.domainOn 1 = true → 64 < (v - x.rd (Reg.MBX_CH_SQ_HEAD 0)).toNat % 65536 →
      exec (.mbxCh0SqTail h v) s = .next (s.put h (x.protoError 0 4))) ∧
    (∀ (v : Word), v.toNat < 65536 → x.domainOn 1 = true →
      (v - x.rd (Reg.MBX_CH_CQ_HEAD 0)).toNat % 65536 ≤ x.cqUsed 0 →
      exec (.mbxCh0CqHead h v) s = .next (s.put h (x.cqTake 0 ((v - x.rd (Reg.MBX_CH_CQ_HEAD 0)).toNat % 65536)))) ∧
    (∀ (v : Word), v.toNat < 65536 → x.domainOn 1 = true →
      x.cqUsed 0 < (v - x.rd (Reg.MBX_CH_CQ_HEAD 0)).toNat % 65536 →
      exec (.mbxCh0CqHead h v) s = .next (s.put h (x.protoError 0 4))) ∧
    (x.domainOn 1 = true →
      exec (.mbxPoolMaxRead h) s = .next (s.put h (({ x with rdata := x.rd Reg.MBX_POOL_MAX } : Half).setFld Reg.MBX_POOL_MAX 8 0 0))) ∧
    (∀ (addr : Word) (cert : Cert) (y : Half), x.answers = true →
      y = ((x.setBit Reg.USB_STAT 0 true).setBit Reg.USB_STAT 1 true).usbCount Reg.USB_RXCNT →
      y.inSession 6 = false →
      exec (.dtlsHandshake h (some 6) addr cert) s = .next (s.put h (y.shake 6 addr cert))) ∧
    (∀ (ch : Option Nat) (addr : Word) (cert : Cert) (recent : List DWord) (c : Nat) (y : Half), x.answers = true →
      ch ≠ some 6 → x.mbx.blocked.contains addr.toNat = false →
      recent = x.mbx.shakes.filter (fun t => Nat.blt (x.mono - t).toNat 1000000000) → recent.length < 4 →
      [2, 3, 4, 5].find? (fun c => !x.inSession c) = some c →
      y = { x with mbx := { x.mbx with shakes := recent ++ [x.mono] } } → x.boot.key.isSome = true →
      x.conf.certKey = x.boot.key →
      exec (.dtlsHandshake h ch addr cert) s = .next (s.put h (y.shake c addr cert))) ∧
    (∀ (ch : Nat), x.inSession ch = true → (x.chan ch).mp1 = false →
      (0x1000000 ≤ (x.chan ch).records ∨ x.goneUs (x.chan ch).keyAt 86400000000 = true) →
      exec (.dtlsKeyUpdate h ch) s = .next (s.put h ((x.send (.keyUpdate ch)).modChan ch fun c => { c with lastSent := x.mono, keyAt := x.mono, records := 0 }))) ∧
    (∀ (ch gen : Nat) (y : Half), 2 ≤ ch → ch ≤ 6 → y = x.when (ch = 6 && x.domainOn 4) (·.usbCount Reg.USB_RXCNT) →
      (x.chan ch).shaken = true → (y.chan ch).shaken = true → y.chOpen ch = false →
      (gen = 2 ∨ (gen = 3 ∧ y.bit Reg.MBX_CTRL 3 = true)) →
      exec (.openSession h ch gen) s = .next (s.put h (y.openNew ch gen))) ∧
    (∀ (ch gen : Nat) (y : Half), 2 ≤ ch → ch ≤ 6 → y = x.when (ch = 6 && x.domainOn 4) (·.usbCount Reg.USB_RXCNT) →
      (x.chan ch).shaken = true → y.chOpen ch = false → gen ≠ 2 → gen ≠ 3 →
      exec (.openSession h ch gen) s = .next (s.put h (y.closeCh ch 6))) ∧
    (∀ (ch : Nat) (first : Word) (es : List Entry) (head : BitVec 16), x.inSession ch = true → x.chOpen ch = true →
      (x.chan ch).mp1 = false →
      exec (.entries h ch first es head) s = .next (s.put h (x.takeEntries ch first es head))) ∧
    (∀ (ch : Nat) (tail head : BitVec 16), x.inSession ch = true → x.chOpen ch = true → (x.chan ch).mp1 = false →
      exec (.pointers h ch tail head) s = .next (s.put h (((x.when (ch = 6 && x.domainOn 4) (·.usbCount Reg.USB_RXCNT)).modChan ch (fun c => { c with lastHeard := x.mono })).hostHead ch head))) ∧
    (∀ (ch : Nat), x.inSession ch = true → x.chOpen ch = true → 0 < x.cqUsed ch →
      x.goneUs (x.chan ch).cqAt 20000 = true →
      exec (.completionRetransmit h ch) s = .next (s.put h (x.sendEntries ch (x.chan ch).cq))) ∧
    (∀ (ch : Nat), x.inSession ch = true → x.chOpen ch = true → (x.chan ch).mp1 = false →
      x.goneUs (x.chan ch).lastSent 1000000 = true →
      exec (.pointersKeepalive h ch) s = .next (s.put h (x.sendTr ch 3 (x.chGen ch) 0 []))) ∧
    (∀ (addr : Word) (port : BitVec 16) (bytes : List Byte) (ch : Nat) (y : Half), x.answers = true →
      x.bit Reg.MBX_CTRL 1 = true → x.conf.mp1Peers.contains addr = true → x.mp1Chan addr port = (some ch, y) →
      exec (.mp1Message h addr port bytes) s = .next (s.put h (y.mp1Take ch bytes))) ∧
    (∀ (addr : Word) (port : BitVec 16) (bytes : List Byte), x.bit Reg.MBX_CTRL 1 = false →
      exec (.mp1Message h addr port bytes) s = .next (s.put h (x))) ∧
    (∀ (ch tag : Nat) (c : Ctx), x.ctx ch tag = some c → c.fwd.isSome = true → c.expect.isNone = true →
      (x.bit Reg.SPAN_STAT 2 = true ∨ x.releaseHolds = true ∨ x.bit Reg.SPAN_STAT 0 = false) →
      exec (.peerCommandTimeout h ch tag) s = .next (s.put h ((x.leavePeer c).finish ch tag ST_TIMEOUT []))) ∧
    (∀ (ch tag : Nat) (c : Ctx), x.ctx ch tag = some c → c.started = true → c.done = none → c.op = 0x41 →
      c.expect.isSome = true → x.goneUs c.at_ 60000000 = true →
      exec (.commandTimeout h ch tag) s = .next (s.put h ((x.modCtx ch tag (fun d => { d with fwd := none, expect := none })).finish ch tag ST_TIMEOUT []))) ∧
    (∀ (ch tag : Nat) (c : Ctx), x.ctx ch tag = some c → c.started = true → c.done = none → c.op = 0x30 →
      c.num 0 2 ≠ x.conf.station → x.goneUs c.at_ 5000000 = true →
      exec (.commandTimeout h ch tag) s = .next (s.put h (x.finish ch tag ST_TIMEOUT [])))

/-- The end of a session (R283, R284, R292, R293, R297, R298); x is the half named. -/
def Obligations.SessionEndRowsComplete : Prop :=
  ∀ (s : State) (h : HalfId) (x : Half), s.half h = x → x.st ≠ .off →
    (∀ (y : Half), x.domainOn 1 = true → y = ((x.cancelAll 0).clearChan 0).setBit (Reg.MBX_CH_CTRL 0) 1 false →
      exec (.mbxChnCtrlReset h 0) s = .next (if (x.pendingHo true).isSome && y.role.ho.isNone then ((s.mod h fun _ => y).mod h.other Half.dropOffer) else (s.mod h fun _ => y))) ∧
    (∀ (ch : Nat) (y : Half), x.domainOn 1 = true → x.inSession ch = true → y = x.closeCh ch 0 →
      exec (.mbxChnCtrlReset h ch) s = .next (if (x.pendingHo true).isSome && y.role.ho.isNone then ((s.mod h fun _ => y).mod h.other Half.dropOffer) else (s.mod h fun _ => y))) ∧
    (∀ (ch : Nat) (y : Half), x.inSession ch = true → (x.chan ch).mp1 = false →
      y = (x.when (ch = 6 && x.domainOn 4) (·.usbCount Reg.USB_RXCNT)).dropCh ch 0 →
      exec (.closeSession h ch) s = .next (if (x.pendingHo true).isSome && y.role.ho.isNone then ((s.mod h fun _ => y).mod h.other Half.dropOffer) else (s.mod h fun _ => y))) ∧
    (∀ (ch : Nat) (y : Half), x.inSession ch = true → (x.chan ch).mp1 = true →
      x.goneUs (x.chan ch).lastHeard 30000000 = true → y = x.dropCh ch 7 →
      exec (.sessionTimeout h ch) s = .next (if (x.pendingHo true).isSome && y.role.ho.isNone then ((s.mod h fun _ => y).mod h.other Half.dropOffer) else (s.mod h fun _ => y))) ∧
    (∀ (ch : Nat) (y : Half), x.inSession ch = true → (x.chan ch).mp1 = false →
      x.goneUs (x.chan ch).lastHeard 10000000 = true → y = x.closeCh ch 7 →
      exec (.sessionTimeout h ch) s = .next (if (x.pendingHo true).isSome && y.role.ho.isNone then ((s.mod h fun _ => y).mod h.other Half.dropOffer) else (s.mod h fun _ => y))) ∧
    (∀ (y : Half), x.domainOn 4 = true → y = (x.setBit Reg.USB_STAT 0 false).setBit Reg.USB_STAT 1 false →
      y.inSession 6 = false →
      exec (.usbDisconnect h) s = .next (if (x.pendingHo true).isSome && y.role.ho.isNone then ((s.mod h fun _ => y).mod h.other Half.dropOffer) else (s.mod h fun _ => y))) ∧
    (∀ (z y : Half), x.domainOn 4 = true → z = (x.setBit Reg.USB_STAT 0 false).setBit Reg.USB_STAT 1 false →
      z.inSession 6 = true → y = z.dropCh 6 0 →
      exec (.usbDisconnect h) s = .next (if (x.pendingHo true).isSome && y.role.ho.isNone then ((s.mod h fun _ => y).mod h.other Half.dropOffer) else (s.mod h fun _ => y)))

/-- Object and task commands complete with the answers of their tables (R305 to R316); c is the context that the command starts with and y the half once it has started. -/
def Obligations.ObjectCommandRowsComplete : Prop :=
  ∀ (s : State) (h : HalfId) (x : Half), s.half h = x → x.st ≠ .off →
    (∀ (ch tag : Nat) (c : Ctx) (y : Half), x.Accepts ch tag 0x02 1 .either c → y = x.begun ch tag c →
      c.payload.length = 0 →
      exec (.identify h ch tag) s = .next (s.put h (y.reply c ST_OK (leNat 2 y.conf.station ++ leNat 1 (if y.id == .a then 0 else 1) ++
      leNat 1 s.stn.variantDx.toNat ++ leNat 1 y.st.code ++ leNat 1 y.partnerCode ++ leNat 2 y.boot.stateFormat.toNat ++
      leNat 4 y.boot.version.toNat ++ leNat 4 y.cfgCommit.toNat ++ leBytes 8 (Config.cartridgeSerial y.id) ++
      leBytes 8 s.stn.serial ++ leNat 4 y.opmin.toNat ++ leNat 4 y.pcyc.toNat ++ leNat 8 0)))) ∧
    (∀ (ch tag : Nat) (c : Ctx) (y : Half), x.Accepts ch tag 0x03 1 .either c → y = x.begun ch tag c →
      c.payload.length = 0 →
      exec (.sessionInfo h ch tag) s = .next (s.put h (y.reply c ST_OK (leNat 1 c.ch ++ leNat 1 c.gen ++ leNat 1 c.role ++ [0] ++ leNat 1 (y.ctxHeld c.ch) ++
      leNat 1 (y.mbx.subs.filter (fun b => b.ch == c.ch)).length ++ [0, 0] ++ leBytes 8 (y.chan c.ch).notAfter ++
      leBytes 8 (y.chan c.ch).serial)))) ∧
    (∀ (ch tag : Nat) (c : Ctx) (y : Half) (r : ObjRec), x.Accepts ch tag 0x10 1 .active c → y = x.begun ch tag c →
      c.payload.length = 4 → y.readObj (c.num 0 4) = some r →
      exec (.objRead h ch tag) s = .next (s.put h (y.reply c (staleStatus [r]) (recBytes r)))) ∧
    (∀ (ch tag : Nat) (c : Ctx) (y : Half) (r : List Byte) (z : Half), x.Accepts ch tag 0x11 2 .active c →
      y = x.begun ch tag c → c.payload.length = 16 → c.num 4 4 = 0 → (y.readObj (c.num 0 4)).isSome = true →
      (y.resetsHours (c.num 0 4) && c.role < 3) = false →
      y.writeObj (c.num 0 4) (BitVec.ofNat 64 (c.num 8 8)) = (ST_OK, r, z) →
      exec (.objWrite h ch tag) s = .next (s.put h (z.reply c ST_OK r))) ∧
    (∀ (ch tag : Nat) (c : Ctx) (y : Half) (ids : List Nat), x.Accepts ch tag 0x12 1 .active c →
      y = x.begun ch tag c → 1 ≤ c.num 0 1 → c.num 0 1 ≤ (if c.gen = 3 then 52 else 1) → c.num 1 3 = 0 →
      c.payload.length = 4 + 4 * c.num 0 1 → ids = (List.range (c.num 0 1)).map (fun i => c.num (4 + 4 * i) 4) →
      (ids.filterMap y.readObj).length = ids.length → ids.all (fun i => i / 8192 == ids.headD 0 / 8192) = true →
      exec (.objReadGroup h ch tag) s = .next (s.put h (y.reply c (staleStatus (ids.filterMap y.readObj)) ((ids.filterMap y.readObj).flatMap recBytes)))) ∧
    (∀ (ch tag : Nat) (c : Ctx) (y : Half) (ids : List Nat) (k : Nat) (sub : Machine.Sub), x.Accepts ch tag 0x13 1 .active c →
      y = x.begun ch tag c → 1 ≤ c.num 0 1 → c.num 0 1 ≤ 64 → c.num 1 1 = 0 → c.num 2 2 ≤ 60000 →
      c.num 4 4 = 0 → c.payload.length = 8 + 4 * c.num 0 1 →
      ids = (List.range (c.num 0 1)).map (fun i => c.num (8 + 4 * i) 4) →
      ids.all (fun i => (y.readObj i).isSome) = true →
      (List.range 256).find? (fun k => !(y.mbx.subs.any fun b => b.num == k)) = some k →
      (y.mbx.subs.filter (fun b => b.ch == c.ch)).length < 64 →
      sub = { num := k, ch := c.ch, minInterval := c.num 2 2, items := ids.map (fun i => { oid := BitVec.ofNat 32 i }) } →
      exec (.objSubscribe h ch tag) s = .next (s.put h ((({ y with mbx := { y.mbx with subs := y.mbx.subs ++ [sub] } } : Half).poolStatus).reply c ST_OK (leNat 4 k)))) ∧
    (∀ (ch tag : Nat) (c : Ctx) (y : Half), x.Accepts ch tag 0x14 1 .either c → y = x.begun ch tag c →
      c.payload.length = 4 → c.num 1 3 = 0 →
      y.mbx.subs.any (fun b => b.ch == c.ch && b.num == c.num 0 1) = true →
      exec (.objUnsubscribe h ch tag) s = .next (s.put h ((({ y with mbx := { y.mbx with subs := y.mbx.subs.filter (fun b => !(b.ch == c.ch && b.num == c.num 0 1)) } } : Half).poolStatus).reply c ST_OK []))) ∧
    (∀ (ch tag : Nat) (c : Ctx) (y : Half) (p : Nat) (k : PointCfg) (z : Half), x.Accepts ch tag 0x15 3 .active c →
      y = x.begun ch tag c → c.payload.length = 16 → c.num 4 1 = 1 →
      (c.num 5 1 = 0 ∨ c.num 5 1 = 1 ∨ c.num 5 1 = 3) → c.num 6 2 = 0 → (y.readObj (c.num 0 4)).isSome = true →
      y.ownPoint (c.num 0 4) = some p → y.pointCfg p = some k → k.writer ≠ .scruple →
      fillOk k.typ (BitVec.ofNat 64 (c.num 8 8)) = true → ((y.point p).force.isSome = true ∨ y.forces < 256) →
      z = y.setForce p (some { v := BitVec.ofNat 64 (c.num 8 8), q := BitVec.ofNat 8 (c.num 5 1 * 64 + 0x1A) }) →
      exec (.objForce h ch tag) s = .next (s.put h (z.reply c ST_OK (recBytes (z.pointRec p))))) ∧
    (∀ (ch tag : Nat) (c : Ctx) (y : Half) (p : Nat) (k : PointCfg) (z : Half), x.Accepts ch tag 0x15 3 .active c →
      y = x.begun ch tag c → c.payload.length = 16 → c.num 4 1 = 0 →
      (c.num 5 1 = 0 ∨ c.num 5 1 = 1 ∨ c.num 5 1 = 3) → c.num 6 2 = 0 → (y.readObj (c.num 0 4)).isSome = true →
      y.ownPoint (c.num 0 4) = some p → y.pointCfg p = some k → k.writer ≠ .scruple →
      z = (if (y.point p).force.isSome then y.setForce p none else y) →
      exec (.objForce h ch tag) s = .next (s.put h (z.reply c ST_OK (recBytes (z.pointRec p))))) ∧
    (∀ (ch tag : Nat) (c : Ctx) (y : Half) (k : TaskCfg), x.Accepts ch tag 0x20 1 .either c → y = x.begun ch tag c →
      c.payload.length = 4 → c.num 1 1 = 0 → c.num 2 2 = 0 → taskIn y.conf (c.num 0 1) = some k →
      exec (.taskState h ch tag) s = .next (s.put h (y.reply c ST_OK (y.taskReply (c.num 0 1))))) ∧
    (∀ (ch tag : Nat) (c : Ctx) (y : Half) (k : TaskCfg), x.Accepts ch tag 0x20 3 .active c → y = x.begun ch tag c →
      c.payload.length = 4 → c.num 1 1 = 1 → c.num 2 2 = 0 → taskIn y.conf (c.num 0 1) = some k →
      k.event = false → (y.tsk (c.num 0 1)).state = .stopped →
      exec (.taskState h ch tag) s = .next (s.put h (y.modTsk (c.num 0 1) fun e => { e with startDue := true, startCmd := e.startCmd ++ [c.ref] }))) ∧
    (∀ (ch tag : Nat) (c : Ctx) (y : Half) (k : TaskCfg), x.Accepts ch tag 0x20 3 .active c → y = x.begun ch tag c →
      c.payload.length = 4 → c.num 1 1 = 2 → c.num 2 2 = 0 → taskIn y.conf (c.num 0 1) = some k →
      (y.tsk (c.num 0 1)).state = .running →
      exec (.taskState h ch tag) s = .next (s.put h (y.modTsk (c.num 0 1) fun e => { e with stopDue := true, stopCmd := e.stopCmd ++ [c.ref] }))) ∧
    (∀ (ch tag : Nat) (c : Ctx) (y : Half) (k : TaskCfg) (e : TaskStats), x.Accepts ch tag 0x21 1 .active c →
      y = x.begun ch tag c → c.payload.length = 4 → c.num 1 1 = 0 → c.num 2 2 = 0 →
      taskIn y.conf (c.num 0 1) = some k → e = (y.tsk (c.num 0 1)).stats →
      exec (.taskStats h ch tag) s = .next (s.put h (y.reply c ST_OK (leNat 4 e.cycles.toNat ++ leNat 4 e.skips.toNat ++ leNat 4 e.merged.toNat ++
      leNat 4 e.execLast.toNat ++ leNat 4 e.execMax.toNat ++ leNat 4 e.startDelayMax.toNat ++ leNat 1 e.consec.toNat ++
      leNat 1 e.ovf.toNat ++ [0, 0]))))

/-- Configuration, firmware and role commands do what their tables say (R317 to R325); c is the context that the command starts with and y the half once it has started. -/
def Obligations.ConfigurationCommandRowsComplete : Prop :=
  ∀ (s : State) (h : HalfId) (x : Half), s.half h = x → x.st ≠ .off →
    (∀ (ch tag : Nat) (c : Ctx) (y : Half), x.Accepts ch tag 0x30 3 .config c → y = x.begun ch tag c →
      stageLen 0x8000000 c = true → (y.cfg.cur = none ∨ c.num 0 2 = y.conf.station) →
      exec (.cfgStage h ch tag none) s = .next (s.put h (y.stageHere c))) ∧
    (∀ (ch tag : Nat) (c : Ctx) (y : Half) (sl : CfgSlot) (new : StationCfg) (f : Nat × Nat), x.Accepts ch tag 0x31 3 .config c →
      y = x.begun ch tag c → c.payload.length = 0 → sl = y.cfgSlot y.otherCfg → sl.bytes.isEmpty = false →
      sl.wasCurrent = false → sl.cfg = some new → f = lowestFail (y.failures y.conf new) →
      exec (.cfgVerify h ch tag) s = .next (s.put h ((y.setCfgSlot y.otherCfg { sl with verified := f.1 = 0 }).reply c (failStatus f.1) (verifyReply y.conf new f c.gen)))) ∧
    (∀ (ch tag : Nat) (c : Ctx) (y : Half) (sl : CfgSlot), x.Accepts ch tag 0x32 3 .config c →
      y = x.begun ch tag c → c.payload.length = 0 → sl = y.cfgSlot y.otherCfg → sl.verified = true →
      sl.complete = true → y.role.ho = none → y.cfg.pend = none →
      exec (.cfgCommit h ch tag) s = .next (s.put h (((y.setCfgSlot y.otherCfg { sl with verified := false, commit := y.nextCommit }).sendCfg (.commit y.nextCommit)).startSwitch false c.ref y.otherCfg (affectedMask y.conf (sl.cfg.getD {}))))) ∧
    (∀ (ch tag : Nat) (c : Ctx) (y : Half) (k : Nat) (sl : CfgSlot) (z w : Half), x.Accepts ch tag 0x33 3 .config c →
      y = x.begun ch tag c → c.payload.length = 0 → y.rollbackSlot = some k → sl = y.cfgSlot k →
      y.editOn = true →
      z = (y.finishCmd (y.cfg.pend.bind (·.cmd)) ST_ABORTED []).setCfgSlot k { sl with commit := y.nextCommit } →
      w = z.setCfgSlot z.otherCfg { z.cfgSlot z.otherCfg with verified := false } →
      exec (.cfgRollback h ch tag) s = .next (s.put h ((w.sendCfg (.rollback y.nextCommit)).startSwitch true c.ref k (affectedMask y.conf (sl.cfg.getD {}))))) ∧
    (∀ (ch tag : Nat) (c : Ctx) (y : Half) (sig : Bool), x.Accepts ch tag 0x40 4 .either c → y = x.begun ch tag c →
      stageLen 0x4000000 c = true → c.num 0 1 < 2 → c.num 1 1 = 0 → y.named c = true →
      exec (.fwStage h ch tag sig) s = .next (s.put h (y.stageFw c sig))) ∧
    (∀ (ch tag : Nat) (c : Ctx) (y : Half) (sig : Bool), x.Accepts ch tag 0x40 4 .either c → y = x.begun ch tag c →
      stageLen 0x4000000 c = true → c.num 0 1 < 2 → c.num 1 1 = 0 → y.named c = false →
      exec (.fwStage h ch tag sig) s = .next (s.put h (y.forward c))) ∧
    (∀ (ch tag : Nat) (c : Ctx) (y : Half) (at_ : DWord) (i : Image), x.Accepts ch tag 0x41 4 .either c →
      y = x.begun ch tag c → c.payload.length = 4 → c.num 0 1 < 2 → c.num 1 1 < 2 → c.num 2 2 = 0 →
      y.named c = true → x.named c = true → y.st = .standby → x.st = .standby →
      (y.fwSlot y.otherFw).image = some i → (x.fwSlot x.otherFw).image = some i → x.peer = none →
      y.peer = none → (y.restartInto y.otherFw).role.ho = none → ch ≠ 7 →
      exec (.fwActivate h ch tag at_) s = .next (s.put h (y.restartInto y.otherFw))) ∧
    (∀ (ch tag : Nat) (c : Ctx) (y : Half) (flags : Nat), x.Accepts ch tag 0x50 1 .either c → y = x.begun ch tag c →
      c.payload.length = 0 →
      flags = y.role.synced.toNat + 2 * y.role.armed.toNat + 4 * y.role.released.toNat + 8 * y.role.claimLine.toNat + 16 * y.partnerPresent.toNat + 32 * (y.bit Reg.FC_STAT 2).toNat + 64 * y.role.ho.isSome.toNat →
      exec (.roleQuery h ch tag) s = .next (s.put h (y.reply c ST_OK (leNat 1 (if y.id == .a then 0 else 1) ++ leNat 1 y.st.code ++ leNat 1 y.partnerCode ++ [0] ++
      leNat 4 flags ++ leNat 4 ((y.role.nextSwap.toNat - y.mono.toNat) / 1000000000) ++ leNat 4 0 ++
      leBytes 8 y.role.lastHandover ++ leNat 4 y.role.handovers.toNat)))) ∧
    (∀ (ch tag : Nat) (c : Ctx) (y : Half) (at_ : DWord) (z : Half), x.Accepts ch tag 0x51 3 .active c →
      y = x.begun ch tag c → c.payload.length = 0 → x.role.ho = none → y.role.claimLine = false →
      y.cfg.pend = none → y.mayOffer = true → z = y.offers (y.newOffer .roleSwap at_) (some c.ref) →
      z.role.ho = some (y.newOffer .roleSwap at_) →
      exec (.roleSwap h ch tag at_) s = .next ((s.put h z).mod h.other fun p => p.offered (y.newOffer .roleSwap at_) (z.span.nextItem - 1))) ∧
    (∀ (ch tag : Nat) (c : Ctx) (y : Half) (at_ : DWord) (z : Half), x.Accepts ch tag 0x52 3 .active c →
      y = x.begun ch tag c → c.payload.length = 0 → x.role.ho = none → y.role.claimLine = false →
      y.cfg.pend = none → y.mayOffer = true → z = y.offers (y.newOffer .halfRelease at_) (some c.ref) →
      z.role.ho = some (y.newOffer .halfRelease at_) →
      exec (.halfRelease h ch tag at_) s = .next ((s.put h z).mod h.other fun p => p.offered (y.newOffer .halfRelease at_) (z.span.nextItem - 1)))

/-- Fault, recorder, chain, time, display, League and safety commands do what their tables say (R326 to R337); c is the context that the command starts with and y the half once it has started. -/
def Obligations.ServiceCommandRowsComplete : Prop :=
  ∀ (s : State) (h : HalfId) (x : Half), s.half h = x → x.st ≠ .off →
    (∀ (ch tag : Nat) (c : Ctx) (y : Half), x.Accepts ch tag 0x60 1 .either c → y = x.begun ch tag c →
      c.payload.length = 4 → c.num 0 1 = 0 → c.num 2 2 = 0 →
      exec (.faultQuery h ch tag) s = .next (s.put h (y.reply c ST_OK (leNat 4 (y.rd Reg.FC_STAT).toNat ++ y.words4 (Reg.FC_ACTIVE 0) ++ y.words4 (Reg.FC_PEND 0) ++ y.words4 (Reg.FC_HELD 0))))) ∧
    (∀ (ch tag : Nat) (c : Ctx) (y : Half) (i : Nat), x.Accepts ch tag 0x60 1 .either c → y = x.begun ch tag c →
      c.payload.length = 4 → c.num 0 1 = 1 → c.num 2 2 = 0 → c.num 1 1 < 12 → i = c.num 1 1 →
      exec (.faultQuery h ch tag) s = .next (s.put h (y.reply c ST_OK (leNat 4 (y.rd (Reg.FC_CLASS_CFG i)).toNat ++ leNat 4 (y.rd (Reg.FC_CLASS_REC i)).toNat ++ leNat 4 (y.stamp i 0) ++ leNat 4 (y.stamp i 1))))) ∧
    (∀ (ch tag : Nat) (c : Ctx) (y : Half) (i : Nat), x.Accepts ch tag 0x60 1 .either c → y = x.begun ch tag c →
      c.payload.length = 4 → c.num 0 1 = 2 → c.num 2 2 = 0 → c.num 1 1 < 128 → i = c.num 1 1 →
      exec (.faultQuery h ch tag) s = .next (s.put h (y.reply c ST_OK (leNat 4 (y.rd (Reg.FC_SRC_CFG i)).toNat ++ leNat 4 ((y.srcBit (Reg.FC_ACTIVE 0) i).toNat +
      2 * (y.srcBit (Reg.FC_PEND 0) i).toNat + 4 * (y.srcBit (Reg.FC_HELD 0) i).toNat +
      8 * (y.srcBit (Reg.FC_INVALID 0) i).toNat + 16 * (y.srcBit (Reg.FC_INHIB 0) i).toNat))))) ∧
    (∀ (ch tag : Nat) (c : Ctx) (y : Half) (z : Half), x.Accepts ch tag 0x61 4 .either c → y = x.begun ch tag c →
      c.payload.length = 4 → c.num 0 1 = 1 → c.num 1 3 = 0 → z = y.clearLatch → z.st ≠ .latched →
      exec (.faultAck h ch tag) s = .next (s.put h (z.reply c ST_OK (leNat 4 z.st.code)))) ∧
    (∀ (ch tag : Nat) (c : Ctx) (y : Half) (z : Half), x.Accepts ch tag 0x61 4 .either c → y = x.begun ch tag c →
      c.payload.length = 4 → c.num 0 1 = 1 → c.num 1 3 = 0 → z = y.clearLatch → z.st = .latched →
      exec (.faultAck h ch tag) s = .next (s.put h ((z.reply c ST_OK (leNat 4 HState.native.code)).leaveLatched))) ∧
    (∀ (ch tag : Nat) (c : Ctx) (y : Half) (z : Half), x.Accepts ch tag 0x61 4 .either c → y = x.begun ch tag c →
      c.payload.length = 4 → c.num 0 1 = 2 → c.num 1 3 = 0 →
      z = (y.heldSources.foldl (fun (z : Half) src => z.setSrc (Reg.FC_HELD 0) src false) y).fcStatus →
      exec (.faultAck h ch tag) s = .next (s.put h (z.reply c ST_OK (leNat 4 z.st.code)))) ∧
    (∀ (ch tag : Nat) (c : Ctx) (y : Half) (z : Half), x.Accepts ch tag 0x62 4 .standby c → y = x.begun ch tag c →
      c.payload.length = 4 → c.num 0 1 < 128 → c.num 1 3 = 0 →
      z = (((y.clrReg Reg.FC_INJ_STAT 3).setFld Reg.FC_CTRL 2 1 1).inject (c.num 0 1)).setFld Reg.FC_CTRL 2 1 (y.fld Reg.FC_CTRL 2 1) →
      z.bit Reg.FC_INJ_STAT 1 = false →
      exec (.faultInject h ch tag) s = .next (s.put h (z.reply c ST_OK (leNat 1 (z.fld Reg.FC_INJ_STAT 3 2) ++ leNat 1 (z.fld Reg.FC_INJ_STAT 4 4) ++ [0, 0])))) ∧
    (∀ (ch tag : Nat) (c : Ctx) (y : Half) (q : Bool) (e : EvrSlot) (bs d : List Byte), x.Accepts ch tag 0x70 1 .either c →
      y = x.begun ch tag c → c.payload.length = 8 → c.num 0 2 < 16384 → c.num 2 2 = 0 → c.num 6 2 = 0 →
      (y.evrKind (c.num 0 2)).1 ≠ 0 → y.evr.newest (c.num 0 2) = some (q, e) → bs = evrBytes (c.num 0 2) e →
      d = (bs.drop (c.num 4 2)).take (if c.gen = 3 then 1652 else 40) →
      exec (.recSnapshot h ch tag) s = .next (s.put h (y.reply c ST_OK (leNat 2 (c.num 0 2) ++ leNat 1 e.rec_.kind ++
      leNat 1 (if c.num 4 2 + d.length < bs.length then 1 else 0) ++ leNat 4 e.seq.toNat ++ leNat 2 (c.num 4 2) ++
      leNat 2 d.length ++ d)))) ∧
    (∀ (ch tag : Nat) (c : Ctx) (y : Half) (n : Nat), x.Accepts ch tag 0x71 1 .either c → y = x.begun ch tag c →
      c.payload.length = 4 → 1 ≤ c.num 2 2 → c.num 2 2 ≤ (if c.gen = 3 then 830 else 24) → c.num 0 2 < 16384 →
      n = min (c.num 2 2) (16384 - c.num 0 2) →
      exec (.recList h ch tag) s = .next (s.put h (y.reply c ST_OK (leNat 2 (c.num 0 2) ++ leNat 2 n ++ (List.range n).flatMap (fun i =>
      leNat 2 ((y.evrKind (c.num 0 2 + i)).1 + 4 * (y.evrLive (c.num 0 2 + i)).ovf.toNat)))))) ∧
    (∀ (ch tag : Nat) (c : Ctx) (y : Half), x.Accepts ch tag 0x80 3 .active c → y = x.begun ch tag c →
      chainWriteLen c = true → (y.chainSt (c.num 0 1)).present = true →
      exec (.ceChainWrite h ch tag) s = .next (s.put h (y.chainWrite c))) ∧
    (∀ (ch tag : Nat) (c : Ctx) (y : Half), x.Accepts ch tag 0x81 3 .active c → y = x.begun ch tag c →
      c.payload.length = 4 → c.num 1 1 < 2 → c.num 2 1 < 2 → c.num 3 1 = 0 →
      (y.chainSt (c.num 0 1)).present = true → y.instWrites 0x0802 (c.num 0 1) = false →
      exec (.ceCoefSwap h ch tag) s = .next (s.put h ((y.requestSwap (c.num 0 1) { bankB := c.num 1 1 = 1, bumpless := c.num 2 1 = 1, cmd := some c.ref }).forwardCe (.swap (c.num 0 1) (c.num 1 1 = 1) (c.num 2 1 = 1))))) ∧
    (∀ (ch tag : Nat) (c : Ctx) (y : Half) (v : ChainView) (per : Nat × Nat), x.Accepts ch tag 0x82 3 .active c →
      y = x.begun ch tag c → injectLen c = true → y.liveViews.find? (fun v => v.c == c.num 3 1) = some v →
      c.num 0 1 < 4 → per = y.livePeriod v → freqOk per (BitVec.ofNat 32 (c.num 12 4)) = true →
      freqOk per (BitVec.ofNat 32 (c.num 16 4)) = true → c.num 20 4 ≠ 0 →
      (List.range 4).all (fun k => y.tgState k == 0) = true → (y.chainSt (c.num 3 1)).mode = .run →
      c.num 33 1 = 0 →
      exec (.ceInject h ch tag) s = .next (s.put h ((y.tgSet c (c.num 0 1)).tgStarted (c.num 0 1) 0 (some c.ref)))) ∧
    (∀ (ch tag : Nat) (c : Ctx) (y : Half) (z : Half), x.Accepts ch tag 0x83 3 .active c → y = x.begun ch tag c →
      traceLen c = true → c.num 0 1 < 8 → y.instWrites 0x0808 (c.num 0 1) = false →
      y.hostTrace (c.num 0 1) = true → c.num 1 1 = 1 → c.num 10 2 < c.num 12 4 →
      z = (y.tcSet c (c.num 0 1)).tcArmed (c.num 0 1) →
      exec (.ceTraceArm h ch tag) s = .next (s.put h (z.reply c ST_OK (leNat 4 (z.tcState (c.num 0 1)))))) ∧
    (∀ (ch tag : Nat) (c : Ctx) (y : Half) (z : Half), x.Accepts ch tag 0x83 3 .active c → y = x.begun ch tag c →
      traceLen c = true → c.num 0 1 < 8 → y.instWrites 0x0808 (c.num 0 1) = false → c.num 1 1 = 3 →
      z = y.tcStopped (c.num 0 1) →
      exec (.ceTraceArm h ch tag) s = .next (s.put h (z.reply c ST_OK (leNat 4 (z.tcState (c.num 0 1)))))) ∧
    (∀ (ch tag : Nat) (c : Ctx) (y : Half) (t : Nat), x.Accepts ch tag 0x84 1 .active c → y = x.begun ch tag c →
      c.payload.length = 8 → c.num 1 1 = 0 → c.num 0 1 < 8 → y.tcState (c.num 0 1) = 4 → c.num 2 2 = 0 →
      t = c.num 0 1 →
      exec (.ceTraceRead h ch tag) s = .next (s.put h (y.reply c ST_OK (leNat 1 t ++ leNat 1 (y.fld (Reg.TC_STAT t) 7 0) ++ leNat 2 0 ++ leNat 4 (c.num 4 4) ++
      leNat 4 (y.rd (Reg.TC_T_REF_LO t)).toNat ++ leNat 4 (y.rd (Reg.TC_T_REF_HI t)).toNat ++
      leNat 4 (y.rd (Reg.TC_COUNT t)).toNat ++ leNat 4 (y.rd (Reg.TC_OLDEST t)).toNat)))) ∧
    (∀ (ch tag : Nat) (c : Ctx) (y : Half), x.Accepts ch tag 0x90 1 .either c → y = x.begun ch tag c →
      c.payload.length = 0 →
      exec (.timeGet h ch tag) s = .next (s.put h (y.reply c ST_OK (leBytes 8 y.now ++ leBytes 8 y.mono ++ leNat 1 y.ts.source ++ leNat 1 (y.fld Reg.TS_STAT 2 1) ++
      leNat 1 y.virt.toNat ++ [0] ++ leBytes 4 (BitVec.ofInt 64 y.shownOffset) ++ leNat 4 0)))) ∧
    (∀ (ch tag : Nat) (c : Ctx) (y : Half), x.Accepts ch tag 0x91 3 .active c → y = x.begun ch tag c →
      c.payload.length = 16 → c.num 0 1 = 0 → c.num 1 1 < 4 → c.num 2 6 = 0 →
      exec (.timeSource h ch tag) s = .next (s.put h (y.reply c ST_OK (leNat 4 y.ts.source)))) ∧
    (∀ (ch tag : Nat) (c : Ctx) (y : Half) (z : Half), x.Accepts ch tag 0x91 3 .active c → y = x.begun ch tag c →
      c.payload.length = 16 → c.num 0 1 = 1 → c.num 1 1 < 4 → c.num 2 6 = 0 →
      z = ({ y with ts := { y.ts with selected := some (c.num 1 1) } } : Half).selectSource (c.num 1 1) →
      exec (.timeSource h ch tag) s = .next (s.put h (z.reply c ST_OK (leNat 4 z.ts.source)))) ∧
    (∀ (ch tag : Nat) (c : Ctx) (y : Half) (z : Half), x.Accepts ch tag 0x91 3 .active c → y = x.begun ch tag c →
      c.payload.length = 16 → c.num 0 1 = 2 → c.num 1 1 < 4 → c.num 2 6 = 0 → y.ts.source = 0 →
      z = (y.phaseStep (BitVec.ofNat 64 (c.num 8 8) - y.now)).setBit Reg.TS_STAT 0 true →
      exec (.timeSource h ch tag) s = .next (s.put h (z.reply c ST_OK (leNat 4 z.ts.source)))) ∧
    (∀ (ch tag : Nat) (c : Ctx) (y : Half) (v : DWord) (z : Half), x.Accepts ch tag 0xA0 2 .active c →
      y = x.begun ch tag c → dispLen c = true → y.dspPresent = true → c.num 0 1 = 1 →
      (y.stagePixels c).free = (v, z) →
      exec (.dispUpdate h ch tag) s = .next (s.put h (z.reply c ST_OK (leNat 1 v.toNat ++ leNat 1 z.pendingSlots.length ++ [0, 0])))) ∧
    (∀ (ch tag : Nat) (c : Ctx) (y : Half), x.Accepts ch tag 0xA0 2 .active c → y = x.begun ch tag c →
      dispLen c = true → y.dspPresent = true → c.num 0 1 = 2 →
      exec (.dispUpdate h ch tag) s = .next (s.put h (y.beginRegion c { x := c.num 2 2, y := c.num 4 2, w := c.num 6 2, h := c.num 8 2, mode := c.num 1 1 }
      ((List.range (c.num 6 2 * c.num 8 2)).map (fun i => newLevel (c.num 1 1) (y.stagedLevel i)))))) ∧
    (∀ (ch tag : Nat) (c : Ctx) (y : Half), x.Accepts ch tag 0xA1 1 .either c → y = x.begun ch tag c →
      c.payload.length = 0 →
      exec (.dispStatus h ch tag) s = .next (s.put h (y.reply c ST_OK (leNat 1 (y.fld Reg.DSP_STAT 2 0) ++ leNat 1 y.pendingSlots.length ++
      leNat 1 (y.fld Reg.DSP_STAT 15 13) ++ leNat 1 (y.fld Reg.DSP_VCOM 7 0) ++ leNat 2 y.dsp.page.toNat ++ [0, 0] ++
      leNat 4 (y.rd Reg.DSP_UPD).toNat ++ leNat 4 (y.rd Reg.DSP_SMAX).toNat)))) ∧
    (∀ (ch tag : Nat) (c : Ctx) (y : Half), x.Accepts ch tag 0xB0 3 .active c → y = x.begun ch tag c →
      c.payload.length = 0 → y.conf.manager = false →
      exec (.leagueJoin h ch tag) s = .next (s.put h ({ y.sendJoin with obj := { y.sendJoin.obj with joined := false, joinCmd := some c.ref } }))) ∧
    (∀ (ch tag : Nat) (c : Ctx) (y : Half) (o : ObjBlk), x.Accepts ch tag 0xB1 1 .active c → y = x.begun ch tag c →
      c.payload.length = 8 → c.num 0 1 = 0 → c.num 1 1 = 0 → 1 ≤ c.num 4 2 →
      c.num 4 2 ≤ (if c.gen = 3 then 830 else 24) → c.num 6 2 = 0 → o = y.obj →
      exec (.leagueStatus h ch tag) s = .next (s.put h (y.reply c ST_OK (leNat 4 (y.conf.manager.toNat + 2 * o.managerLost.toNat + 4 * o.ovf.toNat) ++ leNat 4 o.epoch.toNat ++
      leNat 2 (o.stations.filter (fun e => e.2.present)).length ++ leNat 2 (o.stations.filter (fun e => e.2.mismatch)).length ++
      leNat 4 o.crcErr.toNat ++ leNat 4 o.ingestDrop.toNat ++ leNat 4 o.refreshFix.toNat ++ leNat 4 o.gaps.toNat ++
      leNat 4 y.ingestRate)))) ∧
    (∀ (ch tag : Nat) (c : Ctx) (y : Half) (n : Nat), x.Accepts ch tag 0xB1 1 .active c → y = x.begun ch tag c →
      c.payload.length = 8 → c.num 0 1 = 1 → c.num 1 1 = 0 → 1 ≤ c.num 4 2 →
      c.num 4 2 ≤ (if c.gen = 3 then 830 else 24) → c.num 6 2 = 0 → y.conf.manager = true → c.num 2 2 < 4096 →
      n = min (c.num 4 2) (4096 - c.num 2 2) →
      exec (.leagueStatus h ch tag) s = .next (s.put h (y.reply c ST_OK (leNat 2 (c.num 2 2) ++ leNat 2 n ++ (List.range n).flatMap (fun i =>
      leNat 2 ((y.station (c.num 2 2 + i)).present.toNat + 2 * (y.station (c.num 2 2 + i)).lost.toNat +
        4 * (y.station (c.num 2 2 + i)).mismatch.toNat + 8 * (y.station (c.num 2 2 + i)).actA.toNat +
        16 * (y.station (c.num 2 2 + i)).actB.toNat)))))) ∧
    (∀ (ch tag : Nat) (c : Ctx) (y : Half), x.Accepts ch tag 0xC0 1 .either c → y = x.begun ch tag c →
      c.payload.length = 4 → c.num 0 1 < 32 → 1 ≤ c.num 1 1 → c.num 1 1 ≤ (if c.gen = 3 then 32 else 13) →
      c.num 2 2 = 0 →
      exec (.safetyStatus h ch tag) s = .next (s.put h (y.reply c ST_OK ((List.range (c.num 1 1)).flatMap (fun i => leNat 4 (y.rd (0x30070000 + 4 * (c.num 0 1 + i))).toNat)))))

/-- Each row of station time and PTP changes the half as its rule says (R382 to R406). -/
def Obligations.TimeRowsComplete : Prop :=
  ∀ (s : State) (h : HalfId) (x : Half), s.half h = x → x.st ≠ .off →
    (x.bit Reg.TS_CTRL 2 = true → exec (.tsSrvGo h) s = .next (s.put h (x.applyOffset x.srvOfs true false))) ∧
    (x.bit Reg.TS_CTRL 2 = true → exec (.tsSrvStep h) s = .next (s.put h (x.applyOffset x.srvOfs true true))) ∧
    (exec (.tsMonoRead h) s = .next (s.put h ({ (((x.wr Reg.TS_STN (x.now.setWidth 32)).wr Reg.TS_ACC_LO (x.ts.acc.setWidth 32)).wr
      Reg.TS_ACC_HI ((x.ts.acc >>> 32).setWidth 32)).wr Reg.TS_RAW (x.ts.tick.setWidth 32) with rdata := x.mono.setWidth 32 }))) ∧
    (x.bit Reg.TS_CTRL 0 = true → x.onMultiple x.mono 4294967296 = true →
      exec (.monoWrap h) s = .next (s.put h (x.tsIrq 0))) ∧
    (x.bit Reg.TS_CTRL 0 = true → x.onMultiple x.now 4294967296 = true →
      exec (.stationWrap h) s = .next (s.put h (x.tsIrq 1))) ∧
    (x.bit Reg.TS_CTRL 0 = true → x.onMultiple x.now 1000000000 = true →
      exec (.stationSecond h) s = .next (s.put h (x.tsIrq 4))) ∧
    ((x.fld Reg.TS_STAT 2 1 = 1 ∨ x.fld Reg.TS_STAT 2 1 = 2) →
      x.goneUs x.ts.lastOfs (if x.ts.source = 4 then 3000 else 375000) = true →
      exec (.servoHoldover h) s = .next (s.put h ((x.setServo 3).servoRate 0 false))) ∧
    (∀ (y : Half), x.due .saveTime 60000000 = true → y = x.ran .saveTime →
      exec (.stationTimeSave h) s = .next (s.put h ({ y with sys := { y.sys with mramTime := y.now } }))) ∧
    (∀ (port : Nat) (m : PtpSync), x.fromMaster port m.domain m.master = true → m.twoStep = true →
      exec (.sync h port m) s = .next (s.put h (x.modPort port fun q => { q with waitFollow := some m }))) ∧
    (∀ (port : Nat) (m : PtpSync), x.fromMaster port m.domain m.master = true → m.twoStep = false →
      exec (.sync h port m) s = .next (s.put h (x.takeSync port m))) ∧
    (∀ (port : Nat) (m w : PtpSync), x.fromMaster port m.domain m.master = true →
      (x.port port).waitFollow = some w → w.seq = m.seq →
      exec (.followUp h port m) s = .next (s.put h (x.takeSync port { w with origin := m.origin, correction := w.correction + m.correction }))) ∧
    (∀ (port : Nat) (m : PtpDelayReq), m.domain = 24 → x.masterPort port = true →
      exec (.delayReq h port m) s = .next (s.put h (x.send (.ptpDelayResp port ((m.rx.toNat : Int) * 10 - x.rxLatency port * 10 / 65536) m.requester m.seq m.correction)))) ∧
    (∀ (port : Nat) (m : PtpDelayResp) (sy : PtpSync) (seq : BitVec 16) (t3 : DWord) (sm : Int), x.fromMaster port m.domain m.master = true →
      (x.port port).lastSync = some sy → (x.port port).req = some (seq, t3) → m.seq = seq →
      sm = ((m.t4 - t3).toInt) * 65536 - m.correction.toInt →
      exec (.delayResp h port m) s = .next (s.put h ((x.modPort port (fun q => { q with delays := ((x.syncDelta port sy + sm) / 2 :: q.delays).take 16, req := none })).portOffset port))) ∧
    (∀ (port : Nat) (m : PtpAnnounce), m.domain = 24 → x.domainOn 4 = true → x.slavePort port = true →
      exec (.announce h port m) s = .next (s.put h ((x.modPort port (fun q => { q with foreign := (q.foreign.filter fun a => a.1.sender != m.sender) ++ [(m, x.mono)] })).evalMaster port))) ∧
    (∀ (port : Nat) (y : Half), x.sendDue port .sync = true → x.masterPort port = true →
      y = x.modPort port (fun q => { q with sentAt := (q.sentAt.filter fun e => e.1 != .sync) ++ [(.sync, x.mono)] }) →
      exec (.ptpMessageSend h port .sync) s = .next (s.put h (y.modPort port fun q => { q with queued := some (.sync, x.now) }))) ∧
    (∀ (port : Nat) (y : Half), x.sendDue port .delayReq = true → x.slavePort port = true →
      (x.port port).master.isSome = true →
      y = x.modPort port (fun q => { q with sentAt := (q.sentAt.filter fun e => e.1 != .delayReq) ++ [(.delayReq, x.mono)] }) →
      exec (.ptpMessageSend h port .delayReq) s = .next (s.put h (y.modPort port fun q => { q with queued := some (.delayReq, x.now) }))) ∧
    (∀ (port : Nat) (y : Half), x.sendDue port .announce = true → x.masterPort port = true →
      y = x.modPort port (fun q => { q with sentAt := (q.sentAt.filter fun e => e.1 != .announce) ++ [(.announce, x.mono)] }) →
      exec (.ptpMessageSend h port .announce) s = .next (s.put h (y.send (.ptpAnnounce port x.sentAnnounce)))) ∧
    (∀ (port : Nat) (kind : PtpKind) (t : DWord) (d : Int) (y z : Half), (x.port port).queued = some (kind, t) →
      d = (x.now - t).toInt * 10 + x.txLatency port → 0 ≤ d → d ≤ 10000000 →
      y = x.modPort port (fun q => { q with queued := none }) →
      z = (if kind == .delayReq then y.modPort port (fun q => { q with req := some (q.reqSeq, t), reqSeq := q.reqSeq + 1 }) else y) →
      exec (.ptpFrameDeparture h port kind) s = .next (s.put h (z.send (.ptp port kind t d)))) ∧
    (∀ (port : Nat) (kind : PtpKind) (t : DWord) (d : Int), (x.port port).queued = some (kind, t) →
      d = (x.now - t).toInt * 10 + x.txLatency port → (d < 0 ∨ 10000000 < d) →
      exec (.ptpFrameDeparture h port kind) s = .next (s.put h (((x.modPort port (fun q => { q with queued := none })).incSat Reg.TS_TX_LATE).tsIrq 6))) ∧
    (∀ (port : Nat) (a : PtpAnnounce), (x.port port).master = some a →
      ((x.port port).foreign.any fun b => b.1.sender == a.sender && !x.goneUs b.2 3000000) = false →
      exec (.announceReceiptTimeout h port) s = .next (s.put h ((x.modPort port (fun q => { q with foreign := q.foreign.filter fun b => b.1.sender != a.sender })).evalMaster port))) ∧
    (x.ts.source = 1 → x.goneUs (x.port x.selectedPort).syncAt 375000 = true →
      exec (.ptpPortSyncLoss h) s = .next (s.put h ({ x with ts := { x.ts with port := 1 - x.ts.port } }))) ∧
    (∀ (m : DWord), x.abDiffer = true → x.ts.abSince = some m → x.goneUs m 10000000 = true →
      exec (.abDis h) s = .next (s.put h (((x.setBit Reg.TS_STAT 5 true).tsIrq 7).when (!x.bit Reg.TS_STAT 5) (·.logEvt .abDisagree)))) ∧
    (∀ (i : Nat) (rising hns : Bool), x.bit Reg.TS_CTRL 0 = true → i < 4 → x.fld (Reg.FI_CFG i) 1 0 ≠ 0 →
      exec (.edgeCapture h i rising hns) s = .next (s.put h (x.capture i rising hns))) ∧
    (∀ (i : Nat) (rising hns : Bool), x.bit Reg.TS_CTRL 0 = true → 4 ≤ i → i < 20 →
      x.bit Reg.DI_MODE (i - 4) = true →
      exec (.edgeCapture h i rising hns) s = .next (s.put h ((x.capture i rising hns).diEdge x (i - 4) rising))) ∧
    (∀ (i : Nat), i < 20 →
      exec (.tsCapPop h i) s = .next (s.put h ({ x with ts := { x.ts with fifos := x.ts.fifos.upd [] i fun q => q.drop 1 } })))

/-- Each digital input and output row changes the half as its rule says (R343 to R357). -/
def Obligations.DigitalRowsComplete : Prop :=
  ∀ (s : State) (h : HalfId) (x : Half), s.half h = x → x.st ≠ .off →
    (∀ (levels : DWord) (sunk ok : Bool) (y : Half), x.domainOn 6 = true → x.timed = true →
      x.onMultiple x.mono 250000 = true → x.dio.sampled ≠ some (x.mono.toNat / 250000) →
      y = { x with dio := { x.dio with sampled := some (x.mono.toNat / 250000) } } →
      ok = (sunk && (y.role.drives || y.partnerClaim)) →
      exec (.diSample h levels sunk) s = .next (s.put h ((List.range 64).foldl (fun (y : Half) i => if ok || y.diCont i then y.diCount i (levels.getLsbD i) else y) y))) ∧
    (∀ (di : Nat), di < 64 → x.domainOn 6 = true → x.diN di ≤ x.dio.count.get 0 di →
      x.bit2 Reg.DI_LEVEL0 Reg.DI_LEVEL1 di = false →
      exec (.diFilterChange h di) s = .next (s.put h (x.diChange di true))) ∧
    (∀ (di : Nat), di < 64 → x.domainOn 6 = true → 0 < x.diN di → x.dio.count.get 0 di = 0 →
      x.bit2 Reg.DI_LEVEL0 Reg.DI_LEVEL1 di = true →
      exec (.diFilterChange h di) s = .next (s.put h (x.diChange di false))) ∧
    (∀ (di : Nat), x.diSinks di = true → exec (.diSink h di) s = .next (s.put h ((x.dioIrq 7).raise 78))) ∧
    (∀ (ch : Nat), ch < 32 → x.bit Reg.DO_ON ch = true →
      exec (.doLimit h ch) s = .next (s.put h (x.doCond Reg.DO_LIM ch 72))) ∧
    (∀ (ch : Nat), ch < 32 → x.domainOn 6 = true →
      exec (.doOvertemp h ch) s = .next (s.put h ((x.doCond Reg.DO_OT ch 73).doUpdate))) ∧
    (∀ (ch : Nat), ch < 32 → x.bit Reg.DO_OT ch = true →
      exec (.doOvertempClear h ch) s = .next (s.put h (((x.groupFree ch).setBit Reg.DO_OT ch false).doUpdate))) ∧
    (∀ (g n : Nat) (chs : List Nat), g < 2 → x.domainOn 6 = true →
      chs = (((List.range 16).map (fun i => 16 * g + 15 - i)).filter (x.bit Reg.DO_LIM)).take n →
      exec (.doGroup h g n) s = .next (s.put h (((({ x with dio := { x.dio with groupOff := x.dio.groupOff ++ chs.map (fun c => (c, x.mono)) } } : Half).setBit Reg.DO_GRP (30 + g) true).doUpdate.dioIrq 1).raise 76))) ∧
    (∀ (ch : Nat), (x.dio.groupOff.any fun e => e.1 == ch && x.goneUs e.2 100000 && !x.bit Reg.DO_OT (ch % 32)) = true →
      exec (.doGroupRestart h ch) s = .next (s.put h ((x.groupFree ch).doUpdate))) ∧
    (∀ (ch : Nat), x.doDiag ch = true → exec (.doOpenLoad h ch) s = .next (s.put h (x.doCond Reg.DO_OL ch 74))) ∧
    (∀ (ch : Nat), x.doDiag ch = true → exec (.doShort24v h ch) s = .next (s.put h (x.doCond Reg.DO_S24 ch 75))) ∧
    (∀ (ch : Nat), ch < 32 → x.domainOn 6 = true → (x.bit Reg.DO_ON ch && x.bit Reg.DO_LIM ch) = false →
      exec (.doStuck h ch) s = .next (s.put h (x.doCond Reg.DO_STUCK ch 77))) ∧
    (∀ (fi : Nat) (rising hns : Bool) (t : DWord), fi < 4 → x.domainOn 6 = true →
      (x.fld (Reg.FI_CFG fi) 1 0 = 1 ∨ x.fld (Reg.FI_CFG fi) 1 0 = 2) → t = x.now * 2 + (if hns then 1 else 0) →
      (x.fi fi).last.all (fun l => decide (16000 ≤ (t - l).toNat)) = true →
      exec (.fiEdge h fi rising hns) s = .next (s.put h (x.fiStamp fi t rising))) ∧
    (∀ (fi : Nat) (rising hns : Bool) (t l : DWord), fi < 4 → x.domainOn 6 = true →
      (x.fld (Reg.FI_CFG fi) 1 0 = 1 ∨ x.fld (Reg.FI_CFG fi) 1 0 = 2) → t = x.now * 2 + (if hns then 1 else 0) →
      (x.fi fi).last = some l → (t - l).toNat < 16000 →
      exec (.fiEdge h fi rising hns) s = .next (s.put h ((((x.incSat (Reg.FI_DROP fi)).setBit (Reg.FI_STAT fi) 1 true).dioIrq 6).raise 79))) ∧
    (∀ (fi d ppr : Nat) (t0 t1 : DWord) (rest : List DWord) (y : Half), fi < 4 → x.domainOn 6 = true →
      (x.fi fi).edges = t0 :: t1 :: rest → x.goneUs (x.fi fi).updAt 100 = true →
      y = { x with dio := { x.dio with fi := x.dio.fi.put fi { x.fi fi with updAt := x.mono } } } →
      d = (x.now * 2 - t0).toNat → (t0 - t1).toNat < d → ppr = x.fld (Reg.FI_CFG fi) 14 4 → ppr ≠ 0 →
      exec (.fiSpeedUpdate h fi) s = .next (s.put h (y.wr (Reg.FI_SPEED fi) (f32min (y.rd (Reg.FI_SPEED fi)) (fiRpm 1 ppr d))))) ∧
    (∀ (fi : Nat) (y : Half), fi < 4 → x.domainOn 6 = true →
      x.goneUs (x.fi fi).edgeAt (1000 * x.fld (Reg.FI_TZERO fi) 13 0) = true → y = x.wr (Reg.FI_SPEED fi) 0 →
      exec (.fiZero h fi) s = .next (s.put h (if y.bit (Reg.FI_STAT fi) 0 then y else (y.setBit (Reg.FI_STAT fi) 0 true).dioIrq (2 + fi))))

/-- Each current-loop row changes the half as its rule says (R369 to R380). -/
def Obligations.CurrentLoopRowsComplete : Prop :=
  ∀ (s : State) (h : HalfId) (x : Half), s.half h = x → x.st ≠ .off →
    (∀ (ai : Nat) (raw vs temp : F32) (supLim : Bool) (z : Half), ai < 32 → x.domainOn 7 = true →
      x.aiDue ai = true →
      z = x.modAi ai (fun k => { k with slot := some (x.mono.toNat / (1000000000 / aiRate (x.fld (Reg.AI_CFG ai) 3 2))) }) →
      z.bit (Reg.AI_CFG ai) 0 = false →
      exec (.aiConversion h ai raw vs supLim temp) s = .next (s.put h ((z.modAi ai fun k => { k with converted := false, settled := false }).aiShow ai))) ∧
    (∀ (ai : Nat) (raw vs temp : F32) (supLim : Bool) (z y : Half), ai < 32 → x.domainOn 7 = true →
      x.aiDue ai = true →
      z = x.modAi ai (fun k => { k with slot := some (x.mono.toNat / (1000000000 / aiRate (x.fld (Reg.AI_CFG ai) 3 2))) }) →
      z.bit (Reg.AI_CFG ai) 0 = true → ((z.ai ai).gap = 12 ∨ (z.ai ai).gap = 1) →
      y = (z.modAi ai (fun k => { k with gap := k.gap - 1 })).setBit (Reg.AI_STAT ai) 13 true →
      exec (.aiConversion h ai raw vs supLim temp) s = .next (s.put h (y.aiGap ai (z.ai ai).gap))) ∧
    (∀ (ai : Nat) (raw vs temp : F32) (supLim : Bool) (z y w : Half) (q : F32 × F32), ai < 32 →
      x.domainOn 7 = true → x.aiDue ai = true →
      z = x.modAi ai (fun k => { k with slot := some (x.mono.toNat / (1000000000 / aiRate (x.fld (Reg.AI_CFG ai) 3 2))) }) →
      z.bit (Reg.AI_CFG ai) 0 = true → (z.ai ai).gap ≠ 12 → (z.ai ai).gap ≠ 1 →
      y = (z.modAi ai (fun k => { k with gap := k.gap - 1 })).setBit (Reg.AI_STAT ai) 13 false →
      q = (y.aiCoeffs ai temp).1 → w = (y.aiCoeffs ai temp).2 →
      exec (.aiConversion h ai raw vs supLim temp) s = .next (s.put h (w.aiConvert ai (Config.aiCorrect raw q.1 q.2 (w.rd Reg.AI_SENSE)) vs supLim (w.aiCalAge ai temp)))) ∧
    (∀ (ai t : Nat), ai < 32 → (x.ai ai).converted = true → t = 1000 * x.fld (Reg.AI_CFG ai) 29 16 →
      (x.ai ai).band.natAbs = 2 → x.goneUs (x.ai ai).farAt t = true →
      exec (.aiBandQuality h ai) s = .next (s.put h (x.aiBand ai (x.ai ai).band))) ∧
    (∀ (ai t : Nat), ai < 32 → (x.ai ai).converted = true → t = 1000 * x.fld (Reg.AI_CFG ai) 29 16 →
      ((x.ai ai).band.natAbs = 2 ∧ x.goneUs (x.ai ai).farAt t = true) = False →
      x.goneUs (x.ai ai).sideAt t = true →
      exec (.aiBandQuality h ai) s = .next (s.put h (x.aiBand ai (x.ai ai).band.sign))) ∧
    (∀ (ai : Nat), ai < 32 → (x.ai ai).cond = true → x.isActive = true → x.bit (Reg.AI_STAT ai) 11 = false →
      x.goneUs (x.ai ai).condAt 100000 = true →
      exec (.aiComply h ai) s = .next (s.put h (((x.setBit (Reg.AI_STAT ai) 11 true).aiShow ai).raise 81))) ∧
    (∀ (ai : Nat), ai < 32 → x.domainOn 7 = true → (x.ai ai).cond = false →
      x.goneUs (x.ai ai).condAt 1000000 = true →
      exec (.aiComplyEnd h ai) s = .next (s.put h ((x.setBit (Reg.AI_STAT ai) 11 false).aiShow ai))) ∧
    (∀ (ai bin : Nat) (o g voc ratio : F32) (lok seen : Bool) (y : Half) (c : AiCal), ai < 32 → bin < 31 →
      x.domainOn 7 = true → (x.isActive && x.peerSynced) = false →
      ((x.ai ai).calAt.any fun m => !x.goneUs m 600000000) = false →
      c = { bin := bin, offset := o, gain := g, limitsOk := lok, voc := voc, vocSeen := seen, ratio := ratio } →
      y = x.modAi ai (fun k => { k with calAt := some x.mono }) →
      exec (.aiCalibration h ai bin o g lok voc seen ratio) s = .next (s.put h (if x.st == .standby then y.aiCalibrated ai c else y.modAi ai fun k => { k with gap := 12, cal := c }))) ∧
    (∀ (ao : Nat) (rb drive : F32) (y : Half), ao < 8 → x.bit (Reg.AO_STAT ao) 0 = true →
      f32lt rb (f32sub (x.aoCommand ao) (f32rat 2 10)) = true → y = x.wr (Reg.AO_RB ao) rb →
      exec (.aoComply h ao rb drive) s = .next (s.put h (((({ y with aio := { y.aio with held := y.aio.held.put ao drive } } : Half).setBit (Reg.AO_STAT ao) 1 true).aioIrq 2).raise 84))) ∧
    (∀ (ao : Nat) (rb : F32) (y : Half), ao < 8 → x.domainOn 7 = true → y = x.wr (Reg.AO_RB ao) rb →
      (f32le (f32sub (x.aoCommand ao) (f32rat 2 10)) rb && f32le rb (f32add (x.aoCommand ao) (f32rat 2 10))) = true →
      exec (.aoComplyReturn h ao rb) s = .next (s.put h ((({ y with aio := { y.aio with held := y.aio.held.del ao } } : Half).setBit (Reg.AO_STAT ao) 1 false).setBit (Reg.AO_STAT ao) 2 false))) ∧
    (∀ (ao : Nat) (rb : F32), ao < 8 → x.bit (Reg.AO_STAT ao) 0 = true →
      f32lt (x.rd (Reg.AO_CMD ao)) (f32int 1) = false → f32lt rb (f32rat 1 2) = true →
      exec (.aoOpen h ao rb) s = .next (s.put h ((((x.wr (Reg.AO_RB ao) rb).setBit (Reg.AO_STAT ao) 2 true).aioIrq 2).raise 85))) ∧
    (∀ (ao : Nat), ao < 8 → x.bit (Reg.AO_STAT ao) 0 = true →
      exec (.aoSink h ao) s = .next (s.put h (((x.setBit (Reg.AO_STAT ao) 3 true).aioIrq 2).raise 86)))
end

