-- ==== Sys2Proof/Laws/Memory.lean ====
section
/-! SUPPORT. The laws of the byte memories (the CAN message RAM and the display's staging buffer): a write keeps the
canonical form, a byte holds what was last written to it, and a write leaves every other byte alone. -/
namespace Sys2Proof.Machine
/-- Every address of a memory lies above `a`. -/
def Memory.above (a : Nat) (r : Memory) : Prop := ∀ e ∈ r, a < e.1

theorem Memory.wf_cons (k : Nat) (v : Byte) (t : Memory) :
    Memory.wf ((k, v) :: t) = true ↔ v ≠ 0 ∧ Memory.above k t ∧ t.wf = true := by
  induction t generalizing k v with
  | nil => simp [Memory.wf, Memory.above]
  | cons p t ih =>
    obtain ⟨k', v'⟩ := p
    have e : Memory.wf ((k, v) :: (k', v') :: t) = (v != 0 && Nat.blt k k' && Memory.wf ((k', v') :: t)) := rfl
    rw [e]
    simp only [Bool.and_eq_true, bne_iff_ne, Nat.blt_eq]
    rw [ih]
    simp only [Memory.above, List.mem_cons, forall_eq_or_imp]
    constructor
    · rintro ⟨⟨h1, h2⟩, h3, h4, h5⟩
      exact ⟨h1, ⟨h2, fun e he => by have := h4 e he; omega⟩, h3, h4, h5⟩
    · rintro ⟨h1, ⟨h2, _⟩, h3, h4, h5⟩
      exact ⟨⟨h1, h2⟩, h3, h4, h5⟩

theorem Memory.above_put {b : Nat} {r : Memory} (h : Memory.above b r) {a : Nat} (hb : b < a) (v : Byte) :
    Memory.above b (r.put a v) := by
  induction r with
  | nil => unfold Memory.put; split <;> simp [Memory.above, hb]
  | cons p t ih =>
    obtain ⟨k, w⟩ := p
    have h1 : b < k := h (k, w) (by simp)
    have h2 : Memory.above b t := fun e he => h e (by simp [he])
    unfold Memory.put
    intro e he
    have h3 := ih h2
    split at he
    · split at he
      · exact h2 e he
      · simp only [List.mem_cons] at he
        rcases he with rfl | he
        · exact hb
        · exact h2 e he
    · split at he
      · split at he
        · exact h e he
        · simp only [List.mem_cons] at he
          rcases he with rfl | rfl | he
          · exact hb
          · exact h1
          · exact h2 e he
      · simp only [List.mem_cons] at he
        rcases he with rfl | he
        · exact h1
        · exact h3 e he

theorem Memory.wf_put {r : Memory} (h : r.wf = true) (a : Nat) (v : Byte) : (r.put a v).wf = true := by
  induction r with
  | nil => unfold Memory.put; split <;> simp_all [Memory.wf]
  | cons p t ih =>
    obtain ⟨k, w⟩ := p
    rw [Memory.wf_cons] at h
    obtain ⟨h1, h2, h3⟩ := h
    unfold Memory.put
    split
    · split
      · exact h3
      · subst_vars; rw [Memory.wf_cons]; exact ⟨by assumption, h2, h3⟩
    · split
      · split
        · rw [Memory.wf_cons]; exact ⟨h1, h2, h3⟩
        · rename_i hlt hv
          simp only [Nat.blt_eq] at hlt
          rw [Memory.wf_cons, Memory.wf_cons]
          refine ⟨hv, ?_, h1, h2, h3⟩
          intro e he
          simp only [List.mem_cons] at he
          rcases he with rfl | he
          · exact hlt
          · have := h2 e he; omega
      · rename_i hne hlt
        simp only [Nat.blt_eq] at hlt
        rw [Memory.wf_cons]
        exact ⟨h1, Memory.above_put h2 (by omega) v, ih h3⟩

theorem Memory.wf_filter {r : Memory} (h : r.wf = true) (p : Nat × Byte → Bool) : Memory.wf (r.filter p) = true := by
  induction r with
  | nil => rfl
  | cons q t ih =>
    obtain ⟨k, w⟩ := q
    rw [Memory.wf_cons] at h
    obtain ⟨h1, h2, h3⟩ := h
    rw [List.filter_cons]
    split
    · rw [Memory.wf_cons]
      exact ⟨h1, fun e he => h2 e (List.mem_filter.mp he).1, ih h3⟩
    · exact ih h3

theorem Memory.get_above {r : Memory} {a : Nat} (h : ∀ e ∈ r, a < e.1) : r.get a = 0 := by
  induction r with
  | nil => rfl
  | cons p t ih =>
    obtain ⟨k, w⟩ := p
    have h1 : a < k := h (k, w) (by simp)
    unfold Memory.get
    rw [if_neg (by omega)]
    exact ih fun e he => h e (by simp [he])

/-- A register holds what was last written to it. -/
theorem Memory.get_put_self {r : Memory} (h : r.wf = true) (a : Nat) (v : Byte) : (r.put a v).get a = v := by
  induction r with
  | nil => unfold Memory.put; split <;> simp_all [Memory.get]
  | cons p t ih =>
    obtain ⟨k, w⟩ := p
    rw [Memory.wf_cons] at h
    obtain ⟨h1, h2, h3⟩ := h
    unfold Memory.put
    split
    · rename_i hk
      subst hk
      split
      · rename_i hv
        rw [hv]; exact Memory.get_above h2
      · simp [Memory.get]
    · split
      · rename_i hlt
        simp only [Nat.blt_eq] at hlt
        split
        · rename_i hv
          rw [hv]
          apply Memory.get_above
          intro e he
          simp only [List.mem_cons] at he
          rcases he with rfl | he
          · exact hlt
          · have := h2 e he; omega
        · simp [Memory.get]
      · rename_i hne _
        unfold Memory.get
        rw [if_neg hne]
        exact ih h3

/-- A write leaves every other byte alone. -/
theorem Memory.get_put_other (r : Memory) {a b : Nat} (hb : b ≠ a) (v : Byte) : (r.put a v).get b = r.get b := by
  induction r with
  | nil => unfold Memory.put; split <;> simp [Memory.get, hb.symm]
  | cons p t ih =>
    obtain ⟨k, w⟩ := p
    unfold Memory.put
    split
    · rename_i hk
      subst hk
      split <;> simp [Memory.get, hb.symm]
    · split
      · split <;> simp [Memory.get, hb.symm]
      · simp [Memory.get, ih]

/-- A run of bytes written keeps the canonical form. -/
theorem Memory.wf_write {m : Memory} (h : m.wf = true) (a : Nat) (bs : List Byte) : (m.write a bs).wf = true := by
  induction bs generalizing m a with
  | nil => exact h
  | cons b bs ih => exact ih (Memory.wf_put h a b) (a + 1)

/-- A run of bytes written leaves every byte outside it alone. -/
theorem Memory.get_write_other (m : Memory) (a : Nat) (bs : List Byte) {b : Nat} (hb : b < a ∨ a + bs.length ≤ b) :
    (m.write a bs).get b = m.get b := by
  induction bs generalizing m a with
  | nil => rfl
  | cons c bs ih =>
    simp only [List.length_cons] at hb
    rw [Memory.write, ih _ (a + 1) (by omega), Memory.get_put_other _ (by omega)]

end Sys2Proof.Machine
end

