-- ==== Sys2Proof/Laws/Regs.lean ====
section
/-! SUPPORT. The laws of the register file: a write keeps the canonical form, a register holds what was last written to it,
and a write leaves every other register alone. -/
namespace Sys2Proof.Machine
/-- Every address of a register file lies above `a`. -/
def RegFile.above (a : Nat) (r : RegFile) : Prop := ∀ e ∈ r, a < e.1

theorem RegFile.wf_cons (k : Nat) (v : Word) (t : RegFile) :
    RegFile.wf ((k, v) :: t) = true ↔ v ≠ regReset k ∧ RegFile.above k t ∧ t.wf = true := by
  induction t generalizing k v with
  | nil => simp [RegFile.wf, RegFile.above]
  | cons p t ih =>
    obtain ⟨k', v'⟩ := p
    have e : RegFile.wf ((k, v) :: (k', v') :: t) = (v != regReset k && Nat.blt k k' && RegFile.wf ((k', v') :: t)) := rfl
    rw [e]
    simp only [Bool.and_eq_true, bne_iff_ne, Nat.blt_eq]
    rw [ih]
    simp only [RegFile.above, List.mem_cons, forall_eq_or_imp]
    constructor
    · rintro ⟨⟨h1, h2⟩, h3, h4, h5⟩
      exact ⟨h1, ⟨h2, fun e he => by have := h4 e he; omega⟩, h3, h4, h5⟩
    · rintro ⟨h1, ⟨h2, _⟩, h3, h4, h5⟩
      exact ⟨⟨h1, h2⟩, h3, h4, h5⟩

theorem RegFile.above_put {b : Nat} {r : RegFile} (h : RegFile.above b r) {a : Nat} (hb : b < a) (v : Word) :
    RegFile.above b (r.put a v) := by
  induction r with
  | nil => unfold RegFile.put; split <;> simp [RegFile.above, hb]
  | cons p t ih =>
    obtain ⟨k, w⟩ := p
    have h1 : b < k := h (k, w) (by simp)
    have h2 : RegFile.above b t := fun e he => h e (by simp [he])
    unfold RegFile.put
    intro e he
    have h3 := ih h2
    split at he
    · split at he
      · exact h2 e he
      · simp only [List.mem_cons] at he
        rcases he with rfl | he
        · exact hb
        · exact h2 e he
    · split at he
      · split at he
        · exact h e he
        · simp only [List.mem_cons] at he
          rcases he with rfl | rfl | he
          · exact hb
          · exact h1
          · exact h2 e he
      · simp only [List.mem_cons] at he
        rcases he with rfl | he
        · exact h1
        · exact h3 e he

theorem RegFile.wf_put {r : RegFile} (h : r.wf = true) (a : Nat) (v : Word) : (r.put a v).wf = true := by
  induction r with
  | nil => unfold RegFile.put; split <;> simp_all [RegFile.wf]
  | cons p t ih =>
    obtain ⟨k, w⟩ := p
    rw [RegFile.wf_cons] at h
    obtain ⟨h1, h2, h3⟩ := h
    unfold RegFile.put
    split
    · split
      · exact h3
      · subst_vars; rw [RegFile.wf_cons]; exact ⟨by assumption, h2, h3⟩
    · split
      · split
        · rw [RegFile.wf_cons]; exact ⟨h1, h2, h3⟩
        · rename_i hlt hv
          simp only [Nat.blt_eq] at hlt
          rw [RegFile.wf_cons, RegFile.wf_cons]
          refine ⟨hv, ?_, h1, h2, h3⟩
          intro e he
          simp only [List.mem_cons] at he
          rcases he with rfl | he
          · exact hlt
          · have := h2 e he; omega
      · rename_i hne hlt
        simp only [Nat.blt_eq] at hlt
        rw [RegFile.wf_cons]
        exact ⟨h1, RegFile.above_put h2 (by omega) v, ih h3⟩

theorem RegFile.wf_filter {r : RegFile} (h : r.wf = true) (p : Nat × Word → Bool) : RegFile.wf (r.filter p) = true := by
  induction r with
  | nil => rfl
  | cons q t ih =>
    obtain ⟨k, w⟩ := q
    rw [RegFile.wf_cons] at h
    obtain ⟨h1, h2, h3⟩ := h
    rw [List.filter_cons]
    split
    · rw [RegFile.wf_cons]
      exact ⟨h1, fun e he => h2 e (List.mem_filter.mp he).1, ih h3⟩
    · exact ih h3

theorem RegFile.get_above {r : RegFile} {a : Nat} (h : ∀ e ∈ r, a < e.1) : r.get a = regReset a := by
  induction r with
  | nil => rfl
  | cons p t ih =>
    obtain ⟨k, w⟩ := p
    have h1 : a < k := h (k, w) (by simp)
    unfold RegFile.get
    rw [if_neg (by omega)]
    exact ih fun e he => h e (by simp [he])

/-- A register holds what was last written to it. -/
theorem RegFile.get_put_self {r : RegFile} (h : r.wf = true) (a : Nat) (v : Word) : (r.put a v).get a = v := by
  induction r with
  | nil => unfold RegFile.put; split <;> simp_all [RegFile.get]
  | cons p t ih =>
    obtain ⟨k, w⟩ := p
    rw [RegFile.wf_cons] at h
    obtain ⟨h1, h2, h3⟩ := h
    unfold RegFile.put
    split
    · rename_i hk
      subst hk
      split
      · rename_i hv
        rw [hv]; exact RegFile.get_above h2
      · simp [RegFile.get]
    · split
      · rename_i hlt
        simp only [Nat.blt_eq] at hlt
        split
        · rename_i hv
          rw [hv]
          apply RegFile.get_above
          intro e he
          simp only [List.mem_cons] at he
          rcases he with rfl | he
          · exact hlt
          · have := h2 e he; omega
        · simp [RegFile.get]
      · rename_i hne _
        unfold RegFile.get
        rw [if_neg hne]
        exact ih h3

/-- A write leaves every other register alone. -/
theorem RegFile.get_put_other (r : RegFile) {a b : Nat} (hb : b ≠ a) (v : Word) : (r.put a v).get b = r.get b := by
  induction r with
  | nil => unfold RegFile.put; split <;> simp [RegFile.get, hb.symm]
  | cons p t ih =>
    obtain ⟨k, w⟩ := p
    unfold RegFile.put
    split
    · rename_i hk
      subst hk
      split <;> simp [RegFile.get, hb.symm]
    · split
      · split <;> simp [RegFile.get, hb.symm]
      · simp [RegFile.get, ih]

/-- A register of a half reads as it was written. -/
theorem Half.rd_wr_self {x : Half} (h : x.regs.wf = true) (a : Nat) (v : Word) : (x.wr a v).rd a = v :=
  RegFile.get_put_self h a v

/-- A write of a half's register leaves its other registers. -/
theorem Half.rd_wr_other (x : Half) {a b : Nat} (hb : b ≠ a) (v : Word) : (x.wr a v).rd b = x.rd b :=
  RegFile.get_put_other x.regs hb v

/-- A half's register file stays canonical under a write. -/
theorem Half.wr_wf {x : Half} (h : x.regs.wf = true) (a : Nat) (v : Word) : (x.wr a v).regs.wf = true :=
  RegFile.wf_put h a v

end Sys2Proof.Machine
end

