-- ==== Sys2Proof/Laws/Canon.lean ====
section
/-! SUPPORT. Every operation keeps a half in canonical form (Canon, Safety.lean): the register, mailbox, collector, task, object, analogue, recorder, digital and trace operations.
One lemma per operation, in the order of the model. -/
namespace Sys2Proof.Machine
set_option linter.all false
set_option maxHeartbeats 400000

theorem CapsOk_get {c : Tab (List Capture)} (h : CapsOk c) (i : Nat) : (c.get [] i).length ≤ 64 := by
  induction c with
  | nil => simp [Tab.get]
  | cons p t ih =>
    obtain ⟨k, v⟩ := p
    have := h (k, v) (by simp)
    have := ih fun q hq => h q (by simp [hq])
    simp only [Tab.get]
    split <;> assumption
theorem CapsOk_put {c : Tab (List Capture)} (h : CapsOk c) (i : Nat) {l : List Capture} (hl : l.length ≤ 64) : CapsOk (c.put i l) := by
  induction c with
  | nil => simpa [Tab.put, CapsOk] using hl
  | cons p t ih =>
    obtain ⟨k, v⟩ := p
    have h1 := h (k, v) (by simp)
    have h2 : CapsOk t := fun q hq => h q (by simp [hq])
    have h3 := ih h2
    unfold Tab.put
    intro q hq
    split at hq
    · simp only [List.mem_cons] at hq
      rcases hq with rfl | hq
      · exact hl
      · exact h2 q hq
    · split at hq
      · simp only [List.mem_cons] at hq
        rcases hq with rfl | rfl | hq
        · exact hl
        · exact h1
        · exact h2 q hq
      · simp only [List.mem_cons] at hq
        rcases hq with rfl | hq
        · exact h1
        · exact h3 q hq
theorem CapsOk_map {c : Tab (List Capture)} (h : CapsOk c) (g : Capture → Capture) : CapsOk (c.map fun p => (p.1, p.2.map g)) := by
  intro q hq
  simp only [List.mem_map] at hq
  obtain ⟨p, hp, rfl⟩ := hq
  simpa using h p hp
theorem CapsOk_nil : CapsOk [] := by simp [CapsOk]
theorem canon_foldl {hid : HalfId} {tk : Prop} {α : Type} {l : List α} {g : Half → α → Half} {x : Half} (h : Canon hid tk x.regs x.id x.fc.fifo x.ts.fifos x.can.ram x.dsp.staging x.role.takeover) (hg : ∀ (x : Half) a, Canon hid tk x.regs x.id x.fc.fifo x.ts.fifos x.can.ram x.dsp.staging x.role.takeover → Canon hid tk (g x a).regs (g x a).id (g x a).fc.fifo (g x a).ts.fifos (g x a).can.ram (g x a).dsp.staging (g x a).role.takeover) : Canon hid tk (l.foldl g x).regs (l.foldl g x).id (l.foldl g x).fc.fifo (l.foldl g x).ts.fifos (l.foldl g x).can.ram (l.foldl g x).dsp.staging (l.foldl g x).role.takeover := by
  induction l generalizing x with
  | nil => exact h
  | cons a l ih => exact ih (hg _ _ h)
theorem canon_ite {hid : HalfId} {tk : Prop} {c : Prop} [Decidable c] {x y : Half} (hx : Canon hid tk x.regs x.id x.fc.fifo x.ts.fifos x.can.ram x.dsp.staging x.role.takeover) (hy : Canon hid tk y.regs y.id y.fc.fifo y.ts.fifos y.can.ram y.dsp.staging y.role.takeover) :
    Canon hid tk (if c then x else y).regs (if c then x else y).id (if c then x else y).fc.fifo (if c then x else y).ts.fifos (if c then x else y).can.ram (if c then x else y).dsp.staging (if c then x else y).role.takeover := by
  split <;> assumption
theorem canon_foldl2 {hid : HalfId} {tk : Prop} {α β : Type} {l : List α} {g : β × Half → α → β × Half} {acc : β × Half} (h : Canon hid tk acc.2.regs acc.2.id acc.2.fc.fifo acc.2.ts.fifos acc.2.can.ram acc.2.dsp.staging acc.2.role.takeover) (hg : ∀ (acc : β × Half) a, Canon hid tk acc.2.regs acc.2.id acc.2.fc.fifo acc.2.ts.fifos acc.2.can.ram acc.2.dsp.staging acc.2.role.takeover → Canon hid tk (g acc a).2.regs (g acc a).2.id (g acc a).2.fc.fifo (g acc a).2.ts.fifos (g acc a).2.can.ram (g acc a).2.dsp.staging (g acc a).2.role.takeover) : Canon hid tk (l.foldl g acc).2.regs (l.foldl g acc).2.id (l.foldl g acc).2.fc.fifo (l.foldl g acc).2.ts.fifos (l.foldl g acc).2.can.ram (l.foldl g acc).2.dsp.staging (l.foldl g acc).2.role.takeover := by
  induction l generalizing acc with
  | nil => exact h
  | cons a l ih => exact ih (hg _ _ h)
theorem Half.wr_canon {hid : HalfId} {tk : Prop} (x : Half) (a : Nat) (v : Word) (h : Canon hid tk x.regs x.id x.fc.fifo x.ts.fifos x.can.ram x.dsp.staging x.role.takeover) : Canon hid tk (x.wr a v).regs (x.wr a v).id (x.wr a v).fc.fifo (x.wr a v).ts.fifos (x.wr a v).can.ram (x.wr a v).dsp.staging (x.wr a v).role.takeover :=
  ⟨RegFile.wf_put h.1 a v, h.2⟩
theorem canon_clear {hid : HalfId} {tk : Prop} (r : RegFile) (p : Nat → Bool) (j : HalfId) (q : List FcEvt) (c : Tab (List Capture)) (m d : Memory) (b : Bool) (h : Canon hid tk r j q c m d b) : Canon hid tk (RegFile.clear p r) j q c m d b :=
  ⟨RegFile.wf_filter h.1 _, h.2⟩
theorem canon_noStaging {hid : HalfId} {tk : Prop} {r : RegFile} {j : HalfId} {q : List FcEvt} {ts : Tab (List Capture)} {m d : Memory} {b : Bool} (h : Canon hid tk r j q ts m d b) : Canon hid tk r j q ts m [] b :=
  ⟨h.1, h.2.1, h.2.2.1, h.2.2.2.1, h.2.2.2.2.1, rfl, h.2.2.2.2.2.2⟩
theorem canon_noRam {hid : HalfId} {tk : Prop} {r : RegFile} {j : HalfId} {q : List FcEvt} {ts : Tab (List Capture)} {m d : Memory} {b : Bool} (h : Canon hid tk r j q ts m d b) : Canon hid tk r j q ts [] d b :=
  ⟨h.1, h.2.1, h.2.2.1, h.2.2.2.1, rfl, h.2.2.2.2.2⟩
theorem canon_noTake {hid : HalfId} {tk : Prop} {r : RegFile} {j : HalfId} {q : List FcEvt} {ts : Tab (List Capture)} {m d : Memory} {b : Bool} (h : Canon hid tk r j q ts m d b) : Canon hid tk r j q ts m d false :=
  ⟨h.1, h.2.1, h.2.2.1, h.2.2.2.1, h.2.2.2.2.1, h.2.2.2.2.2.1, nofun⟩
theorem canon_filter {hid : HalfId} {tk : Prop} (r : RegFile) (p : Nat × Word → Bool) (j : HalfId) (q : List FcEvt) (c : Tab (List Capture)) (m d : Memory) (b : Bool) (h : Canon hid tk r j q c m d b) : Canon hid tk (r.filter p) j q c m d b :=
  ⟨RegFile.wf_filter h.1 p, h.2⟩

/-! ### Bits.lean -/

theorem Half.live_canon {hid : HalfId} {tk : Prop} (f : Half → Half) (x : Half) (hk : Canon hid tk x.regs x.id x.fc.fifo x.ts.fifos x.can.ram x.dsp.staging x.role.takeover) (hf : ∀ z : Half, Canon hid tk z.regs z.id z.fc.fifo z.ts.fifos z.can.ram z.dsp.staging z.role.takeover → Canon hid tk (f z).regs (f z).id (f z).fc.fifo (f z).ts.fifos (f z).can.ram (f z).dsp.staging (f z).role.takeover) :
    Canon hid tk (Half.live f x).regs (Half.live f x).id (Half.live f x).fc.fifo (Half.live f x).ts.fifos (Half.live f x).can.ram (Half.live f x).dsp.staging (Half.live f x).role.takeover := by
  unfold Half.live
  grind +splitImp []
theorem Half.setFld_canon {hid : HalfId} {tk : Prop} (x : Half) (a hi lo v : Nat) (hk : Canon hid tk x.regs x.id x.fc.fifo x.ts.fifos x.can.ram x.dsp.staging x.role.takeover) :
    Canon hid tk (Half.setFld x a hi lo v).regs (Half.setFld x a hi lo v).id (Half.setFld x a hi lo v).fc.fifo (Half.setFld x a hi lo v).ts.fifos (Half.setFld x a hi lo v).can.ram (Half.setFld x a hi lo v).dsp.staging (Half.setFld x a hi lo v).role.takeover := by
  unfold Half.setFld
  grind +splitImp [Half.wr_canon]
theorem Half.setBit_canon {hid : HalfId} {tk : Prop} (x : Half) (a i : Nat) (b : Bool) (hk : Canon hid tk x.regs x.id x.fc.fifo x.ts.fifos x.can.ram x.dsp.staging x.role.takeover) :
    Canon hid tk (Half.setBit x a i b).regs (Half.setBit x a i b).id (Half.setBit x a i b).fc.fifo (Half.setBit x a i b).ts.fifos (Half.setBit x a i b).can.ram (Half.setBit x a i b).dsp.staging (Half.setBit x a i b).role.takeover := by
  unfold Half.setBit
  grind +splitImp [Half.setFld_canon]
theorem Half.orReg_canon {hid : HalfId} {tk : Prop} (x : Half) (a : Nat) (m : Word) (hk : Canon hid tk x.regs x.id x.fc.fifo x.ts.fifos x.can.ram x.dsp.staging x.role.takeover) :
    Canon hid tk (Half.orReg x a m).regs (Half.orReg x a m).id (Half.orReg x a m).fc.fifo (Half.orReg x a m).ts.fifos (Half.orReg x a m).can.ram (Half.orReg x a m).dsp.staging (Half.orReg x a m).role.takeover := by
  unfold Half.orReg
  grind +splitImp [Half.wr_canon]
theorem Half.clrReg_canon {hid : HalfId} {tk : Prop} (x : Half) (a : Nat) (m : Word) (hk : Canon hid tk x.regs x.id x.fc.fifo x.ts.fifos x.can.ram x.dsp.staging x.role.takeover) :
    Canon hid tk (Half.clrReg x a m).regs (Half.clrReg x a m).id (Half.clrReg x a m).fc.fifo (Half.clrReg x a m).ts.fifos (Half.clrReg x a m).can.ram (Half.clrReg x a m).dsp.staging (Half.clrReg x a m).role.takeover := by
  unfold Half.clrReg
  grind +splitImp [Half.wr_canon]
theorem Half.incSat_canon {hid : HalfId} {tk : Prop} (x : Half) (a : Nat) (hk : Canon hid tk x.regs x.id x.fc.fifo x.ts.fifos x.can.ram x.dsp.staging x.role.takeover) :
    Canon hid tk (Half.incSat x a).regs (Half.incSat x a).id (Half.incSat x a).fc.fifo (Half.incSat x a).ts.fifos (Half.incSat x a).can.ram (Half.incSat x a).dsp.staging (Half.incSat x a).role.takeover := by
  unfold Half.incSat
  grind +splitImp [Half.wr_canon]
theorem Half.irq_canon {hid : HalfId} {tk : Prop} (x : Half) (stat en bit src : Nat) (hk : Canon hid tk x.regs x.id x.fc.fifo x.ts.fifos x.can.ram x.dsp.staging x.role.takeover) :
    Canon hid tk (Half.irq x stat en bit src).regs (Half.irq x stat en bit src).id (Half.irq x stat en bit src).fc.fifo (Half.irq x stat en bit src).ts.fifos (Half.irq x stat en bit src).can.ram (Half.irq x stat en bit src).dsp.staging (Half.irq x stat en bit src).role.takeover := by
  unfold Half.irq
  grind +splitImp [Half.setBit_canon]
theorem Half.portSent_canon {hid : HalfId} {tk : Prop} (x : Half) (p : Nat) (hk : Canon hid tk x.regs x.id x.fc.fifo x.ts.fifos x.can.ram x.dsp.staging x.role.takeover) :
    Canon hid tk (Half.portSent x p).regs (Half.portSent x p).id (Half.portSent x p).fc.fifo (Half.portSent x p).ts.fifos (Half.portSent x p).can.ram (Half.portSent x p).dsp.staging (Half.portSent x p).role.takeover := by
  unfold Half.portSent
  grind +splitImp [Half.incSat_canon, Half.setFld_canon]
theorem Half.free_canon {hid : HalfId} {tk : Prop} (x : Half) (hk : Canon hid tk x.regs x.id x.fc.fifo x.ts.fifos x.can.ram x.dsp.staging x.role.takeover) :
    Canon hid tk (Half.free x).2.regs (Half.free x).2.id (Half.free x).2.fc.fifo (Half.free x).2.ts.fifos (Half.free x).2.can.ram (Half.free x).2.dsp.staging (Half.free x).2.role.takeover := by
  unfold Half.free
  grind +splitImp []
theorem Half.usbCount_canon {hid : HalfId} {tk : Prop} (x : Half) (a : Nat) (hk : Canon hid tk x.regs x.id x.fc.fifo x.ts.fifos x.can.ram x.dsp.staging x.role.takeover) :
    Canon hid tk (Half.usbCount x a).regs (Half.usbCount x a).id (Half.usbCount x a).fc.fifo (Half.usbCount x a).ts.fifos (Half.usbCount x a).can.ram (Half.usbCount x a).dsp.staging (Half.usbCount x a).role.takeover := by
  unfold Half.usbCount
  grind +splitImp [Half.free_canon, Half.wr_canon]
theorem Half.send_canon {hid : HalfId} {tk : Prop} (x : Half) (m : Sent) (hk : Canon hid tk x.regs x.id x.fc.fifo x.ts.fifos x.can.ram x.dsp.staging x.role.takeover) :
    Canon hid tk (Half.send x m).regs (Half.send x m).id (Half.send x m).fc.fifo (Half.send x m).ts.fifos (Half.send x m).can.ram (Half.send x m).dsp.staging (Half.send x m).role.takeover := by
  unfold Half.send
  grind +splitImp [canon_foldl, Half.usbCount_canon, Half.portSent_canon]
theorem Half.feedSeen_canon {hid : HalfId} {tk : Prop} (x : Half) (a i : Nat) (hk : Canon hid tk x.regs x.id x.fc.fifo x.ts.fifos x.can.ram x.dsp.staging x.role.takeover) :
    Canon hid tk (Half.feedSeen x a i).regs (Half.feedSeen x a i).id (Half.feedSeen x a i).fc.fifo (Half.feedSeen x a i).ts.fifos (Half.feedSeen x a i).can.ram (Half.feedSeen x a i).dsp.staging (Half.feedSeen x a i).role.takeover := by
  unfold Half.feedSeen
  grind +splitImp [Half.free_canon, Half.setFld_canon]
theorem Half.sysIrq_canon {hid : HalfId} {tk : Prop} (x : Half) (k : Nat) (hk : Canon hid tk x.regs x.id x.fc.fifo x.ts.fifos x.can.ram x.dsp.staging x.role.takeover) :
    Canon hid tk (Half.sysIrq x k).regs (Half.sysIrq x k).id (Half.sysIrq x k).fc.fifo (Half.sysIrq x k).ts.fifos (Half.sysIrq x k).can.ram (Half.sysIrq x k).dsp.staging (Half.sysIrq x k).role.takeover := by
  unfold Half.sysIrq
  grind +splitImp [Half.irq_canon]
theorem Half.spanIrq_canon {hid : HalfId} {tk : Prop} (x : Half) (k : Nat) (hk : Canon hid tk x.regs x.id x.fc.fifo x.ts.fifos x.can.ram x.dsp.staging x.role.takeover) :
    Canon hid tk (Half.spanIrq x k).regs (Half.spanIrq x k).id (Half.spanIrq x k).fc.fifo (Half.spanIrq x k).ts.fifos (Half.spanIrq x k).can.ram (Half.spanIrq x k).dsp.staging (Half.spanIrq x k).role.takeover := by
  unfold Half.spanIrq
  grind +splitImp [Half.irq_canon]
theorem Half.tsIrq_canon {hid : HalfId} {tk : Prop} (x : Half) (k : Nat) (hk : Canon hid tk x.regs x.id x.fc.fifo x.ts.fifos x.can.ram x.dsp.staging x.role.takeover) :
    Canon hid tk (Half.tsIrq x k).regs (Half.tsIrq x k).id (Half.tsIrq x k).fc.fifo (Half.tsIrq x k).ts.fifos (Half.tsIrq x k).can.ram (Half.tsIrq x k).dsp.staging (Half.tsIrq x k).role.takeover := by
  unfold Half.tsIrq
  grind +splitImp [Half.irq_canon]
theorem Half.dioIrq_canon {hid : HalfId} {tk : Prop} (x : Half) (k : Nat) (hk : Canon hid tk x.regs x.id x.fc.fifo x.ts.fifos x.can.ram x.dsp.staging x.role.takeover) :
    Canon hid tk (Half.dioIrq x k).regs (Half.dioIrq x k).id (Half.dioIrq x k).fc.fifo (Half.dioIrq x k).ts.fifos (Half.dioIrq x k).can.ram (Half.dioIrq x k).dsp.staging (Half.dioIrq x k).role.takeover := by
  unfold Half.dioIrq
  grind +splitImp [Half.irq_canon]
theorem Half.aioIrq_canon {hid : HalfId} {tk : Prop} (x : Half) (k : Nat) (hk : Canon hid tk x.regs x.id x.fc.fifo x.ts.fifos x.can.ram x.dsp.staging x.role.takeover) :
    Canon hid tk (Half.aioIrq x k).regs (Half.aioIrq x k).id (Half.aioIrq x k).fc.fifo (Half.aioIrq x k).ts.fifos (Half.aioIrq x k).can.ram (Half.aioIrq x k).dsp.staging (Half.aioIrq x k).role.takeover := by
  unfold Half.aioIrq
  grind +splitImp [Half.irq_canon]
theorem Half.setCfgSlot_canon {hid : HalfId} {tk : Prop} (x : Half) (k : Nat) (s : CfgSlot) (hk : Canon hid tk x.regs x.id x.fc.fifo x.ts.fifos x.can.ram x.dsp.staging x.role.takeover) :
    Canon hid tk (Half.setCfgSlot x k s).regs (Half.setCfgSlot x k s).id (Half.setCfgSlot x k s).fc.fifo (Half.setCfgSlot x k s).ts.fifos (Half.setCfgSlot x k s).can.ram (Half.setCfgSlot x k s).dsp.staging (Half.setCfgSlot x k s).role.takeover := by
  unfold Half.setCfgSlot
  grind +splitImp []
theorem Half.when_canon {hid : HalfId} {tk : Prop} (c : Bool) (f : Half → Half) (x : Half) (hk : Canon hid tk x.regs x.id x.fc.fifo x.ts.fifos x.can.ram x.dsp.staging x.role.takeover) (hf : ∀ z : Half, Canon hid tk z.regs z.id z.fc.fifo z.ts.fifos z.can.ram z.dsp.staging z.role.takeover → Canon hid tk (f z).regs (f z).id (f z).fc.fifo (f z).ts.fifos (f z).can.ram (f z).dsp.staging (f z).role.takeover) :
    Canon hid tk (Half.when c f x).regs (Half.when c f x).id (Half.when c f x).fc.fifo (Half.when c f x).ts.fifos (Half.when c f x).can.ram (Half.when c f x).dsp.staging (Half.when c f x).role.takeover := by
  unfold Half.when
  grind +splitImp []
theorem Half.spanCount_canon {hid : HalfId} {tk : Prop} (x : Half) (a : Nat) (hk : Canon hid tk x.regs x.id x.fc.fifo x.ts.fifos x.can.ram x.dsp.staging x.role.takeover) :
    Canon hid tk (Half.spanCount x a).regs (Half.spanCount x a).id (Half.spanCount x a).fc.fifo (Half.spanCount x a).ts.fifos (Half.spanCount x a).can.ram (Half.spanCount x a).dsp.staging (Half.spanCount x a).role.takeover := by
  unfold Half.spanCount
  grind +splitImp [Half.incSat_canon, Half.setBit_canon]
theorem Half.spanOut_canon {hid : HalfId} {tk : Prop} (x : Half) (f : Word → Sent) (body : Sent) (retx last : Bool) (hk : Canon hid tk x.regs x.id x.fc.fifo x.ts.fifos x.can.ram x.dsp.staging x.role.takeover) :
    Canon hid tk (Half.spanOut x f body retx last).regs (Half.spanOut x f body retx last).id (Half.spanOut x f body retx last).fc.fifo (Half.spanOut x f body retx last).ts.fifos (Half.spanOut x f body retx last).can.ram (Half.spanOut x f body retx last).dsp.staging (Half.spanOut x f body retx last).role.takeover := by
  unfold Half.spanOut
  grind +splitImp [Half.free_canon, Half.send_canon, Half.wr_canon, Half.setFld_canon]
theorem Half.spanPut_canon {hid : HalfId} {tk : Prop} (x : Half) (f : Word → Sent) (last : Bool := false) (hk : Canon hid tk x.regs x.id x.fc.fifo x.ts.fifos x.can.ram x.dsp.staging x.role.takeover) :
    Canon hid tk (Half.spanPut x f last).regs (Half.spanPut x f last).id (Half.spanPut x f last).fc.fifo (Half.spanPut x f last).ts.fifos (Half.spanPut x f last).can.ram (Half.spanPut x f last).dsp.staging (Half.spanPut x f last).role.takeover := by
  unfold Half.spanPut
  grind +splitImp [Half.spanOut_canon]
theorem Half.spanRel_canon {hid : HalfId} {tk : Prop} (x : Half) (f : Word → BitVec 16 → Sent) (hk : Canon hid tk x.regs x.id x.fc.fifo x.ts.fifos x.can.ram x.dsp.staging x.role.takeover) :
    Canon hid tk (Half.spanRel x f).regs (Half.spanRel x f).id (Half.spanRel x f).fc.fifo (Half.spanRel x f).ts.fifos (Half.spanRel x f).can.ram (Half.spanRel x f).dsp.staging (Half.spanRel x f).role.takeover := by
  unfold Half.spanRel
  grind +splitImp [Half.spanPut_canon]
theorem Half.spanAgain_canon {hid : HalfId} {tk : Prop} (x : Half) (u : RelItem) (hk : Canon hid tk x.regs x.id x.fc.fifo x.ts.fifos x.can.ram x.dsp.staging x.role.takeover) :
    Canon hid tk (Half.spanAgain x u).regs (Half.spanAgain x u).id (Half.spanAgain x u).fc.fifo (Half.spanAgain x u).ts.fifos (Half.spanAgain x u).can.ram (Half.spanAgain x u).dsp.staging (Half.spanAgain x u).role.takeover := by
  unfold Half.spanAgain
  grind +splitImp [Half.spanOut_canon]

/-! ### MbxOps.lean -/

theorem Half.modChan_canon {hid : HalfId} {tk : Prop} (x : Half) (ch : Nat) (f : Chan → Chan) (hk : Canon hid tk x.regs x.id x.fc.fifo x.ts.fifos x.can.ram x.dsp.staging x.role.takeover) :
    Canon hid tk (Half.modChan x ch f).regs (Half.modChan x ch f).id (Half.modChan x ch f).fc.fifo (Half.modChan x ch f).ts.fifos (Half.modChan x ch f).can.ram (Half.modChan x ch f).dsp.staging (Half.modChan x ch f).role.takeover := by
  unfold Half.modChan
  grind +splitImp []
theorem Half.advance_canon {hid : HalfId} {tk : Prop} (x : Half) (a n : Nat) (hk : Canon hid tk x.regs x.id x.fc.fifo x.ts.fifos x.can.ram x.dsp.staging x.role.takeover) :
    Canon hid tk (Half.advance x a n).regs (Half.advance x a n).id (Half.advance x a n).fc.fifo (Half.advance x a n).ts.fifos (Half.advance x a n).can.ram (Half.advance x a n).dsp.staging (Half.advance x a n).role.takeover := by
  unfold Half.advance
  grind +splitImp [Half.wr_canon]
theorem Half.modCtx_canon {hid : HalfId} {tk : Prop} (x : Half) (ch tag : Nat) (f : Ctx → Ctx) (hk : Canon hid tk x.regs x.id x.fc.fifo x.ts.fifos x.can.ram x.dsp.staging x.role.takeover) :
    Canon hid tk (Half.modCtx x ch tag f).regs (Half.modCtx x ch tag f).id (Half.modCtx x ch tag f).fc.fifo (Half.modCtx x ch tag f).ts.fifos (Half.modCtx x ch tag f).can.ram (Half.modCtx x ch tag f).dsp.staging (Half.modCtx x ch tag f).role.takeover := by
  unfold Half.modCtx
  grind +splitImp []
theorem Half.poolStatus_canon {hid : HalfId} {tk : Prop} (x : Half) (hk : Canon hid tk x.regs x.id x.fc.fifo x.ts.fifos x.can.ram x.dsp.staging x.role.takeover) :
    Canon hid tk (Half.poolStatus x).regs (Half.poolStatus x).id (Half.poolStatus x).fc.fifo (Half.poolStatus x).ts.fifos (Half.poolStatus x).can.ram (Half.poolStatus x).dsp.staging (Half.poolStatus x).role.takeover := by
  unfold Half.poolStatus
  grind +splitImp [canon_foldl, Half.setFld_canon, Half.setBit_canon, Half.irq_canon]
theorem Half.scrPlace_canon {hid : HalfId} {tk : Prop} (x : Half) (op : Nat) (payload : List Byte) (hk : Canon hid tk x.regs x.id x.fc.fifo x.ts.fifos x.can.ram x.dsp.staging x.role.takeover) :
    Canon hid tk (Half.scrPlace x op payload).regs (Half.scrPlace x op payload).id (Half.scrPlace x op payload).fc.fifo (Half.scrPlace x op payload).ts.fifos (Half.scrPlace x op payload).can.ram (Half.scrPlace x op payload).dsp.staging (Half.scrPlace x op payload).role.takeover := by
  unfold Half.scrPlace
  grind +splitImp [canon_foldl, Half.wr_canon, Half.advance_canon, Half.irq_canon]
theorem Half.scrFill_canon {hid : HalfId} {tk : Prop} (x : Half) (hk : Canon hid tk x.regs x.id x.fc.fifo x.ts.fifos x.can.ram x.dsp.staging x.role.takeover) :
    Canon hid tk (Half.scrFill x).regs (Half.scrFill x).id (Half.scrFill x).fc.fifo (Half.scrFill x).ts.fifos (Half.scrFill x).can.ram (Half.scrFill x).dsp.staging (Half.scrFill x).role.takeover := by
  unfold Half.scrFill
  grind +splitImp [canon_foldl, Half.scrPlace_canon]
theorem Half.scrSend_canon {hid : HalfId} {tk : Prop} (x : Half) (es : List (Nat × List Byte)) (hk : Canon hid tk x.regs x.id x.fc.fifo x.ts.fifos x.can.ram x.dsp.staging x.role.takeover) :
    Canon hid tk (Half.scrSend x es).regs (Half.scrSend x es).id (Half.scrSend x es).fc.fifo (Half.scrSend x es).ts.fifos (Half.scrSend x es).can.ram (Half.scrSend x es).dsp.staging (Half.scrSend x es).role.takeover := by
  unfold Half.scrSend
  grind +splitImp [Half.scrFill_canon]
theorem Half.deliverSet_canon {hid : HalfId} {tk : Prop} (x : Half) (bs : List Byte) (hk : Canon hid tk x.regs x.id x.fc.fifo x.ts.fifos x.can.ram x.dsp.staging x.role.takeover) :
    Canon hid tk (Half.deliverSet x bs).regs (Half.deliverSet x bs).id (Half.deliverSet x bs).fc.fifo (Half.deliverSet x bs).ts.fifos (Half.deliverSet x bs).can.ram (Half.deliverSet x bs).dsp.staging (Half.deliverSet x bs).role.takeover := by
  unfold Half.deliverSet
  grind +splitImp [Half.scrSend_canon]
theorem Half.sendTr_canon {hid : HalfId} {tk : Prop} (x : Half) (ch kind gen code : Nat) (es : List Entry) (hk : Canon hid tk x.regs x.id x.fc.fifo x.ts.fifos x.can.ram x.dsp.staging x.role.takeover) :
    Canon hid tk (Half.sendTr x ch kind gen code es).regs (Half.sendTr x ch kind gen code es).id (Half.sendTr x ch kind gen code es).fc.fifo (Half.sendTr x ch kind gen code es).ts.fifos (Half.sendTr x ch kind gen code es).can.ram (Half.sendTr x ch kind gen code es).dsp.staging (Half.sendTr x ch kind gen code es).role.takeover := by
  unfold Half.sendTr
  grind +splitImp [Half.modChan_canon, Half.send_canon]
theorem Half.sendEntries_canon {hid : HalfId} {tk : Prop} (x : Half) (ch : Nat) (es : List Entry) (hk : Canon hid tk x.regs x.id x.fc.fifo x.ts.fifos x.can.ram x.dsp.staging x.role.takeover) :
    Canon hid tk (Half.sendEntries x ch es).regs (Half.sendEntries x ch es).id (Half.sendEntries x ch es).fc.fifo (Half.sendEntries x ch es).ts.fifos (Half.sendEntries x ch es).can.ram (Half.sendEntries x ch es).dsp.staging (Half.sendEntries x ch es).role.takeover := by
  unfold Half.sendEntries
  grind +splitImp [canon_foldl, Half.modChan_canon, Half.sendTr_canon]
theorem Half.putCq_canon {hid : HalfId} {tk : Prop} (x : Half) (ch op tag status gen chain kind : Nat) (payload : List Byte) (hk : Canon hid tk x.regs x.id x.fc.fifo x.ts.fifos x.can.ram x.dsp.staging x.role.takeover) :
    Canon hid tk (Half.putCq x ch op tag status gen chain kind payload).regs (Half.putCq x ch op tag status gen chain kind payload).id (Half.putCq x ch op tag status gen chain kind payload).fc.fifo (Half.putCq x ch op tag status gen chain kind payload).ts.fifos (Half.putCq x ch op tag status gen chain kind payload).can.ram (Half.putCq x ch op tag status gen chain kind payload).dsp.staging (Half.putCq x ch op tag status gen chain kind payload).role.takeover := by
  unfold Half.putCq
  grind +splitImp [canon_foldl, Half.modChan_canon, Half.advance_canon, Half.sendEntries_canon, Half.wr_canon, Half.spanRel_canon, Half.irq_canon]
theorem Half.putCompletion_canon {hid : HalfId} {tk : Prop} (x : Half) (ch op tag status gen : Nat) (payload : List Byte) (hk : Canon hid tk x.regs x.id x.fc.fifo x.ts.fifos x.can.ram x.dsp.staging x.role.takeover) :
    Canon hid tk (Half.putCompletion x ch op tag status gen payload).regs (Half.putCompletion x ch op tag status gen payload).id (Half.putCompletion x ch op tag status gen payload).fc.fifo (Half.putCompletion x ch op tag status gen payload).ts.fifos (Half.putCompletion x ch op tag status gen payload).can.ram (Half.putCompletion x ch op tag status gen payload).dsp.staging (Half.putCompletion x ch op tag status gen payload).role.takeover := by
  unfold Half.putCompletion
  grind +splitImp [canon_foldl, Half.incSat_canon, Half.putCq_canon, Half.setBit_canon]
theorem Half.cqTake_canon {hid : HalfId} {tk : Prop} (x : Half) (ch n : Nat) (hk : Canon hid tk x.regs x.id x.fc.fifo x.ts.fifos x.can.ram x.dsp.staging x.role.takeover) :
    Canon hid tk (Half.cqTake x ch n).regs (Half.cqTake x ch n).id (Half.cqTake x ch n).fc.fifo (Half.cqTake x ch n).ts.fifos (Half.cqTake x ch n).can.ram (Half.cqTake x ch n).dsp.staging (Half.cqTake x ch n).role.takeover := by
  unfold Half.cqTake
  grind +splitImp [Half.modChan_canon, Half.advance_canon]
theorem Half.postLate_canon {hid : HalfId} {tk : Prop} (x : Half) (ch : Nat) (hk : Canon hid tk x.regs x.id x.fc.fifo x.ts.fifos x.can.ram x.dsp.staging x.role.takeover) :
    Canon hid tk (Half.postLate x ch).regs (Half.postLate x ch).id (Half.postLate x ch).fc.fifo (Half.postLate x ch).ts.fifos (Half.postLate x ch).can.ram (Half.postLate x ch).dsp.staging (Half.postLate x ch).role.takeover := by
  unfold Half.postLate
  grind +splitImp [canon_foldl, Half.modChan_canon, Half.putCompletion_canon]
theorem Half.lateDone_canon {hid : HalfId} {tk : Prop} (x : Half) (ch : Nat) (d : LateDone) (hk : Canon hid tk x.regs x.id x.fc.fifo x.ts.fifos x.can.ram x.dsp.staging x.role.takeover) :
    Canon hid tk (Half.lateDone x ch d).regs (Half.lateDone x ch d).id (Half.lateDone x ch d).fc.fifo (Half.lateDone x ch d).ts.fifos (Half.lateDone x ch d).can.ram (Half.lateDone x ch d).dsp.staging (Half.lateDone x ch d).role.takeover := by
  unfold Half.lateDone
  grind +splitImp [Half.modChan_canon, Half.postLate_canon]
theorem Half.tryPost_canon {hid : HalfId} {tk : Prop} (x : Half) (ch tag : Nat) (hk : Canon hid tk x.regs x.id x.fc.fifo x.ts.fifos x.can.ram x.dsp.staging x.role.takeover) :
    Canon hid tk (Half.tryPost x ch tag).regs (Half.tryPost x ch tag).id (Half.tryPost x ch tag).fc.fifo (Half.tryPost x ch tag).ts.fifos (Half.tryPost x ch tag).can.ram (Half.tryPost x ch tag).dsp.staging (Half.tryPost x ch tag).role.takeover := by
  unfold Half.tryPost
  grind +splitImp [canon_foldl, Half.putCompletion_canon, Half.lateDone_canon, Half.poolStatus_canon]
theorem Half.finish_canon {hid : HalfId} {tk : Prop} (x : Half) (ch tag status : Nat) (payload : List Byte) (hk : Canon hid tk x.regs x.id x.fc.fifo x.ts.fifos x.can.ram x.dsp.staging x.role.takeover) :
    Canon hid tk (Half.finish x ch tag status payload).regs (Half.finish x ch tag status payload).id (Half.finish x ch tag status payload).fc.fifo (Half.finish x ch tag status payload).ts.fifos (Half.finish x ch tag status payload).can.ram (Half.finish x ch tag status payload).dsp.staging (Half.finish x ch tag status payload).role.takeover := by
  unfold Half.finish
  grind +splitImp [Half.tryPost_canon, Half.modCtx_canon]
theorem Half.itemsAcked_canon {hid : HalfId} {tk : Prop} (x : Half) (hk : Canon hid tk x.regs x.id x.fc.fifo x.ts.fifos x.can.ram x.dsp.staging x.role.takeover) :
    Canon hid tk (Half.itemsAcked x).regs (Half.itemsAcked x).id (Half.itemsAcked x).fc.fifo (Half.itemsAcked x).ts.fifos (Half.itemsAcked x).can.ram (Half.itemsAcked x).dsp.staging (Half.itemsAcked x).role.takeover := by
  unfold Half.itemsAcked
  grind +splitImp [canon_foldl, Half.finish_canon]
theorem Half.itemLost_canon {hid : HalfId} {tk : Prop} (x : Half) (i : BitVec 16) (hk : Canon hid tk x.regs x.id x.fc.fifo x.ts.fifos x.can.ram x.dsp.staging x.role.takeover) :
    Canon hid tk (Half.itemLost x i).regs (Half.itemLost x i).id (Half.itemLost x i).fc.fifo (Half.itemLost x i).ts.fifos (Half.itemLost x i).can.ram (Half.itemLost x i).dsp.staging (Half.itemLost x i).role.takeover := by
  unfold Half.itemLost
  grind +splitImp [canon_foldl, Half.finish_canon]
theorem Half.finishCmd_canon {hid : HalfId} {tk : Prop} (x : Half) (cmd : Option (Nat × Nat)) (status : Nat) (payload : List Byte) (hk : Canon hid tk x.regs x.id x.fc.fifo x.ts.fifos x.can.ram x.dsp.staging x.role.takeover) :
    Canon hid tk (Half.finishCmd x cmd status payload).regs (Half.finishCmd x cmd status payload).id (Half.finishCmd x cmd status payload).fc.fifo (Half.finishCmd x cmd status payload).ts.fifos (Half.finishCmd x cmd status payload).can.ram (Half.finishCmd x cmd status payload).dsp.staging (Half.finishCmd x cmd status payload).role.takeover := by
  unfold Half.finishCmd
  grind +splitImp [Half.finish_canon]
theorem Half.peerSubmit_canon {hid : HalfId} {tk : Prop} (x : Half) (op tag gen : Nat) (payload : List Byte) (hk : Canon hid tk x.regs x.id x.fc.fifo x.ts.fifos x.can.ram x.dsp.staging x.role.takeover) :
    Canon hid tk (Half.peerSubmit x op tag gen payload).regs (Half.peerSubmit x op tag gen payload).id (Half.peerSubmit x op tag gen payload).fc.fifo (Half.peerSubmit x op tag gen payload).ts.fifos (Half.peerSubmit x op tag gen payload).can.ram (Half.peerSubmit x op tag gen payload).dsp.staging (Half.peerSubmit x op tag gen payload).role.takeover := by
  unfold Half.peerSubmit
  grind +splitImp [canon_foldl, Half.spanRel_canon]
theorem Half.sendAborts_canon {hid : HalfId} {tk : Prop} (x : Half) (hk : Canon hid tk x.regs x.id x.fc.fifo x.ts.fifos x.can.ram x.dsp.staging x.role.takeover) :
    Canon hid tk (Half.sendAborts x).regs (Half.sendAborts x).id (Half.sendAborts x).fc.fifo (Half.sendAborts x).ts.fifos (Half.sendAborts x).can.ram (Half.sendAborts x).dsp.staging (Half.sendAborts x).role.takeover := by
  unfold Half.sendAborts
  grind +splitImp [canon_foldl, Half.peerSubmit_canon]
theorem Half.abortPeer_canon {hid : HalfId} {tk : Prop} (x : Half) (t gen : Nat) (who : Option PeerAbort) (hk : Canon hid tk x.regs x.id x.fc.fifo x.ts.fifos x.can.ram x.dsp.staging x.role.takeover) :
    Canon hid tk (Half.abortPeer x t gen who).regs (Half.abortPeer x t gen who).id (Half.abortPeer x t gen who).fc.fifo (Half.abortPeer x t gen who).ts.fifos (Half.abortPeer x t gen who).can.ram (Half.abortPeer x t gen who).dsp.staging (Half.abortPeer x t gen who).role.takeover := by
  unfold Half.abortPeer
  grind +splitImp [Half.sendAborts_canon]
theorem Half.peerHead_canon {hid : HalfId} {tk : Prop} (x : Half) (n : Word) (hk : Canon hid tk x.regs x.id x.fc.fifo x.ts.fifos x.can.ram x.dsp.staging x.role.takeover) :
    Canon hid tk (Half.peerHead x n).regs (Half.peerHead x n).id (Half.peerHead x n).fc.fifo (Half.peerHead x n).ts.fifos (Half.peerHead x n).can.ram (Half.peerHead x n).dsp.staging (Half.peerHead x n).role.takeover := by
  unfold Half.peerHead
  grind +splitImp [Half.sendAborts_canon]
theorem Half.abortDone_canon {hid : HalfId} {tk : Prop} (x : Half) (w : PeerAbort) (status : Nat) (hk : Canon hid tk x.regs x.id x.fc.fifo x.ts.fifos x.can.ram x.dsp.staging x.role.takeover) :
    Canon hid tk (Half.abortDone x w status).regs (Half.abortDone x w status).id (Half.abortDone x w status).fc.fifo (Half.abortDone x w status).ts.fifos (Half.abortDone x w status).can.ram (Half.abortDone x w status).dsp.staging (Half.abortDone x w status).role.takeover := by
  unfold Half.abortDone
  grind +splitImp [Half.modCtx_canon, Half.lateDone_canon]
theorem Half.orphan_canon {hid : HalfId} {tk : Prop} (x : Half) (ch : Nat) (hk : Canon hid tk x.regs x.id x.fc.fifo x.ts.fifos x.can.ram x.dsp.staging x.role.takeover) :
    Canon hid tk (Half.orphan x ch).regs (Half.orphan x ch).id (Half.orphan x ch).fc.fifo (Half.orphan x ch).ts.fifos (Half.orphan x ch).can.ram (Half.orphan x ch).dsp.staging (Half.orphan x ch).role.takeover := by
  unfold Half.orphan
  grind +splitImp []
theorem Half.abortsLost_canon {hid : HalfId} {tk : Prop} (x : Half) (hk : Canon hid tk x.regs x.id x.fc.fifo x.ts.fifos x.can.ram x.dsp.staging x.role.takeover) :
    Canon hid tk (Half.abortsLost x).regs (Half.abortsLost x).id (Half.abortsLost x).fc.fifo (Half.abortsLost x).ts.fifos (Half.abortsLost x).can.ram (Half.abortsLost x).dsp.staging (Half.abortsLost x).role.takeover := by
  unfold Half.abortsLost
  grind +splitImp [canon_foldl, Half.abortDone_canon]
theorem Half.abortsLate_canon {hid : HalfId} {tk : Prop} (x : Half) (t : Nat) (hk : Canon hid tk x.regs x.id x.fc.fifo x.ts.fifos x.can.ram x.dsp.staging x.role.takeover) :
    Canon hid tk (Half.abortsLate x t).regs (Half.abortsLate x t).id (Half.abortsLate x t).fc.fifo (Half.abortsLate x t).ts.fifos (Half.abortsLate x t).can.ram (Half.abortsLate x t).dsp.staging (Half.abortsLate x t).role.takeover := by
  unfold Half.abortsLate
  grind +splitImp [canon_foldl, Half.abortDone_canon]
theorem Half.clearChan_canon {hid : HalfId} {tk : Prop} (x : Half) (ch : Nat) (hk : Canon hid tk x.regs x.id x.fc.fifo x.ts.fifos x.can.ram x.dsp.staging x.role.takeover) :
    Canon hid tk (Half.clearChan x ch).regs (Half.clearChan x ch).id (Half.clearChan x ch).fc.fifo (Half.clearChan x ch).ts.fifos (Half.clearChan x ch).can.ram (Half.clearChan x ch).dsp.staging (Half.clearChan x ch).role.takeover := by
  unfold Half.clearChan
  grind +splitImp [canon_foldl, Half.poolStatus_canon, Half.abortsLost_canon, Half.orphan_canon, Half.wr_canon]
theorem Half.endSession_canon {hid : HalfId} {tk : Prop} (x : Half) (ch code : Nat) (hk : Canon hid tk x.regs x.id x.fc.fifo x.ts.fifos x.can.ram x.dsp.staging x.role.takeover) :
    Canon hid tk (Half.endSession x ch code).regs (Half.endSession x ch code).id (Half.endSession x ch code).fc.fifo (Half.endSession x ch code).ts.fifos (Half.endSession x ch code).can.ram (Half.endSession x ch code).dsp.staging (Half.endSession x ch code).role.takeover := by
  unfold Half.endSession
  grind +splitImp [Half.wr_canon, Half.setBit_canon, Half.clearChan_canon, Half.sendTr_canon, Half.irq_canon]
theorem Half.stopPeer_canon {hid : HalfId} {tk : Prop} (x : Half) (c : Ctx) (hk : Canon hid tk x.regs x.id x.fc.fifo x.ts.fifos x.can.ram x.dsp.staging x.role.takeover) :
    Canon hid tk (Half.stopPeer x c).regs (Half.stopPeer x c).id (Half.stopPeer x c).fc.fifo (Half.stopPeer x c).ts.fifos (Half.stopPeer x c).can.ram (Half.stopPeer x c).dsp.staging (Half.stopPeer x c).role.takeover := by
  unfold Half.stopPeer
  grind +splitImp [Half.abortPeer_canon]
theorem Half.dropStop_canon {hid : HalfId} {tk : Prop} (x : Half) (r : Nat × Nat) (hk : Canon hid tk x.regs x.id x.fc.fifo x.ts.fifos x.can.ram x.dsp.staging x.role.takeover) :
    ∀ z, (Half.dropStop x r) = some z → Canon hid tk z.regs z.id z.fc.fifo z.ts.fifos z.can.ram z.dsp.staging z.role.takeover := by
  unfold Half.dropStop
  grind +splitImp []
theorem Half.dropSwap_canon {hid : HalfId} {tk : Prop} (x : Half) (r : Nat × Nat) (hk : Canon hid tk x.regs x.id x.fc.fifo x.ts.fifos x.can.ram x.dsp.staging x.role.takeover) :
    Canon hid tk (Half.dropSwap x r).regs (Half.dropSwap x r).id (Half.dropSwap x r).fc.fifo (Half.dropSwap x r).ts.fifos (Half.dropSwap x r).can.ram (Half.dropSwap x r).dsp.staging (Half.dropSwap x r).role.takeover := by
  unfold Half.dropSwap
  grind +splitImp [Half.setBit_canon, Half.spanRel_canon]
theorem Half.takeBack_canon {hid : HalfId} {tk : Prop} (x : Half) (c : Ctx) (hk : Canon hid tk x.regs x.id x.fc.fifo x.ts.fifos x.can.ram x.dsp.staging x.role.takeover) :
    Canon hid tk (Half.takeBack x c).regs (Half.takeBack x c).id (Half.takeBack x c).fc.fifo (Half.takeBack x c).ts.fifos (Half.takeBack x c).can.ram (Half.takeBack x c).dsp.staging (Half.takeBack x c).role.takeover := by
  unfold Half.takeBack
  split
  · exact hk
  · split
    · cases e : x.dropStop c.ref with
      | none => simpa [e] using hk
      | some z => simpa [e] using Half.dropStop_canon x c.ref hk z e
    · split
      · exact Half.dropSwap_canon _ _ hk
      · exact hk
theorem Half.endSubs_canon {hid : HalfId} {tk : Prop} (x : Half) (hk : Canon hid tk x.regs x.id x.fc.fifo x.ts.fifos x.can.ram x.dsp.staging x.role.takeover) :
    Canon hid tk (Half.endSubs x).regs (Half.endSubs x).id (Half.endSubs x).fc.fifo (Half.endSubs x).ts.fifos (Half.endSubs x).can.ram (Half.endSubs x).dsp.staging (Half.endSubs x).role.takeover := by
  unfold Half.endSubs
  grind +splitImp []
theorem Half.dropActiveCmds_canon {hid : HalfId} {tk : Prop} (x : Half) (hk : Canon hid tk x.regs x.id x.fc.fifo x.ts.fifos x.can.ram x.dsp.staging x.role.takeover) :
    Canon hid tk (Half.dropActiveCmds x).regs (Half.dropActiveCmds x).id (Half.dropActiveCmds x).fc.fifo (Half.dropActiveCmds x).ts.fifos (Half.dropActiveCmds x).can.ram (Half.dropActiveCmds x).dsp.staging (Half.dropActiveCmds x).role.takeover := by
  unfold Half.dropActiveCmds
  grind +splitImp [canon_foldl, Half.endSubs_canon, Half.finish_canon, Half.takeBack_canon]
theorem Half.dropSessions_canon {hid : HalfId} {tk : Prop} (x : Half) (hk : Canon hid tk x.regs x.id x.fc.fifo x.ts.fifos x.can.ram x.dsp.staging x.role.takeover) :
    Canon hid tk (Half.dropSessions x).regs (Half.dropSessions x).id (Half.dropSessions x).fc.fifo (Half.dropSessions x).ts.fifos (Half.dropSessions x).can.ram (Half.dropSessions x).dsp.staging (Half.dropSessions x).role.takeover := by
  unfold Half.dropSessions
  grind +splitImp [canon_foldl, Half.takeBack_canon, Half.endSession_canon, Half.stopPeer_canon]
theorem Half.dropRole_canon {hid : HalfId} {tk : Prop} (x : Half) (hk : Canon hid tk x.regs x.id x.fc.fifo x.ts.fifos x.can.ram x.dsp.staging x.role.takeover) :
    Canon hid tk (Half.dropRole x).regs (Half.dropRole x).id (Half.dropRole x).fc.fifo (Half.dropRole x).ts.fifos (Half.dropRole x).can.ram (Half.dropRole x).dsp.staging (Half.dropRole x).role.takeover := by
  unfold Half.dropRole
  grind +splitImp [Half.dropSessions_canon, Half.dropActiveCmds_canon]

/-! ### Ops.lean -/

theorem Half.evrPut_canon {hid : HalfId} {tk : Prop} (x : Half) (ch : Nat) (r : EvrRec) (hk : Canon hid tk x.regs x.id x.fc.fifo x.ts.fifos x.can.ram x.dsp.staging x.role.takeover) :
    Canon hid tk (Half.evrPut x ch r).regs (Half.evrPut x ch r).id (Half.evrPut x ch r).fc.fifo (Half.evrPut x ch r).ts.fifos (Half.evrPut x ch r).can.ram (Half.evrPut x ch r).dsp.staging (Half.evrPut x ch r).role.takeover := by
  unfold Half.evrPut
  grind +splitImp [Half.setFld_canon, Half.live_canon]
theorem Half.evrCount_canon {hid : HalfId} {tk : Prop} (x : Half) (ch : Nat) (hk : Canon hid tk x.regs x.id x.fc.fifo x.ts.fifos x.can.ram x.dsp.staging x.role.takeover) :
    Canon hid tk (Half.evrCount x ch).regs (Half.evrCount x ch).id (Half.evrCount x ch).fc.fifo (Half.evrCount x ch).ts.fifos (Half.evrCount x ch).can.ram (Half.evrCount x ch).dsp.staging (Half.evrCount x ch).role.takeover := by
  unfold Half.evrCount
  grind +splitImp [Half.evrPut_canon]
theorem Half.evrEvent_canon {hid : HalfId} {tk : Prop} (x : Half) (k : Nat) (hk : Canon hid tk x.regs x.id x.fc.fifo x.ts.fifos x.can.ram x.dsp.staging x.role.takeover) :
    Canon hid tk (Half.evrEvent x k).regs (Half.evrEvent x k).id (Half.evrEvent x k).fc.fifo (Half.evrEvent x k).ts.fifos (Half.evrEvent x k).can.ram (Half.evrEvent x k).dsp.staging (Half.evrEvent x k).role.takeover := by
  unfold Half.evrEvent
  grind +splitImp [Half.evrCount_canon]
theorem Half.resetDomain_canon {hid : HalfId} {tk : Prop} (x : Half) (d : Nat) (hk : Canon hid tk x.regs x.id x.fc.fifo x.ts.fifos x.can.ram x.dsp.staging x.role.takeover) :
    Canon hid tk (Half.resetDomain x d).regs (Half.resetDomain x d).id (Half.resetDomain x d).fc.fifo (Half.resetDomain x d).ts.fifos (Half.resetDomain x d).can.ram (Half.resetDomain x d).dsp.staging (Half.resetDomain x d).role.takeover := by
  unfold Half.resetDomain
  grind +splitImp [canon_clear, Half.setFld_canon, → canon_noRam, → canon_noStaging]
theorem Half.restartTime_canon {hid : HalfId} {tk : Prop} (x : Half) (hk : Canon hid tk x.regs x.id x.fc.fifo x.ts.fifos x.can.ram x.dsp.staging x.role.takeover) :
    Canon hid tk (Half.restartTime x).regs (Half.restartTime x).id (Half.restartTime x).fc.fifo (Half.restartTime x).ts.fifos (Half.restartTime x).can.ram (Half.restartTime x).dsp.staging (Half.restartTime x).role.takeover := by
  unfold Half.restartTime
  grind +splitImp [Half.setBit_canon]
theorem Half.resetFcConfig_canon {hid : HalfId} {tk : Prop} (x : Half) (hk : Canon hid tk x.regs x.id x.fc.fifo x.ts.fifos x.can.ram x.dsp.staging x.role.takeover) :
    Canon hid tk (Half.resetFcConfig x).regs (Half.resetFcConfig x).id (Half.resetFcConfig x).fc.fifo (Half.resetFcConfig x).ts.fifos (Half.resetFcConfig x).can.ram (Half.resetFcConfig x).dsp.staging (Half.resetFcConfig x).role.takeover := by
  unfold Half.resetFcConfig
  grind +splitImp [canon_clear]
theorem Half.enterReset_canon {hid : HalfId} {tk : Prop} (x : Half) (ds : List Nat) (hk : Canon hid tk x.regs x.id x.fc.fifo x.ts.fifos x.can.ram x.dsp.staging x.role.takeover) :
    Canon hid tk (Half.enterReset x ds).regs (Half.enterReset x ds).id (Half.enterReset x ds).fc.fifo (Half.enterReset x ds).ts.fifos (Half.enterReset x ds).can.ram (Half.enterReset x ds).dsp.staging (Half.enterReset x ds).role.takeover := by
  unfold Half.enterReset
  grind +splitImp [canon_foldl, Half.resetDomain_canon, Half.orReg_canon]
theorem Half.halfReset_canon {hid : HalfId} {tk : Prop} (x : Half) (cause : Nat) (hk : Canon hid tk x.regs x.id x.fc.fifo x.ts.fifos x.can.ram x.dsp.staging x.role.takeover) :
    Canon hid tk (Half.halfReset x cause).regs (Half.halfReset x cause).id (Half.halfReset x cause).fc.fifo (Half.halfReset x cause).ts.fifos (Half.halfReset x cause).can.ram (Half.halfReset x cause).dsp.staging (Half.halfReset x cause).role.takeover := by
  unfold Half.halfReset
  grind +splitImp [Half.enterReset_canon, Half.resetFcConfig_canon, Half.setFld_canon]
theorem Half.setSrc_canon {hid : HalfId} {tk : Prop} (x : Half) (base src : Nat) (b : Bool) (hk : Canon hid tk x.regs x.id x.fc.fifo x.ts.fifos x.can.ram x.dsp.staging x.role.takeover) :
    Canon hid tk (Half.setSrc x base src b).regs (Half.setSrc x base src b).id (Half.setSrc x base src b).fc.fifo (Half.setSrc x base src b).ts.fifos (Half.setSrc x base src b).can.ram (Half.setSrc x base src b).dsp.staging (Half.setSrc x base src b).role.takeover := by
  unfold Half.setSrc
  grind +splitImp [Half.setBit_canon]
theorem Half.fcStatus_canon {hid : HalfId} {tk : Prop} (x : Half) (hk : Canon hid tk x.regs x.id x.fc.fifo x.ts.fifos x.can.ram x.dsp.staging x.role.takeover) :
    Canon hid tk (Half.fcStatus x).regs (Half.fcStatus x).id (Half.fcStatus x).fc.fifo (Half.fcStatus x).ts.fifos (Half.fcStatus x).can.ram (Half.fcStatus x).dsp.staging (Half.fcStatus x).role.takeover := by
  unfold Half.fcStatus
  grind +splitImp [Half.setBit_canon, Half.setFld_canon]
theorem Half.fcEntry_canon {hid : HalfId} {tk : Prop} (x : Half) (w0 : Word) (hk : Canon hid tk x.regs x.id x.fc.fifo x.ts.fifos x.can.ram x.dsp.staging x.role.takeover) :
    Canon hid tk (Half.fcEntry x w0).regs (Half.fcEntry x w0).id (Half.fcEntry x w0).fc.fifo (Half.fcEntry x w0).ts.fifos (Half.fcEntry x w0).can.ram (Half.fcEntry x w0).dsp.staging (Half.fcEntry x w0).role.takeover := by
  unfold Half.fcEntry
  obtain ⟨h1, h2, h3, h4, h5⟩ := hk
  have H : x.fc.fifo.length < 64 → Canon hid tk x.regs x.id (x.fc.fifo ++ [{ w0 := w0, time := x.mono, opmin := x.opmin }]) x.ts.fifos x.can.ram x.dsp.staging x.role.takeover := fun h => ⟨h1, h2, by simp; omega, h4, h5⟩
  have hk : Canon hid tk x.regs x.id x.fc.fifo x.ts.fifos x.can.ram x.dsp.staging x.role.takeover := ⟨h1, h2, h3, h4, h5⟩
  grind +splitImp [Half.when_canon, Half.irq_canon, Half.incSat_canon]
theorem Half.setPeerArmed_canon {hid : HalfId} {tk : Prop} (x : Half) (b : Bool) (hk : Canon hid tk x.regs x.id x.fc.fifo x.ts.fifos x.can.ram x.dsp.staging x.role.takeover) :
    Canon hid tk (Half.setPeerArmed x b).regs (Half.setPeerArmed x b).id (Half.setPeerArmed x b).fc.fifo (Half.setPeerArmed x b).ts.fifos (Half.setPeerArmed x b).can.ram (Half.setPeerArmed x b).dsp.staging (Half.setPeerArmed x b).role.takeover := by
  unfold Half.setPeerArmed
  grind +splitImp [Half.setBit_canon, Half.irq_canon]
theorem Half.ran_canon {hid : HalfId} {tk : Prop} (x : Half) (j : Job) (hk : Canon hid tk x.regs x.id x.fc.fifo x.ts.fifos x.can.ram x.dsp.staging x.role.takeover) :
    Canon hid tk (Half.ran x j).regs (Half.ran x j).id (Half.ran x j).fc.fifo (Half.ran x j).ts.fifos (Half.ran x j).can.ram (Half.ran x j).dsp.staging (Half.ran x j).role.takeover := by
  unfold Half.ran
  grind +splitImp []
theorem Half.every_canon {hid : HalfId} {tk : Prop} (x : Half) (j : Job) (us : Nat) (f : Half → Half) (hk : Canon hid tk x.regs x.id x.fc.fifo x.ts.fifos x.can.ram x.dsp.staging x.role.takeover) (hf : ∀ z : Half, Canon hid tk z.regs z.id z.fc.fifo z.ts.fifos z.can.ram z.dsp.staging z.role.takeover → Canon hid tk (f z).regs (f z).id (f z).fc.fifo (f z).ts.fifos (f z).can.ram (f z).dsp.staging (f z).role.takeover) :
    Canon hid tk (Half.every x j us f).regs (Half.every x j us f).id (Half.every x j us f).fc.fifo (Half.every x j us f).ts.fifos (Half.every x j us f).can.ram (Half.every x j us f).dsp.staging (Half.every x j us f).role.takeover := by
  unfold Half.every
  grind +splitImp [Half.ran_canon]
theorem Half.logEvt_canon {hid : HalfId} {tk : Prop} (x : Half) (e : LogEvt) (hk : Canon hid tk x.regs x.id x.fc.fifo x.ts.fifos x.can.ram x.dsp.staging x.role.takeover) :
    Canon hid tk (Half.logEvt x e).regs (Half.logEvt x e).id (Half.logEvt x e).fc.fifo (Half.logEvt x e).ts.fifos (Half.logEvt x e).can.ram (Half.logEvt x e).dsp.staging (Half.logEvt x e).role.takeover := by
  unfold Half.logEvt
  grind +splitImp []
theorem Half.sendRole_canon {hid : HalfId} {tk : Prop} (x : Half) (k : RoleKind) (hk : Canon hid tk x.regs x.id x.fc.fifo x.ts.fifos x.can.ram x.dsp.staging x.role.takeover) :
    Canon hid tk (Half.sendRole x k).regs (Half.sendRole x k).id (Half.sendRole x k).fc.fifo (Half.sendRole x k).ts.fifos (Half.sendRole x k).can.ram (Half.sendRole x k).dsp.staging (Half.sendRole x k).role.takeover := by
  unfold Half.sendRole
  grind +splitImp [Half.spanRel_canon]
theorem Half.relinquish_canon {hid : HalfId} {tk : Prop} (x : Half) (hk : Canon hid tk x.regs x.id x.fc.fifo x.ts.fifos x.can.ram x.dsp.staging x.role.takeover) :
    Canon hid tk (Half.relinquish x).regs (Half.relinquish x).id (Half.relinquish x).fc.fifo (Half.relinquish x).ts.fifos (Half.relinquish x).can.ram (Half.relinquish x).dsp.staging (Half.relinquish x).role.takeover := by
  unfold Half.relinquish
  grind +splitImp [Half.spanOut_canon]
theorem Half.loseClaim_canon {hid : HalfId} {tk : Prop} (x : Half) (hk : Canon hid tk x.regs x.id x.fc.fifo x.ts.fifos x.can.ram x.dsp.staging x.role.takeover) :
    Canon hid tk (Half.loseClaim x).regs (Half.loseClaim x).id (Half.loseClaim x).fc.fifo (Half.loseClaim x).ts.fifos (Half.loseClaim x).can.ram (Half.loseClaim x).dsp.staging (Half.loseClaim x).role.takeover := by
  unfold Half.loseClaim
  grind +splitImp [Half.setBit_canon]
theorem Half.beginReset_canon {hid : HalfId} {tk : Prop} (x : Half) (hk : Canon hid tk x.regs x.id x.fc.fifo x.ts.fifos x.can.ram x.dsp.staging x.role.takeover) :
    Canon hid tk (Half.beginReset x).regs (Half.beginReset x).id (Half.beginReset x).fc.fifo (Half.beginReset x).ts.fifos (Half.beginReset x).can.ram (Half.beginReset x).dsp.staging (Half.beginReset x).role.takeover := by
  unfold Half.beginReset
  grind +splitImp [canon_foldl, Half.restartTime_canon, Half.setFld_canon, Half.clrReg_canon, Half.resetFcConfig_canon, Half.enterReset_canon]
theorem Half.assertL3_canon {hid : HalfId} {tk : Prop} (x : Half) (hk : Canon hid tk x.regs x.id x.fc.fifo x.ts.fifos x.can.ram x.dsp.staging x.role.takeover) :
    Canon hid tk (Half.assertL3 x).regs (Half.assertL3 x).id (Half.assertL3 x).fc.fifo (Half.assertL3 x).ts.fifos (Half.assertL3 x).can.ram (Half.assertL3 x).dsp.staging (Half.assertL3 x).role.takeover := by
  unfold Half.assertL3
  grind +splitImp [Half.setBit_canon]
theorem Half.reactL2_canon {hid : HalfId} {tk : Prop} (x : Half) (src level : Nat) (hk : Canon hid tk x.regs x.id x.fc.fifo x.ts.fifos x.can.ram x.dsp.staging x.role.takeover) :
    Canon hid tk (Half.reactL2 x src level).regs (Half.reactL2 x src level).id (Half.reactL2 x src level).fc.fifo (Half.reactL2 x src level).ts.fifos (Half.reactL2 x src level).can.ram (Half.reactL2 x src level).dsp.staging (Half.reactL2 x src level).role.takeover := by
  unfold Half.reactL2
  split
  · exact hk
  · extract_lets dom ds cls mark f y1 y2 y3 y4 ro y5
    have H1 : Canon hid tk y1.regs y1.id y1.fc.fifo y1.ts.fifos y1.can.ram y1.dsp.staging y1.role.takeover := hk
    have H2 : Canon hid tk y2.regs y2.id y2.fc.fifo y2.ts.fifos y2.can.ram y2.dsp.staging y2.role.takeover := Half.when_canon _ _ _ H1 fun _ => Half.assertL3_canon _
    have H3 : Canon hid tk y3.regs y3.id y3.fc.fifo y3.ts.fifos y3.can.ram y3.dsp.staging y3.role.takeover := canon_ite (Half.dropRole_canon _ H2) H2
    have H4 : Canon hid tk y4.regs y4.id y4.fc.fifo y4.ts.fifos y4.can.ram y4.dsp.staging y4.role.takeover := Half.loseClaim_canon _ (Half.relinquish_canon _ H3)
    have H5 : Canon hid tk y5.regs y5.id y5.fc.fifo y5.ts.fifos y5.can.ram y5.dsp.staging y5.role.takeover := canon_noTake H4
    exact canon_ite H5 (Half.beginReset_canon _ H5)
theorem Half.resetScruple_canon {hid : HalfId} {tk : Prop} (x : Half) (hk : Canon hid tk x.regs x.id x.fc.fifo x.ts.fifos x.can.ram x.dsp.staging x.role.takeover) :
    Canon hid tk (Half.resetScruple x).regs (Half.resetScruple x).id (Half.resetScruple x).fc.fifo (Half.resetScruple x).ts.fifos (Half.resetScruple x).can.ram (Half.resetScruple x).dsp.staging (Half.resetScruple x).role.takeover := by
  unfold Half.resetScruple
  grind +splitImp [Half.enterReset_canon]
theorem Half.restartQuiet_canon {hid : HalfId} {tk : Prop} (x : Half) (cls : Nat) (hk : Canon hid tk x.regs x.id x.fc.fifo x.ts.fifos x.can.ram x.dsp.staging x.role.takeover) :
    Canon hid tk (Half.restartQuiet x cls).regs (Half.restartQuiet x cls).id (Half.restartQuiet x cls).fc.fifo (Half.restartQuiet x cls).ts.fifos (Half.restartQuiet x cls).can.ram (Half.restartQuiet x cls).dsp.staging (Half.restartQuiet x cls).role.takeover := by
  unfold Half.restartQuiet
  grind +splitImp []
theorem Half.icuPend_canon {hid : HalfId} {tk : Prop} (x : Half) (src : Nat) (hk : Canon hid tk x.regs x.id x.fc.fifo x.ts.fifos x.can.ram x.dsp.staging x.role.takeover) :
    Canon hid tk (Half.icuPend x src).regs (Half.icuPend x src).id (Half.icuPend x src).fc.fifo (Half.icuPend x src).ts.fifos (Half.icuPend x src).can.ram (Half.icuPend x src).dsp.staging (Half.icuPend x src).role.takeover := by
  unfold Half.icuPend
  grind +splitImp [Half.setBit_canon]
theorem Half.takeAt_canon {hid : HalfId} {tk : Prop} (x : Half) (src level : Nat) (esc held invalid : Bool) (hk : Canon hid tk x.regs x.id x.fc.fifo x.ts.fifos x.can.ram x.dsp.staging x.role.takeover) :
    Canon hid tk (Half.takeAt x src level esc held invalid).regs (Half.takeAt x src level esc held invalid).id (Half.takeAt x src level esc held invalid).fc.fifo (Half.takeAt x src level esc held invalid).ts.fifos (Half.takeAt x src level esc held invalid).can.ram (Half.takeAt x src level esc held invalid).dsp.staging (Half.takeAt x src level esc held invalid).role.takeover := by
  let P : Half → Prop := fun z => Canon hid tk z.regs z.id z.fc.fifo z.ts.fifos z.can.ram z.dsp.staging z.role.takeover
  change P (x.takeAt src level esc held invalid)
  unfold Half.takeAt
  extract_lets cls f0 y0 y1 y2 s2 f2 y3 y4 f4 y5
  have H0 : Canon hid tk y0.regs y0.id y0.fc.fifo y0.ts.fifos y0.can.ram y0.dsp.staging y0.role.takeover := hk
  have H1 : Canon hid tk y1.regs y1.id y1.fc.fifo y1.ts.fifos y1.can.ram y1.dsp.staging y1.role.takeover := Half.setSrc_canon _ _ _ _ H0
  have H2 : Canon hid tk y2.regs y2.id y2.fc.fifo y2.ts.fifos y2.can.ram y2.dsp.staging y2.role.takeover := canon_ite (Half.icuPend_canon _ _ H1) H1
  have H3 : Canon hid tk y3.regs y3.id y3.fc.fifo y3.ts.fifos y3.can.ram y3.dsp.staging y3.role.takeover := canon_ite (Half.setSrc_canon _ _ _ _ H2) H2
  have H4 : Canon hid tk y4.regs y4.id y4.fc.fifo y4.ts.fifos y4.can.ram y4.dsp.staging y4.role.takeover :=
    Half.restartQuiet_canon _ _ (Half.evrCount_canon _ _ (Half.fcEntry_canon _ _ H3))
  have H5 : Canon hid tk y5.regs y5.id y5.fc.fifo y5.ts.fifos y5.can.ram y5.dsp.staging y5.role.takeover := canon_ite (Half.irq_canon _ _ _ _ _ H4) H4
  exact Half.fcStatus_canon _ (canon_ite (Half.irq_canon _ _ _ _ _ (Half.setSrc_canon _ _ _ _ H5)) (canon_ite (Half.reactL2_canon _ _ _ H5) H5))
theorem Half.take_canon {hid : HalfId} {tk : Prop} (x : Half) (src initial : Nat) (invalid : Bool) (hk : Canon hid tk x.regs x.id x.fc.fifo x.ts.fifos x.can.ram x.dsp.staging x.role.takeover) :
    Canon hid tk (Half.take x src initial invalid).regs (Half.take x src initial invalid).id (Half.take x src initial invalid).fc.fifo (Half.take x src initial invalid).ts.fifos (Half.take x src initial invalid).can.ram (Half.take x src initial invalid).dsp.staging (Half.take x src initial invalid).role.takeover := by
  unfold Half.take
  split
  · exact hk
  · exact Half.takeAt_canon _ _ _ _ _ _ hk
theorem Half.raise_canon {hid : HalfId} {tk : Prop} (x : Half) (src : Nat) (hk : Canon hid tk x.regs x.id x.fc.fifo x.ts.fifos x.can.ram x.dsp.staging x.role.takeover) :
    Canon hid tk (Half.raise x src).regs (Half.raise x src).id (Half.raise x src).fc.fifo (Half.raise x src).ts.fifos (Half.raise x src).can.ram (Half.raise x src).dsp.staging (Half.raise x src).role.takeover := by
  unfold Half.raise
  grind +splitImp [Half.take_canon]
theorem Half.raiseIf_canon {hid : HalfId} {tk : Prop} (x : Half) (c : Bool) (src : Nat) (hk : Canon hid tk x.regs x.id x.fc.fifo x.ts.fifos x.can.ram x.dsp.staging x.role.takeover) :
    Canon hid tk (Half.raiseIf x c src).regs (Half.raiseIf x c src).id (Half.raiseIf x c src).fc.fifo (Half.raiseIf x c src).ts.fifos (Half.raiseIf x c src).can.ram (Half.raiseIf x c src).dsp.staging (Half.raiseIf x c src).role.takeover := by
  unfold Half.raiseIf
  grind +splitImp [Half.raise_canon]
theorem Half.spanAccept_canon {hid : HalfId} {tk : Prop} (x : Half) (hdr : SpanHdr) (hk : Canon hid tk x.regs x.id x.fc.fifo x.ts.fifos x.can.ram x.dsp.staging x.role.takeover) :
    Canon hid tk (Half.spanAccept x hdr).regs (Half.spanAccept x hdr).id (Half.spanAccept x hdr).fc.fifo (Half.spanAccept x hdr).ts.fifos (Half.spanAccept x hdr).can.ram (Half.spanAccept x hdr).dsp.staging (Half.spanAccept x hdr).role.takeover := by
  unfold Half.spanAccept
  grind +splitImp [Half.itemsAcked_canon, Half.spanCount_canon, Half.raise_canon, Half.wr_canon, Half.spanIrq_canon]

/-! ### TaskOps.lean -/

theorem Half.modTsk_canon {hid : HalfId} {tk : Prop} (x : Half) (t : Nat) (f : TaskSt → TaskSt) (hk : Canon hid tk x.regs x.id x.fc.fifo x.ts.fifos x.can.ram x.dsp.staging x.role.takeover) :
    Canon hid tk (Half.modTsk x t f).regs (Half.modTsk x t f).id (Half.modTsk x t f).fc.fifo (Half.modTsk x t f).ts.fifos (Half.modTsk x t f).can.ram (Half.modTsk x t f).dsp.staging (Half.modTsk x t f).role.takeover := by
  unfold Half.modTsk
  grind +splitImp []
theorem Half.release_canon {hid : HalfId} {tk : Prop} (x : Half) (t : Nat) (at_ : DWord) (hk : Canon hid tk x.regs x.id x.fc.fifo x.ts.fifos x.can.ram x.dsp.staging x.role.takeover) :
    Canon hid tk (Half.release x t at_).regs (Half.release x t at_).id (Half.release x t at_).fc.fifo (Half.release x t at_).ts.fifos (Half.release x t at_).can.ram (Half.release x t at_).dsp.staging (Half.release x t at_).role.takeover := by
  unfold Half.release
  grind +splitImp [Half.modTsk_canon]
theorem Half.activateTask_canon {hid : HalfId} {tk : Prop} (x : Half) (t : Nat) (hk : Canon hid tk x.regs x.id x.fc.fifo x.ts.fifos x.can.ram x.dsp.staging x.role.takeover) :
    Canon hid tk (Half.activateTask x t).regs (Half.activateTask x t).id (Half.activateTask x t).fc.fifo (Half.activateTask x t).ts.fifos (Half.activateTask x t).can.ram (Half.activateTask x t).dsp.staging (Half.activateTask x t).role.takeover := by
  unfold Half.activateTask
  grind +splitImp [Half.modTsk_canon, Half.release_canon]
theorem Half.taskEvent_canon {hid : HalfId} {tk : Prop} (x : Half) (t : Nat) (hk : Canon hid tk x.regs x.id x.fc.fifo x.ts.fifos x.can.ram x.dsp.staging x.role.takeover) :
    Canon hid tk (Half.taskEvent x t).regs (Half.taskEvent x t).id (Half.taskEvent x t).fc.fifo (Half.taskEvent x t).ts.fifos (Half.taskEvent x t).can.ram (Half.taskEvent x t).dsp.staging (Half.taskEvent x t).role.takeover := by
  unfold Half.taskEvent
  grind +splitImp [Half.modTsk_canon, Half.activateTask_canon]
theorem Half.diEvent_canon {hid : HalfId} {tk : Prop} (x : Half) (di : Nat) (rising : Bool) (hk : Canon hid tk x.regs x.id x.fc.fifo x.ts.fifos x.can.ram x.dsp.staging x.role.takeover) :
    Canon hid tk (Half.diEvent x di rising).regs (Half.diEvent x di rising).id (Half.diEvent x di rising).fc.fifo (Half.diEvent x di rising).ts.fifos (Half.diEvent x di rising).can.ram (Half.diEvent x di rising).dsp.staging (Half.diEvent x di rising).role.takeover := by
  unfold Half.diEvent
  grind +splitImp [canon_foldl, Half.taskEvent_canon]
theorem Half.objEvent_canon {hid : HalfId} {tk : Prop} (x : Half) (oid : Nat) (hk : Canon hid tk x.regs x.id x.fc.fifo x.ts.fifos x.can.ram x.dsp.staging x.role.takeover) :
    Canon hid tk (Half.objEvent x oid).regs (Half.objEvent x oid).id (Half.objEvent x oid).fc.fifo (Half.objEvent x oid).ts.fifos (Half.objEvent x oid).can.ram (Half.objEvent x oid).dsp.staging (Half.objEvent x oid).role.takeover := by
  unfold Half.objEvent
  grind +splitImp [canon_foldl, Half.taskEvent_canon]

/-! ### ObjOps.lean -/

theorem Half.notifyDue_canon {hid : HalfId} {tk : Prop} (x : Half) (oid : Nat) (hk : Canon hid tk x.regs x.id x.fc.fifo x.ts.fifos x.can.ram x.dsp.staging x.role.takeover) :
    Canon hid tk (Half.notifyDue x oid).regs (Half.notifyDue x oid).id (Half.notifyDue x oid).fc.fifo (Half.notifyDue x oid).ts.fifos (Half.notifyDue x oid).can.ram (Half.notifyDue x oid).dsp.staging (Half.notifyDue x oid).role.takeover := by
  unfold Half.notifyDue
  grind +splitImp []
theorem Half.putPoint_canon {hid : HalfId} {tk : Prop} (x : Half) (p : Nat) (k : PointSt) (hk : Canon hid tk x.regs x.id x.fc.fifo x.ts.fifos x.can.ram x.dsp.staging x.role.takeover) :
    Canon hid tk (Half.putPoint x p k).regs (Half.putPoint x p k).id (Half.putPoint x p k).fc.fifo (Half.putPoint x p k).ts.fifos (Half.putPoint x p k).can.ram (Half.putPoint x p k).dsp.staging (Half.putPoint x p k).role.takeover := by
  unfold Half.putPoint
  grind +splitImp [Half.notifyDue_canon, Half.objEvent_canon]
theorem Half.writePoint_canon {hid : HalfId} {tk : Prop} (x : Half) (p : Nat) (v : Val) (hk : Canon hid tk x.regs x.id x.fc.fifo x.ts.fifos x.can.ram x.dsp.staging x.role.takeover) :
    Canon hid tk (Half.writePoint x p v).regs (Half.writePoint x p v).id (Half.writePoint x p v).fc.fifo (Half.writePoint x p v).ts.fifos (Half.writePoint x p v).can.ram (Half.writePoint x p v).dsp.staging (Half.writePoint x p v).role.takeover := by
  unfold Half.writePoint
  grind +splitImp [Half.putPoint_canon]
theorem Half.compare_canon {hid : HalfId} {tk : Prop} (x : Half) (p : Nat) (tEnd : DWord) (full : Bool) (hk : Canon hid tk x.regs x.id x.fc.fifo x.ts.fifos x.can.ram x.dsp.staging x.role.takeover) :
    Canon hid tk (Half.compare x p tEnd full).2.regs (Half.compare x p tEnd full).2.id (Half.compare x p tEnd full).2.fc.fifo (Half.compare x p tEnd full).2.ts.fifos (Half.compare x p tEnd full).2.can.ram (Half.compare x p tEnd full).2.dsp.staging (Half.compare x p tEnd full).2.role.takeover := by
  unfold Half.compare
  grind +splitImp [Half.notifyDue_canon]
theorem Half.compareAll_canon {hid : HalfId} {tk : Prop} (x : Half) (ps : List Nat) (tEnd : DWord) (full : Bool) (hk : Canon hid tk x.regs x.id x.fc.fifo x.ts.fifos x.can.ram x.dsp.staging x.role.takeover) :
    Canon hid tk (Half.compareAll x ps tEnd full).2.regs (Half.compareAll x ps tEnd full).2.id (Half.compareAll x ps tEnd full).2.fc.fifo (Half.compareAll x ps tEnd full).2.ts.fifos (Half.compareAll x ps tEnd full).2.can.ram (Half.compareAll x ps tEnd full).2.dsp.staging (Half.compareAll x ps tEnd full).2.role.takeover := by
  unfold Half.compareAll
  exact canon_foldl2 (acc := ([], x)) hk fun acc p h => Half.compare_canon _ _ _ _ h
theorem Half.putRec_canon {hid : HalfId} {tk : Prop} (x : Half) (r : ObjRec) (hk : Canon hid tk x.regs x.id x.fc.fifo x.ts.fifos x.can.ram x.dsp.staging x.role.takeover) :
    Canon hid tk (Half.putRec x r).regs (Half.putRec x r).id (Half.putRec x r).fc.fifo (Half.putRec x r).ts.fifos (Half.putRec x r).can.ram (Half.putRec x r).dsp.staging (Half.putRec x r).role.takeover := by
  unfold Half.putRec
  grind +splitImp [Half.notifyDue_canon, Half.objEvent_canon]
theorem Half.dirtyBlock_canon {hid : HalfId} {tk : Prop} (x : Half) (oid : Nat) (hk : Canon hid tk x.regs x.id x.fc.fifo x.ts.fifos x.can.ram x.dsp.staging x.role.takeover) :
    Canon hid tk (Half.dirtyBlock x oid).regs (Half.dirtyBlock x oid).id (Half.dirtyBlock x oid).fc.fifo (Half.dirtyBlock x oid).ts.fifos (Half.dirtyBlock x oid).can.ram (Half.dirtyBlock x oid).dsp.staging (Half.dirtyBlock x oid).role.takeover := by
  unfold Half.dirtyBlock
  grind +splitImp []
theorem Half.staleAbsent_canon {hid : HalfId} {tk : Prop} (x : Half) (station : Nat) (hk : Canon hid tk x.regs x.id x.fc.fifo x.ts.fifos x.can.ram x.dsp.staging x.role.takeover) :
    Canon hid tk (Half.staleAbsent x station).regs (Half.staleAbsent x station).id (Half.staleAbsent x station).fc.fifo (Half.staleAbsent x station).ts.fifos (Half.staleAbsent x station).can.ram (Half.staleAbsent x station).dsp.staging (Half.staleAbsent x station).role.takeover := by
  unfold Half.staleAbsent
  grind +splitImp [canon_foldl, Half.dirtyBlock_canon, Half.notifyDue_canon, Half.objEvent_canon]
theorem Half.markStale_canon {hid : HalfId} {tk : Prop} (x : Half) (p : ObjRec → Bool) (hk : Canon hid tk x.regs x.id x.fc.fifo x.ts.fifos x.can.ram x.dsp.staging x.role.takeover) :
    Canon hid tk (Half.markStale x p).regs (Half.markStale x p).id (Half.markStale x p).fc.fifo (Half.markStale x p).ts.fifos (Half.markStale x p).can.ram (Half.markStale x p).dsp.staging (Half.markStale x p).role.takeover := by
  unfold Half.markStale
  grind +splitImp [canon_foldl, Half.putRec_canon]
theorem Half.sendFrames_canon {hid : HalfId} {tk : Prop} (x : Half) (m : LeagueFrame → Sent) (fs : List LeagueFrame) (hk : Canon hid tk x.regs x.id x.fc.fifo x.ts.fifos x.can.ram x.dsp.staging x.role.takeover) :
    Canon hid tk (Half.sendFrames x m fs).regs (Half.sendFrames x m fs).id (Half.sendFrames x m fs).fc.fifo (Half.sendFrames x m fs).ts.fifos (Half.sendFrames x m fs).can.ram (Half.sendFrames x m fs).dsp.staging (Half.sendFrames x m fs).role.takeover := by
  unfold Half.sendFrames
  grind +splitImp [canon_foldl, Half.send_canon]
theorem Half.relayOut_canon {hid : HalfId} {tk : Prop} (x : Half) (src : LeagueFrame) (origin : Nat) (rs : List ObjRec) (hk : Canon hid tk x.regs x.id x.fc.fifo x.ts.fifos x.can.ram x.dsp.staging x.role.takeover) :
    Canon hid tk (Half.relayOut x src origin rs).regs (Half.relayOut x src origin rs).id (Half.relayOut x src origin rs).fc.fifo (Half.relayOut x src origin rs).ts.fifos (Half.relayOut x src origin rs).can.ram (Half.relayOut x src origin rs).dsp.staging (Half.relayOut x src origin rs).role.takeover := by
  unfold Half.relayOut
  grind +splitImp [canon_foldl, Half.sendFrames_canon]
theorem Half.sendRecs_canon {hid : HalfId} {tk : Prop} (x : Half) (task : Nat) (cycle : Word) (tEnd : DWord) (full : Bool) (rs : List ObjRec) (hk : Canon hid tk x.regs x.id x.fc.fifo x.ts.fifos x.can.ram x.dsp.staging x.role.takeover) :
    Canon hid tk (Half.sendRecs x task cycle tEnd full rs).regs (Half.sendRecs x task cycle tEnd full rs).id (Half.sendRecs x task cycle tEnd full rs).fc.fifo (Half.sendRecs x task cycle tEnd full rs).ts.fifos (Half.sendRecs x task cycle tEnd full rs).can.ram (Half.sendRecs x task cycle tEnd full rs).dsp.staging (Half.sendRecs x task cycle tEnd full rs).role.takeover := by
  unfold Half.sendRecs
  grind +splitImp [canon_foldl, Half.sendFrames_canon, Half.putRec_canon, Half.relayOut_canon]
theorem Half.sendExchange_canon {hid : HalfId} {tk : Prop} (x : Half) (task : Nat) (cycle : Word) (tEnd : DWord) (full : Bool) (ps : List Nat) (hk : Canon hid tk x.regs x.id x.fc.fifo x.ts.fifos x.can.ram x.dsp.staging x.role.takeover) :
    Canon hid tk (Half.sendExchange x task cycle tEnd full ps).regs (Half.sendExchange x task cycle tEnd full ps).id (Half.sendExchange x task cycle tEnd full ps).fc.fifo (Half.sendExchange x task cycle tEnd full ps).ts.fifos (Half.sendExchange x task cycle tEnd full ps).can.ram (Half.sendExchange x task cycle tEnd full ps).dsp.staging (Half.sendExchange x task cycle tEnd full ps).role.takeover := by
  unfold Half.sendExchange
  grind +splitImp [Half.sendRecs_canon]
theorem Half.refreshHost_canon {hid : HalfId} {tk : Prop} (x : Half) (tEnd : DWord) (hk : Canon hid tk x.regs x.id x.fc.fifo x.ts.fifos x.can.ram x.dsp.staging x.role.takeover) :
    Canon hid tk (Half.refreshHost x tEnd).regs (Half.refreshHost x tEnd).id (Half.refreshHost x tEnd).fc.fifo (Half.refreshHost x tEnd).ts.fifos (Half.refreshHost x tEnd).can.ram (Half.refreshHost x tEnd).dsp.staging (Half.refreshHost x tEnd).role.takeover := by
  unfold Half.refreshHost
  grind +splitImp [Half.free_canon, Half.sendFrames_canon]
theorem Half.sendRefresh_canon {hid : HalfId} {tk : Prop} (x : Half) (task : Nat) (cycle : Word) (tEnd : DWord) (hk : Canon hid tk x.regs x.id x.fc.fifo x.ts.fifos x.can.ram x.dsp.staging x.role.takeover) :
    Canon hid tk (Half.sendRefresh x task cycle tEnd).regs (Half.sendRefresh x task cycle tEnd).id (Half.sendRefresh x task cycle tEnd).fc.fifo (Half.sendRefresh x task cycle tEnd).ts.fifos (Half.sendRefresh x task cycle tEnd).can.ram (Half.sendRefresh x task cycle tEnd).dsp.staging (Half.sendRefresh x task cycle tEnd).role.takeover := by
  unfold Half.sendRefresh
  grind +splitImp [Half.sendFrames_canon, Half.refreshHost_canon]
theorem Half.mirrorPoint_canon {hid : HalfId} {tk : Prop} (x : Half) (p : Nat) (hk : Canon hid tk x.regs x.id x.fc.fifo x.ts.fifos x.can.ram x.dsp.staging x.role.takeover) :
    Canon hid tk (Half.mirrorPoint x p).regs (Half.mirrorPoint x p).id (Half.mirrorPoint x p).fc.fifo (Half.mirrorPoint x p).ts.fifos (Half.mirrorPoint x p).can.ram (Half.mirrorPoint x p).dsp.staging (Half.mirrorPoint x p).role.takeover := by
  unfold Half.mirrorPoint
  grind +splitImp [Half.spanRel_canon]
theorem Half.publishHost_canon {hid : HalfId} {tk : Prop} (x : Half) (p : Nat) (hk : Canon hid tk x.regs x.id x.fc.fifo x.ts.fifos x.can.ram x.dsp.staging x.role.takeover) :
    Canon hid tk (Half.publishHost x p).regs (Half.publishHost x p).id (Half.publishHost x p).fc.fifo (Half.publishHost x p).ts.fifos (Half.publishHost x p).can.ram (Half.publishHost x p).dsp.staging (Half.publishHost x p).role.takeover := by
  unfold Half.publishHost
  grind +splitImp [Half.compare_canon, Half.free_canon, Half.sendRecs_canon]

/-! ### Aio.lean -/

theorem Half.modAi_canon {hid : HalfId} {tk : Prop} (x : Half) (n : Nat) (f : AiSt → AiSt) (hk : Canon hid tk x.regs x.id x.fc.fifo x.ts.fifos x.can.ram x.dsp.staging x.role.takeover) :
    Canon hid tk (Half.modAi x n f).regs (Half.modAi x n f).id (Half.modAi x n f).fc.fifo (Half.modAi x n f).ts.fifos (Half.modAi x n f).can.ram (Half.modAi x n f).dsp.staging (Half.modAi x n f).role.takeover := by
  unfold Half.modAi
  grind +splitImp []
theorem Half.aiEu_canon {hid : HalfId} {tk : Prop} (x : Half) (n : Nat) (i : F32) (hk : Canon hid tk x.regs x.id x.fc.fifo x.ts.fifos x.can.ram x.dsp.staging x.role.takeover) :
    Canon hid tk (Half.aiEu x n i).2.regs (Half.aiEu x n i).2.id (Half.aiEu x n i).2.fc.fifo (Half.aiEu x n i).2.ts.fifos (Half.aiEu x n i).2.can.ram (Half.aiEu x n i).2.dsp.staging (Half.aiEu x n i).2.role.takeover := by
  unfold Half.aiEu
  grind +splitImp [Half.free_canon]
theorem Half.aiShow_canon {hid : HalfId} {tk : Prop} (x : Half) (n : Nat) (hk : Canon hid tk x.regs x.id x.fc.fifo x.ts.fifos x.can.ram x.dsp.staging x.role.takeover) :
    Canon hid tk (Half.aiShow x n).regs (Half.aiShow x n).id (Half.aiShow x n).fc.fifo (Half.aiShow x n).ts.fifos (Half.aiShow x n).can.ram (Half.aiShow x n).dsp.staging (Half.aiShow x n).role.takeover := by
  unfold Half.aiShow
  grind (splits := 20) (ematch := 20) (gen := 20) [Half.setBit_canon, Half.setFld_canon, Half.aioIrq_canon]
theorem Half.aiBand_canon {hid : HalfId} {tk : Prop} (x : Half) (n : Nat) (b : Int) (hk : Canon hid tk x.regs x.id x.fc.fifo x.ts.fifos x.can.ram x.dsp.staging x.role.takeover) :
    Canon hid tk (Half.aiBand x n b).regs (Half.aiBand x n b).id (Half.aiBand x n b).fc.fifo (Half.aiBand x n b).ts.fifos (Half.aiBand x n b).can.ram (Half.aiBand x n b).dsp.staging (Half.aiBand x n b).role.takeover := by
  unfold Half.aiBand
  grind +splitImp [Half.raiseIf_canon, Half.aiShow_canon, Half.modAi_canon]
theorem Half.aiScale_canon {hid : HalfId} {tk : Prop} (y : Half) (ai : Nat) (cur : F32) (high : Bool) (hk : Canon hid tk y.regs y.id y.fc.fifo y.ts.fifos y.can.ram y.dsp.staging y.role.takeover) :
    Canon hid tk (Half.aiScale y ai cur high).regs (Half.aiScale y ai cur high).id (Half.aiScale y ai cur high).fc.fifo (Half.aiScale y ai cur high).ts.fifos (Half.aiScale y ai cur high).can.ram (Half.aiScale y ai cur high).dsp.staging (Half.aiScale y ai cur high).role.takeover := by
  unfold Half.aiScale
  grind +splitImp [Half.aiEu_canon, Half.wr_canon, Half.setBit_canon]
theorem Half.aiCoeffs_canon {hid : HalfId} {tk : Prop} (x : Half) (n : Nat) (temp : F32) (hk : Canon hid tk x.regs x.id x.fc.fifo x.ts.fifos x.can.ram x.dsp.staging x.role.takeover) :
    Canon hid tk (Half.aiCoeffs x n temp).2.regs (Half.aiCoeffs x n temp).2.id (Half.aiCoeffs x n temp).2.fc.fifo (Half.aiCoeffs x n temp).2.ts.fifos (Half.aiCoeffs x n temp).2.can.ram (Half.aiCoeffs x n temp).2.dsp.staging (Half.aiCoeffs x n temp).2.role.takeover := by
  unfold Half.aiCoeffs
  grind +splitImp [Half.free_canon]
theorem Half.aiCalibrated_canon {hid : HalfId} {tk : Prop} (x : Half) (ai : Nat) (c : AiCal) (hk : Canon hid tk x.regs x.id x.fc.fifo x.ts.fifos x.can.ram x.dsp.staging x.role.takeover) :
    Canon hid tk (Half.aiCalibrated x ai c).regs (Half.aiCalibrated x ai c).id (Half.aiCalibrated x ai c).fc.fifo (Half.aiCalibrated x ai c).ts.fifos (Half.aiCalibrated x ai c).can.ram (Half.aiCalibrated x ai c).dsp.staging (Half.aiCalibrated x ai c).role.takeover := by
  unfold Half.aiCalibrated
  extract_lets y1 y2 dx y3 y4
  have H1 : Canon hid tk y1.regs y1.id y1.fc.fifo y1.ts.fifos y1.can.ram y1.dsp.staging y1.role.takeover := Half.modAi_canon _ _ _ hk
  have H2 : Canon hid tk y2.regs y2.id y2.fc.fifo y2.ts.fifos y2.can.ram y2.dsp.staging y2.role.takeover := Half.aioIrq_canon _ _ (Half.wr_canon _ _ _ H1)
  have H3 : Canon hid tk y3.regs y3.id y3.fc.fifo y3.ts.fifos y3.can.ram y3.dsp.staging y3.role.takeover := canon_ite (Half.wr_canon _ _ _ H2) H2
  have H4 : Canon hid tk y4.regs y4.id y4.fc.fifo y4.ts.fifos y4.can.ram y4.dsp.staging y4.role.takeover := canon_ite H3 (Half.raise_canon _ _ (Half.aioIrq_canon _ _ H3))
  exact canon_ite (Half.raise_canon _ _ (Half.aioIrq_canon _ _ H4)) H4
theorem Half.aiConvert_canon {hid : HalfId} {tk : Prop} (y : Half) (ai : Nat) (i vs : F32) (supLim calAge : Bool) (hk : Canon hid tk y.regs y.id y.fc.fifo y.ts.fifos y.can.ram y.dsp.staging y.role.takeover) :
    Canon hid tk (Half.aiConvert y ai i vs supLim calAge).regs (Half.aiConvert y ai i vs supLim calAge).id (Half.aiConvert y ai i vs supLim calAge).fc.fifo (Half.aiConvert y ai i vs supLim calAge).ts.fifos (Half.aiConvert y ai i vs supLim calAge).can.ram (Half.aiConvert y ai i vs supLim calAge).dsp.staging (Half.aiConvert y ai i vs supLim calAge).role.takeover := by
  unfold Half.aiConvert
  grind +splitImp [Half.setFld_canon, Half.setBit_canon, Half.aiScale_canon, Half.aiShow_canon, Half.modAi_canon, Half.raiseIf_canon, Half.aiBand_canon]
theorem Half.aiGap_canon {hid : HalfId} {tk : Prop} (y : Half) (ai gap : Nat) (hk : Canon hid tk y.regs y.id y.fc.fifo y.ts.fifos y.can.ram y.dsp.staging y.role.takeover) :
    Canon hid tk (Half.aiGap y ai gap).regs (Half.aiGap y ai gap).id (Half.aiGap y ai gap).fc.fifo (Half.aiGap y ai gap).ts.fifos (Half.aiGap y ai gap).can.ram (Half.aiGap y ai gap).dsp.staging (Half.aiGap y ai gap).role.takeover := by
  unfold Half.aiGap
  grind +splitImp [Half.aiShow_canon, Half.aiCalibrated_canon]
theorem Half.aoUpdate_canon {hid : HalfId} {tk : Prop} (x : Half) (hk : Canon hid tk x.regs x.id x.fc.fifo x.ts.fifos x.can.ram x.dsp.staging x.role.takeover) :
    Canon hid tk (Half.aoUpdate x).regs (Half.aoUpdate x).id (Half.aoUpdate x).fc.fifo (Half.aoUpdate x).ts.fifos (Half.aoUpdate x).can.ram (Half.aoUpdate x).dsp.staging (Half.aoUpdate x).role.takeover := by
  unfold Half.aoUpdate
  grind +splitImp [canon_foldl, Half.setBit_canon]
theorem Half.setAo_canon {hid : HalfId} {tk : Prop} (x : Half) (m : Nat) (v : F32) (hk : Canon hid tk x.regs x.id x.fc.fifo x.ts.fifos x.can.ram x.dsp.staging x.role.takeover) :
    Canon hid tk (Half.setAo x m v).regs (Half.setAo x m v).id (Half.setAo x m v).fc.fifo (Half.setAo x m v).ts.fifos (Half.setAo x m v).can.ram (Half.setAo x m v).dsp.staging (Half.setAo x m v).role.takeover := by
  unfold Half.setAo
  grind +splitImp [Half.wr_canon, Half.aoUpdate_canon]

/-! ### EvrOps.lean -/

theorem Half.evrValue_canon {hid : HalfId} {tk : Prop} (x : Half) (ch : Nat) (v : F64) (hk : Canon hid tk x.regs x.id x.fc.fifo x.ts.fifos x.can.ram x.dsp.staging x.role.takeover) :
    Canon hid tk (Half.evrValue x ch v).regs (Half.evrValue x ch v).id (Half.evrValue x ch v).fc.fifo (Half.evrValue x ch v).ts.fifos (Half.evrValue x ch v).can.ram (Half.evrValue x ch v).dsp.staging (Half.evrValue x ch v).role.takeover := by
  unfold Half.evrValue
  grind +splitImp [Half.evrPut_canon]
theorem Half.evrTally_canon {hid : HalfId} {tk : Prop} (x : Half) (ch : Nat) (hk : Canon hid tk x.regs x.id x.fc.fifo x.ts.fifos x.can.ram x.dsp.staging x.role.takeover) :
    Canon hid tk (Half.evrTally x ch).regs (Half.evrTally x ch).id (Half.evrTally x ch).fc.fifo (Half.evrTally x ch).ts.fifos (Half.evrTally x ch).can.ram (Half.evrTally x ch).dsp.staging (Half.evrTally x ch).role.takeover := by
  unfold Half.evrTally
  grind +splitImp [Half.evrPut_canon]
theorem Half.evrPass_canon {hid : HalfId} {tk : Prop} (x : Half) (hk : Canon hid tk x.regs x.id x.fc.fifo x.ts.fifos x.can.ram x.dsp.staging x.role.takeover) :
    Canon hid tk (Half.evrPass x).regs (Half.evrPass x).id (Half.evrPass x).fc.fifo (Half.evrPass x).ts.fifos (Half.evrPass x).can.ram (Half.evrPass x).dsp.staging (Half.evrPass x).role.takeover := by
  unfold Half.evrPass
  grind +splitImp [canon_foldl, Half.wr_canon, Half.setBit_canon, Half.irq_canon]
theorem Half.evrPowerOn_canon {hid : HalfId} {tk : Prop} (x : Half) (hk : Canon hid tk x.regs x.id x.fc.fifo x.ts.fifos x.can.ram x.dsp.staging x.role.takeover) :
    Canon hid tk (Half.evrPowerOn x).regs (Half.evrPowerOn x).id (Half.evrPowerOn x).fc.fifo (Half.evrPowerOn x).ts.fifos (Half.evrPowerOn x).can.ram (Half.evrPowerOn x).dsp.staging (Half.evrPowerOn x).role.takeover := by
  unfold Half.evrPowerOn
  grind +splitImp [canon_foldl, Half.wr_canon, Half.evrEvent_canon, Half.evrPut_canon, Half.irq_canon]

/-! ### Dio.lean -/

theorem Half.doUpdate_canon {hid : HalfId} {tk : Prop} (x : Half) (hk : Canon hid tk x.regs x.id x.fc.fifo x.ts.fifos x.can.ram x.dsp.staging x.role.takeover) :
    Canon hid tk (Half.doUpdate x).regs (Half.doUpdate x).id (Half.doUpdate x).fc.fifo (Half.doUpdate x).ts.fifos (Half.doUpdate x).can.ram (Half.doUpdate x).dsp.staging (Half.doUpdate x).role.takeover := by
  unfold Half.doUpdate
  grind +splitImp [canon_foldl, Half.wr_canon, Half.clrReg_canon]
theorem Half.setDo_canon {hid : HalfId} {tk : Prop} (x : Half) (n : Nat) (b : Bool) (hk : Canon hid tk x.regs x.id x.fc.fifo x.ts.fifos x.can.ram x.dsp.staging x.role.takeover) :
    Canon hid tk (Half.setDo x n b).regs (Half.setDo x n b).id (Half.setDo x n b).fc.fifo (Half.setDo x n b).ts.fifos (Half.setDo x n b).can.ram (Half.setDo x n b).dsp.staging (Half.setDo x n b).role.takeover := by
  unfold Half.setDo
  grind +splitImp [Half.doUpdate_canon, Half.setBit_canon]
theorem Half.doCond_canon {hid : HalfId} {tk : Prop} (x : Half) (reg ch src : Nat) (hk : Canon hid tk x.regs x.id x.fc.fifo x.ts.fifos x.can.ram x.dsp.staging x.role.takeover) :
    Canon hid tk (Half.doCond x reg ch src).regs (Half.doCond x reg ch src).id (Half.doCond x reg ch src).fc.fifo (Half.doCond x reg ch src).ts.fifos (Half.doCond x reg ch src).can.ram (Half.doCond x reg ch src).dsp.staging (Half.doCond x reg ch src).role.takeover := by
  unfold Half.doCond
  grind +splitImp [Half.raise_canon, Half.dioIrq_canon, Half.setBit_canon]
theorem Half.setBit2_canon {hid : HalfId} {tk : Prop} (x : Half) (r0 r1 i : Nat) (b : Bool) (hk : Canon hid tk x.regs x.id x.fc.fifo x.ts.fifos x.can.ram x.dsp.staging x.role.takeover) :
    Canon hid tk (Half.setBit2 x r0 r1 i b).regs (Half.setBit2 x r0 r1 i b).id (Half.setBit2 x r0 r1 i b).fc.fifo (Half.setBit2 x r0 r1 i b).ts.fifos (Half.setBit2 x r0 r1 i b).can.ram (Half.setBit2 x r0 r1 i b).dsp.staging (Half.setBit2 x r0 r1 i b).role.takeover := by
  unfold Half.setBit2
  grind +splitImp [Half.setBit_canon]
theorem Half.diCount_canon {hid : HalfId} {tk : Prop} (x : Half) (i : Nat) (v : Bool) (hk : Canon hid tk x.regs x.id x.fc.fifo x.ts.fifos x.can.ram x.dsp.staging x.role.takeover) :
    Canon hid tk (Half.diCount x i v).regs (Half.diCount x i v).id (Half.diCount x i v).fc.fifo (Half.diCount x i v).ts.fifos (Half.diCount x i v).can.ram (Half.diCount x i v).dsp.staging (Half.diCount x i v).role.takeover := by
  unfold Half.diCount
  grind +splitImp [Half.setBit2_canon]
theorem Half.diChange_canon {hid : HalfId} {tk : Prop} (x : Half) (di : Nat) (new : Bool) (hk : Canon hid tk x.regs x.id x.fc.fifo x.ts.fifos x.can.ram x.dsp.staging x.role.takeover) :
    Canon hid tk (Half.diChange x di new).regs (Half.diChange x di new).id (Half.diChange x di new).fc.fifo (Half.diChange x di new).ts.fifos (Half.diChange x di new).can.ram (Half.diChange x di new).dsp.staging (Half.diChange x di new).role.takeover := by
  unfold Half.diChange
  grind +splitImp [Half.setBit2_canon, Half.diEvent_canon, Half.wr_canon, Half.setBit_canon, Half.dioIrq_canon]
theorem Half.groupFree_canon {hid : HalfId} {tk : Prop} (x : Half) (ch : Nat) (hk : Canon hid tk x.regs x.id x.fc.fifo x.ts.fifos x.can.ram x.dsp.staging x.role.takeover) :
    Canon hid tk (Half.groupFree x ch).regs (Half.groupFree x ch).id (Half.groupFree x ch).fc.fifo (Half.groupFree x ch).ts.fifos (Half.groupFree x ch).can.ram (Half.groupFree x ch).dsp.staging (Half.groupFree x ch).role.takeover := by
  unfold Half.groupFree
  grind +splitImp []
theorem Half.fiSpeed_canon {hid : HalfId} {tk : Prop} (x : Half) (f : Nat) (hk : Canon hid tk x.regs x.id x.fc.fifo x.ts.fifos x.can.ram x.dsp.staging x.role.takeover) :
    Canon hid tk (Half.fiSpeed x f).2.regs (Half.fiSpeed x f).2.id (Half.fiSpeed x f).2.fc.fifo (Half.fiSpeed x f).2.ts.fifos (Half.fiSpeed x f).2.can.ram (Half.fiSpeed x f).2.dsp.staging (Half.fiSpeed x f).2.role.takeover := by
  unfold Half.fiSpeed
  grind +splitImp [Half.free_canon]
theorem Half.fiStamp_canon {hid : HalfId} {tk : Prop} (x : Half) (fi : Nat) (t : DWord) (rising : Bool) (hk : Canon hid tk x.regs x.id x.fc.fifo x.ts.fifos x.can.ram x.dsp.staging x.role.takeover) :
    Canon hid tk (Half.fiStamp x fi t rising).regs (Half.fiStamp x fi t rising).id (Half.fiStamp x fi t rising).fc.fifo (Half.fiStamp x fi t rising).ts.fifos (Half.fiStamp x fi t rising).can.ram (Half.fiStamp x fi t rising).dsp.staging (Half.fiStamp x fi t rising).role.takeover := by
  unfold Half.fiStamp
  grind +splitImp [Half.fiSpeed_canon, Half.wr_canon, Half.setBit_canon, Half.take_canon, Half.dioIrq_canon]

/-! ### OutOps.lean -/

theorem Half.applyOut_canon {hid : HalfId} {tk : Prop} (x : Half) (d : Dst) (v : DWord) (hk : Canon hid tk x.regs x.id x.fc.fifo x.ts.fifos x.can.ram x.dsp.staging x.role.takeover) :
    Canon hid tk (Half.applyOut x d v).regs (Half.applyOut x d v).id (Half.applyOut x d v).fc.fifo (Half.applyOut x d v).ts.fifos (Half.applyOut x d v).can.ram (Half.applyOut x d v).dsp.staging (Half.applyOut x d v).role.takeover := by
  unfold Half.applyOut
  grind +splitImp [Half.setDo_canon, Half.setAo_canon]
theorem Half.driveForced_canon {hid : HalfId} {tk : Prop} (x : Half) (p : Nat) (hk : Canon hid tk x.regs x.id x.fc.fifo x.ts.fifos x.can.ram x.dsp.staging x.role.takeover) :
    Canon hid tk (Half.driveForced x p).regs (Half.driveForced x p).id (Half.driveForced x p).fc.fifo (Half.driveForced x p).ts.fifos (Half.driveForced x p).can.ram (Half.driveForced x p).dsp.staging (Half.driveForced x p).role.takeover := by
  unfold Half.driveForced
  grind +splitImp [Half.applyOut_canon]
theorem Half.drive_canon {hid : HalfId} {tk : Prop} (x : Half) (d : Dst) (v : Val) (hk : Canon hid tk x.regs x.id x.fc.fifo x.ts.fifos x.can.ram x.dsp.staging x.role.takeover) :
    Canon hid tk (Half.drive x d v).regs (Half.drive x d v).id (Half.drive x d v).fc.fifo (Half.drive x d v).ts.fifos (Half.drive x d v).can.ram (Half.drive x d v).dsp.staging (Half.drive x d v).role.takeover := by
  unfold Half.drive
  grind +splitImp [Half.applyOut_canon, Half.driveForced_canon, Half.writePoint_canon]
theorem Half.hostWrite_canon {hid : HalfId} {tk : Prop} (x : Half) (p : Nat) (v : Val) (hk : Canon hid tk x.regs x.id x.fc.fifo x.ts.fifos x.can.ram x.dsp.staging x.role.takeover) :
    Canon hid tk (Half.hostWrite x p v).regs (Half.hostWrite x p v).id (Half.hostWrite x p v).fc.fifo (Half.hostWrite x p v).ts.fifos (Half.hostWrite x p v).can.ram (Half.hostWrite x p v).dsp.staging (Half.hostWrite x p v).role.takeover := by
  unfold Half.hostWrite
  grind +splitImp [Half.driveForced_canon, Half.publishHost_canon, Half.writePoint_canon, Half.mirrorPoint_canon]

/-! ### TraceOps.lean -/

theorem Half.vdIrq_canon {hid : HalfId} {tk : Prop} (x : Half) (bit : Nat) (hk : Canon hid tk x.regs x.id x.fc.fifo x.ts.fifos x.can.ram x.dsp.staging x.role.takeover) :
    Canon hid tk (Half.vdIrq x bit).regs (Half.vdIrq x bit).id (Half.vdIrq x bit).fc.fifo (Half.vdIrq x bit).ts.fifos (Half.vdIrq x bit).can.ram (Half.vdIrq x bit).dsp.staging (Half.vdIrq x bit).role.takeover := by
  unfold Half.vdIrq
  grind +splitImp [Half.irq_canon]
theorem Half.modTg_canon {hid : HalfId} {tk : Prop} (x : Half) (g : Nat) (f : TgSt → TgSt) (hk : Canon hid tk x.regs x.id x.fc.fifo x.ts.fifos x.can.ram x.dsp.staging x.role.takeover) :
    Canon hid tk (Half.modTg x g f).regs (Half.modTg x g f).id (Half.modTg x g f).fc.fifo (Half.modTg x g f).ts.fifos (Half.modTg x g f).can.ram (Half.modTg x g f).dsp.staging (Half.modTg x g f).role.takeover := by
  unfold Half.modTg
  grind +splitImp []
theorem Half.modTc_canon {hid : HalfId} {tk : Prop} (x : Half) (c : Nat) (f : TcSt → TcSt) (hk : Canon hid tk x.regs x.id x.fc.fifo x.ts.fifos x.can.ram x.dsp.staging x.role.takeover) :
    Canon hid tk (Half.modTc x c f).regs (Half.modTc x c f).id (Half.modTc x c f).fc.fifo (Half.modTc x c f).ts.fifos (Half.modTc x c f).can.ram (Half.modTc x c f).dsp.staging (Half.modTc x c f).role.takeover := by
  unfold Half.modTc
  grind +splitImp []
theorem Half.tcShow_canon {hid : HalfId} {tk : Prop} (x : Half) (c : Nat) (hk : Canon hid tk x.regs x.id x.fc.fifo x.ts.fifos x.can.ram x.dsp.staging x.role.takeover) :
    Canon hid tk (Half.tcShow x c).regs (Half.tcShow x c).id (Half.tcShow x c).fc.fifo (Half.tcShow x c).ts.fifos (Half.tcShow x c).can.ram (Half.tcShow x c).dsp.staging (Half.tcShow x c).role.takeover := by
  unfold Half.tcShow
  grind +splitImp [Half.wr_canon]
theorem Half.tcDone_canon {hid : HalfId} {tk : Prop} (x : Half) (c : Nat) (aborted : Bool) (hk : Canon hid tk x.regs x.id x.fc.fifo x.ts.fifos x.can.ram x.dsp.staging x.role.takeover) :
    Canon hid tk (Half.tcDone x c aborted).regs (Half.tcDone x c aborted).id (Half.tcDone x c aborted).fc.fifo (Half.tcDone x c aborted).ts.fifos (Half.tcDone x c aborted).can.ram (Half.tcDone x c aborted).dsp.staging (Half.tcDone x c aborted).role.takeover := by
  unfold Half.tcDone
  grind +splitImp [Half.setBit_canon, Half.tcShow_canon, Half.vdIrq_canon, Half.setFld_canon]
theorem Half.tcRef_canon {hid : HalfId} {tk : Prop} (x : Half) (c : Nat) (hk : Canon hid tk x.regs x.id x.fc.fifo x.ts.fifos x.can.ram x.dsp.staging x.role.takeover) :
    Canon hid tk (Half.tcRef x c).regs (Half.tcRef x c).id (Half.tcRef x c).fc.fifo (Half.tcRef x c).ts.fifos (Half.tcRef x c).can.ram (Half.tcRef x c).dsp.staging (Half.tcRef x c).role.takeover := by
  unfold Half.tcRef
  grind +splitImp [Half.wr_canon, Half.modTc_canon]
theorem Half.tcTrigOne_canon {hid : HalfId} {tk : Prop} (x : Half) (c : Nat) (hk : Canon hid tk x.regs x.id x.fc.fifo x.ts.fifos x.can.ram x.dsp.staging x.role.takeover) :
    Canon hid tk (Half.tcTrigOne x c).2.regs (Half.tcTrigOne x c).2.id (Half.tcTrigOne x c).2.fc.fifo (Half.tcTrigOne x c).2.ts.fifos (Half.tcTrigOne x c).2.can.ram (Half.tcTrigOne x c).2.dsp.staging (Half.tcTrigOne x c).2.role.takeover := by
  unfold Half.tcTrigOne
  grind +splitImp [Half.tcRef_canon, Half.setFld_canon, Half.setBit_canon, Half.tcDone_canon]
theorem Half.tcTrigger_canon {hid : HalfId} {tk : Prop} : ∀ (n : Nat) (x : Half) (l : List Nat), Canon hid tk x.regs x.id x.fc.fifo x.ts.fifos x.can.ram x.dsp.staging x.role.takeover →
    Canon hid tk (Half.tcTrigger n x l).regs (Half.tcTrigger n x l).id (Half.tcTrigger n x l).fc.fifo (Half.tcTrigger n x l).ts.fifos (Half.tcTrigger n x l).can.ram (Half.tcTrigger n x l).dsp.staging (Half.tcTrigger n x l).role.takeover := by
  intro n
  induction n with
  | zero => intro x l h; unfold Half.tcTrigger; exact h
  | succ n ih =>
    intro x l h
    cases l with
    | nil => unfold Half.tcTrigger; exact h
    | cons c rest => unfold Half.tcTrigger; exact ih _ _ (Half.tcTrigOne_canon _ _ h)
theorem Half.tcEvent_canon {hid : HalfId} {tk : Prop} (x : Half) (trig idx : Nat) (hk : Canon hid tk x.regs x.id x.fc.fifo x.ts.fifos x.can.ram x.dsp.staging x.role.takeover) :
    Canon hid tk (Half.tcEvent x trig idx).regs (Half.tcEvent x trig idx).id (Half.tcEvent x trig idx).fc.fifo (Half.tcEvent x trig idx).ts.fifos (Half.tcEvent x trig idx).can.ram (Half.tcEvent x trig idx).dsp.staging (Half.tcEvent x trig idx).role.takeover := by
  unfold Half.tcEvent
  exact Half.tcTrigger_canon _ _ _ hk
theorem Half.tcArmed_canon {hid : HalfId} {tk : Prop} (x : Half) (c : Nat) (hk : Canon hid tk x.regs x.id x.fc.fifo x.ts.fifos x.can.ram x.dsp.staging x.role.takeover) :
    Canon hid tk (Half.tcArmed x c).regs (Half.tcArmed x c).id (Half.tcArmed x c).fc.fifo (Half.tcArmed x c).ts.fifos (Half.tcArmed x c).can.ram (Half.tcArmed x c).dsp.staging (Half.tcArmed x c).role.takeover := by
  unfold Half.tcArmed
  grind +splitImp [Half.wr_canon, Half.tcShow_canon, Half.modTc_canon, Half.setFld_canon]
theorem Half.tcStopped_canon {hid : HalfId} {tk : Prop} (x : Half) (c : Nat) (hk : Canon hid tk x.regs x.id x.fc.fifo x.ts.fifos x.can.ram x.dsp.staging x.role.takeover) :
    Canon hid tk (Half.tcStopped x c).regs (Half.tcStopped x c).id (Half.tcStopped x c).fc.fifo (Half.tcStopped x c).ts.fifos (Half.tcStopped x c).can.ram (Half.tcStopped x c).dsp.staging (Half.tcStopped x c).role.takeover := by
  unfold Half.tcStopped
  grind +splitImp [Half.tcRef_canon, Half.tcDone_canon]
theorem Half.tcIdle_canon {hid : HalfId} {tk : Prop} (x : Half) (c : Nat) (hk : Canon hid tk x.regs x.id x.fc.fifo x.ts.fifos x.can.ram x.dsp.staging x.role.takeover) :
    Canon hid tk (Half.tcIdle x c).regs (Half.tcIdle x c).id (Half.tcIdle x c).fc.fifo (Half.tcIdle x c).ts.fifos (Half.tcIdle x c).can.ram (Half.tcIdle x c).dsp.staging (Half.tcIdle x c).role.takeover := by
  unfold Half.tcIdle
  grind +splitImp [Half.wr_canon, Half.modTc_canon, Half.tcShow_canon]
theorem Half.tcRecord_canon {hid : HalfId} {tk : Prop} (x : Half) (c : Nat) (v : Word) (held : Bool) (hk : Canon hid tk x.regs x.id x.fc.fifo x.ts.fifos x.can.ram x.dsp.staging x.role.takeover) :
    Canon hid tk (Half.tcRecord x c v held).regs (Half.tcRecord x c v held).id (Half.tcRecord x c v held).fc.fifo (Half.tcRecord x c v held).ts.fifos (Half.tcRecord x c v held).can.ram (Half.tcRecord x c v held).dsp.staging (Half.tcRecord x c v held).role.takeover := by
  unfold Half.tcRecord
  grind +splitImp [Half.modTc_canon, Half.tcDone_canon, Half.setFld_canon]
theorem Half.tcUpdate_canon {hid : HalfId} {tk : Prop} (x : Half) (c : Nat) (v : Word) (held : Bool) (hk : Canon hid tk x.regs x.id x.fc.fifo x.ts.fifos x.can.ram x.dsp.staging x.role.takeover) :
    Canon hid tk (Half.tcUpdate x c v held).regs (Half.tcUpdate x c v held).id (Half.tcUpdate x c v held).fc.fifo (Half.tcUpdate x c v held).ts.fifos (Half.tcUpdate x c v held).can.ram (Half.tcUpdate x c v held).dsp.staging (Half.tcUpdate x c v held).role.takeover := by
  unfold Half.tcUpdate
  extract_lets st k n y1 y2
  split
  · exact hk
  · have H1 : Canon hid tk y1.regs y1.id y1.fc.fifo y1.ts.fifos y1.can.ram y1.dsp.staging y1.role.takeover := Half.modTc_canon _ _ _ hk
    have H2 : Canon hid tk y2.regs y2.id y2.fc.fifo y2.ts.fifos y2.can.ram y2.dsp.staging y2.role.takeover := canon_ite H1 (Half.tcRecord_canon _ _ _ _ H1)
    exact Half.tcShow_canon _ _ (canon_ite (Half.tcTrigger_canon _ _ _ H2) H2)
theorem Half.tcSource_canon {hid : HalfId} {tk : Prop} (x : Half) (kind idx : Nat) (v : Word) (held : Bool) (hk : Canon hid tk x.regs x.id x.fc.fifo x.ts.fifos x.can.ram x.dsp.staging x.role.takeover) :
    Canon hid tk (Half.tcSource x kind idx v held).regs (Half.tcSource x kind idx v held).id (Half.tcSource x kind idx v held).fc.fifo (Half.tcSource x kind idx v held).ts.fifos (Half.tcSource x kind idx v held).can.ram (Half.tcSource x kind idx v held).dsp.staging (Half.tcSource x kind idx v held).role.takeover := by
  unfold Half.tcSource
  grind +splitImp [canon_foldl, Half.tcUpdate_canon]
theorem Half.tgSample_canon {hid : HalfId} {tk : Prop} (x : Half) (chain : Nat) (hk : Canon hid tk x.regs x.id x.fc.fifo x.ts.fifos x.can.ram x.dsp.staging x.role.takeover) :
    Canon hid tk (Half.tgSample x chain).regs (Half.tgSample x chain).id (Half.tgSample x chain).fc.fifo (Half.tgSample x chain).ts.fifos (Half.tgSample x chain).can.ram (Half.tgSample x chain).dsp.staging (Half.tgSample x chain).role.takeover := by
  unfold Half.tgSample
  grind +splitImp [canon_foldl, Half.modTg_canon]
theorem Half.tgEnd_canon {hid : HalfId} {tk : Prop} (x : Half) (g status : Nat) (hk : Canon hid tk x.regs x.id x.fc.fifo x.ts.fifos x.can.ram x.dsp.staging x.role.takeover) :
    Canon hid tk (Half.tgEnd x g status).regs (Half.tgEnd x g status).id (Half.tgEnd x g status).fc.fifo (Half.tgEnd x g status).ts.fifos (Half.tgEnd x g status).can.ram (Half.tgEnd x g status).dsp.staging (Half.tgEnd x g status).role.takeover := by
  unfold Half.tgEnd
  grind +splitImp [Half.modTg_canon, Half.vdIrq_canon, Half.finishCmd_canon, Half.setFld_canon]
theorem Half.tgChainStop_canon {hid : HalfId} {tk : Prop} (x : Half) (chain : Nat) (hk : Canon hid tk x.regs x.id x.fc.fifo x.ts.fifos x.can.ram x.dsp.staging x.role.takeover) :
    Canon hid tk (Half.tgChainStop x chain).regs (Half.tgChainStop x chain).id (Half.tgChainStop x chain).fc.fifo (Half.tgChainStop x chain).ts.fifos (Half.tgChainStop x chain).can.ram (Half.tgChainStop x chain).dsp.staging (Half.tgChainStop x chain).role.takeover := by
  unfold Half.tgChainStop
  grind +splitImp [canon_foldl, Half.tgEnd_canon]
theorem Half.tgStarted_canon {hid : HalfId} {tk : Prop} (x : Half) (g : Nat) (mask : Byte) (cmd : Option (Nat × Nat)) (hk : Canon hid tk x.regs x.id x.fc.fifo x.ts.fifos x.can.ram x.dsp.staging x.role.takeover) :
    Canon hid tk (Half.tgStarted x g mask cmd).regs (Half.tgStarted x g mask cmd).id (Half.tgStarted x g mask cmd).fc.fifo (Half.tgStarted x g mask cmd).ts.fifos (Half.tgStarted x g mask cmd).can.ram (Half.tgStarted x g mask cmd).dsp.staging (Half.tgStarted x g mask cmd).role.takeover := by
  unfold Half.tgStarted
  grind +splitImp [canon_foldl, Half.modTg_canon, Half.tcArmed_canon, Half.setFld_canon]
theorem Half.endTuning_canon {hid : HalfId} {tk : Prop} (x : Half) (hk : Canon hid tk x.regs x.id x.fc.fifo x.ts.fifos x.can.ram x.dsp.staging x.role.takeover) :
    Canon hid tk (Half.endTuning x).regs (Half.endTuning x).id (Half.endTuning x).fc.fifo (Half.endTuning x).ts.fifos (Half.endTuning x).can.ram (Half.endTuning x).dsp.staging (Half.endTuning x).role.takeover := by
  unfold Half.endTuning
  grind +splitImp [canon_foldl, Half.tcIdle_canon, Half.tgEnd_canon]

end Sys2Proof.Machine
end

