-- ==== Sys2Proof/Laws/CanonEngines.lean ====
section
/-! SUPPORT. Every operation keeps a half in canonical form (Canon, Safety.lean): the valve-drive, control-engine, display, CAN, serial and lockstep operations.
One lemma per operation, in the order of the model. -/
namespace Sys2Proof.Machine
set_option linter.all false
set_option maxHeartbeats 400000

/-! ### VdOps.lean -/

theorem Half.modVd_canon {hid : HalfId} {tk : Prop} (x : Half) (v : Nat) (f : VdSt → VdSt) (hk : Canon hid tk x.regs x.id x.fc.fifo x.ts.fifos x.can.ram x.dsp.staging x.role.takeover) :
    Canon hid tk (Half.modVd x v f).regs (Half.modVd x v f).id (Half.modVd x v f).fc.fifo (Half.modVd x v f).ts.fifos (Half.modVd x v f).can.ram (Half.modVd x v f).dsp.staging (Half.modVd x v f).role.takeover := by
  unfold Half.modVd
  grind +splitImp []
theorem Half.fieldVolts_canon {hid : HalfId} {tk : Prop} (x : Half) (feed : Nat) (hk : Canon hid tk x.regs x.id x.fc.fifo x.ts.fifos x.can.ram x.dsp.staging x.role.takeover) :
    Canon hid tk (Half.fieldVolts x feed).2.regs (Half.fieldVolts x feed).2.id (Half.fieldVolts x feed).2.fc.fifo (Half.fieldVolts x feed).2.ts.fifos (Half.fieldVolts x feed).2.can.ram (Half.fieldVolts x feed).2.dsp.staging (Half.fieldVolts x feed).2.role.takeover := by
  unfold Half.fieldVolts
  grind +splitImp [Half.free_canon, Half.setFld_canon]
theorem Half.vdSwitch_canon {hid : HalfId} {tk : Prop} (x : Half) (v : Nat) (on : Bool) (hk : Canon hid tk x.regs x.id x.fc.fifo x.ts.fifos x.can.ram x.dsp.staging x.role.takeover) :
    Canon hid tk (Half.vdSwitch x v on).regs (Half.vdSwitch x v on).id (Half.vdSwitch x v on).fc.fifo (Half.vdSwitch x v on).ts.fifos (Half.vdSwitch x v on).can.ram (Half.vdSwitch x v on).dsp.staging (Half.vdSwitch x v on).role.takeover := by
  unfold Half.vdSwitch
  grind +splitImp [Half.setBit_canon, Half.modVd_canon]
theorem Half.vdShow_canon {hid : HalfId} {tk : Prop} (x : Half) (v : Nat) (hk : Canon hid tk x.regs x.id x.fc.fifo x.ts.fifos x.can.ram x.dsp.staging x.role.takeover) :
    Canon hid tk (Half.vdShow x v).regs (Half.vdShow x v).id (Half.vdShow x v).fc.fifo (Half.vdShow x v).ts.fifos (Half.vdShow x v).can.ram (Half.vdShow x v).dsp.staging (Half.vdShow x v).role.takeover := by
  unfold Half.vdShow
  grind +splitImp [Half.wr_canon, Half.vdSwitch_canon, Half.setBit_canon, Half.modVd_canon]
theorem Half.vdUpdate_canon {hid : HalfId} {tk : Prop} (x : Half) (hk : Canon hid tk x.regs x.id x.fc.fifo x.ts.fifos x.can.ram x.dsp.staging x.role.takeover) :
    Canon hid tk (Half.vdUpdate x).regs (Half.vdUpdate x).id (Half.vdUpdate x).fc.fifo (Half.vdUpdate x).ts.fifos (Half.vdUpdate x).can.ram (Half.vdUpdate x).dsp.staging (Half.vdUpdate x).role.takeover := by
  unfold Half.vdUpdate
  grind +splitImp [canon_foldl, Half.vdShow_canon]
theorem Half.setIref_canon {hid : HalfId} {tk : Prop} (x : Half) (v : Nat) (r : F32) (hk : Canon hid tk x.regs x.id x.fc.fifo x.ts.fifos x.can.ram x.dsp.staging x.role.takeover) :
    Canon hid tk (Half.setIref x v r).regs (Half.setIref x v r).id (Half.setIref x v r).fc.fifo (Half.setIref x v r).ts.fifos (Half.setIref x v r).can.ram (Half.setIref x v r).dsp.staging (Half.setIref x v r).role.takeover := by
  unfold Half.setIref
  grind +splitImp [Half.vdShow_canon, Half.modVd_canon]
theorem Half.vdSee_canon {hid : HalfId} {tk : Prop} (x : Half) (v : Nat) (i : F32) (hk : Canon hid tk x.regs x.id x.fc.fifo x.ts.fifos x.can.ram x.dsp.staging x.role.takeover) :
    Canon hid tk (Half.vdSee x v i).regs (Half.vdSee x v i).id (Half.vdSee x v i).fc.fifo (Half.vdSee x v i).ts.fifos (Half.vdSee x v i).can.ram (Half.vdSee x v i).dsp.staging (Half.vdSee x v i).role.takeover := by
  unfold Half.vdSee
  grind +splitImp [Half.incSat_canon, Half.modVd_canon, Half.free_canon, Half.setBit_canon]
theorem Half.vdDecide_canon {hid : HalfId} {tk : Prop} (x : Half) (v : Nat) (on : Bool) (hk : Canon hid tk x.regs x.id x.fc.fifo x.ts.fifos x.can.ram x.dsp.staging x.role.takeover) :
    Canon hid tk (Half.vdDecide x v on).regs (Half.vdDecide x v on).id (Half.vdDecide x v on).fc.fifo (Half.vdDecide x v on).ts.fifos (Half.vdDecide x v on).can.ram (Half.vdDecide x v on).dsp.staging (Half.vdDecide x v on).role.takeover := by
  unfold Half.vdDecide
  grind +splitImp [Half.vdSwitch_canon, Half.modVd_canon]
theorem Half.vdResume_canon {hid : HalfId} {tk : Prop} (x : Half) (v : Nat) (hk : Canon hid tk x.regs x.id x.fc.fifo x.ts.fifos x.can.ram x.dsp.staging x.role.takeover) :
    Canon hid tk (Half.vdResume x v).regs (Half.vdResume x v).id (Half.vdResume x v).fc.fifo (Half.vdResume x v).ts.fifos (Half.vdResume x v).can.ram (Half.vdResume x v).dsp.staging (Half.vdResume x v).role.takeover := by
  unfold Half.vdResume
  grind +splitImp [Half.vdDecide_canon]
theorem Half.vdCompare_canon {hid : HalfId} {tk : Prop} (x : Half) (v : Nat) (i : F32) (hk : Canon hid tk x.regs x.id x.fc.fifo x.ts.fifos x.can.ram x.dsp.staging x.role.takeover) :
    Canon hid tk (Half.vdCompare x v i).regs (Half.vdCompare x v i).id (Half.vdCompare x v i).fc.fifo (Half.vdCompare x v i).ts.fifos (Half.vdCompare x v i).can.ram (Half.vdCompare x v i).dsp.staging (Half.vdCompare x v i).role.takeover := by
  unfold Half.vdCompare
  grind +splitImp [Half.vdDecide_canon]
theorem Half.vdFfWritten_canon {hid : HalfId} {tk : Prop} (x : Half) (v : Nat) (hk : Canon hid tk x.regs x.id x.fc.fifo x.ts.fifos x.can.ram x.dsp.staging x.role.takeover) :
    Canon hid tk (Half.vdFfWritten x v).regs (Half.vdFfWritten x v).id (Half.vdFfWritten x v).fc.fifo (Half.vdFfWritten x v).ts.fifos (Half.vdFfWritten x v).can.ram (Half.vdFfWritten x v).dsp.staging (Half.vdFfWritten x v).role.takeover := by
  unfold Half.vdFfWritten
  grind +splitImp [Half.modVd_canon]
theorem Half.vdStartOne_canon {hid : HalfId} {tk : Prop} (x : Half) (v : Nat) (hk : Canon hid tk x.regs x.id x.fc.fifo x.ts.fifos x.can.ram x.dsp.staging x.role.takeover) :
    Canon hid tk (Half.vdStartOne x v).regs (Half.vdStartOne x v).id (Half.vdStartOne x v).fc.fifo (Half.vdStartOne x v).ts.fifos (Half.vdStartOne x v).can.ram (Half.vdStartOne x v).dsp.staging (Half.vdStartOne x v).role.takeover := by
  unfold Half.vdStartOne
  grind +splitImp [Half.vdShow_canon, Half.modVd_canon, Half.vdResume_canon]
theorem Half.vdEnabled_canon {hid : HalfId} {tk : Prop} (x : Half) (v : Nat) (hk : Canon hid tk x.regs x.id x.fc.fifo x.ts.fifos x.can.ram x.dsp.staging x.role.takeover) :
    Canon hid tk (Half.vdEnabled x v).regs (Half.vdEnabled x v).id (Half.vdEnabled x v).fc.fifo (Half.vdEnabled x v).ts.fifos (Half.vdEnabled x v).can.ram (Half.vdEnabled x v).dsp.staging (Half.vdEnabled x v).role.takeover := by
  unfold Half.vdEnabled
  grind +splitImp [Half.vdShow_canon, Half.vdResume_canon, Half.setBit_canon, Half.modVd_canon]
theorem Half.vdStart_canon {hid : HalfId} {tk : Prop} (x : Half) (hk : Canon hid tk x.regs x.id x.fc.fifo x.ts.fifos x.can.ram x.dsp.staging x.role.takeover) :
    Canon hid tk (Half.vdStart x).regs (Half.vdStart x).id (Half.vdStart x).fc.fifo (Half.vdStart x).ts.fifos (Half.vdStart x).can.ram (Half.vdStart x).dsp.staging (Half.vdStart x).role.takeover := by
  unfold Half.vdStart
  grind +splitImp [canon_foldl, Half.vdStartOne_canon]
theorem Half.vdStop_canon {hid : HalfId} {tk : Prop} (x : Half) (hk : Canon hid tk x.regs x.id x.fc.fifo x.ts.fifos x.can.ram x.dsp.staging x.role.takeover) :
    Canon hid tk (Half.vdStop x).regs (Half.vdStop x).id (Half.vdStop x).fc.fifo (Half.vdStop x).ts.fifos (Half.vdStop x).can.ram (Half.vdStop x).dsp.staging (Half.vdStop x).role.takeover := by
  unfold Half.vdStop
  grind +splitImp [Half.vdUpdate_canon]
theorem Half.vdCond_canon {hid : HalfId} {tk : Prop} (x : Half) (v bit src : Nat) (hk : Canon hid tk x.regs x.id x.fc.fifo x.ts.fifos x.can.ram x.dsp.staging x.role.takeover) :
    Canon hid tk (Half.vdCond x v bit src).regs (Half.vdCond x v bit src).id (Half.vdCond x v bit src).fc.fifo (Half.vdCond x v bit src).ts.fifos (Half.vdCond x v bit src).can.ram (Half.vdCond x v bit src).dsp.staging (Half.vdCond x v bit src).role.takeover := by
  unfold Half.vdCond
  grind +splitImp [Half.vdShow_canon, Half.raise_canon, Half.setBit_canon, Half.vdIrq_canon, Half.modVd_canon]

/-! ### CeOps.lean -/

theorem Half.modChain_canon {hid : HalfId} {tk : Prop} (x : Half) (c : Nat) (f : ChainSt → ChainSt) (hk : Canon hid tk x.regs x.id x.fc.fifo x.ts.fifos x.can.ram x.dsp.staging x.role.takeover) :
    Canon hid tk (Half.modChain x c f).regs (Half.modChain x c f).id (Half.modChain x c f).fc.fifo (Half.modChain x c f).ts.fifos (Half.modChain x c f).can.ram (Half.modChain x c f).dsp.staging (Half.modChain x c f).role.takeover := by
  unfold Half.modChain
  grind +splitImp []
theorem Half.setDesc_canon {hid : HalfId} {tk : Prop} (x : Half) (c : Nat) (d : Desc) (hk : Canon hid tk x.regs x.id x.fc.fifo x.ts.fifos x.can.ram x.dsp.staging x.role.takeover) :
    Canon hid tk (Half.setDesc x c d).regs (Half.setDesc x c d).id (Half.setDesc x c d).fc.fifo (Half.setDesc x c d).ts.fifos (Half.setDesc x c d).can.ram (Half.setDesc x c d).dsp.staging (Half.setDesc x c d).role.takeover := by
  unfold Half.setDesc
  grind +splitImp []
theorem Half.setSect_canon {hid : HalfId} {tk : Prop} (x : Half) (k : Nat) (s : Sect) (hk : Canon hid tk x.regs x.id x.fc.fifo x.ts.fifos x.can.ram x.dsp.staging x.role.takeover) :
    Canon hid tk (Half.setSect x k s).regs (Half.setSect x k s).id (Half.setSect x k s).fc.fifo (Half.setSect x k s).ts.fifos (Half.setSect x k s).can.ram (Half.setSect x k s).dsp.staging (Half.setSect x k s).role.takeover := by
  unfold Half.setSect
  grind +splitImp []
theorem Half.setSects_canon {hid : HalfId} {tk : Prop} (x : Half) (first : Nat) (ss : List Sect) (hk : Canon hid tk x.regs x.id x.fc.fifo x.ts.fifos x.can.ram x.dsp.staging x.role.takeover) :
    Canon hid tk (Half.setSects x first ss).regs (Half.setSects x first ss).id (Half.setSects x first ss).fc.fifo (Half.setSects x first ss).ts.fifos (Half.setSects x first ss).can.ram (Half.setSects x first ss).dsp.staging (Half.setSects x first ss).role.takeover := by
  unfold Half.setSects
  grind +splitImp [canon_foldl, Half.setSect_canon]
theorem Half.ceIrq_canon {hid : HalfId} {tk : Prop} (x : Half) (k : Nat) (hk : Canon hid tk x.regs x.id x.fc.fifo x.ts.fifos x.can.ram x.dsp.staging x.role.takeover) :
    Canon hid tk (Half.ceIrq x k).regs (Half.ceIrq x k).id (Half.ceIrq x k).fc.fifo (Half.ceIrq x k).ts.fifos (Half.ceIrq x k).can.ram (Half.ceIrq x k).dsp.staging (Half.ceIrq x k).role.takeover := by
  unfold Half.ceIrq
  grind +splitImp [Half.irq_canon]
theorem Half.chainShow_canon {hid : HalfId} {tk : Prop} (x : Half) (c : Nat) (hk : Canon hid tk x.regs x.id x.fc.fifo x.ts.fifos x.can.ram x.dsp.staging x.role.takeover) :
    Canon hid tk (Half.chainShow x c).regs (Half.chainShow x c).id (Half.chainShow x c).fc.fifo (Half.chainShow x c).ts.fifos (Half.chainShow x c).can.ram (Half.chainShow x c).dsp.staging (Half.chainShow x c).role.takeover := by
  unfold Half.chainShow
  grind +splitImp [Half.setBit_canon]
theorem Half.sealChain_canon {hid : HalfId} {tk : Prop} (x : Half) (c : Nat) (hk : Canon hid tk x.regs x.id x.fc.fifo x.ts.fifos x.can.ram x.dsp.staging x.role.takeover) :
    Canon hid tk (Half.sealChain x c).regs (Half.sealChain x c).id (Half.sealChain x c).fc.fifo (Half.sealChain x c).ts.fifos (Half.sealChain x c).can.ram (Half.sealChain x c).dsp.staging (Half.sealChain x c).role.takeover := by
  unfold Half.sealChain
  grind +splitImp [Half.setDesc_canon]
theorem Half.ceLevels_canon {hid : HalfId} {tk : Prop} (x : Half) (hk : Canon hid tk x.regs x.id x.fc.fifo x.ts.fifos x.can.ram x.dsp.staging x.role.takeover) :
    Canon hid tk (Half.ceLevels x).regs (Half.ceLevels x).id (Half.ceLevels x).fc.fifo (Half.ceLevels x).ts.fifos (Half.ceLevels x).can.ram (Half.ceLevels x).dsp.staging (Half.ceLevels x).role.takeover := by
  unfold Half.ceLevels
  grind (splits := 20) (ematch := 20) (gen := 20) [Half.setBit_canon, Half.setFld_canon]
theorem Half.markInst_canon {hid : HalfId} {tk : Prop} (x : Half) (w : Option (Nat × Nat)) (v : DWord) (hk : Canon hid tk x.regs x.id x.fc.fifo x.ts.fifos x.can.ram x.dsp.staging x.role.takeover) :
    Canon hid tk (Half.markInst x w v).regs (Half.markInst x w v).id (Half.markInst x w v).fc.fifo (Half.markInst x w v).ts.fifos (Half.markInst x w v).can.ram (Half.markInst x w v).dsp.staging (Half.markInst x w v).role.takeover := by
  unfold Half.markInst
  grind +splitImp []
theorem Half.endSwap_canon {hid : HalfId} {tk : Prop} (x : Half) (c : Nat) (w : Swap) (ok : Bool) (t : DWord) (hk : Canon hid tk x.regs x.id x.fc.fifo x.ts.fifos x.can.ram x.dsp.staging x.role.takeover) :
    Canon hid tk (Half.endSwap x c w ok t).regs (Half.endSwap x c w ok t).id (Half.endSwap x c w ok t).fc.fifo (Half.endSwap x c w ok t).ts.fifos (Half.endSwap x c w ok t).can.ram (Half.endSwap x c w ok t).dsp.staging (Half.endSwap x c w ok t).role.takeover := by
  unfold Half.endSwap
  grind +splitImp [Half.finishCmd_canon, Half.markInst_canon]
theorem Half.switchBank_canon {hid : HalfId} {tk : Prop} (x : Half) (c : Nat) (w : Swap) (t : DWord) (hk : Canon hid tk x.regs x.id x.fc.fifo x.ts.fifos x.can.ram x.dsp.staging x.role.takeover) :
    Canon hid tk (Half.switchBank x c w t).regs (Half.switchBank x c w t).id (Half.switchBank x c w t).fc.fifo (Half.switchBank x c w t).ts.fifos (Half.switchBank x c w t).can.ram (Half.switchBank x c w t).dsp.staging (Half.switchBank x c w t).role.takeover := by
  unfold Half.switchBank
  grind +splitImp [Half.tcEvent_canon, Half.endSwap_canon, Half.modChain_canon, Half.chainShow_canon, Half.sealChain_canon]
theorem Half.flushSwap_canon {hid : HalfId} {tk : Prop} (x : Half) (c : Nat) (hk : Canon hid tk x.regs x.id x.fc.fifo x.ts.fifos x.can.ram x.dsp.staging x.role.takeover) :
    Canon hid tk (Half.flushSwap x c).regs (Half.flushSwap x c).id (Half.flushSwap x c).fc.fifo (Half.flushSwap x c).ts.fifos (Half.flushSwap x c).can.ram (Half.flushSwap x c).dsp.staging (Half.flushSwap x c).role.takeover := by
  unfold Half.flushSwap
  grind +splitImp [Half.modChain_canon, Half.switchBank_canon]
theorem Half.requestSwap_canon {hid : HalfId} {tk : Prop} (x : Half) (c : Nat) (w : Swap) (hk : Canon hid tk x.regs x.id x.fc.fifo x.ts.fifos x.can.ram x.dsp.staging x.role.takeover) :
    Canon hid tk (Half.requestSwap x c w).regs (Half.requestSwap x c w).id (Half.requestSwap x c w).fc.fifo (Half.requestSwap x c w).ts.fifos (Half.requestSwap x c w).can.ram (Half.requestSwap x c w).dsp.staging (Half.requestSwap x c w).role.takeover := by
  unfold Half.requestSwap
  grind +splitImp [Half.endSwap_canon, Half.modChain_canon, Half.switchBank_canon, Half.chainShow_canon]
theorem Half.forwardCe_canon {hid : HalfId} {tk : Prop} (x : Half) (i : CfgItem) (hk : Canon hid tk x.regs x.id x.fc.fifo x.ts.fifos x.can.ram x.dsp.staging x.role.takeover) :
    Canon hid tk (Half.forwardCe x i).regs (Half.forwardCe x i).id (Half.forwardCe x i).fc.fifo (Half.forwardCe x i).ts.fifos (Half.forwardCe x i).can.ram (Half.forwardCe x i).dsp.staging (Half.forwardCe x i).role.takeover := by
  unfold Half.forwardCe
  grind +splitImp [Half.spanRel_canon]
theorem Half.clearStates_canon {hid : HalfId} {tk : Prop} (x : Half) (c : Nat) (hk : Canon hid tk x.regs x.id x.fc.fifo x.ts.fifos x.can.ram x.dsp.staging x.role.takeover) :
    Canon hid tk (Half.clearStates x c).regs (Half.clearStates x c).id (Half.clearStates x c).fc.fifo (Half.clearStates x c).ts.fifos (Half.clearStates x c).can.ram (Half.clearStates x c).dsp.staging (Half.clearStates x c).role.takeover := by
  unfold Half.clearStates
  grind +splitImp [Half.setSects_canon]
theorem Half.setMode_canon {hid : HalfId} {tk : Prop} (x : Half) (c : Nat) (m : ChainMode) (hk : Canon hid tk x.regs x.id x.fc.fifo x.ts.fifos x.can.ram x.dsp.staging x.role.takeover) :
    Canon hid tk (Half.setMode x c m).regs (Half.setMode x c m).id (Half.setMode x c m).fc.fifo (Half.setMode x c m).ts.fifos (Half.setMode x c m).can.ram (Half.setMode x c m).dsp.staging (Half.setMode x c m).role.takeover := by
  unfold Half.setMode
  grind +splitImp [Half.modChain_canon, Half.tgChainStop_canon, Half.flushSwap_canon, Half.chainShow_canon, Half.clearStates_canon]
theorem Half.restartChain_canon {hid : HalfId} {tk : Prop} (x : Half) (c : Nat) (hk : Canon hid tk x.regs x.id x.fc.fifo x.ts.fifos x.can.ram x.dsp.staging x.role.takeover) :
    Canon hid tk (Half.restartChain x c).regs (Half.restartChain x c).id (Half.restartChain x c).fc.fifo (Half.restartChain x c).ts.fifos (Half.restartChain x c).can.ram (Half.restartChain x c).dsp.staging (Half.restartChain x c).role.takeover := by
  unfold Half.restartChain
  grind +splitImp [Half.modChain_canon, Half.chainShow_canon, Half.clearStates_canon, Half.flushSwap_canon]
theorem Half.startChain_canon {hid : HalfId} {tk : Prop} (x : Half) (c : ChainCfg) (overlay : Bool) (hk : Canon hid tk x.regs x.id x.fc.fifo x.ts.fifos x.can.ram x.dsp.staging x.role.takeover) :
    Canon hid tk (Half.startChain x c overlay).regs (Half.startChain x c overlay).id (Half.startChain x c overlay).fc.fifo (Half.startChain x c overlay).ts.fifos (Half.startChain x c overlay).can.ram (Half.startChain x c overlay).dsp.staging (Half.startChain x c overlay).role.takeover := by
  unfold Half.startChain
  grind +splitImp [Half.setDesc_canon, Half.modChain_canon, Half.setSects_canon, Half.chainShow_canon, Half.sealChain_canon]
theorem Half.loadChains_canon {hid : HalfId} {tk : Prop} (x : Half) (hk : Canon hid tk x.regs x.id x.fc.fifo x.ts.fifos x.can.ram x.dsp.staging x.role.takeover) :
    Canon hid tk (Half.loadChains x).regs (Half.loadChains x).id (Half.loadChains x).fc.fifo (Half.loadChains x).ts.fifos (Half.loadChains x).can.ram (Half.loadChains x).dsp.staging (Half.loadChains x).role.takeover := by
  unfold Half.loadChains
  grind +splitImp [canon_foldl, Half.ceLevels_canon, Half.startChain_canon]
theorem Half.writeDesc_canon {hid : HalfId} {tk : Prop} (x : Half) (c : Nat) (d : Desc) (hk : Canon hid tk x.regs x.id x.fc.fifo x.ts.fifos x.can.ram x.dsp.staging x.role.takeover) :
    Canon hid tk (Half.writeDesc x c d).regs (Half.writeDesc x c d).id (Half.writeDesc x c d).fc.fifo (Half.writeDesc x c d).ts.fifos (Half.writeDesc x c d).can.ram (Half.writeDesc x c d).dsp.staging (Half.writeDesc x c d).role.takeover := by
  unfold Half.writeDesc
  grind +splitImp [Half.setDesc_canon, Half.modChain_canon, Half.sealChain_canon]
theorem Half.takeDesc_canon {hid : HalfId} {tk : Prop} (x : Half) (c slot : Nat) (hk : Canon hid tk x.regs x.id x.fc.fifo x.ts.fifos x.can.ram x.dsp.staging x.role.takeover) :
    Canon hid tk (Half.takeDesc x c slot).regs (Half.takeDesc x c slot).id (Half.takeDesc x c slot).fc.fifo (Half.takeDesc x c slot).ts.fifos (Half.takeDesc x c slot).can.ram (Half.takeDesc x c slot).dsp.staging (Half.takeDesc x c slot).role.takeover := by
  unfold Half.takeDesc
  grind +splitImp [Half.setDesc_canon, Half.modChain_canon, Half.setMode_canon, Half.setSects_canon, Half.startChain_canon, Half.chainShow_canon, Half.sealChain_canon, Half.take_canon]
theorem Half.scheduleTake_canon {hid : HalfId} {tk : Prop} (x : Half) (c slot : Nat) (hk : Canon hid tk x.regs x.id x.fc.fifo x.ts.fifos x.can.ram x.dsp.staging x.role.takeover) :
    Canon hid tk (Half.scheduleTake x c slot).regs (Half.scheduleTake x c slot).id (Half.scheduleTake x c slot).fc.fifo (Half.scheduleTake x c slot).ts.fifos (Half.scheduleTake x c slot).can.ram (Half.scheduleTake x c slot).dsp.staging (Half.scheduleTake x c slot).role.takeover := by
  unfold Half.scheduleTake
  grind +splitImp [Half.modChain_canon, Half.takeDesc_canon, Half.take_canon]

/-! ### Ce.lean -/

theorem Half.trackChain_canon {hid : HalfId} {tk : Prop} (x : Half) (c : Nat) (t : TrackChain) (hk : Canon hid tk x.regs x.id x.fc.fifo x.ts.fifos x.can.ram x.dsp.staging x.role.takeover) :
    Canon hid tk (Half.trackChain x c t).regs (Half.trackChain x c t).id (Half.trackChain x c t).fc.fifo (Half.trackChain x c t).ts.fifos (Half.trackChain x c t).can.ram (Half.trackChain x c t).dsp.staging (Half.trackChain x c t).role.takeover := by
  unfold Half.trackChain
  grind +splitImp [Half.modChain_canon, Half.setSects_canon, Half.chainShow_canon, Half.sealChain_canon]
theorem Half.chainTrace_canon {hid : HalfId} {tk : Prop} (x : Half) (c : Nat) (d : Desc) (l : Latch) (lat : Option Word) (hk : Canon hid tk x.regs x.id x.fc.fifo x.ts.fifos x.can.ram x.dsp.staging x.role.takeover) :
    Canon hid tk (Half.chainTrace x c d l lat).regs (Half.chainTrace x c d l lat).id (Half.chainTrace x c d l lat).fc.fifo (Half.chainTrace x c d l lat).ts.fifos (Half.chainTrace x c d l lat).can.ram (Half.chainTrace x c d l lat).dsp.staging (Half.chainTrace x c d l lat).role.takeover := by
  unfold Half.chainTrace
  grind +splitImp [canon_foldl, Half.tcSource_canon]
theorem Half.latchSample_canon {hid : HalfId} {tk : Prop} (y : Half) (c : Nat) (trig tTrig : DWord) (hk : Canon hid tk y.regs y.id y.fc.fifo y.ts.fifos y.can.ram y.dsp.staging y.role.takeover) :
    Canon hid tk (Half.latchSample y c trig tTrig).regs (Half.latchSample y c trig tTrig).id (Half.latchSample y c trig tTrig).fc.fifo (Half.latchSample y c trig tTrig).ts.fifos (Half.latchSample y c trig tTrig).can.ram (Half.latchSample y c trig tTrig).dsp.staging (Half.latchSample y c trig tTrig).role.takeover := by
  unfold Half.latchSample
  grind +splitImp [Half.modChain_canon, Half.chainShow_canon, Half.ceLevels_canon, Half.fieldVolts_canon, Half.chainTrace_canon]
theorem Half.dequeueSample_canon {hid : HalfId} {tk : Prop} (x : Half) (c : Nat) (hk : Canon hid tk x.regs x.id x.fc.fifo x.ts.fifos x.can.ram x.dsp.staging x.role.takeover) :
    Canon hid tk (Half.dequeueSample x c).regs (Half.dequeueSample x c).id (Half.dequeueSample x c).fc.fifo (Half.dequeueSample x c).ts.fifos (Half.dequeueSample x c).can.ram (Half.dequeueSample x c).dsp.staging (Half.dequeueSample x c).role.takeover := by
  unfold Half.dequeueSample
  grind +splitImp [Half.trackChain_canon, Half.takeDesc_canon, Half.take_canon]
theorem Half.outAs_canon {hid : HalfId} {tk : Prop} (x : Half) (t : PType) (out : F32) (hk : Canon hid tk x.regs x.id x.fc.fifo x.ts.fifos x.can.ram x.dsp.staging x.role.takeover) :
    Canon hid tk (Half.outAs x t out).2.regs (Half.outAs x t out).2.id (Half.outAs x t out).2.fc.fifo (Half.outAs x t out).2.ts.fifos (Half.outAs x t out).2.can.ram (Half.outAs x t out).2.dsp.staging (Half.outAs x t out).2.role.takeover := by
  unfold Half.outAs
  grind +splitImp [Half.free_canon]
theorem Half.chainOutput_canon {hid : HalfId} {tk : Prop} (x : Half) (d : Desc) (l : Latch) (out : F32) (hk : Canon hid tk x.regs x.id x.fc.fifo x.ts.fifos x.can.ram x.dsp.staging x.role.takeover) :
    Canon hid tk (Half.chainOutput x d l out).regs (Half.chainOutput x d l out).id (Half.chainOutput x d l out).fc.fifo (Half.chainOutput x d l out).ts.fifos (Half.chainOutput x d l out).can.ram (Half.chainOutput x d l out).dsp.staging (Half.chainOutput x d l out).role.takeover := by
  unfold Half.chainOutput
  grind +splitImp [Half.tcUpdate_canon, Half.modChain_canon, Half.setIref_canon, Half.drive_canon, Half.outAs_canon]
theorem Half.ceLoad_canon {hid : HalfId} {tk : Prop} (x : Half) (n : Nat) (hk : Canon hid tk x.regs x.id x.fc.fifo x.ts.fifos x.can.ram x.dsp.staging x.role.takeover) :
    Canon hid tk (Half.ceLoad x n).regs (Half.ceLoad x n).id (Half.ceLoad x n).fc.fifo (Half.ceLoad x n).ts.fifos (Half.ceLoad x n).can.ram (Half.ceLoad x n).dsp.staging (Half.ceLoad x n).role.takeover := by
  unfold Half.ceLoad
  grind +splitImp [Half.setFld_canon]
theorem Half.haltChain_canon {hid : HalfId} {tk : Prop} (x : Half) (c : Nat) (l : Latch) (hk : Canon hid tk x.regs x.id x.fc.fifo x.ts.fifos x.can.ram x.dsp.staging x.role.takeover) :
    Canon hid tk (Half.haltChain x c l).regs (Half.haltChain x c l).id (Half.haltChain x c l).fc.fifo (Half.haltChain x c l).ts.fifos (Half.haltChain x c l).can.ram (Half.haltChain x c l).dsp.staging (Half.haltChain x c l).role.takeover := by
  unfold Half.haltChain
  grind +splitImp [Half.ceIrq_canon, Half.raise_canon, Half.endSwap_canon, Half.modChain_canon, Half.chainShow_canon, Half.tgChainStop_canon]
theorem Half.writeSample_canon {hid : HalfId} {tk : Prop} (x : Half) (chain : Nat) (l : Latch) (ev : Evaluated) (xin r v r1 : F64) (hk : Canon hid tk x.regs x.id x.fc.fifo x.ts.fifos x.can.ram x.dsp.staging x.role.takeover) :
    Canon hid tk (Half.writeSample x chain l ev xin r v r1).regs (Half.writeSample x chain l ev xin r v r1).id (Half.writeSample x chain l ev xin r v r1).fc.fifo (Half.writeSample x chain l ev xin r v r1).ts.fifos (Half.writeSample x chain l ev xin r v r1).can.ram (Half.writeSample x chain l ev xin r v r1).dsp.staging (Half.writeSample x chain l ev xin r v r1).role.takeover := by
  unfold Half.writeSample
  grind (splits := 20) (ematch := 20) (gen := 20) [Half.setSects_canon, Half.modChain_canon, Half.chainOutput_canon, Half.switchBank_canon, Half.ceIrq_canon, Half.evrValue_canon, Half.chainTrace_canon, Half.tgSample_canon, Half.chainShow_canon, Half.ceLevels_canon]
theorem Half.completeSample_canon {hid : HalfId} {tk : Prop} (x : Half) (chain : Nat) (l : Latch) (hk : Canon hid tk x.regs x.id x.fc.fifo x.ts.fifos x.can.ram x.dsp.staging x.role.takeover) :
    Canon hid tk (Half.completeSample x chain l).regs (Half.completeSample x chain l).id (Half.completeSample x chain l).fc.fifo (Half.completeSample x chain l).ts.fifos (Half.completeSample x chain l).can.ram (Half.completeSample x chain l).dsp.staging (Half.completeSample x chain l).role.takeover := by
  unfold Half.completeSample
  extract_lets k d
  have H : ∀ p : F64 × Half, p = (if (x.chainPeriod chain d).2 = 0 then x.free else (x.chainT chain d, x)) →
      Canon hid tk p.2.regs p.2.id p.2.fc.fifo p.2.ts.fifos p.2.can.ram p.2.dsp.staging p.2.role.takeover := by
    intro p hp
    subst hp
    split
    · exact Half.free_canon _ hk
    · exact hk
  generalize hp : (if (x.chainPeriod chain d).2 = 0 then x.free else (x.chainT chain d, x)) = p
  have H' := H p hp.symm
  obtain ⟨t, y⟩ := p
  exact canon_ite (Half.ceLevels_canon _ (Half.haltChain_canon _ _ _ (Half.ceLoad_canon _ _ H'))) (Half.writeSample_canon _ _ _ _ _ _ _ _ (Half.ceLoad_canon _ _ H'))
theorem Half.sendTrack_canon {hid : HalfId} {tk : Prop} (x : Half) (hk : Canon hid tk x.regs x.id x.fc.fifo x.ts.fifos x.can.ram x.dsp.staging x.role.takeover) :
    Canon hid tk (Half.sendTrack x).regs (Half.sendTrack x).id (Half.sendTrack x).fc.fifo (Half.sendTrack x).ts.fifos (Half.sendTrack x).can.ram (Half.sendTrack x).dsp.staging (Half.sendTrack x).role.takeover := by
  unfold Half.sendTrack
  grind +splitImp [Half.spanPut_canon]
theorem Half.trackDev_canon {hid : HalfId} {tk : Prop} (x : Half) (t : TrackChain) (hk : Canon hid tk x.regs x.id x.fc.fifo x.ts.fifos x.can.ram x.dsp.staging x.role.takeover) :
    Canon hid tk (Half.trackDev x t).regs (Half.trackDev x t).id (Half.trackDev x t).fc.fifo (Half.trackDev x t).ts.fifos (Half.trackDev x t).can.ram (Half.trackDev x t).dsp.staging (Half.trackDev x t).role.takeover := by
  unfold Half.trackDev
  grind +splitImp [Half.ceIrq_canon, Half.modChain_canon, Half.raise_canon]
theorem Half.takeTrack_canon {hid : HalfId} {tk : Prop} (y : Half) (t : TrackChain) (hk : Canon hid tk y.regs y.id y.fc.fifo y.ts.fifos y.can.ram y.dsp.staging y.role.takeover) :
    Canon hid tk (Half.takeTrack y t).regs (Half.takeTrack y t).id (Half.takeTrack y t).fc.fifo (Half.takeTrack y t).ts.fifos (Half.takeTrack y t).can.ram (Half.takeTrack y t).dsp.staging (Half.takeTrack y t).role.takeover := by
  unfold Half.takeTrack
  grind +splitImp [Half.trackChain_canon, Half.trackDev_canon, Half.modChain_canon]
theorem Half.ceCmd_canon {hid : HalfId} {tk : Prop} (x : Half) (c : Nat) (m : ChainMode) (hk : Canon hid tk x.regs x.id x.fc.fifo x.ts.fifos x.can.ram x.dsp.staging x.role.takeover) :
    Canon hid tk (Half.ceCmd x c m).regs (Half.ceCmd x c m).id (Half.ceCmd x c m).fc.fifo (Half.ceCmd x c m).ts.fifos (Half.ceCmd x c m).can.ram (Half.ceCmd x c m).dsp.staging (Half.ceCmd x c m).role.takeover := by
  unfold Half.ceCmd
  grind +splitImp [Half.forwardCe_canon, Half.setMode_canon]

/-! ### DspOps.lean -/

theorem Half.dspIrq_canon {hid : HalfId} {tk : Prop} (x : Half) (k : Nat) (hk : Canon hid tk x.regs x.id x.fc.fifo x.ts.fifos x.can.ram x.dsp.staging x.role.takeover) :
    Canon hid tk (Half.dspIrq x k).regs (Half.dspIrq x k).id (Half.dspIrq x k).fc.fifo (Half.dspIrq x k).ts.fifos (Half.dspIrq x k).can.ram (Half.dspIrq x k).dsp.staging (Half.dspIrq x k).role.takeover := by
  unfold Half.dspIrq
  grind +splitImp [Half.irq_canon]
theorem foldl_staging {α : Type} (g : DspBlk → α → DspBlk) (hg : ∀ d a, (g d a).staging = d.staging) (l : List α) (d : DspBlk) :
    (l.foldl g d).staging = d.staging := by
  induction l generalizing d with
  | nil => rfl
  | cons a l ih => rw [List.foldl_cons, ih, hg]
theorem DspBlk.assign_staging (d : DspBlk) (slot : Nat) (clear : Bool) (i new : Nat) : (d.assign slot clear i new).staging = d.staging := by
  unfold DspBlk.assign; split <;> rfl
theorem DspBlk.pass_staging (d : DspBlk) : d.pass.staging = d.staging := by
  unfold DspBlk.pass; apply foldl_staging; intro d a; rfl
theorem Half.modRegion_canon {hid : HalfId} {tk : Prop} (x : Half) (k : Nat) (f : Region → Region) (hk : Canon hid tk x.regs x.id x.fc.fifo x.ts.fifos x.can.ram x.dsp.staging x.role.takeover) :
    Canon hid tk (Half.modRegion x k f).regs (Half.modRegion x k f).id (Half.modRegion x k f).fc.fifo (Half.modRegion x k f).ts.fifos (Half.modRegion x k f).can.ram (Half.modRegion x k f).dsp.staging (Half.modRegion x k f).role.takeover := by
  unfold Half.modRegion
  grind +splitImp []
theorem Half.dspShow_canon {hid : HalfId} {tk : Prop} (x : Half) (hk : Canon hid tk x.regs x.id x.fc.fifo x.ts.fifos x.can.ram x.dsp.staging x.role.takeover) :
    Canon hid tk (Half.dspShow x).regs (Half.dspShow x).id (Half.dspShow x).fc.fifo (Half.dspShow x).ts.fifos (Half.dspShow x).can.ram (Half.dspShow x).dsp.staging (Half.dspShow x).role.takeover := by
  unfold Half.dspShow
  grind +splitImp [Half.wr_canon, Half.setBit_canon, Half.setFld_canon]
theorem Half.goOn_canon {hid : HalfId} {tk : Prop} (x : Half) (i : Nat) (p : Pix) (hk : Canon hid tk x.regs x.id x.fc.fifo x.ts.fifos x.can.ram x.dsp.staging x.role.takeover) :
    Canon hid tk (Half.goOn x i p).regs (Half.goOn x i p).id (Half.goOn x i p).fc.fifo (Half.goOn x i p).ts.fifos (Half.goOn x i p).can.ram (Half.goOn x i p).dsp.staging (Half.goOn x i p).role.takeover := by
  unfold Half.goOn
  grind +splitImp []
theorem Half.stressFrame_canon {hid : HalfId} {tk : Prop} (x : Half) (hk : Canon hid tk x.regs x.id x.fc.fifo x.ts.fifos x.can.ram x.dsp.staging x.role.takeover) :
    Canon hid tk (Half.stressFrame x).regs (Half.stressFrame x).id (Half.stressFrame x).fc.fifo (Half.stressFrame x).ts.fifos (Half.stressFrame x).can.ram (Half.stressFrame x).dsp.staging (Half.stressFrame x).role.takeover := by
  unfold Half.stressFrame
  grind +splitImp [canon_foldl, Half.wr_canon, Half.setBit_canon]
theorem Half.dspCopy_canon {hid : HalfId} {tk : Prop} (x : Half) (i : CfgItem) (hk : Canon hid tk x.regs x.id x.fc.fifo x.ts.fifos x.can.ram x.dsp.staging x.role.takeover) :
    Canon hid tk (Half.dspCopy x i).regs (Half.dspCopy x i).id (Half.dspCopy x i).fc.fifo (Half.dspCopy x i).ts.fifos (Half.dspCopy x i).can.ram (Half.dspCopy x i).dsp.staging (Half.dspCopy x i).role.takeover := by
  unfold Half.dspCopy
  grind +splitImp [Half.spanRel_canon]
theorem Half.regionDone_canon {hid : HalfId} {tk : Prop} (x : Half) (slot : Nat) (hk : Canon hid tk x.regs x.id x.fc.fifo x.ts.fifos x.can.ram x.dsp.staging x.role.takeover) :
    Canon hid tk (Half.regionDone x slot).regs (Half.regionDone x slot).id (Half.regionDone x slot).fc.fifo (Half.regionDone x slot).ts.fifos (Half.regionDone x slot).can.ram (Half.regionDone x slot).dsp.staging (Half.regionDone x slot).role.takeover := by
  unfold Half.regionDone
  grind +splitImp [Half.dspCopy_canon, Half.dspIrq_canon, Half.finishCmd_canon, Half.dspShow_canon, Half.incSat_canon]
theorem Half.regionStart_canon {hid : HalfId} {tk : Prop} (x : Half) (slot : Nat) (hk : Canon hid tk x.regs x.id x.fc.fifo x.ts.fifos x.can.ram x.dsp.staging x.role.takeover) :
    Canon hid tk (Half.regionStart x slot).regs (Half.regionStart x slot).id (Half.regionStart x slot).fc.fifo (Half.regionStart x slot).ts.fifos (Half.regionStart x slot).can.ram (Half.regionStart x slot).dsp.staging (Half.regionStart x slot).role.takeover := by
  unfold Half.regionStart
  extract_lets e is d y
  have H : Canon hid tk y.regs y.id y.fc.fifo y.ts.fifos y.can.ram y.dsp.staging y.role.takeover := by
    have h : y.dsp.staging = x.dsp.staging := foldl_staging _ (fun d a => DspBlk.assign_staging d _ _ _ _) _ _
    rw [h]; exact hk
  exact Half.dspIrq_canon _ _ (Half.modRegion_canon _ _ _ H)
theorem Half.recoverStep_canon {hid : HalfId} {tk : Prop} (x : Half) (hk : Canon hid tk x.regs x.id x.fc.fifo x.ts.fifos x.can.ram x.dsp.staging x.role.takeover) :
    Canon hid tk (Half.recoverStep x).regs (Half.recoverStep x).id (Half.recoverStep x).fc.fifo (Half.recoverStep x).ts.fifos (Half.recoverStep x).can.ram (Half.recoverStep x).dsp.staging (Half.recoverStep x).role.takeover := by
  unfold Half.recoverStep
  split
  · exact hk
  · extract_lets e is r y ls y1 y2 y3
    have H : Canon hid tk y.regs y.id y.fc.fifo y.ts.fifos y.can.ram y.dsp.staging y.role.takeover := by
      have h : y.dsp.staging = x.dsp.staging := by apply foldl_staging; intro d a; rfl
      rw [h]; exact hk
    have H1 : Canon hid tk y1.regs y1.id y1.fc.fifo y1.ts.fifos y1.can.ram y1.dsp.staging y1.role.takeover := canon_ite hk (Half.setBit_canon _ _ _ _ hk)
    have H2 : Canon hid tk y2.regs y2.id y2.fc.fifo y2.ts.fifos y2.can.ram y2.dsp.staging y2.role.takeover := by
      have h : y2.dsp.staging = y1.dsp.staging := by apply foldl_staging; intro d a; (repeat' split) <;> rfl
      rw [h]; exact H1
    clear_value y y1 y2
    grind +splitImp [Half.modRegion_canon, Half.dspIrq_canon, Half.regionDone_canon, canon_foldl, Half.setBit_canon, Half.logEvt_canon]
theorem Half.recoverAll_canon {hid : HalfId} {tk : Prop} (x : Half) (hk : Canon hid tk x.regs x.id x.fc.fifo x.ts.fifos x.can.ram x.dsp.staging x.role.takeover) :
    Canon hid tk (Half.recoverAll x).regs (Half.recoverAll x).id (Half.recoverAll x).fc.fifo (Half.recoverAll x).ts.fifos (Half.recoverAll x).can.ram (Half.recoverAll x).dsp.staging (Half.recoverAll x).role.takeover := by
  unfold Half.recoverAll
  grind +splitImp [Half.dspShow_canon]
theorem Half.regionCommit_canon {hid : HalfId} {tk : Prop} (x : Half) (slot : Nat) (e : JournalEntry) (levels : List Nat) (cmd : Option (Nat × Nat)) (hk : Canon hid tk x.regs x.id x.fc.fifo x.ts.fifos x.can.ram x.dsp.staging x.role.takeover) :
    Canon hid tk (Half.regionCommit x slot e levels cmd).regs (Half.regionCommit x slot e levels cmd).id (Half.regionCommit x slot e levels cmd).fc.fifo (Half.regionCommit x slot e levels cmd).ts.fifos (Half.regionCommit x slot e levels cmd).can.ram (Half.regionCommit x slot e levels cmd).dsp.staging (Half.regionCommit x slot e levels cmd).role.takeover := by
  unfold Half.regionCommit
  grind +splitImp [Half.dspCopy_canon, Half.dspShow_canon]
theorem Half.clearPanel_canon {hid : HalfId} {tk : Prop} (x : Half) (hk : Canon hid tk x.regs x.id x.fc.fifo x.ts.fifos x.can.ram x.dsp.staging x.role.takeover) :
    Canon hid tk (Half.clearPanel x).regs (Half.clearPanel x).id (Half.clearPanel x).fc.fifo (Half.clearPanel x).ts.fifos (Half.clearPanel x).can.ram (Half.clearPanel x).dsp.staging (Half.clearPanel x).role.takeover := by
  unfold Half.clearPanel
  grind +splitImp [Half.regionCommit_canon, Half.dspShow_canon]
theorem Half.discharge_canon {hid : HalfId} {tk : Prop} (x : Half) (hk : Canon hid tk x.regs x.id x.fc.fifo x.ts.fifos x.can.ram x.dsp.staging x.role.takeover) :
    Canon hid tk (Half.discharge x).regs (Half.discharge x).id (Half.discharge x).fc.fifo (Half.discharge x).ts.fifos (Half.discharge x).can.ram (Half.discharge x).dsp.staging (Half.discharge x).role.takeover := by
  unfold Half.discharge
  grind +splitImp [Half.dspIrq_canon, Half.setBit_canon, Half.recoverAll_canon]
theorem Half.dispTake_canon {hid : HalfId} {tk : Prop} (x : Half) (hk : Canon hid tk x.regs x.id x.fc.fifo x.ts.fifos x.can.ram x.dsp.staging x.role.takeover) :
    Canon hid tk (Half.dispTake x).regs (Half.dispTake x).id (Half.dispTake x).fc.fifo (Half.dispTake x).ts.fifos (Half.dispTake x).can.ram (Half.dispTake x).dsp.staging (Half.dispTake x).role.takeover := by
  unfold Half.dispTake
  grind +splitImp [Half.orReg_canon, Half.recoverAll_canon]
theorem Half.dispLeave_canon {hid : HalfId} {tk : Prop} (x : Half) (hk : Canon hid tk x.regs x.id x.fc.fifo x.ts.fifos x.can.ram x.dsp.staging x.role.takeover) :
    Canon hid tk (Half.dispLeave x).regs (Half.dispLeave x).id (Half.dispLeave x).fc.fifo (Half.dispLeave x).ts.fifos (Half.dispLeave x).can.ram (Half.dispLeave x).dsp.staging (Half.dispLeave x).role.takeover := by
  unfold Half.dispLeave
  grind +splitImp [Half.clrReg_canon, Half.dspShow_canon, Half.discharge_canon]

/-! ### Faults.lean -/

theorem Half.noteOverruns_canon {hid : HalfId} {tk : Prop} (x : Half) (hk : Canon hid tk x.regs x.id x.fc.fifo x.ts.fifos x.can.ram x.dsp.staging x.role.takeover) :
    Canon hid tk (Half.noteOverruns x).regs (Half.noteOverruns x).id (Half.noteOverruns x).fc.fifo (Half.noteOverruns x).ts.fifos (Half.noteOverruns x).can.ram (Half.noteOverruns x).dsp.staging (Half.noteOverruns x).role.takeover := by
  unfold Half.noteOverruns
  grind +splitImp []
theorem Half.pendClear_canon {hid : HalfId} {tk : Prop} (x : Half) (i : Nat) (mask : Word) (hk : Canon hid tk x.regs x.id x.fc.fifo x.ts.fifos x.can.ram x.dsp.staging x.role.takeover) :
    Canon hid tk (Half.pendClear x i mask).regs (Half.pendClear x i mask).id (Half.pendClear x i mask).fc.fifo (Half.pendClear x i mask).ts.fifos (Half.pendClear x i mask).can.ram (Half.pendClear x i mask).dsp.staging (Half.pendClear x i mask).role.takeover := by
  unfold Half.pendClear
  grind +splitImp [Half.fcStatus_canon, Half.noteOverruns_canon, Half.clrReg_canon]
theorem Half.releaseHeld_canon {hid : HalfId} {tk : Prop} (x : Half) (hk : Canon hid tk x.regs x.id x.fc.fifo x.ts.fifos x.can.ram x.dsp.staging x.role.takeover) :
    Canon hid tk (Half.releaseHeld x).regs (Half.releaseHeld x).id (Half.releaseHeld x).fc.fifo (Half.releaseHeld x).ts.fifos (Half.releaseHeld x).can.ram (Half.releaseHeld x).dsp.staging (Half.releaseHeld x).role.takeover := by
  unfold Half.releaseHeld
  refine Half.fcStatus_canon _ (canon_foldl hk fun y src hy => ?_)
  exact Half.reactL2_canon _ _ _ (Half.evrCount_canon _ _ (Half.fcEntry_canon _ _ (Half.setSrc_canon _ _ _ _ (Half.setSrc_canon _ _ _ _ (Half.setSrc_canon _ _ _ _ hy)))))
theorem Half.countRecovery_canon {hid : HalfId} {tk : Prop} (x : Half) (cls : Nat) (hk : Canon hid tk x.regs x.id x.fc.fifo x.ts.fifos x.can.ram x.dsp.staging x.role.takeover) :
    Canon hid tk (Half.countRecovery x cls).regs (Half.countRecovery x cls).id (Half.countRecovery x cls).fc.fifo (Half.countRecovery x cls).ts.fifos (Half.countRecovery x cls).can.ram (Half.countRecovery x cls).dsp.staging (Half.countRecovery x cls).role.takeover := by
  unfold Half.countRecovery
  grind +splitImp [Half.setBit_canon, Half.setFld_canon]
theorem Half.releaseResets_canon {hid : HalfId} {tk : Prop} (x : Half) (hk : Canon hid tk x.regs x.id x.fc.fifo x.ts.fifos x.can.ram x.dsp.staging x.role.takeover) :
    Canon hid tk (Half.releaseResets x).regs (Half.releaseResets x).id (Half.releaseResets x).fc.fifo (Half.releaseResets x).ts.fifos (Half.releaseResets x).can.ram (Half.releaseResets x).dsp.staging (Half.releaseResets x).role.takeover := by
  unfold Half.releaseResets
  grind +splitImp [canon_foldl, Half.clrReg_canon, Half.setBit_canon]
theorem Half.openMail_canon {hid : HalfId} {tk : Prop} (x : Half) (ch : Nat) (v : Word) (hk : Canon hid tk x.regs x.id x.fc.fifo x.ts.fifos x.can.ram x.dsp.staging x.role.takeover) :
    Canon hid tk (Half.openMail x ch v).regs (Half.openMail x ch v).id (Half.openMail x ch v).fc.fifo (Half.openMail x ch v).ts.fifos (Half.openMail x ch v).can.ram (Half.openMail x ch v).dsp.staging (Half.openMail x ch v).role.takeover := by
  unfold Half.openMail
  grind +splitImp [Half.wr_canon, Half.setFld_canon]
theorem Half.firmwareUp_canon {hid : HalfId} {tk : Prop} (x : Half) (hk : Canon hid tk x.regs x.id x.fc.fifo x.ts.fifos x.can.ram x.dsp.staging x.role.takeover) :
    Canon hid tk (Half.firmwareUp x).regs (Half.firmwareUp x).id (Half.firmwareUp x).fc.fifo (Half.firmwareUp x).ts.fifos (Half.firmwareUp x).can.ram (Half.firmwareUp x).dsp.staging (Half.firmwareUp x).role.takeover := by
  unfold Half.firmwareUp
  grind +splitImp [canon_foldl, Half.openMail_canon, Half.wr_canon, Half.setBit_canon]
theorem Half.enterNative_canon {hid : HalfId} {tk : Prop} (x : Half) (hk : Canon hid tk x.regs x.id x.fc.fifo x.ts.fifos x.can.ram x.dsp.staging x.role.takeover) :
    Canon hid tk (Half.enterNative x).regs (Half.enterNative x).id (Half.enterNative x).fc.fifo (Half.enterNative x).ts.fifos (Half.enterNative x).can.ram (Half.enterNative x).dsp.staging (Half.enterNative x).role.takeover := by
  unfold Half.enterNative
  grind +splitImp [Half.firmwareUp_canon]
theorem Half.reboot_canon {hid : HalfId} {tk : Prop} (x : Half) (hk : Canon hid tk x.regs x.id x.fc.fifo x.ts.fifos x.can.ram x.dsp.staging x.role.takeover) :
    Canon hid tk (Half.reboot x).regs (Half.reboot x).id (Half.reboot x).fc.fifo (Half.reboot x).ts.fifos (Half.reboot x).can.ram (Half.reboot x).dsp.staging (Half.reboot x).role.takeover := by
  unfold Half.reboot
  grind +splitImp [→ canon_noTake]
theorem Half.recover_canon {hid : HalfId} {tk : Prop} (x : Half) (hk : Canon hid tk x.regs x.id x.fc.fifo x.ts.fifos x.can.ram x.dsp.staging x.role.takeover) :
    Canon hid tk (Half.recover x).regs (Half.recover x).id (Half.recover x).fc.fifo (Half.recover x).ts.fifos (Half.recover x).can.ram (Half.recover x).dsp.staging (Half.recover x).role.takeover := by
  unfold Half.recover
  grind (splits := 20) (ematch := 20) (gen := 20) [Half.countRecovery_canon, Half.setBit_canon, Half.irq_canon, Half.enterReset_canon, Half.fcStatus_canon, Half.enterNative_canon, Half.releaseResets_canon, Half.firmwareUp_canon, Half.reboot_canon, Half.assertL3_canon]
theorem Half.flush_canon {hid : HalfId} {tk : Prop} (x : Half) (p : Pair) (hk : Canon hid tk x.regs x.id x.fc.fifo x.ts.fifos x.can.ram x.dsp.staging x.role.takeover) :
    Canon hid tk (Half.flush x p).regs (Half.flush x p).id (Half.flush x p).fc.fifo (Half.flush x p).ts.fifos (Half.flush x p).can.ram (Half.flush x p).dsp.staging (Half.flush x p).role.takeover := by
  unfold Half.flush
  grind +splitImp []
theorem Half.mismatch_canon {hid : HalfId} {tk : Prop} (x : Half) (p : Pair) (c : LsCause) (hk : Canon hid tk x.regs x.id x.fc.fifo x.ts.fifos x.can.ram x.dsp.staging x.role.takeover) :
    Canon hid tk (Half.mismatch x p c).regs (Half.mismatch x p c).id (Half.mismatch x p c).fc.fifo (Half.mismatch x p c).ts.fifos (Half.mismatch x p c).can.ram (Half.mismatch x p c).dsp.staging (Half.mismatch x p c).role.takeover := by
  unfold Half.mismatch
  grind +splitImp [Half.resetScruple_canon, Half.setFld_canon, Half.raise_canon]
theorem Half.detect_canon {hid : HalfId} {tk : Prop} (x : Half) (src : Nat) (hk : Canon hid tk x.regs x.id x.fc.fifo x.ts.fifos x.can.ram x.dsp.staging x.role.takeover) :
    Canon hid tk (Half.detect x src).regs (Half.detect x src).id (Half.detect x src).fc.fifo (Half.detect x src).ts.fifos (Half.detect x src).can.ram (Half.detect x src).dsp.staging (Half.detect x src).role.takeover := by
  unfold Half.detect
  grind +splitImp [Half.raise_canon, Half.setBit_canon, Half.mismatch_canon]
theorem Half.inject_canon {hid : HalfId} {tk : Prop} (x : Half) (src : Nat) (hk : Canon hid tk x.regs x.id x.fc.fifo x.ts.fifos x.can.ram x.dsp.staging x.role.takeover) :
    Canon hid tk (Half.inject x src).regs (Half.inject x src).id (Half.inject x src).fc.fifo (Half.inject x src).ts.fifos (Half.inject x src).can.ram (Half.inject x src).dsp.staging (Half.inject x src).role.takeover := by
  unfold Half.inject
  extract_lets
  (repeat' split) <;> grind +splitImp [Half.raise_canon, Half.setSrc_canon, Half.evrEvent_canon, Half.setBit_canon, Half.irq_canon, Half.fcEntry_canon, Half.setFld_canon, Half.detect_canon]
theorem Half.countEcc_canon {hid : HalfId} {tk : Prop} (x : Half) (m : EccMem) (hk : Canon hid tk x.regs x.id x.fc.fifo x.ts.fifos x.can.ram x.dsp.staging x.role.takeover) :
    Canon hid tk (Half.countEcc x m).regs (Half.countEcc x m).id (Half.countEcc x m).fc.fifo (Half.countEcc x m).ts.fifos (Half.countEcc x m).can.ram (Half.countEcc x m).dsp.staging (Half.countEcc x m).role.takeover := by
  unfold Half.countEcc
  grind +splitImp [Half.raiseIf_canon]

/-! ### CvOps.lean -/

theorem Half.cvIrq_canon {hid : HalfId} {tk : Prop} (x : Half) (j : Nat) (hk : Canon hid tk x.regs x.id x.fc.fifo x.ts.fifos x.can.ram x.dsp.staging x.role.takeover) :
    Canon hid tk (Half.cvIrq x j).regs (Half.cvIrq x j).id (Half.cvIrq x j).fc.fifo (Half.cvIrq x j).ts.fifos (Half.cvIrq x j).can.ram (Half.cvIrq x j).dsp.staging (Half.cvIrq x j).role.takeover := by
  unfold Half.cvIrq
  grind +splitImp [Half.irq_canon]
theorem Half.cvShow_canon {hid : HalfId} {tk : Prop} (x : Half) (hk : Canon hid tk x.regs x.id x.fc.fifo x.ts.fifos x.can.ram x.dsp.staging x.role.takeover) :
    Canon hid tk (Half.cvShow x).regs (Half.cvShow x).id (Half.cvShow x).fc.fifo (Half.cvShow x).ts.fifos (Half.cvShow x).can.ram (Half.cvShow x).dsp.staging (Half.cvShow x).role.takeover := by
  unfold Half.cvShow
  grind +splitImp [canon_foldl, Half.setFld_canon, Half.setBit_canon]
theorem Half.cvEnd_canon {hid : HalfId} {tk : Prop} (x : Half) (j state : Nat) (hk : Canon hid tk x.regs x.id x.fc.fifo x.ts.fifos x.can.ram x.dsp.staging x.role.takeover) :
    Canon hid tk (Half.cvEnd x j state).regs (Half.cvEnd x j state).id (Half.cvEnd x j state).fc.fifo (Half.cvEnd x j state).ts.fifos (Half.cvEnd x j state).can.ram (Half.cvEnd x j state).dsp.staging (Half.cvEnd x j state).role.takeover := by
  unfold Half.cvEnd
  grind +splitImp [Half.cvIrq_canon, Half.cvShow_canon, Half.setFld_canon]
theorem Half.cvFree_canon {hid : HalfId} {tk : Prop} (x : Half) (j : Nat) (hk : Canon hid tk x.regs x.id x.fc.fifo x.ts.fifos x.can.ram x.dsp.staging x.role.takeover) :
    Canon hid tk (Half.cvFree x j).2.regs (Half.cvFree x j).2.id (Half.cvFree x j).2.fc.fifo (Half.cvFree x j).2.ts.fifos (Half.cvFree x j).2.can.ram (Half.cvFree x j).2.dsp.staging (Half.cvFree x j).2.role.takeover := by
  unfold Half.cvFree
  grind +splitImp [Half.free_canon, Half.wr_canon]
theorem Half.cvStart_canon {hid : HalfId} {tk : Prop} (x : Half) (j : Nat) (hk : Canon hid tk x.regs x.id x.fc.fifo x.ts.fifos x.can.ram x.dsp.staging x.role.takeover) :
    Canon hid tk (Half.cvStart x j).regs (Half.cvStart x j).id (Half.cvStart x j).fc.fifo (Half.cvStart x j).ts.fifos (Half.cvStart x j).can.ram (Half.cvStart x j).dsp.staging (Half.cvStart x j).role.takeover := by
  unfold Half.cvStart
  grind +splitImp [Half.cvFree_canon, Half.cvShow_canon, Half.setFld_canon, Half.wr_canon, Half.setBit_canon, Half.cvEnd_canon]
theorem Half.cvGo_canon {hid : HalfId} {tk : Prop} (x : Half) (j : Nat) (hk : Canon hid tk x.regs x.id x.fc.fifo x.ts.fifos x.can.ram x.dsp.staging x.role.takeover) :
    Canon hid tk (Half.cvGo x j).regs (Half.cvGo x j).id (Half.cvGo x j).fc.fifo (Half.cvGo x j).ts.fifos (Half.cvGo x j).can.ram (Half.cvGo x j).dsp.staging (Half.cvGo x j).role.takeover := by
  unfold Half.cvGo
  grind +splitImp [Half.cvStart_canon]
theorem Half.cvStop_canon {hid : HalfId} {tk : Prop} (x : Half) (j : Nat) (hk : Canon hid tk x.regs x.id x.fc.fifo x.ts.fifos x.can.ram x.dsp.staging x.role.takeover) :
    Canon hid tk (Half.cvStop x j).regs (Half.cvStop x j).id (Half.cvStop x j).fc.fifo (Half.cvStop x j).ts.fifos (Half.cvStop x j).can.ram (Half.cvStop x j).dsp.staging (Half.cvStop x j).role.takeover := by
  unfold Half.cvStop
  grind +splitImp [Half.free_canon, Half.wr_canon, Half.setBit_canon, Half.cvEnd_canon, Half.cvFree_canon]
theorem Half.cvAgain_canon {hid : HalfId} {tk : Prop} (x : Half) (j : Nat) (hk : Canon hid tk x.regs x.id x.fc.fifo x.ts.fifos x.can.ram x.dsp.staging x.role.takeover) :
    Canon hid tk (Half.cvAgain x j).regs (Half.cvAgain x j).id (Half.cvAgain x j).fc.fifo (Half.cvAgain x j).ts.fifos (Half.cvAgain x j).can.ram (Half.cvAgain x j).dsp.staging (Half.cvAgain x j).role.takeover := by
  unfold Half.cvAgain
  grind +splitImp [Half.cvStart_canon]
theorem Half.cvSpend_canon {hid : HalfId} {tk : Prop} (x : Half) (j len : Nat) (hk : Canon hid tk x.regs x.id x.fc.fifo x.ts.fifos x.can.ram x.dsp.staging x.role.takeover) :
    Canon hid tk (Half.cvSpend x j len).regs (Half.cvSpend x j len).id (Half.cvSpend x j len).fc.fifo (Half.cvSpend x j len).ts.fifos (Half.cvSpend x j len).can.ram (Half.cvSpend x j len).dsp.staging (Half.cvSpend x j len).role.takeover := by
  unfold Half.cvSpend
  grind +splitImp [Half.setBit_canon]
theorem Half.cvDone_canon {hid : HalfId} {tk : Prop} (x : Half) (j : Nat) (data : List Byte) (eccBad written : Bool) (hk : Canon hid tk x.regs x.id x.fc.fifo x.ts.fifos x.can.ram x.dsp.staging x.role.takeover) :
    Canon hid tk (Half.cvDone x j data eccBad written).regs (Half.cvDone x j data eccBad written).id (Half.cvDone x j data eccBad written).fc.fifo (Half.cvDone x j data eccBad written).ts.fifos (Half.cvDone x j data eccBad written).can.ram (Half.cvDone x j data eccBad written).dsp.staging (Half.cvDone x j data eccBad written).role.takeover := by
  unfold Half.cvDone
  grind (splits := 20) (ematch := 20) (gen := 20) [Half.wr_canon, Half.raise_canon, Half.cvAgain_canon, Half.setBit_canon, Half.cvSpend_canon, Half.cvFree_canon, Half.raiseIf_canon, Half.free_canon, Half.cvEnd_canon]
theorem Half.scanBad_canon {hid : HalfId} {tk : Prop} (x : Half) (slot : Nat) (hk : Canon hid tk x.regs x.id x.fc.fifo x.ts.fifos x.can.ram x.dsp.staging x.role.takeover) :
    Canon hid tk (Half.scanBad x slot).regs (Half.scanBad x slot).id (Half.scanBad x slot).fc.fifo (Half.scanBad x slot).ts.fifos (Half.scanBad x slot).can.ram (Half.scanBad x slot).dsp.staging (Half.scanBad x slot).role.takeover := by
  unfold Half.scanBad
  grind +splitImp [Half.raise_canon, Half.setCfgSlot_canon]
theorem Half.setFwSlot_canon {hid : HalfId} {tk : Prop} (x : Half) (k : Nat) (s : FwSlot) (hk : Canon hid tk x.regs x.id x.fc.fifo x.ts.fifos x.can.ram x.dsp.staging x.role.takeover) :
    Canon hid tk (Half.setFwSlot x k s).regs (Half.setFwSlot x k s).id (Half.setFwSlot x k s).fc.fifo (Half.setFwSlot x k s).ts.fifos (Half.setFwSlot x k s).can.ram (Half.setFwSlot x k s).dsp.staging (Half.setFwSlot x k s).role.takeover := by
  unfold Half.setFwSlot
  grind +splitImp []
theorem Half.scanRepair_canon {hid : HalfId} {tk : Prop} (x p : Half) (hk : Canon hid tk x.regs x.id x.fc.fifo x.ts.fifos x.can.ram x.dsp.staging x.role.takeover) :
    Canon hid tk (Half.scanRepair x p).regs (Half.scanRepair x p).id (Half.scanRepair x p).fc.fifo (Half.scanRepair x p).ts.fifos (Half.scanRepair x p).can.ram (Half.scanRepair x p).dsp.staging (Half.scanRepair x p).role.takeover := by
  unfold Half.scanRepair
  grind +splitImp [Half.setFwSlot_canon, Half.setCfgSlot_canon]
theorem Half.paramBad_canon {hid : HalfId} {tk : Prop} (x : Half) (t i : Nat) (hk : Canon hid tk x.regs x.id x.fc.fifo x.ts.fifos x.can.ram x.dsp.staging x.role.takeover) :
    Canon hid tk (Half.paramBad x t i).regs (Half.paramBad x t i).id (Half.paramBad x t i).fc.fifo (Half.paramBad x t i).ts.fifos (Half.paramBad x t i).can.ram (Half.paramBad x t i).dsp.staging (Half.paramBad x t i).role.takeover := by
  unfold Half.paramBad
  grind +splitImp [Half.raise_canon]
theorem Half.chainBad_canon {hid : HalfId} {tk : Prop} (x : Half) (c : Nat) (hk : Canon hid tk x.regs x.id x.fc.fifo x.ts.fifos x.can.ram x.dsp.staging x.role.takeover) :
    Canon hid tk (Half.chainBad x c).regs (Half.chainBad x c).id (Half.chainBad x c).fc.fifo (Half.chainBad x c).ts.fifos (Half.chainBad x c).can.ram (Half.chainBad x c).dsp.staging (Half.chainBad x c).role.takeover := by
  unfold Half.chainBad
  extract_lets
  (repeat' split) <;> grind +splitImp [Half.setSects_canon, Half.sealChain_canon, Half.raise_canon, Half.setDesc_canon, Half.modChain_canon, Half.setMode_canon, Half.ceIrq_canon]
theorem Half.norErased_canon {hid : HalfId} {tk : Prop} (x : Half) (block : Nat) (ok : Bool) (hk : Canon hid tk x.regs x.id x.fc.fifo x.ts.fifos x.can.ram x.dsp.staging x.role.takeover) :
    Canon hid tk (Half.norErased x block ok).regs (Half.norErased x block ok).id (Half.norErased x block ok).fc.fifo (Half.norErased x block ok).ts.fifos (Half.norErased x block ok).can.ram (Half.norErased x block ok).dsp.staging (Half.norErased x block ok).role.takeover := by
  unfold Half.norErased
  grind +splitImp [Half.evrEvent_canon]

/-! ### CycleOps.lean -/

theorem Half.fillImage_canon {hid : HalfId} {tk : Prop} (x : Half) (t : Nat) (c : TaskCfg) (hk : Canon hid tk x.regs x.id x.fc.fifo x.ts.fifos x.can.ram x.dsp.staging x.role.takeover) :
    Canon hid tk (Half.fillImage x t c).regs (Half.fillImage x t c).id (Half.fillImage x t c).fc.fifo (Half.fillImage x t c).ts.fifos (Half.fillImage x t c).can.ram (Half.fillImage x t c).dsp.staging (Half.fillImage x t c).role.takeover := by
  unfold Half.fillImage
  grind +splitImp [canon_foldl, Half.modTsk_canon]
theorem Half.free4_canon {hid : HalfId} {tk : Prop} (x : Half) (hk : Canon hid tk x.regs x.id x.fc.fifo x.ts.fifos x.can.ram x.dsp.staging x.role.takeover) :
    Canon hid tk (Half.free4 x).2.regs (Half.free4 x).2.id (Half.free4 x).2.fc.fifo (Half.free4 x).2.ts.fifos (Half.free4 x).2.can.ram (Half.free4 x).2.dsp.staging (Half.free4 x).2.role.takeover := by
  unfold Half.free4
  grind +splitImp []
theorem Half.runBlock_canon {hid : HalfId} {tk : Prop} (x : Half) (t : Nat) (c : TaskCfg) (r : CallRec) (ic : InstCfg) (bs : List (Val × Bool)) (hold : Bool) (hk : Canon hid tk x.regs x.id x.fc.fifo x.ts.fifos x.can.ram x.dsp.staging x.role.takeover) :
    Canon hid tk (Half.runBlock x t c r ic bs hold).regs (Half.runBlock x t c r ic bs hold).id (Half.runBlock x t c r ic bs hold).fc.fifo (Half.runBlock x t c r ic bs hold).ts.fifos (Half.runBlock x t c r ic bs hold).can.ram (Half.runBlock x t c r ic bs hold).dsp.staging (Half.runBlock x t c r ic bs hold).role.takeover := by
  unfold Half.runBlock
  grind +splitImp [canon_foldl, Half.modTsk_canon, Half.free4_canon]
theorem Half.execCall_canon {hid : HalfId} {tk : Prop} (x : Half) (t : Nat) (c : TaskCfg) (r : CallRec) (hk : Canon hid tk x.regs x.id x.fc.fifo x.ts.fifos x.can.ram x.dsp.staging x.role.takeover) :
    Canon hid tk (Half.execCall x t c r).regs (Half.execCall x t c r).id (Half.execCall x t c r).fc.fifo (Half.execCall x t c r).ts.fifos (Half.execCall x t c r).can.ram (Half.execCall x t c r).dsp.staging (Half.execCall x t c r).role.takeover := by
  unfold Half.execCall
  grind +splitImp [Half.runBlock_canon, Half.modTsk_canon]
theorem Half.placeTrip_canon {hid : HalfId} {tk : Prop} (x : Half) (t inst func : Nat) (outs : Byte) (hk : Canon hid tk x.regs x.id x.fc.fifo x.ts.fifos x.can.ram x.dsp.staging x.role.takeover) :
    Canon hid tk (Half.placeTrip x t inst func outs).regs (Half.placeTrip x t inst func outs).id (Half.placeTrip x t inst func outs).fc.fifo (Half.placeTrip x t inst func outs).ts.fifos (Half.placeTrip x t inst func outs).can.ram (Half.placeTrip x t inst func outs).dsp.staging (Half.placeTrip x t inst func outs).role.takeover := by
  unfold Half.placeTrip
  grind +splitImp [Half.modTsk_canon, Half.scrPlace_canon]
theorem Half.applyEffect_canon {hid : HalfId} {tk : Prop} (x : Half) (t : Nat) (e : Effect) (hk : Canon hid tk x.regs x.id x.fc.fifo x.ts.fifos x.can.ram x.dsp.staging x.role.takeover) :
    Canon hid tk (Half.applyEffect x t e).regs (Half.applyEffect x t e).id (Half.applyEffect x t e).fc.fifo (Half.applyEffect x t e).ts.fifos (Half.applyEffect x t e).can.ram (Half.applyEffect x t e).dsp.staging (Half.applyEffect x t e).role.takeover := by
  unfold Half.applyEffect
  grind +splitImp [Half.placeTrip_canon, Half.modChain_canon, Half.setMode_canon, Half.forwardCe_canon, Half.setIref_canon, Half.requestSwap_canon, Half.tcArmed_canon]
theorem Half.applyObjs_canon {hid : HalfId} {tk : Prop} (x : Half) (t : Nat) (c : TaskCfg) (hk : Canon hid tk x.regs x.id x.fc.fifo x.ts.fifos x.can.ram x.dsp.staging x.role.takeover) :
    Canon hid tk (Half.applyObjs x t c).regs (Half.applyObjs x t c).id (Half.applyObjs x t c).fc.fifo (Half.applyObjs x t c).ts.fifos (Half.applyObjs x t c).can.ram (Half.applyObjs x t c).dsp.staging (Half.applyObjs x t c).role.takeover := by
  unfold Half.applyObjs
  grind +splitImp [canon_foldl, Half.drive_canon]
theorem Half.applyTerms_canon {hid : HalfId} {tk : Prop} (x : Half) (t : Nat) (c : TaskCfg) (hk : Canon hid tk x.regs x.id x.fc.fifo x.ts.fifos x.can.ram x.dsp.staging x.role.takeover) :
    Canon hid tk (Half.applyTerms x t c).regs (Half.applyTerms x t c).id (Half.applyTerms x t c).fc.fifo (Half.applyTerms x t c).ts.fifos (Half.applyTerms x t c).can.ram (Half.applyTerms x t c).dsp.staging (Half.applyTerms x t c).role.takeover := by
  unfold Half.applyTerms
  grind +splitImp [canon_foldl, Half.drive_canon]
theorem Half.sendBlocks_canon {hid : HalfId} {tk : Prop} (x : Half) (task region : Nat) (cycle : Word) (bs : List (Nat × List Byte)) (hk : Canon hid tk x.regs x.id x.fc.fifo x.ts.fifos x.can.ram x.dsp.staging x.role.takeover) :
    Canon hid tk (Half.sendBlocks x task region cycle bs).2.regs (Half.sendBlocks x task region cycle bs).2.id (Half.sendBlocks x task region cycle bs).2.fc.fifo (Half.sendBlocks x task region cycle bs).2.ts.fifos (Half.sendBlocks x task region cycle bs).2.can.ram (Half.sendBlocks x task region cycle bs).2.dsp.staging (Half.sendBlocks x task region cycle bs).2.role.takeover := by
  unfold Half.sendBlocks
  grind +splitImp [canon_foldl, Half.spanPut_canon, Half.take_canon]
theorem Half.sendCycle_canon {hid : HalfId} {tk : Prop} (x : Half) (t : Nat) (c : TaskCfg) (d : RegionData) (tEnd : DWord) (hk : Canon hid tk x.regs x.id x.fc.fifo x.ts.fifos x.can.ram x.dsp.staging x.role.takeover) :
    Canon hid tk (Half.sendCycle x t c d tEnd).regs (Half.sendCycle x t c d tEnd).id (Half.sendCycle x t c d tEnd).fc.fifo (Half.sendCycle x t c d tEnd).ts.fifos (Half.sendCycle x t c d tEnd).can.ram (Half.sendCycle x t c d tEnd).dsp.staging (Half.sendCycle x t c d tEnd).role.takeover := by
  unfold Half.sendCycle
  grind +splitImp [Half.spanPut_canon, Half.raiseIf_canon, Half.sendBlocks_canon]
theorem Half.putRetain_canon {hid : HalfId} {tk : Prop} (x : Half) (t : Nat) (rs : List Retained) (hk : Canon hid tk x.regs x.id x.fc.fifo x.ts.fifos x.can.ram x.dsp.staging x.role.takeover) :
    Canon hid tk (Half.putRetain x t rs).regs (Half.putRetain x t rs).id (Half.putRetain x t rs).fc.fifo (Half.putRetain x t rs).ts.fifos (Half.putRetain x t rs).can.ram (Half.putRetain x t rs).dsp.staging (Half.putRetain x t rs).role.takeover := by
  unfold Half.putRetain
  grind +splitImp []
theorem Half.storeRetain_canon {hid : HalfId} {tk : Prop} (x : Half) (t : Nat) (c : TaskCfg) (hk : Canon hid tk x.regs x.id x.fc.fifo x.ts.fifos x.can.ram x.dsp.staging x.role.takeover) :
    Canon hid tk (Half.storeRetain x t c).regs (Half.storeRetain x t c).id (Half.storeRetain x t c).fc.fifo (Half.storeRetain x t c).ts.fifos (Half.storeRetain x t c).can.ram (Half.storeRetain x t c).dsp.staging (Half.storeRetain x t c).role.takeover := by
  unfold Half.storeRetain
  grind +splitImp [Half.putRetain_canon]
theorem Half.switchTask_canon {hid : HalfId} {tk : Prop} (x : Half) (t slot : Nat) (hk : Canon hid tk x.regs x.id x.fc.fifo x.ts.fifos x.can.ram x.dsp.staging x.role.takeover) :
    Canon hid tk (Half.switchTask x t slot).regs (Half.switchTask x t slot).id (Half.switchTask x t slot).fc.fifo (Half.switchTask x t slot).ts.fifos (Half.switchTask x t slot).can.ram (Half.switchTask x t slot).dsp.staging (Half.switchTask x t slot).role.takeover := by
  unfold Half.switchTask
  grind +splitImp [canon_foldl, Half.modTsk_canon, Half.scheduleTake_canon]
theorem Half.markSwitched_canon {hid : HalfId} {tk : Prop} (x : Half) (t : Nat) (hk : Canon hid tk x.regs x.id x.fc.fifo x.ts.fifos x.can.ram x.dsp.staging x.role.takeover) :
    Canon hid tk (Half.markSwitched x t).regs (Half.markSwitched x t).id (Half.markSwitched x t).fc.fifo (Half.markSwitched x t).ts.fifos (Half.markSwitched x t).can.ram (Half.markSwitched x t).dsp.staging (Half.markSwitched x t).role.takeover := by
  unfold Half.markSwitched
  grind +splitImp []
theorem Half.restartRecs_canon {hid : HalfId} {tk : Prop} (x : Half) (old new : StationCfg) (hk : Canon hid tk x.regs x.id x.fc.fifo x.ts.fifos x.can.ram x.dsp.staging x.role.takeover) :
    Canon hid tk (Half.restartRecs x old new).regs (Half.restartRecs x old new).id (Half.restartRecs x old new).fc.fifo (Half.restartRecs x old new).ts.fifos (Half.restartRecs x old new).can.ram (Half.restartRecs x old new).dsp.staging (Half.restartRecs x old new).role.takeover := by
  unfold Half.restartRecs
  grind +splitImp [Half.live_canon]
theorem Half.commitDone_canon {hid : HalfId} {tk : Prop} (x : Half) (hk : Canon hid tk x.regs x.id x.fc.fifo x.ts.fifos x.can.ram x.dsp.staging x.role.takeover) :
    Canon hid tk (Half.commitDone x).regs (Half.commitDone x).id (Half.commitDone x).fc.fifo (Half.commitDone x).ts.fifos (Half.commitDone x).can.ram (Half.commitDone x).dsp.staging (Half.commitDone x).role.takeover := by
  unfold Half.commitDone
  grind +splitImp [canon_foldl, Half.restartRecs_canon, Half.setCfgSlot_canon, Half.modTsk_canon, Half.finishCmd_canon, Half.evrEvent_canon]

/-! ### CanOps.lean -/

theorem Half.modCan_canon {hid : HalfId} {tk : Prop} (x : Half) (c : Nat) (f : CanCtl → CanCtl) (hk : Canon hid tk x.regs x.id x.fc.fifo x.ts.fifos x.can.ram x.dsp.staging x.role.takeover) :
    Canon hid tk (Half.modCan x c f).regs (Half.modCan x c f).id (Half.modCan x c f).fc.fifo (Half.modCan x c f).ts.fifos (Half.modCan x c f).can.ram (Half.modCan x c f).dsp.staging (Half.modCan x c f).role.takeover := by
  unfold Half.modCan
  grind +splitImp []
theorem Half.canIrq_canon {hid : HalfId} {tk : Prop} (x : Half) (c k : Nat) (hk : Canon hid tk x.regs x.id x.fc.fifo x.ts.fifos x.can.ram x.dsp.staging x.role.takeover) :
    Canon hid tk (Half.canIrq x c k).regs (Half.canIrq x c k).id (Half.canIrq x c k).fc.fifo (Half.canIrq x c k).ts.fifos (Half.canIrq x c k).can.ram (Half.canIrq x c k).dsp.staging (Half.canIrq x c k).role.takeover := by
  unfold Half.canIrq
  grind +splitImp [Half.irq_canon]
theorem Half.canCount_canon {hid : HalfId} {tk : Prop} (x : Half) (c a : Nat) (hk : Canon hid tk x.regs x.id x.fc.fifo x.ts.fifos x.can.ram x.dsp.staging x.role.takeover) :
    Canon hid tk (Half.canCount x c a).regs (Half.canCount x c a).id (Half.canCount x c a).fc.fifo (Half.canCount x c a).ts.fifos (Half.canCount x c a).can.ram (Half.canCount x c a).dsp.staging (Half.canCount x c a).role.takeover := by
  unfold Half.canCount
  grind +splitImp [Half.incSat_canon, Half.setBit_canon]
theorem Half.canShow_canon {hid : HalfId} {tk : Prop} (x : Half) (c : Nat) (hk : Canon hid tk x.regs x.id x.fc.fifo x.ts.fifos x.can.ram x.dsp.staging x.role.takeover) :
    Canon hid tk (Half.canShow x c).regs (Half.canShow x c).id (Half.canShow x c).fc.fifo (Half.canShow x c).ts.fifos (Half.canShow x c).can.ram (Half.canShow x c).dsp.staging (Half.canShow x c).role.takeover := by
  unfold Half.canShow
  grind +splitImp [Half.setFld_canon]
theorem Half.setFull_canon {hid : HalfId} {tk : Prop} (x : Half) (c n : Nat) (b : Bool) (hk : Canon hid tk x.regs x.id x.fc.fifo x.ts.fifos x.can.ram x.dsp.staging x.role.takeover) :
    Canon hid tk (Half.setFull x c n b).regs (Half.setFull x c n b).id (Half.setFull x c n b).fc.fifo (Half.setFull x c n b).ts.fifos (Half.setFull x c n b).can.ram (Half.setFull x c n b).dsp.staging (Half.setFull x c n b).role.takeover := by
  unfold Half.setFull
  grind +splitImp [Half.setBit_canon]
theorem Half.canStore_canon {hid : HalfId} {tk : Prop} (x : Half) (c n : Nat) (t : DWord) (f : CanFrame) (hk : Canon hid tk x.regs x.id x.fc.fifo x.ts.fifos x.can.ram x.dsp.staging x.role.takeover) :
    Canon hid tk (Half.canStore x c n t f).regs (Half.canStore x c n t f).id (Half.canStore x c n t f).fc.fifo (Half.canStore x c n t f).ts.fifos (Half.canStore x c n t f).can.ram (Half.canStore x c n t f).dsp.staging (Half.canStore x c n t f).role.takeover := by
  unfold Half.canStore
  generalize x.canBuf c n = a
  generalize canHeader t f ++ f.data = bs
  exact ⟨hk.1, hk.2.1, hk.2.2.1, hk.2.2.2.1, Memory.wf_write hk.2.2.2.2.1 _ _, hk.2.2.2.2.2⟩
theorem Half.busWrite_canon {hid : HalfId} {tk : Prop} (x : Half) (p : Nat) (v : DWord) (hk : Canon hid tk x.regs x.id x.fc.fifo x.ts.fifos x.can.ram x.dsp.staging x.role.takeover) :
    Canon hid tk (Half.busWrite x p v).regs (Half.busWrite x p v).id (Half.busWrite x p v).fc.fifo (Half.busWrite x p v).ts.fifos (Half.busWrite x p v).can.ram (Half.busWrite x p v).dsp.staging (Half.busWrite x p v).role.takeover := by
  unfold Half.busWrite
  grind +splitImp [Half.writePoint_canon, Half.objEvent_canon]
theorem Half.busStale_canon {hid : HalfId} {tk : Prop} (x : Half) (p : Nat) (hk : Canon hid tk x.regs x.id x.fc.fifo x.ts.fifos x.can.ram x.dsp.staging x.role.takeover) :
    Canon hid tk (Half.busStale x p).regs (Half.busStale x p).id (Half.busStale x p).fc.fifo (Half.busStale x p).ts.fifos (Half.busStale x p).can.ram (Half.busStale x p).dsp.staging (Half.busStale x p).role.takeover := by
  unfold Half.busStale
  grind +splitImp [Half.writePoint_canon]
theorem Half.canImport_canon {hid : HalfId} {tk : Prop} (x : Half) (c n : Nat) (data : List Byte) (hk : Canon hid tk x.regs x.id x.fc.fifo x.ts.fifos x.can.ram x.dsp.staging x.role.takeover) :
    Canon hid tk (Half.canImport x c n data).regs (Half.canImport x c n data).id (Half.canImport x c n data).fc.fifo (Half.canImport x c n data).ts.fifos (Half.canImport x c n data).can.ram (Half.canImport x c n data).dsp.staging (Half.canImport x c n data).role.takeover := by
  unfold Half.canImport
  grind +splitImp [canon_foldl, Half.busWrite_canon, Half.busStale_canon]
theorem Half.canQueue_canon {hid : HalfId} {tk : Prop} (x : Half) (c n : Nat) (hk : Canon hid tk x.regs x.id x.fc.fifo x.ts.fifos x.can.ram x.dsp.staging x.role.takeover) :
    Canon hid tk (Half.canQueue x c n).regs (Half.canQueue x c n).id (Half.canQueue x c n).fc.fifo (Half.canQueue x c n).ts.fifos (Half.canQueue x c n).can.ram (Half.canQueue x c n).dsp.staging (Half.canQueue x c n).role.takeover := by
  unfold Half.canQueue
  grind +splitImp [Half.canCount_canon, Half.setFull_canon]
theorem Half.canFill_canon {hid : HalfId} {tk : Prop} (x : Half) (o : CanSend) (hk : Canon hid tk x.regs x.id x.fc.fifo x.ts.fifos x.can.ram x.dsp.staging x.role.takeover) :
    Canon hid tk (Half.canFill x o).2.regs (Half.canFill x o).2.id (Half.canFill x o).2.fc.fifo (Half.canFill x o).2.ts.fifos (Half.canFill x o).2.can.ram (Half.canFill x o).2.dsp.staging (Half.canFill x o).2.role.takeover := by
  unfold Half.canFill
  grind +splitImp [Half.canStore_canon]
theorem Half.canUpdate_canon {hid : HalfId} {tk : Prop} (x : Half) (t : Nat) (hk : Canon hid tk x.regs x.id x.fc.fifo x.ts.fifos x.can.ram x.dsp.staging x.role.takeover) :
    Canon hid tk (Half.canUpdate x t).regs (Half.canUpdate x t).id (Half.canUpdate x t).fc.fifo (Half.canUpdate x t).ts.fifos (Half.canUpdate x t).can.ram (Half.canUpdate x t).dsp.staging (Half.canUpdate x t).role.takeover := by
  unfold Half.canUpdate
  grind +splitImp [canon_foldl, Half.canQueue_canon, Half.canFill_canon]
theorem Half.canStatus_canon {hid : HalfId} {tk : Prop} (x : Half) (t : Nat) (hk : Canon hid tk x.regs x.id x.fc.fifo x.ts.fifos x.can.ram x.dsp.staging x.role.takeover) :
    Canon hid tk (Half.canStatus x t).regs (Half.canStatus x t).id (Half.canStatus x t).fc.fifo (Half.canStatus x t).ts.fifos (Half.canStatus x t).can.ram (Half.canStatus x t).dsp.staging (Half.canStatus x t).role.takeover := by
  unfold Half.canStatus
  grind +splitImp [canon_foldl, Half.writePoint_canon]
theorem Half.canDrop_canon {hid : HalfId} {tk : Prop} (x : Half) (c : Nat) (hk : Canon hid tk x.regs x.id x.fc.fifo x.ts.fifos x.can.ram x.dsp.staging x.role.takeover) :
    Canon hid tk (Half.canDrop x c).regs (Half.canDrop x c).id (Half.canDrop x c).fc.fifo (Half.canDrop x c).ts.fifos (Half.canDrop x c).can.ram (Half.canDrop x c).dsp.staging (Half.canDrop x c).role.takeover := by
  unfold Half.canDrop
  grind +splitImp [canon_foldl, Half.setFull_canon]
theorem Half.canSleepEdges_canon {hid : HalfId} {tk : Prop} (x : Half) (before : Half) (hk : Canon hid tk x.regs x.id x.fc.fifo x.ts.fifos x.can.ram x.dsp.staging x.role.takeover) :
    Canon hid tk (Half.canSleepEdges x before).regs (Half.canSleepEdges x before).id (Half.canSleepEdges x before).fc.fifo (Half.canSleepEdges x before).ts.fifos (Half.canSleepEdges x before).can.ram (Half.canSleepEdges x before).dsp.staging (Half.canSleepEdges x before).role.takeover := by
  unfold Half.canSleepEdges
  grind +splitImp [canon_foldl, Half.setBit_canon, Half.modCan_canon]
theorem Half.setErr_canon {hid : HalfId} {tk : Prop} (x : Half) (c e : Nat) (hk : Canon hid tk x.regs x.id x.fc.fifo x.ts.fifos x.can.ram x.dsp.staging x.role.takeover) :
    Canon hid tk (Half.setErr x c e).regs (Half.setErr x c e).id (Half.setErr x c e).fc.fifo (Half.setErr x c e).ts.fifos (Half.setErr x c e).can.ram (Half.setErr x c e).dsp.staging (Half.setErr x c e).role.takeover := by
  unfold Half.setErr
  grind +splitImp [Half.canIrq_canon, Half.raise_canon, Half.modCan_canon, Half.setFld_canon]
theorem Half.setEcr_canon {hid : HalfId} {tk : Prop} (x : Half) (c tec rec_ : Nat) (hk : Canon hid tk x.regs x.id x.fc.fifo x.ts.fifos x.can.ram x.dsp.staging x.role.takeover) :
    Canon hid tk (Half.setEcr x c tec rec_).regs (Half.setEcr x c tec rec_).id (Half.setEcr x c tec rec_).fc.fifo (Half.setEcr x c tec rec_).ts.fifos (Half.setEcr x c tec rec_).can.ram (Half.setEcr x c tec rec_).dsp.staging (Half.setEcr x c tec rec_).role.takeover := by
  unfold Half.setEcr
  grind +splitImp [Half.wr_canon]
theorem Half.canFall_canon {hid : HalfId} {tk : Prop} (x : Half) (c : Nat) (send : Bool) (hk : Canon hid tk x.regs x.id x.fc.fifo x.ts.fifos x.can.ram x.dsp.staging x.role.takeover) :
    Canon hid tk (Half.canFall x c send).regs (Half.canFall x c send).id (Half.canFall x c send).fc.fifo (Half.canFall x c send).ts.fifos (Half.canFall x c send).can.ram (Half.canFall x c send).dsp.staging (Half.canFall x c send).role.takeover := by
  unfold Half.canFall
  grind +splitImp [Half.free_canon, Half.send_canon, Half.setErr_canon, Half.setEcr_canon]
theorem Half.canRelease_canon {hid : HalfId} {tk : Prop} (x : Half) (c : Nat) (hk : Canon hid tk x.regs x.id x.fc.fifo x.ts.fifos x.can.ram x.dsp.staging x.role.takeover) :
    Canon hid tk (Half.canRelease x c).regs (Half.canRelease x c).id (Half.canRelease x c).fc.fifo (Half.canRelease x c).ts.fifos (Half.canRelease x c).can.ram (Half.canRelease x c).dsp.staging (Half.canRelease x c).role.takeover := by
  unfold Half.canRelease
  grind +splitImp [Half.setErr_canon]
theorem Half.canRestart_canon {hid : HalfId} {tk : Prop} (x : Half) (p : Nat) (v : DWord) (hk : Canon hid tk x.regs x.id x.fc.fifo x.ts.fifos x.can.ram x.dsp.staging x.role.takeover) :
    Canon hid tk (Half.canRestart x p v).regs (Half.canRestart x p v).id (Half.canRestart x p v).fc.fifo (Half.canRestart x p v).ts.fifos (Half.canRestart x p v).can.ram (Half.canRestart x p v).dsp.staging (Half.canRestart x p v).role.takeover := by
  unfold Half.canRestart
  grind +splitImp [canon_foldl, Half.canRelease_canon]
theorem Half.canNext_canon {hid : HalfId} {tk : Prop} (x : Half) (c : Nat) (hk : Canon hid tk x.regs x.id x.fc.fifo x.ts.fifos x.can.ram x.dsp.staging x.role.takeover) :
    Canon hid tk (Half.canNext x c).regs (Half.canNext x c).id (Half.canNext x c).fc.fifo (Half.canNext x c).ts.fifos (Half.canNext x c).can.ram (Half.canNext x c).dsp.staging (Half.canNext x c).role.takeover := by
  unfold Half.canNext
  grind +splitImp [Half.modCan_canon]
theorem Half.canGood_canon {hid : HalfId} {tk : Prop} (x : Half) (c : Nat) (f : CanFrame) (hk : Canon hid tk x.regs x.id x.fc.fifo x.ts.fifos x.can.ram x.dsp.staging x.role.takeover) :
    Canon hid tk (Half.canGood x c f).regs (Half.canGood x c f).id (Half.canGood x c f).fc.fifo (Half.canGood x c f).ts.fifos (Half.canGood x c f).can.ram (Half.canGood x c f).dsp.staging (Half.canGood x c f).role.takeover := by
  unfold Half.canGood
  grind +splitImp [Half.setFld_canon, Half.canIrq_canon, Half.canShow_canon, Half.setBit_canon, Half.modCan_canon]
theorem Half.canTakeBus_canon {hid : HalfId} {tk : Prop} (x : Half) (c : Nat) (hk : Canon hid tk x.regs x.id x.fc.fifo x.ts.fifos x.can.ram x.dsp.staging x.role.takeover) :
    Canon hid tk (Half.canTakeBus x c).regs (Half.canTakeBus x c).id (Half.canTakeBus x c).fc.fifo (Half.canTakeBus x c).ts.fifos (Half.canTakeBus x c).can.ram (Half.canTakeBus x c).dsp.staging (Half.canTakeBus x c).role.takeover := by
  unfold Half.canTakeBus
  grind +splitImp [canon_foldl, Half.canDrop_canon, Half.canFill_canon, Half.setFld_canon, Half.canShow_canon, Half.canQueue_canon, Half.setEcr_canon, Half.modCan_canon]
theorem Half.canLeaveBus_canon {hid : HalfId} {tk : Prop} (x : Half) (c : Nat) (hk : Canon hid tk x.regs x.id x.fc.fifo x.ts.fifos x.can.ram x.dsp.staging x.role.takeover) :
    Canon hid tk (Half.canLeaveBus x c).regs (Half.canLeaveBus x c).id (Half.canLeaveBus x c).fc.fifo (Half.canLeaveBus x c).ts.fifos (Half.canLeaveBus x c).can.ram (Half.canLeaveBus x c).dsp.staging (Half.canLeaveBus x c).role.takeover := by
  unfold Half.canLeaveBus
  grind +splitImp [Half.canShow_canon, Half.setEcr_canon, Half.canDrop_canon, Half.modCan_canon, Half.setFld_canon]
theorem Half.canIdle_canon {hid : HalfId} {tk : Prop} (x : Half) (c : Nat) (hk : Canon hid tk x.regs x.id x.fc.fifo x.ts.fifos x.can.ram x.dsp.staging x.role.takeover) :
    Canon hid tk (Half.canIdle x c).regs (Half.canIdle x c).id (Half.canIdle x c).fc.fifo (Half.canIdle x c).ts.fifos (Half.canIdle x c).can.ram (Half.canIdle x c).dsp.staging (Half.canIdle x c).role.takeover := by
  unfold Half.canIdle
  grind +splitImp [Half.modCan_canon]
theorem Half.canMinute_canon {hid : HalfId} {tk : Prop} (x : Half) (hk : Canon hid tk x.regs x.id x.fc.fifo x.ts.fifos x.can.ram x.dsp.staging x.role.takeover) :
    Canon hid tk (Half.canMinute x).regs (Half.canMinute x).id (Half.canMinute x).fc.fifo (Half.canMinute x).ts.fifos (Half.canMinute x).can.ram (Half.canMinute x).dsp.staging (Half.canMinute x).role.takeover := by
  unfold Half.canMinute
  grind +splitImp [canon_foldl, Half.modCan_canon, Half.setFld_canon]
theorem Half.canTakeAll_canon {hid : HalfId} {tk : Prop} (x : Half) (hk : Canon hid tk x.regs x.id x.fc.fifo x.ts.fifos x.can.ram x.dsp.staging x.role.takeover) :
    Canon hid tk (Half.canTakeAll x).regs (Half.canTakeAll x).id (Half.canTakeAll x).fc.fifo (Half.canTakeAll x).ts.fifos (Half.canTakeAll x).can.ram (Half.canTakeAll x).dsp.staging (Half.canTakeAll x).role.takeover := by
  unfold Half.canTakeAll
  grind +splitImp [canon_foldl, Half.canTakeBus_canon]
theorem Half.canLeaveAll_canon {hid : HalfId} {tk : Prop} (x : Half) (hk : Canon hid tk x.regs x.id x.fc.fifo x.ts.fifos x.can.ram x.dsp.staging x.role.takeover) :
    Canon hid tk (Half.canLeaveAll x).regs (Half.canLeaveAll x).id (Half.canLeaveAll x).fc.fifo (Half.canLeaveAll x).ts.fifos (Half.canLeaveAll x).can.ram (Half.canLeaveAll x).dsp.staging (Half.canLeaveAll x).role.takeover := by
  unfold Half.canLeaveAll
  grind +splitImp [canon_foldl, Half.canLeaveBus_canon]

/-! ### NetOps.lean -/

theorem Half.netIrq_canon {hid : HalfId} {tk : Prop} (x : Half) (k : Nat) (hk : Canon hid tk x.regs x.id x.fc.fifo x.ts.fifos x.can.ram x.dsp.staging x.role.takeover) :
    Canon hid tk (Half.netIrq x k).regs (Half.netIrq x k).id (Half.netIrq x k).fc.fifo (Half.netIrq x k).ts.fifos (Half.netIrq x k).can.ram (Half.netIrq x k).dsp.staging (Half.netIrq x k).role.takeover := by
  unfold Half.netIrq
  grind +splitImp [Half.irq_canon]
theorem Half.serIrq_canon {hid : HalfId} {tk : Prop} (x : Half) (k : Nat) (hk : Canon hid tk x.regs x.id x.fc.fifo x.ts.fifos x.can.ram x.dsp.staging x.role.takeover) :
    Canon hid tk (Half.serIrq x k).regs (Half.serIrq x k).id (Half.serIrq x k).fc.fifo (Half.serIrq x k).ts.fifos (Half.serIrq x k).can.ram (Half.serIrq x k).dsp.staging (Half.serIrq x k).role.takeover := by
  unfold Half.serIrq
  grind +splitImp [Half.irq_canon]
theorem Half.prpShow_canon {hid : HalfId} {tk : Prop} (x : Half) (hk : Canon hid tk x.regs x.id x.fc.fifo x.ts.fifos x.can.ram x.dsp.staging x.role.takeover) :
    Canon hid tk (Half.prpShow x).regs (Half.prpShow x).id (Half.prpShow x).fc.fifo (Half.prpShow x).ts.fifos (Half.prpShow x).can.ram (Half.prpShow x).dsp.staging (Half.prpShow x).role.takeover := by
  unfold Half.prpShow
  grind +splitImp [Half.setFld_canon]
theorem Half.prpHear_canon {hid : HalfId} {tk : Prop} (x : Half) (p : Nat) (src : DWord) (seq : BitVec 16) (hk : Canon hid tk x.regs x.id x.fc.fifo x.ts.fifos x.can.ram x.dsp.staging x.role.takeover) :
    Canon hid tk (Half.prpHear x p src seq).2.regs (Half.prpHear x p src seq).2.id (Half.prpHear x p src seq).2.fc.fifo (Half.prpHear x p src seq).2.ts.fifos (Half.prpHear x p src seq).2.can.ram (Half.prpHear x p src seq).2.dsp.staging (Half.prpHear x p src seq).2.role.takeover := by
  unfold Half.prpHear
  grind +splitImp [Half.live_canon, Half.raiseIf_canon, Half.prpShow_canon, Half.take_canon]
theorem Half.enqueue_canon {hid : HalfId} {tk : Prop} (x : Half) (p q : Nat) (hk : Canon hid tk x.regs x.id x.fc.fifo x.ts.fifos x.can.ram x.dsp.staging x.role.takeover) :
    Canon hid tk (Half.enqueue x p q).2.regs (Half.enqueue x p q).2.id (Half.enqueue x p q).2.fc.fifo (Half.enqueue x p q).2.ts.fifos (Half.enqueue x p q).2.can.ram (Half.enqueue x p q).2.dsp.staging (Half.enqueue x p q).2.role.takeover := by
  unfold Half.enqueue
  grind +splitImp [Half.incSat_canon, Half.setFld_canon]
theorem Half.echo_canon {hid : HalfId} {tk : Prop} (x : Half) (hk : Canon hid tk x.regs x.id x.fc.fifo x.ts.fifos x.can.ram x.dsp.staging x.role.takeover) :
    Canon hid tk (Half.echo x).regs (Half.echo x).id (Half.echo x).fc.fifo (Half.echo x).ts.fifos (Half.echo x).can.ram (Half.echo x).dsp.staging (Half.echo x).role.takeover := by
  unfold Half.echo
  grind +splitImp [Half.send_canon]
theorem Half.importSentence_canon {hid : HalfId} {tk : Prop} (x : Half) (s : Sentence) (hk : Canon hid tk x.regs x.id x.fc.fifo x.ts.fifos x.can.ram x.dsp.staging x.role.takeover) :
    Canon hid tk (Half.importSentence x s).regs (Half.importSentence x s).id (Half.importSentence x s).fc.fifo (Half.importSentence x s).ts.fifos (Half.importSentence x s).can.ram (Half.importSentence x s).dsp.staging (Half.importSentence x s).role.takeover := by
  unfold Half.importSentence
  grind +splitImp [canon_foldl, Half.busWrite_canon, Half.send_canon, Half.writePoint_canon]
theorem Half.modSer_canon {hid : HalfId} {tk : Prop} (x : Half) (b : Nat) (f : SerBus → SerBus) (hk : Canon hid tk x.regs x.id x.fc.fifo x.ts.fifos x.can.ram x.dsp.staging x.role.takeover) :
    Canon hid tk (Half.modSer x b f).regs (Half.modSer x b f).id (Half.modSer x b f).fc.fifo (Half.modSer x b f).ts.fifos (Half.modSer x b f).can.ram (Half.modSer x b f).dsp.staging (Half.modSer x b f).role.takeover := by
  unfold Half.modSer
  grind +splitImp []
theorem Half.serShow_canon {hid : HalfId} {tk : Prop} (x : Half) (b : Nat) (hk : Canon hid tk x.regs x.id x.fc.fifo x.ts.fifos x.can.ram x.dsp.staging x.role.takeover) :
    Canon hid tk (Half.serShow x b).regs (Half.serShow x b).id (Half.serShow x b).fc.fifo (Half.serShow x b).ts.fifos (Half.serShow x b).can.ram (Half.serShow x b).dsp.staging (Half.serShow x b).role.takeover := by
  unfold Half.serShow
  grind +splitImp [Half.setBit_canon]
theorem Half.serSend_canon {hid : HalfId} {tk : Prop} (x : Half) (b : Nat) (m : Sent) (hk : Canon hid tk x.regs x.id x.fc.fifo x.ts.fifos x.can.ram x.dsp.staging x.role.takeover) :
    Canon hid tk (Half.serSend x b m).regs (Half.serSend x b m).id (Half.serSend x b m).fc.fifo (Half.serSend x b m).ts.fifos (Half.serSend x b m).can.ram (Half.serSend x b m).dsp.staging (Half.serSend x b m).role.takeover := by
  unfold Half.serSend
  grind +splitImp [Half.incSat_canon, Half.send_canon, Half.serIrq_canon, Half.setFld_canon]
theorem Half.sendSentence_canon {hid : HalfId} {tk : Prop} (x : Half) (c : SentenceCfg) (hk : Canon hid tk x.regs x.id x.fc.fifo x.ts.fifos x.can.ram x.dsp.staging x.role.takeover) :
    Canon hid tk (Half.sendSentence x c).regs (Half.sendSentence x c).id (Half.sendSentence x c).fc.fifo (Half.sendSentence x c).ts.fifos (Half.sendSentence x c).can.ram (Half.sendSentence x c).dsp.staging (Half.sendSentence x c).role.takeover := by
  unfold Half.sendSentence
  grind +splitImp [Half.serSend_canon, Half.send_canon]
theorem Half.sentUpdate_canon {hid : HalfId} {tk : Prop} (x : Half) (t : Nat) (hk : Canon hid tk x.regs x.id x.fc.fifo x.ts.fifos x.can.ram x.dsp.staging x.role.takeover) :
    Canon hid tk (Half.sentUpdate x t).regs (Half.sentUpdate x t).id (Half.sentUpdate x t).fc.fifo (Half.sentUpdate x t).ts.fifos (Half.sentUpdate x t).can.ram (Half.sentUpdate x t).dsp.staging (Half.sentUpdate x t).role.takeover := by
  unfold Half.sentUpdate
  grind +splitImp [canon_foldl, Half.send_canon, Half.sendSentence_canon]
theorem Half.serJudge_canon {hid : HalfId} {tk : Prop} (x : Half) (b : Nat) (bad : Bool) (hk : Canon hid tk x.regs x.id x.fc.fifo x.ts.fifos x.can.ram x.dsp.staging x.role.takeover) :
    Canon hid tk (Half.serJudge x b bad).regs (Half.serJudge x b bad).id (Half.serJudge x b bad).fc.fifo (Half.serJudge x b bad).ts.fifos (Half.serJudge x b bad).can.ram (Half.serJudge x b bad).dsp.staging (Half.serJudge x b bad).role.takeover := by
  unfold Half.serJudge
  grind +splitImp [Half.raiseIf_canon, Half.modSer_canon]
theorem Half.serBad_canon {hid : HalfId} {tk : Prop} (x : Half) (b bit : Nat) (hk : Canon hid tk x.regs x.id x.fc.fifo x.ts.fifos x.can.ram x.dsp.staging x.role.takeover) :
    Canon hid tk (Half.serBad x b bit).regs (Half.serBad x b bit).id (Half.serBad x b bit).fc.fifo (Half.serBad x b bit).ts.fifos (Half.serBad x b bit).can.ram (Half.serBad x b bit).dsp.staging (Half.serBad x b bit).role.takeover := by
  unfold Half.serBad
  grind +splitImp [Half.incSat_canon, Half.serIrq_canon, Half.setBit_canon, Half.serJudge_canon]
theorem Half.serTaken_canon {hid : HalfId} {tk : Prop} (x : Half) (b : Nat) (hk : Canon hid tk x.regs x.id x.fc.fifo x.ts.fifos x.can.ram x.dsp.staging x.role.takeover) :
    Canon hid tk (Half.serTaken x b).regs (Half.serTaken x b).id (Half.serTaken x b).fc.fifo (Half.serTaken x b).ts.fifos (Half.serTaken x b).can.ram (Half.serTaken x b).dsp.staging (Half.serTaken x b).role.takeover := by
  unfold Half.serTaken
  grind +splitImp [Half.incSat_canon, Half.serIrq_canon, Half.serJudge_canon, Half.setFld_canon]
theorem Half.slaveWrite_canon {hid : HalfId} {tk : Prop} (x : Half) (b table start : Nat) (vs : List Nat) (hk : Canon hid tk x.regs x.id x.fc.fifo x.ts.fifos x.can.ram x.dsp.staging x.role.takeover) :
    Canon hid tk (Half.slaveWrite x b table start vs).2.regs (Half.slaveWrite x b table start vs).2.id (Half.slaveWrite x b table start vs).2.fc.fifo (Half.slaveWrite x b table start vs).2.ts.fifos (Half.slaveWrite x b table start vs).2.can.ram (Half.slaveWrite x b table start vs).2.dsp.staging (Half.slaveWrite x b table start vs).2.role.takeover := by
  unfold Half.slaveWrite
  grind +splitImp [canon_foldl, Half.hostWrite_canon, Half.canRestart_canon]
theorem Half.slaveDo_canon {hid : HalfId} {tk : Prop} (x : Half) (b : Nat) (fn : Byte) (data : List Byte) (hk : Canon hid tk x.regs x.id x.fc.fifo x.ts.fifos x.can.ram x.dsp.staging x.role.takeover) :
    Canon hid tk (Half.slaveDo x b fn data).2.regs (Half.slaveDo x b fn data).2.id (Half.slaveDo x b fn data).2.fc.fifo (Half.slaveDo x b fn data).2.ts.fifos (Half.slaveDo x b fn data).2.can.ram (Half.slaveDo x b fn data).2.dsp.staging (Half.slaveDo x b fn data).2.role.takeover := by
  unfold Half.slaveDo
  grind +splitImp [Half.take_canon, Half.slaveWrite_canon]
theorem Half.slaveTake_canon {hid : HalfId} {tk : Prop} (x : Half) (b : Nat) (addr fn : Byte) (data : List Byte) (hk : Canon hid tk x.regs x.id x.fc.fifo x.ts.fifos x.can.ram x.dsp.staging x.role.takeover) :
    Canon hid tk (Half.slaveTake x b addr fn data).regs (Half.slaveTake x b addr fn data).id (Half.slaveTake x b addr fn data).fc.fifo (Half.slaveTake x b addr fn data).ts.fifos (Half.slaveTake x b addr fn data).can.ram (Half.slaveTake x b addr fn data).dsp.staging (Half.slaveTake x b addr fn data).role.takeover := by
  unfold Half.slaveTake
  grind +splitImp [Half.serSend_canon, Half.slaveDo_canon]
theorem Half.pollSend_canon {hid : HalfId} {tk : Prop} (x : Half) (b r fails : Nat) (hk : Canon hid tk x.regs x.id x.fc.fifo x.ts.fifos x.can.ram x.dsp.staging x.role.takeover) :
    Canon hid tk (Half.pollSend x b r fails).regs (Half.pollSend x b r fails).id (Half.pollSend x b r fails).fc.fifo (Half.pollSend x b r fails).ts.fifos (Half.pollSend x b r fails).can.ram (Half.pollSend x b r fails).dsp.staging (Half.pollSend x b r fails).role.takeover := by
  unfold Half.pollSend
  grind +splitImp [Half.serSend_canon, Half.modSer_canon]
theorem Half.pollNext_canon {hid : HalfId} {tk : Prop} (x : Half) (b : Nat) (hk : Canon hid tk x.regs x.id x.fc.fifo x.ts.fifos x.can.ram x.dsp.staging x.role.takeover) :
    Canon hid tk (Half.pollNext x b).regs (Half.pollNext x b).id (Half.pollNext x b).fc.fifo (Half.pollNext x b).ts.fifos (Half.pollNext x b).can.ram (Half.pollNext x b).dsp.staging (Half.pollNext x b).role.takeover := by
  unfold Half.pollNext
  grind +splitImp [Half.pollSend_canon, Half.modSer_canon]
theorem Half.pollFail_canon {hid : HalfId} {tk : Prop} (x : Half) (b : Nat) (hk : Canon hid tk x.regs x.id x.fc.fifo x.ts.fifos x.can.ram x.dsp.staging x.role.takeover) :
    Canon hid tk (Half.pollFail x b).regs (Half.pollFail x b).id (Half.pollFail x b).fc.fifo (Half.pollFail x b).ts.fifos (Half.pollFail x b).can.ram (Half.pollFail x b).dsp.staging (Half.pollFail x b).role.takeover := by
  unfold Half.pollFail
  grind +splitImp [canon_foldl, Half.pollSend_canon, Half.raise_canon, Half.busStale_canon, Half.pollNext_canon]
theorem Half.masterTake_canon {hid : HalfId} {tk : Prop} (x : Half) (b : Nat) (addr fn : Byte) (data : List Byte) (hk : Canon hid tk x.regs x.id x.fc.fifo x.ts.fifos x.can.ram x.dsp.staging x.role.takeover) :
    Canon hid tk (Half.masterTake x b addr fn data).regs (Half.masterTake x b addr fn data).id (Half.masterTake x b addr fn data).fc.fifo (Half.masterTake x b addr fn data).ts.fifos (Half.masterTake x b addr fn data).can.ram (Half.masterTake x b addr fn data).dsp.staging (Half.masterTake x b addr fn data).role.takeover := by
  unfold Half.masterTake
  grind +splitImp [canon_foldl, Half.pollFail_canon, Half.busWrite_canon, Half.pollNext_canon]
theorem Half.serTake_canon {hid : HalfId} {tk : Prop} (x : Half) (b : Nat) (hk : Canon hid tk x.regs x.id x.fc.fifo x.ts.fifos x.can.ram x.dsp.staging x.role.takeover) :
    Canon hid tk (Half.serTake x b).regs (Half.serTake x b).id (Half.serTake x b).fc.fifo (Half.serTake x b).ts.fifos (Half.serTake x b).can.ram (Half.serTake x b).dsp.staging (Half.serTake x b).role.takeover := by
  unfold Half.serTake
  grind +splitImp [Half.modSer_canon, Half.serShow_canon]
theorem Half.serLeave_canon {hid : HalfId} {tk : Prop} (x : Half) (b : Nat) (hk : Canon hid tk x.regs x.id x.fc.fifo x.ts.fifos x.can.ram x.dsp.staging x.role.takeover) :
    Canon hid tk (Half.serLeave x b).regs (Half.serLeave x b).id (Half.serLeave x b).fc.fifo (Half.serLeave x b).ts.fifos (Half.serLeave x b).can.ram (Half.serLeave x b).dsp.staging (Half.serLeave x b).role.takeover := by
  unfold Half.serLeave
  grind +splitImp [Half.modSer_canon, Half.serShow_canon]
theorem Half.serTakeAll_canon {hid : HalfId} {tk : Prop} (x : Half) (hk : Canon hid tk x.regs x.id x.fc.fifo x.ts.fifos x.can.ram x.dsp.staging x.role.takeover) :
    Canon hid tk (Half.serTakeAll x).regs (Half.serTakeAll x).id (Half.serTakeAll x).fc.fifo (Half.serTakeAll x).ts.fifos (Half.serTakeAll x).can.ram (Half.serTakeAll x).dsp.staging (Half.serTakeAll x).role.takeover := by
  unfold Half.serTakeAll
  grind +splitImp [Half.serTake_canon]
theorem Half.serLeaveAll_canon {hid : HalfId} {tk : Prop} (x : Half) (hk : Canon hid tk x.regs x.id x.fc.fifo x.ts.fifos x.can.ram x.dsp.staging x.role.takeover) :
    Canon hid tk (Half.serLeaveAll x).regs (Half.serLeaveAll x).id (Half.serLeaveAll x).fc.fifo (Half.serLeaveAll x).ts.fifos (Half.serLeaveAll x).can.ram (Half.serLeaveAll x).dsp.staging (Half.serLeaveAll x).role.takeover := by
  unfold Half.serLeaveAll
  grind +splitImp [Half.serLeave_canon]

end Sys2Proof.Machine
end

