-- ==== Sys2Proof/Laws/CanonStation.lean ====
section
/-! SUPPORT. Every operation keeps a half in canonical form (Canon, Safety.lean): the League, time, role, power, Scruple and boot operations.
One lemma per operation, in the order of the model. -/
namespace Sys2Proof.Machine
set_option linter.all false
set_option maxHeartbeats 400000

/-! ### TimeOps.lean -/

theorem Half.newSegment_canon {hid : HalfId} {tk : Prop} (x : Half) (rho : Int) (hk : Canon hid tk x.regs x.id x.fc.fifo x.ts.fifos x.can.ram x.dsp.staging x.role.takeover) :
    Canon hid tk (Half.newSegment x rho).regs (Half.newSegment x rho).id (Half.newSegment x rho).fc.fifo (Half.newSegment x rho).ts.fifos (Half.newSegment x rho).can.ram (Half.newSegment x rho).dsp.staging (Half.newSegment x rho).role.takeover := by
  unfold Half.newSegment
  grind +splitImp []
theorem Half.setRate_canon {hid : HalfId} {tk : Prop} (x : Half) (r : Int) (lim : Bool) (hk : Canon hid tk x.regs x.id x.fc.fifo x.ts.fifos x.can.ram x.dsp.staging x.role.takeover) :
    Canon hid tk (Half.setRate x r lim).regs (Half.setRate x r lim).id (Half.setRate x r lim).fc.fifo (Half.setRate x r lim).ts.fifos (Half.setRate x r lim).can.ram (Half.setRate x r lim).dsp.staging (Half.setRate x r lim).role.takeover := by
  unfold Half.setRate
  grind +splitImp [Half.wr_canon, Half.setBit_canon, Half.newSegment_canon]
theorem Half.setServo_canon {hid : HalfId} {tk : Prop} (x : Half) (st : Nat) (hk : Canon hid tk x.regs x.id x.fc.fifo x.ts.fifos x.can.ram x.dsp.staging x.role.takeover) :
    Canon hid tk (Half.setServo x st).regs (Half.setServo x st).id (Half.setServo x st).fc.fifo (Half.setServo x st).ts.fifos (Half.setServo x st).can.ram (Half.setServo x st).dsp.staging (Half.setServo x st).role.takeover := by
  unfold Half.setServo
  grind +splitImp [Half.tsIrq_canon, Half.setFld_canon]
theorem Half.phaseStep_canon {hid : HalfId} {tk : Prop} (x : Half) (d : DWord) (hk : Canon hid tk x.regs x.id x.fc.fifo x.ts.fifos x.can.ram x.dsp.staging x.role.takeover) :
    Canon hid tk (Half.phaseStep x d).regs (Half.phaseStep x d).id (Half.phaseStep x d).fc.fifo (Half.phaseStep x d).ts.fifos (Half.phaseStep x d).can.ram (Half.phaseStep x d).dsp.staging (Half.phaseStep x d).role.takeover := by
  unfold Half.phaseStep
  have H := hk
  obtain ⟨h1, h2, h3, h4, h5⟩ := H
  have H : Canon hid tk x.regs x.id x.fc.fifo (x.ts.fifos.map fun p => (p.1, p.2.map fun c => { c with stepped := true })) x.can.ram x.dsp.staging x.role.takeover := ⟨h1, h2, h3, CapsOk_map h4 _, h5⟩
  dsimp only
  generalize x.ts.fifos.map _ = q at H ⊢
  grind +splitImp [Half.setBit_canon, Half.tsIrq_canon, Half.setFld_canon, Half.newSegment_canon]
theorem Half.servoState_canon {hid : HalfId} {tk : Prop} (x : Half) (small : Bool) (hk : Canon hid tk x.regs x.id x.fc.fifo x.ts.fifos x.can.ram x.dsp.staging x.role.takeover) :
    Canon hid tk (Half.servoState x small).regs (Half.servoState x small).id (Half.servoState x small).fc.fifo (Half.servoState x small).ts.fifos (Half.servoState x small).can.ram (Half.servoState x small).dsp.staging (Half.servoState x small).role.takeover := by
  unfold Half.servoState
  grind +splitImp [Half.when_canon, Half.setBit_canon, Half.setServo_canon]
theorem Half.servoRate_canon {hid : HalfId} {tk : Prop} (x : Half) (p : Int) (lim : Bool) (hk : Canon hid tk x.regs x.id x.fc.fifo x.ts.fifos x.can.ram x.dsp.staging x.role.takeover) :
    Canon hid tk (Half.servoRate x p lim).regs (Half.servoRate x p lim).id (Half.servoRate x p lim).fc.fifo (Half.servoRate x p lim).ts.fifos (Half.servoRate x p lim).can.ram (Half.servoRate x p lim).dsp.staging (Half.servoRate x p lim).role.takeover := by
  unfold Half.servoRate
  grind +splitImp [Half.setRate_canon]
theorem Half.applyOffset_canon {hid : HalfId} {tk : Prop} (x : Half) (theta : Int) (stepAllowed force : Bool) (hk : Canon hid tk x.regs x.id x.fc.fifo x.ts.fifos x.can.ram x.dsp.staging x.role.takeover) :
    Canon hid tk (Half.applyOffset x theta stepAllowed force).regs (Half.applyOffset x theta stepAllowed force).id (Half.applyOffset x theta stepAllowed force).fc.fifo (Half.applyOffset x theta stepAllowed force).ts.fifos (Half.applyOffset x theta stepAllowed force).can.ram (Half.applyOffset x theta stepAllowed force).dsp.staging (Half.applyOffset x theta stepAllowed force).role.takeover := by
  unfold Half.applyOffset
  grind +splitImp [Half.servoState_canon, Half.free_canon, Half.servoRate_canon, Half.phaseStep_canon]
theorem Half.capture_canon {hid : HalfId} {tk : Prop} (x : Half) (fifo : Nat) (rising halfNs : Bool) (hk : Canon hid tk x.regs x.id x.fc.fifo x.ts.fifos x.can.ram x.dsp.staging x.role.takeover) :
    Canon hid tk (Half.capture x fifo rising halfNs).regs (Half.capture x fifo rising halfNs).id (Half.capture x fifo rising halfNs).fc.fifo (Half.capture x fifo rising halfNs).ts.fifos (Half.capture x fifo rising halfNs).can.ram (Half.capture x fifo rising halfNs).dsp.staging (Half.capture x fifo rising halfNs).role.takeover := by
  unfold Half.capture
  have H := hk
  obtain ⟨h1, h2, h3, h4, h5⟩ := H
  have hg := CapsOk_get h4 fifo
  have H : ∀ l : List Capture, l.length ≤ 64 → Canon hid tk x.regs x.id x.fc.fifo (x.ts.fifos.put fifo l) x.can.ram x.dsp.staging x.role.takeover := fun l hl => ⟨h1, h2, h3, CapsOk_put h4 fifo hl, h5⟩
  grind +splitImp [Half.setBit_canon, Half.tsIrq_canon]
theorem Half.setSource_canon {hid : HalfId} {tk : Prop} (x : Half) (src : Nat) (hk : Canon hid tk x.regs x.id x.fc.fifo x.ts.fifos x.can.ram x.dsp.staging x.role.takeover) :
    Canon hid tk (Half.setSource x src).regs (Half.setSource x src).id (Half.setSource x src).fc.fifo (Half.setSource x src).ts.fifos (Half.setSource x src).can.ram (Half.setSource x src).dsp.staging (Half.setSource x src).role.takeover := by
  unfold Half.setSource
  grind +splitImp [Half.servoRate_canon, Half.setServo_canon]
theorem Half.selectSource_canon {hid : HalfId} {tk : Prop} (x : Half) (src : Nat) (hk : Canon hid tk x.regs x.id x.fc.fifo x.ts.fifos x.can.ram x.dsp.staging x.role.takeover) :
    Canon hid tk (Half.selectSource x src).regs (Half.selectSource x src).id (Half.selectSource x src).fc.fifo (Half.selectSource x src).ts.fifos (Half.selectSource x src).can.ram (Half.selectSource x src).dsp.staging (Half.selectSource x src).role.takeover := by
  unfold Half.selectSource
  grind +splitImp [Half.setServo_canon, Half.setSource_canon, Half.servoRate_canon]
theorem Half.leaveSource4_canon {hid : HalfId} {tk : Prop} (x : Half) (hk : Canon hid tk x.regs x.id x.fc.fifo x.ts.fifos x.can.ram x.dsp.staging x.role.takeover) :
    Canon hid tk (Half.leaveSource4 x).regs (Half.leaveSource4 x).id (Half.leaveSource4 x).fc.fifo (Half.leaveSource4 x).ts.fifos (Half.leaveSource4 x).can.ram (Half.leaveSource4 x).dsp.staging (Half.leaveSource4 x).role.takeover := by
  unfold Half.leaveSource4
  grind +splitImp [Half.setSource_canon]

/-! ### RegOps.lean -/

theorem Half.afterWrite_canon {hid : HalfId} {tk : Prop} (x : Half) (a : Nat) (old : Word) (hk : Canon hid tk x.regs x.id x.fc.fifo x.ts.fifos x.can.ram x.dsp.staging x.role.takeover) :
    Canon hid tk (Half.afterWrite x a old).regs (Half.afterWrite x a old).id (Half.afterWrite x a old).fc.fifo (Half.afterWrite x a old).ts.fifos (Half.afterWrite x a old).can.ram (Half.afterWrite x a old).dsp.staging (Half.afterWrite x a old).role.takeover := by
  unfold Half.afterWrite
  grind +splitImp (splits := 30) [Half.canDrop_canon, Half.setServo_canon, Half.servoRate_canon, Half.setAo_canon, Half.discharge_canon, Half.serShow_canon, Half.setBit_canon, Half.modCan_canon, Half.loseClaim_canon, Half.aoUpdate_canon, Half.vdShow_canon, Half.vdFfWritten_canon, Half.vdEnabled_canon, Half.doUpdate_canon, Half.canShow_canon]
theorem Half.regStore_canon {hid : HalfId} {tk : Prop} (x : Half) (d : RegDesc) (a : Nat) (value : Word) (hk : Canon hid tk x.regs x.id x.fc.fifo x.ts.fifos x.can.ram x.dsp.staging x.role.takeover) :
    Canon hid tk (Half.regStore x d a value).regs (Half.regStore x d a value).id (Half.regStore x d a value).fc.fifo (Half.regStore x d a value).ts.fifos (Half.regStore x d a value).can.ram (Half.regStore x d a value).dsp.staging (Half.regStore x d a value).role.takeover := by
  unfold Half.regStore
  grind +splitImp [Half.setFull_canon, Half.afterWrite_canon, Half.setFld_canon, Half.wr_canon]

/-! ### Images.lean -/

theorem Half.regPut_canon {hid : HalfId} {tk : Prop} (x : Half) (a : Nat) (v : Word) (hk : Canon hid tk x.regs x.id x.fc.fifo x.ts.fifos x.can.ram x.dsp.staging x.role.takeover) :
    Canon hid tk (Half.regPut x a v).regs (Half.regPut x a v).id (Half.regPut x a v).fc.fifo (Half.regPut x a v).ts.fifos (Half.regPut x a v).can.ram (Half.regPut x a v).dsp.staging (Half.regPut x a v).role.takeover := by
  unfold Half.regPut
  grind +splitImp [Half.regStore_canon]
theorem Half.refresh_canon {hid : HalfId} {tk : Prop} (x : Half) (hk : Canon hid tk x.regs x.id x.fc.fifo x.ts.fifos x.can.ram x.dsp.staging x.role.takeover) :
    Canon hid tk (Half.refresh x).regs (Half.refresh x).id (Half.refresh x).fc.fifo (Half.refresh x).ts.fifos (Half.refresh x).can.ram (Half.refresh x).dsp.staging (Half.refresh x).role.takeover := by
  unfold Half.refresh
  grind +splitImp [canon_foldl, Half.canShow_canon, Half.aoUpdate_canon, Half.serShow_canon, Half.doUpdate_canon, Half.vdUpdate_canon]
theorem Half.loadRegs_canon {hid : HalfId} {tk : Prop} (x : Half) (p : Nat → Bool) (hk : Canon hid tk x.regs x.id x.fc.fifo x.ts.fifos x.can.ram x.dsp.staging x.role.takeover) :
    Canon hid tk (Half.loadRegs x p).regs (Half.loadRegs x p).id (Half.loadRegs x p).fc.fifo (Half.loadRegs x p).ts.fifos (Half.loadRegs x p).can.ram (Half.loadRegs x p).dsp.staging (Half.loadRegs x p).role.takeover := by
  unfold Half.loadRegs
  grind +splitImp [canon_foldl, canon_filter, Half.refresh_canon, Half.regPut_canon]
theorem Half.stageWrite_canon {hid : HalfId} {tk : Prop} (x : Half) (first last : Bool) (data : List Byte) (hk : Canon hid tk x.regs x.id x.fc.fifo x.ts.fifos x.can.ram x.dsp.staging x.role.takeover) :
    Canon hid tk (Half.stageWrite x first last data).2.regs (Half.stageWrite x first last data).2.id (Half.stageWrite x first last data).2.fc.fifo (Half.stageWrite x first last data).2.ts.fifos (Half.stageWrite x first last data).2.can.ram (Half.stageWrite x first last data).2.dsp.staging (Half.stageWrite x first last data).2.role.takeover := by
  unfold Half.stageWrite
  grind +splitImp [Half.setCfgSlot_canon]
theorem Half.takeOwned_canon {hid : HalfId} {tk : Prop} (x : Half) (t slot : Nat) (hk : Canon hid tk x.regs x.id x.fc.fifo x.ts.fifos x.can.ram x.dsp.staging x.role.takeover) :
    Canon hid tk (Half.takeOwned x t slot).regs (Half.takeOwned x t slot).id (Half.takeOwned x t slot).fc.fifo (Half.takeOwned x t slot).ts.fifos (Half.takeOwned x t slot).can.ram (Half.takeOwned x t slot).dsp.staging (Half.takeOwned x t slot).role.takeover := by
  unfold Half.takeOwned
  grind +splitImp [canon_foldl, Half.scheduleTake_canon]
theorem Half.sendTo_canon {hid : HalfId} {tk : Prop} (x : Half) (t slot : Nat) (hk : Canon hid tk x.regs x.id x.fc.fifo x.ts.fifos x.can.ram x.dsp.staging x.role.takeover) :
    Canon hid tk (Half.sendTo x t slot).2.regs (Half.sendTo x t slot).2.id (Half.sendTo x t slot).2.fc.fifo (Half.sendTo x t slot).2.ts.fifos (Half.sendTo x t slot).2.can.ram (Half.sendTo x t slot).2.dsp.staging (Half.sendTo x t slot).2.role.takeover := by
  unfold Half.sendTo
  grind +splitImp [Half.switchTask_canon, Half.takeOwned_canon, Half.modTsk_canon]
theorem Half.beginSwitch_canon {hid : HalfId} {tk : Prop} (x : Half) (rollback : Bool) (cmd : Option (Nat × Nat)) (slot : Nat) (mask : BitVec 16)
    (set : Option (List Byte × Word)) (hk : Canon hid tk x.regs x.id x.fc.fifo x.ts.fifos x.can.ram x.dsp.staging x.role.takeover) :
    Canon hid tk (Half.beginSwitch x rollback cmd slot mask set).regs (Half.beginSwitch x rollback cmd slot mask set).id (Half.beginSwitch x rollback cmd slot mask set).fc.fifo (Half.beginSwitch x rollback cmd slot mask set).ts.fifos (Half.beginSwitch x rollback cmd slot mask set).can.ram (Half.beginSwitch x rollback cmd slot mask set).dsp.staging (Half.beginSwitch x rollback cmd slot mask set).role.takeover := by
  have H2 := canon_foldl2 (l := List.range 16) (acc := (([] : List Nat), x))
    (g := fun (acc : List Nat × Half) t => let (w, y) := acc.2.sendTo t slot; (if w then acc.1 ++ [t] else acc.1, y)) hk
    fun acc t h => Half.sendTo_canon _ _ _ h
  unfold Half.beginSwitch
  generalize (List.range 16).foldl _ (([] : List Nat), x) = r at H2 ⊢
  obtain ⟨ts, y⟩ := r
  cases set with
  | none => exact H2
  | some p => exact Half.deliverSet_canon _ _ H2
theorem Half.cancelSwitch_canon {hid : HalfId} {tk : Prop} (x : Half) (hk : Canon hid tk x.regs x.id x.fc.fifo x.ts.fifos x.can.ram x.dsp.staging x.role.takeover) :
    Canon hid tk (Half.cancelSwitch x).regs (Half.cancelSwitch x).id (Half.cancelSwitch x).fc.fifo (Half.cancelSwitch x).ts.fifos (Half.cancelSwitch x).can.ram (Half.cancelSwitch x).dsp.staging (Half.cancelSwitch x).role.takeover := by
  unfold Half.cancelSwitch
  grind +splitImp [Half.beginSwitch_canon]
theorem Half.freeOutputs_canon {hid : HalfId} {tk : Prop} (x : Half) (hk : Canon hid tk x.regs x.id x.fc.fifo x.ts.fifos x.can.ram x.dsp.staging x.role.takeover) :
    Canon hid tk (Half.freeOutputs x).regs (Half.freeOutputs x).id (Half.freeOutputs x).fc.fifo (Half.freeOutputs x).ts.fifos (Half.freeOutputs x).can.ram (Half.freeOutputs x).dsp.staging (Half.freeOutputs x).role.takeover := by
  unfold Half.freeOutputs
  grind +splitImp [canon_foldl, Half.setBit_canon, Half.doUpdate_canon]
theorem Half.endCommit_canon {hid : HalfId} {tk : Prop} (x : Half) (hk : Canon hid tk x.regs x.id x.fc.fifo x.ts.fifos x.can.ram x.dsp.staging x.role.takeover) :
    Canon hid tk (Half.endCommit x).regs (Half.endCommit x).id (Half.endCommit x).fc.fifo (Half.endCommit x).ts.fifos (Half.endCommit x).can.ram (Half.endCommit x).dsp.staging (Half.endCommit x).role.takeover := by
  unfold Half.endCommit
  grind +splitImp [Half.commitDone_canon, Half.loadRegs_canon, Half.freeOutputs_canon]

/-! ### League.lean -/

theorem Half.leagueCount_canon {hid : HalfId} {tk : Prop} (x : Half) (w : Word) (put : ObjBlk → Word → ObjBlk) (hk : Canon hid tk x.regs x.id x.fc.fifo x.ts.fifos x.can.ram x.dsp.staging x.role.takeover) :
    Canon hid tk (Half.leagueCount x w put).regs (Half.leagueCount x w put).id (Half.leagueCount x w put).fc.fifo (Half.leagueCount x w put).ts.fifos (Half.leagueCount x w put).can.ram (Half.leagueCount x w put).dsp.staging (Half.leagueCount x w put).role.takeover := by
  unfold Half.leagueCount
  grind +splitImp []
theorem Half.staleStation_canon {hid : HalfId} {tk : Prop} (x : Half) (station : Nat) (hk : Canon hid tk x.regs x.id x.fc.fifo x.ts.fifos x.can.ram x.dsp.staging x.role.takeover) :
    Canon hid tk (Half.staleStation x station).regs (Half.staleStation x station).id (Half.staleStation x station).fc.fifo (Half.staleStation x station).ts.fifos (Half.staleStation x station).can.ram (Half.staleStation x station).dsp.staging (Half.staleStation x station).role.takeover := by
  unfold Half.staleStation
  grind +splitImp [Half.staleAbsent_canon, Half.markStale_canon]
theorem Half.staleAll_canon {hid : HalfId} {tk : Prop} (x : Half) (hk : Canon hid tk x.regs x.id x.fc.fifo x.ts.fifos x.can.ram x.dsp.staging x.role.takeover) :
    Canon hid tk (Half.staleAll x).regs (Half.staleAll x).id (Half.staleAll x).fc.fifo (Half.staleAll x).ts.fifos (Half.staleAll x).can.ram (Half.staleAll x).dsp.staging (Half.staleAll x).role.takeover := by
  unfold Half.staleAll
  grind +splitImp [canon_foldl, Half.staleAbsent_canon, Half.markStale_canon]
theorem Half.countIngest_canon {hid : HalfId} {tk : Prop} (x : Half) (n : Nat) (hk : Canon hid tk x.regs x.id x.fc.fifo x.ts.fifos x.can.ram x.dsp.staging x.role.takeover) :
    Canon hid tk (Half.countIngest x n).regs (Half.countIngest x n).id (Half.countIngest x n).fc.fifo (Half.countIngest x n).ts.fifos (Half.countIngest x n).can.ram (Half.countIngest x n).dsp.staging (Half.countIngest x n).role.takeover := by
  unfold Half.countIngest
  grind +splitImp []
theorem Half.modStation_canon {hid : HalfId} {tk : Prop} (x : Half) (st : Nat) (f : StationSt → StationSt) (hk : Canon hid tk x.regs x.id x.fc.fifo x.ts.fifos x.can.ram x.dsp.staging x.role.takeover) :
    Canon hid tk (Half.modStation x st f).regs (Half.modStation x st f).id (Half.modStation x st f).fc.fifo (Half.modStation x st f).ts.fifos (Half.modStation x st f).can.ram (Half.modStation x st f).dsp.staging (Half.modStation x st f).role.takeover := by
  unfold Half.modStation
  grind +splitImp []
theorem Half.gapAt_canon {hid : HalfId} {tk : Prop} (x : Half) (station task : Nat) (cycle : Word) (hk : Canon hid tk x.regs x.id x.fc.fifo x.ts.fifos x.can.ram x.dsp.staging x.role.takeover) :
    Canon hid tk (Half.gapAt x station task cycle).regs (Half.gapAt x station task cycle).id (Half.gapAt x station task cycle).fc.fifo (Half.gapAt x station task cycle).ts.fifos (Half.gapAt x station task cycle).can.ram (Half.gapAt x station task cycle).dsp.staging (Half.gapAt x station task cycle).role.takeover := by
  unfold Half.gapAt
  grind +splitImp [Half.send_canon, Half.markStale_canon, Half.modStation_canon, Half.leagueCount_canon]
theorem Half.storeRec_canon {hid : HalfId} {tk : Prop} (x : Half) (task : Nat) (stale : Bool) (r : ObjRec) (hk : Canon hid tk x.regs x.id x.fc.fifo x.ts.fifos x.can.ram x.dsp.staging x.role.takeover) :
    Canon hid tk (Half.storeRec x task stale r).regs (Half.storeRec x task stale r).id (Half.storeRec x task stale r).fc.fifo (Half.storeRec x task stale r).ts.fifos (Half.storeRec x task stale r).can.ram (Half.storeRec x task stale r).dsp.staging (Half.storeRec x task stale r).role.takeover := by
  unfold Half.storeRec
  grind +splitImp [Half.putRec_canon]
theorem Half.applyFrame_canon {hid : HalfId} {tk : Prop} (x : Half) (f : LeagueFrame) (recs : List ObjRec) (hk : Canon hid tk x.regs x.id x.fc.fifo x.ts.fifos x.can.ram x.dsp.staging x.role.takeover) :
    Canon hid tk (Half.applyFrame x f recs).regs (Half.applyFrame x f recs).id (Half.applyFrame x f recs).fc.fifo (Half.applyFrame x f recs).ts.fifos (Half.applyFrame x f recs).can.ram (Half.applyFrame x f recs).dsp.staging (Half.applyFrame x f recs).role.takeover := by
  unfold Half.applyFrame
  grind +splitImp [canon_foldl, Half.gapAt_canon, Half.markStale_canon, Half.relayOut_canon, Half.countIngest_canon, Half.storeRec_canon]
theorem Half.applyRefresh_canon {hid : HalfId} {tk : Prop} (x : Half) (task : Nat) (recs : List ObjRec) (hk : Canon hid tk x.regs x.id x.fc.fifo x.ts.fifos x.can.ram x.dsp.staging x.role.takeover) :
    Canon hid tk (Half.applyRefresh x task recs).regs (Half.applyRefresh x task recs).id (Half.applyRefresh x task recs).fc.fifo (Half.applyRefresh x task recs).ts.fifos (Half.applyRefresh x task recs).can.ram (Half.applyRefresh x task recs).dsp.staging (Half.applyRefresh x task recs).role.takeover := by
  unfold Half.applyRefresh
  grind +splitImp [canon_foldl, Half.leagueCount_canon, Half.storeRec_canon]
theorem Half.takeFragment_canon {hid : HalfId} {tk : Prop} (x : Half) (f : LeagueFrame) (hk : Canon hid tk x.regs x.id x.fc.fifo x.ts.fifos x.can.ram x.dsp.staging x.role.takeover) :
    Canon hid tk (Half.takeFragment x f).2.regs (Half.takeFragment x f).2.id (Half.takeFragment x f).2.fc.fifo (Half.takeFragment x f).2.ts.fifos (Half.takeFragment x f).2.can.ram (Half.takeFragment x f).2.dsp.staging (Half.takeFragment x f).2.role.takeover := by
  unfold Half.takeFragment
  grind +splitImp [Half.leagueCount_canon]
theorem Half.sendJoin_canon {hid : HalfId} {tk : Prop} (x : Half) (hk : Canon hid tk x.regs x.id x.fc.fifo x.ts.fifos x.can.ram x.dsp.staging x.role.takeover) :
    Canon hid tk (Half.sendJoin x).regs (Half.sendJoin x).id (Half.sendJoin x).fc.fifo (Half.sendJoin x).ts.fifos (Half.sendJoin x).can.ram (Half.sendJoin x).dsp.staging (Half.sendJoin x).role.takeover := by
  unfold Half.sendJoin
  grind +splitImp [Half.send_canon]
theorem Half.hearWorker_canon {hid : HalfId} {tk : Prop} (x : Half) (hb : LeagueHb) (hk : Canon hid tk x.regs x.id x.fc.fifo x.ts.fifos x.can.ram x.dsp.staging x.role.takeover) :
    Canon hid tk (Half.hearWorker x hb).regs (Half.hearWorker x hb).id (Half.hearWorker x hb).fc.fifo (Half.hearWorker x hb).ts.fifos (Half.hearWorker x hb).can.ram (Half.hearWorker x hb).dsp.staging (Half.hearWorker x hb).role.takeover := by
  unfold Half.hearWorker
  grind +splitImp [canon_foldl, Half.modStation_canon, Half.send_canon, Half.gapAt_canon]
theorem Half.refreshed_canon {hid : HalfId} {tk : Prop} (y : Half) (f : LeagueFrame) (recs : List ObjRec) (hk : Canon hid tk y.regs y.id y.fc.fifo y.ts.fifos y.can.ram y.dsp.staging y.role.takeover) :
    Canon hid tk (Half.refreshed y f recs).regs (Half.refreshed y f recs).id (Half.refreshed y f recs).fc.fifo (Half.refreshed y f recs).ts.fifos (Half.refreshed y f recs).can.ram (Half.refreshed y f recs).dsp.staging (Half.refreshed y f recs).role.takeover := by
  unfold Half.refreshed
  grind +splitImp [Half.modStation_canon, Half.applyRefresh_canon, Half.relayOut_canon, Half.countIngest_canon]
theorem Half.relayed_canon {hid : HalfId} {tk : Prop} (y : Half) (f : LeagueFrame) (recs : List ObjRec) (hk : Canon hid tk y.regs y.id y.fc.fifo y.ts.fifos y.can.ram y.dsp.staging y.role.takeover) :
    Canon hid tk (Half.relayed y f recs).regs (Half.relayed y f recs).id (Half.relayed y f recs).fc.fifo (Half.relayed y f recs).ts.fifos (Half.relayed y f recs).can.ram (Half.relayed y f recs).dsp.staging (Half.relayed y f recs).role.takeover := by
  unfold Half.relayed
  grind +splitImp [Half.applyRefresh_canon, Half.applyFrame_canon]
theorem Half.joinAccept_canon {hid : HalfId} {tk : Prop} (x : Half) (j : JoinFrame) (hk : Canon hid tk x.regs x.id x.fc.fifo x.ts.fifos x.can.ram x.dsp.staging x.role.takeover) :
    Canon hid tk (Half.joinAccept x j).regs (Half.joinAccept x j).id (Half.joinAccept x j).fc.fifo (Half.joinAccept x j).ts.fifos (Half.joinAccept x j).can.ram (Half.joinAccept x j).dsp.staging (Half.joinAccept x j).role.takeover := by
  unfold Half.joinAccept
  grind +splitImp [Half.mismatch_canon, Half.modStation_canon, Half.send_canon]
theorem Half.refreshNow_canon {hid : HalfId} {tk : Prop} (x : Half) (t : Nat) (hk : Canon hid tk x.regs x.id x.fc.fifo x.ts.fifos x.can.ram x.dsp.staging x.role.takeover) :
    Canon hid tk (Half.refreshNow x t).regs (Half.refreshNow x t).id (Half.refreshNow x t).fc.fifo (Half.refreshNow x t).ts.fifos (Half.refreshNow x t).can.ram (Half.refreshNow x t).dsp.staging (Half.refreshNow x t).role.takeover := by
  unfold Half.refreshNow
  grind +splitImp [Half.sendRefresh_canon, Half.refresh_canon]
theorem Half.batchOut_canon {hid : HalfId} {tk : Prop} (x : Half) (hk : Canon hid tk x.regs x.id x.fc.fifo x.ts.fifos x.can.ram x.dsp.staging x.role.takeover) :
    Canon hid tk (Half.batchOut x).regs (Half.batchOut x).id (Half.batchOut x).fc.fifo (Half.batchOut x).ts.fifos (Half.batchOut x).can.ram (Half.batchOut x).dsp.staging (Half.batchOut x).role.takeover := by
  unfold Half.batchOut
  grind +splitImp [Half.spanPut_canon, Half.sendBlocks_canon]

/-! ### RoleOps.lean -/

theorem Half.showReleased_canon {hid : HalfId} {tk : Prop} (x : Half) (hk : Canon hid tk x.regs x.id x.fc.fifo x.ts.fifos x.can.ram x.dsp.staging x.role.takeover) :
    Canon hid tk (Half.showReleased x).regs (Half.showReleased x).id (Half.showReleased x).fc.fifo (Half.showReleased x).ts.fifos (Half.showReleased x).can.ram (Half.showReleased x).dsp.staging (Half.showReleased x).role.takeover := by
  unfold Half.showReleased
  grind +splitImp [Half.setBit_canon]
theorem Half.claim_canon {hid : HalfId} {tk : Prop} (x : Half) (hk : Canon hid tk x.regs x.id x.fc.fifo x.ts.fifos x.can.ram x.dsp.staging x.role.takeover) :
    Canon hid tk (Half.claim x).regs (Half.claim x).id (Half.claim x).fc.fifo (Half.claim x).ts.fifos (Half.claim x).can.ram (Half.claim x).dsp.staging (Half.claim x).role.takeover := by
  unfold Half.claim
  grind +splitImp [Half.setBit_canon]
theorem Half.modCopy_canon {hid : HalfId} {tk : Prop} (x : Half) (t : Nat) (f : TaskCopy → TaskCopy) (hk : Canon hid tk x.regs x.id x.fc.fifo x.ts.fifos x.can.ram x.dsp.staging x.role.takeover) :
    Canon hid tk (Half.modCopy x t f).regs (Half.modCopy x t f).id (Half.modCopy x t f).fc.fifo (Half.modCopy x t f).ts.fifos (Half.modCopy x t f).can.ram (Half.modCopy x t f).dsp.staging (Half.modCopy x t f).role.takeover := by
  unfold Half.modCopy
  grind +splitImp []
theorem Half.showArmed_canon {hid : HalfId} {tk : Prop} (x : Half) (hk : Canon hid tk x.regs x.id x.fc.fifo x.ts.fifos x.can.ram x.dsp.staging x.role.takeover) :
    Canon hid tk (Half.showArmed x).regs (Half.showArmed x).id (Half.showArmed x).fc.fifo (Half.showArmed x).ts.fifos (Half.showArmed x).can.ram (Half.showArmed x).dsp.staging (Half.showArmed x).role.takeover := by
  unfold Half.showArmed
  grind +splitImp []
theorem Half.placeTasks_canon {hid : HalfId} {tk : Prop} (x : Half) (st : TaskState) (hk : Canon hid tk x.regs x.id x.fc.fifo x.ts.fifos x.can.ram x.dsp.staging x.role.takeover) :
    Canon hid tk (Half.placeTasks x st).regs (Half.placeTasks x st).id (Half.placeTasks x st).fc.fifo (Half.placeTasks x st).ts.fifos (Half.placeTasks x st).can.ram (Half.placeTasks x st).dsp.staging (Half.placeTasks x st).role.takeover := by
  unfold Half.placeTasks
  grind +splitImp [canon_foldl]
theorem Half.enterSyncing_canon {hid : HalfId} {tk : Prop} (x : Half) (hk : Canon hid tk x.regs x.id x.fc.fifo x.ts.fifos x.can.ram x.dsp.staging x.role.takeover) :
    Canon hid tk (Half.enterSyncing x).regs (Half.enterSyncing x).id (Half.enterSyncing x).fc.fifo (Half.enterSyncing x).ts.fifos (Half.enterSyncing x).can.ram (Half.enterSyncing x).dsp.staging (Half.enterSyncing x).role.takeover := by
  unfold Half.enterSyncing
  grind +splitImp [→ canon_noTake, Half.placeTasks_canon, Half.setBit_canon]
theorem Half.loadShadow_canon {hid : HalfId} {tk : Prop} (x : Half) (hk : Canon hid tk x.regs x.id x.fc.fifo x.ts.fifos x.can.ram x.dsp.staging x.role.takeover) :
    Canon hid tk (Half.loadShadow x).regs (Half.loadShadow x).id (Half.loadShadow x).fc.fifo (Half.loadShadow x).ts.fifos (Half.loadShadow x).can.ram (Half.loadShadow x).dsp.staging (Half.loadShadow x).role.takeover := by
  unfold Half.loadShadow
  grind +splitImp [canon_foldl, Half.wr_canon, Half.setBit_canon]
theorem Half.takeRegion_canon {hid : HalfId} {tk : Prop} (x : Half) (t : Nat) (hk : Canon hid tk x.regs x.id x.fc.fifo x.ts.fifos x.can.ram x.dsp.staging x.role.takeover) :
    Canon hid tk (Half.takeRegion x t).regs (Half.takeRegion x t).id (Half.takeRegion x t).fc.fifo (Half.takeRegion x t).ts.fifos (Half.takeRegion x t).can.ram (Half.takeRegion x t).dsp.staging (Half.takeRegion x t).role.takeover := by
  unfold Half.takeRegion
  grind +splitImp [canon_foldl, Half.putPoint_canon, Half.putRetain_canon, Half.modTsk_canon]
theorem Half.diverged_canon {hid : HalfId} {tk : Prop} (x : Half) (t : Nat) (cycle : Word) (hk : Canon hid tk x.regs x.id x.fc.fifo x.ts.fifos x.can.ram x.dsp.staging x.role.takeover) :
    Canon hid tk (Half.diverged x t cycle).regs (Half.diverged x t cycle).id (Half.diverged x t cycle).fc.fifo (Half.diverged x t cycle).ts.fifos (Half.diverged x t cycle).can.ram (Half.diverged x t cycle).dsp.staging (Half.diverged x t cycle).role.takeover := by
  unfold Half.diverged
  grind +splitImp [Half.raiseIf_canon, Half.raise_canon, Half.modCopy_canon, Half.logEvt_canon]
theorem Half.confirm_canon {hid : HalfId} {tk : Prop} (x : Half) (t : Nat) (c : CycleEnd) (hk : Canon hid tk x.regs x.id x.fc.fifo x.ts.fifos x.can.ram x.dsp.staging x.role.takeover) :
    Canon hid tk (Half.confirm x t c).regs (Half.confirm x t c).id (Half.confirm x t c).fc.fifo (Half.confirm x t c).ts.fifos (Half.confirm x t c).can.ram (Half.confirm x t c).dsp.staging (Half.confirm x t c).role.takeover := by
  unfold Half.confirm
  grind +splitImp [Half.diverged_canon, Half.modCopy_canon, Half.loadShadow_canon, Half.takeRegion_canon]
theorem Half.putStoreBlock_canon {hid : HalfId} {tk : Prop} (x : Half) (b : List Byte) (hk : Canon hid tk x.regs x.id x.fc.fifo x.ts.fifos x.can.ram x.dsp.staging x.role.takeover) :
    Canon hid tk (Half.putStoreBlock x b).regs (Half.putStoreBlock x b).id (Half.putStoreBlock x b).fc.fifo (Half.putStoreBlock x b).ts.fifos (Half.putStoreBlock x b).can.ram (Half.putStoreBlock x b).dsp.staging (Half.putStoreBlock x b).role.takeover := by
  unfold Half.putStoreBlock
  grind +splitImp [canon_foldl, Half.staleAbsent_canon, Half.take_canon]
theorem Half.confirmStore_canon {hid : HalfId} {tk : Prop} (x : Half) (c : CycleEnd) (hk : Canon hid tk x.regs x.id x.fc.fifo x.ts.fifos x.can.ram x.dsp.staging x.role.takeover) :
    Canon hid tk (Half.confirmStore x c).regs (Half.confirmStore x c).id (Half.confirmStore x c).fc.fifo (Half.confirmStore x c).ts.fifos (Half.confirmStore x c).can.ram (Half.confirmStore x c).dsp.staging (Half.confirmStore x c).role.takeover := by
  unfold Half.confirmStore
  grind +splitImp [canon_foldl, Half.diverged_canon, Half.putStoreBlock_canon, Half.modCopy_canon]
theorem Half.sendRegion_canon {hid : HalfId} {tk : Prop} (x : Half) (t : Nat) (hk : Canon hid tk x.regs x.id x.fc.fifo x.ts.fifos x.can.ram x.dsp.staging x.role.takeover) :
    Canon hid tk (Half.sendRegion x t).regs (Half.sendRegion x t).id (Half.sendRegion x t).fc.fifo (Half.sendRegion x t).ts.fifos (Half.sendRegion x t).can.ram (Half.sendRegion x t).dsp.staging (Half.sendRegion x t).role.takeover := by
  unfold Half.sendRegion
  grind +splitImp [Half.sendBlocks_canon]
theorem Half.sendCfg_canon {hid : HalfId} {tk : Prop} (x : Half) (i : CfgItem) (hk : Canon hid tk x.regs x.id x.fc.fifo x.ts.fifos x.can.ram x.dsp.staging x.role.takeover) :
    Canon hid tk (Half.sendCfg x i).regs (Half.sendCfg x i).id (Half.sendCfg x i).fc.fifo (Half.sendCfg x i).ts.fifos (Half.sendCfg x i).can.ram (Half.sendCfg x i).dsp.staging (Half.sendCfg x i).role.takeover := by
  unfold Half.sendCfg
  grind +splitImp [Half.spanRel_canon]
theorem Half.sendSlot_canon {hid : HalfId} {tk : Prop} (x : Half) (bs : List Byte) (hk : Canon hid tk x.regs x.id x.fc.fifo x.ts.fifos x.can.ram x.dsp.staging x.role.takeover) :
    Canon hid tk (Half.sendSlot x bs).regs (Half.sendSlot x bs).id (Half.sendSlot x bs).fc.fifo (Half.sendSlot x bs).ts.fifos (Half.sendSlot x bs).can.ram (Half.sendSlot x bs).dsp.staging (Half.sendSlot x bs).role.takeover := by
  unfold Half.sendSlot
  grind +splitImp [canon_foldl, Half.sendCfg_canon, Half.take_canon]
theorem Half.sendConf_canon {hid : HalfId} {tk : Prop} (x : Half) (hk : Canon hid tk x.regs x.id x.fc.fifo x.ts.fifos x.can.ram x.dsp.staging x.role.takeover) :
    Canon hid tk (Half.sendConf x).regs (Half.sendConf x).id (Half.sendConf x).fc.fifo (Half.sendConf x).ts.fifos (Half.sendConf x).can.ram (Half.sendConf x).dsp.staging (Half.sendConf x).role.takeover := by
  unfold Half.sendConf
  grind +splitImp [Half.sendCfg_canon, Half.sendSlot_canon]
theorem Half.sendOverlay_canon {hid : HalfId} {tk : Prop} (x : Half) (hk : Canon hid tk x.regs x.id x.fc.fifo x.ts.fifos x.can.ram x.dsp.staging x.role.takeover) :
    Canon hid tk (Half.sendOverlay x).regs (Half.sendOverlay x).id (Half.sendOverlay x).fc.fifo (Half.sendOverlay x).ts.fifos (Half.sendOverlay x).can.ram (Half.sendOverlay x).dsp.staging (Half.sendOverlay x).role.takeover := by
  unfold Half.sendOverlay
  have hI : ∀ (z : Half) (i : CfgItem), Canon hid tk z.regs z.id z.fc.fifo z.ts.fifos z.can.ram z.dsp.staging z.role.takeover →
      Canon hid tk (z.sendCfg i).regs (z.sendCfg i).id (z.sendCfg i).fc.fifo (z.sendCfg i).ts.fifos (z.sendCfg i).can.ram (z.sendCfg i).dsp.staging (z.sendCfg i).role.takeover :=
    fun z i h => Half.sendCfg_canon z i h
  extract_lets y1 y2 y3 y4 y5 y6
  have H1 : Canon hid tk y1.regs y1.id y1.fc.fifo y1.ts.fifos y1.can.ram y1.dsp.staging y1.role.takeover := canon_foldl hk fun z e h => hI _ _ h
  have H2 : Canon hid tk y2.regs y2.id y2.fc.fifo y2.ts.fifos y2.can.ram y2.dsp.staging y2.role.takeover := canon_foldl H1 fun z e h => hI _ _ (hI _ _ (hI _ _ h))
  have H3 : Canon hid tk y3.regs y3.id y3.fc.fifo y3.ts.fifos y3.can.ram y3.dsp.staging y3.role.takeover :=
    canon_foldl H2 fun z e h => by
      split
      · exact hI _ _ h
      · exact h
  have H4 : Canon hid tk y4.regs y4.id y4.fc.fifo y4.ts.fifos y4.can.ram y4.dsp.staging y4.role.takeover := canon_foldl H3 fun z e h => Half.mirrorPoint_canon _ _ h
  have H5 : Canon hid tk y5.regs y5.id y5.fc.fifo y5.ts.fifos y5.can.ram y5.dsp.staging y5.role.takeover :=
    canon_foldl H4 fun z e h => canon_ite (hI _ _ (hI _ _ h)) (hI _ _ h)
  have H6 : Canon hid tk y6.regs y6.id y6.fc.fifo y6.ts.fifos y6.can.ram y6.dsp.staging y6.role.takeover := canon_ite H5 (hI _ _ H5)
  exact canon_ite H6 (hI _ _ H6)
theorem Half.sendStore_canon {hid : HalfId} {tk : Prop} (x : Half) (hk : Canon hid tk x.regs x.id x.fc.fifo x.ts.fifos x.can.ram x.dsp.staging x.role.takeover) :
    Canon hid tk (Half.sendStore x).regs (Half.sendStore x).id (Half.sendStore x).fc.fifo (Half.sendStore x).ts.fifos (Half.sendStore x).can.ram (Half.sendStore x).dsp.staging (Half.sendStore x).role.takeover := by
  unfold Half.sendStore
  grind +splitImp [Half.sendBlocks_canon]
theorem Half.answerCopy_canon {hid : HalfId} {tk : Prop} (x : Half) (hb : Heartbeat) (hk : Canon hid tk x.regs x.id x.fc.fifo x.ts.fifos x.can.ram x.dsp.staging x.role.takeover) :
    Canon hid tk (Half.answerCopy x hb).regs (Half.answerCopy x hb).id (Half.answerCopy x hb).fc.fifo (Half.answerCopy x hb).ts.fifos (Half.answerCopy x hb).can.ram (Half.answerCopy x hb).dsp.staging (Half.answerCopy x hb).role.takeover := by
  unfold Half.answerCopy
  grind +splitImp [canon_foldl, Half.sendOverlay_canon, Half.sendConf_canon, Half.sendStore_canon, Half.sendRegion_canon]
theorem Half.startLoading_canon {hid : HalfId} {tk : Prop} (x : Half) (hk : Canon hid tk x.regs x.id x.fc.fifo x.ts.fifos x.can.ram x.dsp.staging x.role.takeover) :
    Canon hid tk (Half.startLoading x).regs (Half.startLoading x).id (Half.startLoading x).fc.fifo (Half.startLoading x).ts.fifos (Half.startLoading x).can.ram (Half.startLoading x).dsp.staging (Half.startLoading x).role.takeover := by
  unfold Half.startLoading
  grind +splitImp []
theorem Half.trySync_canon {hid : HalfId} {tk : Prop} (x : Half) (hk : Canon hid tk x.regs x.id x.fc.fifo x.ts.fifos x.can.ram x.dsp.staging x.role.takeover) :
    Canon hid tk (Half.trySync x).regs (Half.trySync x).id (Half.trySync x).fc.fifo (Half.trySync x).ts.fifos (Half.trySync x).can.ram (Half.trySync x).dsp.staging (Half.trySync x).role.takeover := by
  unfold Half.trySync
  grind +splitImp [Half.raiseIf_canon, Half.loadChains_canon, Half.enterSyncing_canon]
theorem Half.awaitPartner_canon {hid : HalfId} {tk : Prop} (x : Half) (hk : Canon hid tk x.regs x.id x.fc.fifo x.ts.fifos x.can.ram x.dsp.staging x.role.takeover) :
    Canon hid tk (Half.awaitPartner x).regs (Half.awaitPartner x).id (Half.awaitPartner x).fc.fifo (Half.awaitPartner x).ts.fifos (Half.awaitPartner x).can.ram (Half.awaitPartner x).dsp.staging (Half.awaitPartner x).role.takeover := by
  unfold Half.awaitPartner
  grind +splitImp []
theorem Half.negotiate_canon {hid : HalfId} {tk : Prop} (x : Half) (hk : Canon hid tk x.regs x.id x.fc.fifo x.ts.fifos x.can.ram x.dsp.staging x.role.takeover) :
    Canon hid tk (Half.negotiate x).regs (Half.negotiate x).id (Half.negotiate x).fc.fifo (Half.negotiate x).ts.fifos (Half.negotiate x).can.ram (Half.negotiate x).dsp.staging (Half.negotiate x).role.takeover := by
  unfold Half.negotiate
  grind +splitImp [Half.awaitPartner_canon, Half.trySync_canon, Half.startLoading_canon]
theorem Half.confirmTrial_canon {hid : HalfId} {tk : Prop} (x : Half) (hk : Canon hid tk x.regs x.id x.fc.fifo x.ts.fifos x.can.ram x.dsp.staging x.role.takeover) :
    Canon hid tk (Half.confirmTrial x).regs (Half.confirmTrial x).id (Half.confirmTrial x).fc.fifo (Half.confirmTrial x).ts.fifos (Half.confirmTrial x).can.ram (Half.confirmTrial x).dsp.staging (Half.confirmTrial x).role.takeover := by
  unfold Half.confirmTrial
  grind +splitImp []
theorem Half.runStation_canon {hid : HalfId} {tk : Prop} (x : Half) (hk : Canon hid tk x.regs x.id x.fc.fifo x.ts.fifos x.can.ram x.dsp.staging x.role.takeover) :
    Canon hid tk (Half.runStation x).regs (Half.runStation x).id (Half.runStation x).fc.fifo (Half.runStation x).ts.fifos (Half.runStation x).can.ram (Half.runStation x).dsp.staging (Half.runStation x).role.takeover := by
  unfold Half.runStation
  grind +splitImp [→ canon_noTake, Half.refresh_canon, Half.dispTake_canon, Half.setSource_canon]
theorem Half.runField_canon {hid : HalfId} {tk : Prop} (x : Half) (hk : Canon hid tk x.regs x.id x.fc.fifo x.ts.fifos x.can.ram x.dsp.staging x.role.takeover) :
    Canon hid tk (Half.runField x).regs (Half.runField x).id (Half.runField x).fc.fifo (Half.runField x).ts.fifos (Half.runField x).can.ram (Half.runField x).dsp.staging (Half.runField x).role.takeover := by
  unfold Half.runField
  grind +splitImp [Half.vdStart_canon, Half.setBit_canon]
theorem Half.runBuses_canon {hid : HalfId} {tk : Prop} (x : Half) (hk : Canon hid tk x.regs x.id x.fc.fifo x.ts.fifos x.can.ram x.dsp.staging x.role.takeover) :
    Canon hid tk (Half.runBuses x).regs (Half.runBuses x).id (Half.runBuses x).fc.fifo (Half.runBuses x).ts.fifos (Half.runBuses x).can.ram (Half.runBuses x).dsp.staging (Half.runBuses x).role.takeover := by
  unfold Half.runBuses
  grind +splitImp [Half.serTakeAll_canon, Half.canTakeAll_canon]
theorem Half.chainRefs_canon {hid : HalfId} {tk : Prop} (x : Half) (hk : Canon hid tk x.regs x.id x.fc.fifo x.ts.fifos x.can.ram x.dsp.staging x.role.takeover) :
    Canon hid tk (Half.chainRefs x).regs (Half.chainRefs x).id (Half.chainRefs x).fc.fifo (Half.chainRefs x).ts.fifos (Half.chainRefs x).can.ram (Half.chainRefs x).dsp.staging (Half.chainRefs x).role.takeover := by
  unfold Half.chainRefs
  grind +splitImp [canon_foldl, Half.setIref_canon]
theorem Half.shadowRefs_canon {hid : HalfId} {tk : Prop} (x : Half) (hk : Canon hid tk x.regs x.id x.fc.fifo x.ts.fifos x.can.ram x.dsp.staging x.role.takeover) :
    Canon hid tk (Half.shadowRefs x).regs (Half.shadowRefs x).id (Half.shadowRefs x).fc.fifo (Half.shadowRefs x).ts.fifos (Half.shadowRefs x).can.ram (Half.shadowRefs x).dsp.staging (Half.shadowRefs x).role.takeover := by
  unfold Half.shadowRefs
  grind +splitImp [canon_foldl, Half.setIref_canon, Half.chainRefs_canon]
theorem Half.shadowOutputs_canon {hid : HalfId} {tk : Prop} (x : Half) (hk : Canon hid tk x.regs x.id x.fc.fifo x.ts.fifos x.can.ram x.dsp.staging x.role.takeover) :
    Canon hid tk (Half.shadowOutputs x).regs (Half.shadowOutputs x).id (Half.shadowOutputs x).fc.fifo (Half.shadowOutputs x).ts.fifos (Half.shadowOutputs x).can.ram (Half.shadowOutputs x).dsp.staging (Half.shadowOutputs x).role.takeover := by
  unfold Half.shadowOutputs
  grind +splitImp [canon_foldl, Half.wr_canon, Half.refresh_canon]
theorem Half.resumeTasks_canon {hid : HalfId} {tk : Prop} (x : Half) (takeover : Bool) (hk : Canon hid tk x.regs x.id x.fc.fifo x.ts.fifos x.can.ram x.dsp.staging x.role.takeover) :
    Canon hid tk (Half.resumeTasks x takeover).regs (Half.resumeTasks x takeover).id (Half.resumeTasks x takeover).fc.fifo (Half.resumeTasks x takeover).ts.fifos (Half.resumeTasks x takeover).can.ram (Half.resumeTasks x takeover).dsp.staging (Half.resumeTasks x takeover).role.takeover := by
  unfold Half.resumeTasks
  grind +splitImp [canon_foldl, Half.modTsk_canon, Half.takeRegion_canon, Half.raiseIf_canon, Half.activateTask_canon]
theorem Half.startTasks_canon {hid : HalfId} {tk : Prop} (x : Half) (hk : Canon hid tk x.regs x.id x.fc.fifo x.ts.fifos x.can.ram x.dsp.staging x.role.takeover) :
    Canon hid tk (Half.startTasks x).regs (Half.startTasks x).id (Half.startTasks x).fc.fifo (Half.startTasks x).ts.fifos (Half.startTasks x).can.ram (Half.startTasks x).dsp.staging (Half.startTasks x).role.takeover := by
  unfold Half.startTasks
  grind +splitImp [canon_foldl, Half.placeTasks_canon, Half.modTsk_canon]
theorem Half.coldOutputs_canon {hid : HalfId} {tk : Prop} (x : Half) (hk : Canon hid tk x.regs x.id x.fc.fifo x.ts.fifos x.can.ram x.dsp.staging x.role.takeover) :
    Canon hid tk (Half.coldOutputs x).regs (Half.coldOutputs x).id (Half.coldOutputs x).fc.fifo (Half.coldOutputs x).ts.fifos (Half.coldOutputs x).can.ram (Half.coldOutputs x).dsp.staging (Half.coldOutputs x).role.takeover := by
  unfold Half.coldOutputs
  grind +splitImp [canon_foldl, Half.wr_canon, Half.driveForced_canon, Half.doUpdate_canon]
theorem Half.startCold_canon {hid : HalfId} {tk : Prop} (x : Half) (hk : Canon hid tk x.regs x.id x.fc.fifo x.ts.fifos x.can.ram x.dsp.staging x.role.takeover) :
    Canon hid tk (Half.startCold x).regs (Half.startCold x).id (Half.startCold x).fc.fifo (Half.startCold x).ts.fifos (Half.startCold x).can.ram (Half.startCold x).dsp.staging (Half.startCold x).role.takeover := by
  unfold Half.startCold
  grind +splitImp [Half.loadChains_canon, Half.loadRegs_canon, Half.coldOutputs_canon, Half.startTasks_canon]
theorem Half.startStation_canon {hid : HalfId} {tk : Prop} (x : Half) (hk : Canon hid tk x.regs x.id x.fc.fifo x.ts.fifos x.can.ram x.dsp.staging x.role.takeover) :
    Canon hid tk (Half.startStation x).regs (Half.startStation x).id (Half.startStation x).fc.fifo (Half.startStation x).ts.fifos (Half.startStation x).can.ram (Half.startStation x).dsp.staging (Half.startStation x).role.takeover := by
  unfold Half.startStation
  grind (splits := 20) (ematch := 20) (gen := 20) [Half.runStation_canon, Half.sendJoin_canon, Half.startCold_canon, Half.runField_canon, Half.runBuses_canon, Half.confirmTrial_canon, Half.claim_canon]
theorem Half.releaseOutputs_canon {hid : HalfId} {tk : Prop} (x : Half) (hk : Canon hid tk x.regs x.id x.fc.fifo x.ts.fifos x.can.ram x.dsp.staging x.role.takeover) :
    Canon hid tk (Half.releaseOutputs x).regs (Half.releaseOutputs x).id (Half.releaseOutputs x).fc.fifo (Half.releaseOutputs x).ts.fifos (Half.releaseOutputs x).can.ram (Half.releaseOutputs x).dsp.staging (Half.releaseOutputs x).role.takeover := by
  unfold Half.releaseOutputs
  grind +splitImp [Half.aoUpdate_canon, Half.doUpdate_canon]
theorem Half.leaveBuses_canon {hid : HalfId} {tk : Prop} (x : Half) (hk : Canon hid tk x.regs x.id x.fc.fifo x.ts.fifos x.can.ram x.dsp.staging x.role.takeover) :
    Canon hid tk (Half.leaveBuses x).regs (Half.leaveBuses x).id (Half.leaveBuses x).fc.fifo (Half.leaveBuses x).ts.fifos (Half.leaveBuses x).can.ram (Half.leaveBuses x).dsp.staging (Half.leaveBuses x).role.takeover := by
  unfold Half.leaveBuses
  grind +splitImp [Half.canLeaveAll_canon, Half.serLeaveAll_canon]
theorem Half.endHold_canon {hid : HalfId} {tk : Prop} (x : Half) (hk : Canon hid tk x.regs x.id x.fc.fifo x.ts.fifos x.can.ram x.dsp.staging x.role.takeover) :
    Canon hid tk (Half.endHold x).regs (Half.endHold x).id (Half.endHold x).fc.fifo (Half.endHold x).ts.fifos (Half.endHold x).can.ram (Half.endHold x).dsp.staging (Half.endHold x).role.takeover := by
  unfold Half.endHold
  grind (splits := 20) (ematch := 20) (gen := 20) [Half.beginReset_canon, Half.releaseOutputs_canon, Half.dispLeave_canon, Half.vdStop_canon, Half.leaveBuses_canon, Half.endTuning_canon]

/-! ### Roles.lean -/

theorem Half.conflict_canon {hid : HalfId} {tk : Prop} (x : Half) (hk : Canon hid tk x.regs x.id x.fc.fifo x.ts.fifos x.can.ram x.dsp.staging x.role.takeover) :
    Canon hid tk (Half.conflict x).regs (Half.conflict x).id (Half.conflict x).fc.fifo (Half.conflict x).ts.fifos (Half.conflict x).can.ram (Half.conflict x).dsp.staging (Half.conflict x).role.takeover := by
  unfold Half.conflict
  grind +splitImp [Half.raise_canon, Half.logEvt_canon]
theorem Half.yieldTakeover_canon {hid : HalfId} {tk : Prop} (x : Half) (hk : Canon hid tk x.regs x.id x.fc.fifo x.ts.fifos x.can.ram x.dsp.staging x.role.takeover) :
    Canon hid tk (Half.yieldTakeover x).regs (Half.yieldTakeover x).id (Half.yieldTakeover x).fc.fifo (Half.yieldTakeover x).ts.fifos (Half.yieldTakeover x).can.ram (Half.yieldTakeover x).dsp.staging (Half.yieldTakeover x).role.takeover := by
  unfold Half.yieldTakeover
  grind +splitImp [→ canon_noTake]
theorem Half.takeOver_canon {hid : HalfId} {tk : Prop} (x : Half) (hk : Canon hid tk x.regs x.id x.fc.fifo x.ts.fifos x.can.ram x.dsp.staging x.role.takeover) (ht : tk) :
    Canon hid tk (Half.takeOver x).regs (Half.takeOver x).id (Half.takeOver x).fc.fifo (Half.takeOver x).ts.fifos (Half.takeOver x).can.ram (Half.takeOver x).dsp.staging (Half.takeOver x).role.takeover := by
  unfold Half.takeOver
  have H : ∀ b : Bool, Canon hid tk x.regs x.id x.fc.fifo x.ts.fifos x.can.ram x.dsp.staging b :=
    fun b => ⟨hk.1, hk.2.1, hk.2.2.1, hk.2.2.2.1, hk.2.2.2.2.1, hk.2.2.2.2.2.1, fun _ => ht⟩
  split
  · split
    · exact Half.refresh_canon _ (Half.runStation_canon _ (Half.resumeTasks_canon _ _ (Half.shadowRefs_canon _ (Half.claim_canon _ hk))))
    · exact canon_ite (Half.shadowOutputs_canon _ (Half.claim_canon _ (H true))) (H true)
  · exact H true
  · exact hk
theorem Half.markReleased_canon {hid : HalfId} {tk : Prop} (x : Half) (hk : Canon hid tk x.regs x.id x.fc.fifo x.ts.fifos x.can.ram x.dsp.staging x.role.takeover) :
    Canon hid tk (Half.markReleased x).regs (Half.markReleased x).id (Half.markReleased x).fc.fifo (Half.markReleased x).ts.fifos (Half.markReleased x).can.ram (Half.markReleased x).dsp.staging (Half.markReleased x).role.takeover := by
  unfold Half.markReleased
  grind +splitImp [Half.spanIrq_canon, Half.setBit_canon]
theorem Half.coldNumbers_canon {hid : HalfId} {tk : Prop} (y x : Half) (hk : Canon hid tk y.regs y.id y.fc.fifo y.ts.fifos y.can.ram y.dsp.staging y.role.takeover) :
    Canon hid tk (Half.coldNumbers y x).regs (Half.coldNumbers y x).id (Half.coldNumbers y x).fc.fifo (Half.coldNumbers y x).ts.fifos (Half.coldNumbers y x).can.ram (Half.coldNumbers y x).dsp.staging (Half.coldNumbers y x).role.takeover := by
  unfold Half.coldNumbers
  extract_lets old y1
  have H1 : Canon hid tk y1.regs y1.id y1.fc.fifo y1.ts.fifos y1.can.ram y1.dsp.staging y1.role.takeover := canon_foldl hk fun z e h => h
  split
  · exact H1
  · exact canon_foldl (l := y1.taskIds) (g := fun (z : Half) t => z.modTsk t fun k => { k with cycle := (Tab.get {} old t).cycle + 1, outCycle := (Tab.get {} old t).cycle + 1 }) H1
      fun z t h => Half.modTsk_canon _ _ _ h
theorem Half.takeCold_canon {hid : HalfId} {tk : Prop} (x : Half) (hk : Canon hid tk x.regs x.id x.fc.fifo x.ts.fifos x.can.ram x.dsp.staging x.role.takeover) :
    Canon hid tk (Half.takeCold x).regs (Half.takeCold x).id (Half.takeCold x).fc.fifo (Half.takeCold x).ts.fifos (Half.takeCold x).can.ram (Half.takeCold x).dsp.staging (Half.takeCold x).role.takeover := by
  unfold Half.takeCold
  grind (ematch := 20) (gen := 20) [Half.evrEvent_canon, Half.raise_canon, Half.runBuses_canon, Half.runField_canon, Half.coldNumbers_canon, Half.runStation_canon, Half.claim_canon, Half.startCold_canon]
theorem Half.takeWarm_canon {hid : HalfId} {tk : Prop} (x : Half) (hk : Canon hid tk x.regs x.id x.fc.fifo x.ts.fifos x.can.ram x.dsp.staging x.role.takeover) :
    Canon hid tk (Half.takeWarm x).regs (Half.takeWarm x).id (Half.takeWarm x).fc.fifo (Half.takeWarm x).ts.fifos (Half.takeWarm x).can.ram (Half.takeWarm x).dsp.staging (Half.takeWarm x).role.takeover := by
  unfold Half.takeWarm
  grind (ematch := 20) (gen := 20) [Half.shadowRefs_canon, Half.resumeTasks_canon, Half.runStation_canon, Half.runField_canon, Half.runBuses_canon, Half.evrEvent_canon]
theorem Half.fwWatch_canon {hid : HalfId} {tk : Prop} (x : Half) (hb : Heartbeat) (hk : Canon hid tk x.regs x.id x.fc.fifo x.ts.fifos x.can.ram x.dsp.staging x.role.takeover) :
    Canon hid tk (Half.fwWatch x hb).regs (Half.fwWatch x hb).id (Half.fwWatch x hb).fc.fifo (Half.fwWatch x hb).ts.fifos (Half.fwWatch x hb).can.ram (Half.fwWatch x hb).dsp.staging (Half.fwWatch x hb).role.takeover := by
  unfold Half.fwWatch
  grind +splitImp [canon_foldl, Half.finish_canon]
theorem Half.claimLineOn_canon {hid : HalfId} {tk : Prop} (x : Half) (hk : Canon hid tk x.regs x.id x.fc.fifo x.ts.fifos x.can.ram x.dsp.staging x.role.takeover) :
    Canon hid tk (Half.claimLineOn x).regs (Half.claimLineOn x).id (Half.claimLineOn x).fc.fifo (Half.claimLineOn x).ts.fifos (Half.claimLineOn x).can.ram (Half.claimLineOn x).dsp.staging (Half.claimLineOn x).role.takeover := by
  unfold Half.claimLineOn
  grind +splitImp [Half.raise_canon]
theorem Half.hearHeartbeat_canon {hid : HalfId} {tk : Prop} (x : Half) (hdr : SpanHdr) (hb : Heartbeat) (hk : Canon hid tk x.regs x.id x.fc.fifo x.ts.fifos x.can.ram x.dsp.staging x.role.takeover) :
    Canon hid tk (Half.hearHeartbeat x hdr hb).regs (Half.hearHeartbeat x hdr hb).id (Half.hearHeartbeat x hdr hb).fc.fifo (Half.hearHeartbeat x hdr hb).ts.fifos (Half.hearHeartbeat x hdr hb).can.ram (Half.hearHeartbeat x hdr hb).dsp.staging (Half.hearHeartbeat x hdr hb).role.takeover := by
  unfold Half.hearHeartbeat
  grind +splitImp (ematch := 20) (gen := 20) (splits := 20) [Half.spanAccept_canon, Half.free_canon, Half.setFld_canon, Half.setBit_canon, Half.claimLineOn_canon, Half.setPeerArmed_canon, Half.raiseIf_canon, Half.answerCopy_canon, Half.fwWatch_canon, Half.showArmed_canon, Half.showReleased_canon, Half.negotiate_canon]
theorem Half.restartRel_canon {hid : HalfId} {tk : Prop} (x : Half) (hk : Canon hid tk x.regs x.id x.fc.fifo x.ts.fifos x.can.ram x.dsp.staging x.role.takeover) :
    Canon hid tk (Half.restartRel x).regs (Half.restartRel x).id (Half.restartRel x).fc.fifo (Half.restartRel x).ts.fifos (Half.restartRel x).can.ram (Half.restartRel x).dsp.staging (Half.restartRel x).role.takeover := by
  unfold Half.restartRel
  grind +splitImp [canon_foldl, Half.itemLost_canon]
theorem Half.applyCfg_canon {hid : HalfId} {tk : Prop} (x : Half) (i : CfgItem) (hk : Canon hid tk x.regs x.id x.fc.fifo x.ts.fifos x.can.ram x.dsp.staging x.role.takeover) :
    Canon hid tk (Half.applyCfg x i).regs (Half.applyCfg x i).id (Half.applyCfg x i).fc.fifo (Half.applyCfg x i).ts.fifos (Half.applyCfg x i).can.ram (Half.applyCfg x i).dsp.staging (Half.applyCfg x i).role.takeover := by
  unfold Half.applyCfg
  (repeat' split) <;> grind +splitImp [Half.loadRegs_canon, Half.setDesc_canon, Half.writeDesc_canon, Half.beginSwitch_canon, Half.showArmed_canon, Half.setMode_canon, Half.markSwitched_canon, Half.setCfgSlot_canon, Half.sealChain_canon, Half.switchTask_canon, Half.cancelSwitch_canon, Half.loadChains_canon, Half.putPoint_canon, Half.requestSwap_canon, Half.stageWrite_canon, Half.enterSyncing_canon, Half.endCommit_canon, Half.deliverSet_canon, Half.setSect_canon, Half.restartChain_canon]
theorem Half.peerReply_canon {hid : HalfId} {tk : Prop} (x : Half) (e : Entry) (hk : Canon hid tk x.regs x.id x.fc.fifo x.ts.fifos x.can.ram x.dsp.staging x.role.takeover) :
    Canon hid tk (Half.peerReply x e).regs (Half.peerReply x e).id (Half.peerReply x e).fc.fifo (Half.peerReply x e).ts.fifos (Half.peerReply x e).can.ram (Half.peerReply x e).dsp.staging (Half.peerReply x e).role.takeover := by
  unfold Half.peerReply
  grind +splitImp [Half.finish_canon, Half.modCtx_canon, Half.sendAborts_canon, Half.abortsLate_canon, Half.take_canon, Half.abortDone_canon]
theorem Half.peerEntry_canon {hid : HalfId} {tk : Prop} (x : Half) (reply : Bool) (e : Entry) (hk : Canon hid tk x.regs x.id x.fc.fifo x.ts.fifos x.can.ram x.dsp.staging x.role.takeover) :
    Canon hid tk (Half.peerEntry x reply e).regs (Half.peerEntry x reply e).id (Half.peerEntry x reply e).fc.fifo (Half.peerEntry x reply e).ts.fifos (Half.peerEntry x reply e).can.ram (Half.peerEntry x reply e).dsp.staging (Half.peerEntry x reply e).role.takeover := by
  unfold Half.peerEntry
  grind +splitImp [Half.modChan_canon, Half.advance_canon, Half.irq_canon, Half.peerReply_canon]
theorem Half.resetPeer_canon {hid : HalfId} {tk : Prop} (x : Half) (hk : Canon hid tk x.regs x.id x.fc.fifo x.ts.fifos x.can.ram x.dsp.staging x.role.takeover) :
    Canon hid tk (Half.resetPeer x).regs (Half.resetPeer x).id (Half.resetPeer x).fc.fifo (Half.resetPeer x).ts.fifos (Half.resetPeer x).can.ram (Half.resetPeer x).dsp.staging (Half.resetPeer x).role.takeover := by
  unfold Half.resetPeer
  grind +splitImp [canon_foldl, Half.finish_canon, Half.clearChan_canon, Half.raise_canon, Half.when_canon]
theorem Half.applyRel_canon {hid : HalfId} {tk : Prop} (x : Half) (l : RelLoad) (hk : Canon hid tk x.regs x.id x.fc.fifo x.ts.fifos x.can.ram x.dsp.staging x.role.takeover) :
    Canon hid tk (Half.applyRel x l).regs (Half.applyRel x l).id (Half.applyRel x l).fc.fifo (Half.applyRel x l).ts.fifos (Half.applyRel x l).can.ram (Half.applyRel x l).dsp.staging (Half.applyRel x l).role.takeover := by
  unfold Half.applyRel
  grind +splitImp [Half.applyCfg_canon, Half.peerEntry_canon]
theorem Half.applyHeld_canon {hid : HalfId} {tk : Prop} : ∀ (n : Nat) (x : Half), Canon hid tk x.regs x.id x.fc.fifo x.ts.fifos x.can.ram x.dsp.staging x.role.takeover →
    Canon hid tk (Half.applyHeld n x).regs (Half.applyHeld n x).id (Half.applyHeld n x).fc.fifo (Half.applyHeld n x).ts.fifos (Half.applyHeld n x).can.ram (Half.applyHeld n x).dsp.staging (Half.applyHeld n x).role.takeover := by
  intro n
  induction n with
  | zero => intro x h; unfold Half.applyHeld; exact h
  | succ n ih =>
    intro x h
    unfold Half.applyHeld
    simp only []
    split
    · exact h
    · exact ih _ (Half.applyRel_canon _ _ h)
theorem Half.relOrder_canon {hid : HalfId} {tk : Prop} (y : Half) (n : BitVec 16) (l : RelLoad) (hk : Canon hid tk y.regs y.id y.fc.fifo y.ts.fifos y.can.ram y.dsp.staging y.role.takeover) :
    Canon hid tk (Half.relOrder y n l).regs (Half.relOrder y n l).id (Half.relOrder y n l).fc.fifo (Half.relOrder y n l).ts.fifos (Half.relOrder y n l).can.ram (Half.relOrder y n l).dsp.staging (Half.relOrder y n l).role.takeover := by
  unfold Half.relOrder
  split
  · exact Half.applyHeld_canon _ _ (Half.applyRel_canon _ _ hk)
  · split <;> exact hk
theorem Half.relTake_canon {hid : HalfId} {tk : Prop} (x : Half) (hdr : SpanHdr) (l : RelLoad) (hk : Canon hid tk x.regs x.id x.fc.fifo x.ts.fifos x.can.ram x.dsp.staging x.role.takeover) :
    Canon hid tk (Half.relTake x hdr l).regs (Half.relTake x hdr l).id (Half.relTake x hdr l).fc.fifo (Half.relTake x hdr l).ts.fifos (Half.relTake x hdr l).can.ram (Half.relTake x hdr l).dsp.staging (Half.relTake x hdr l).role.takeover := by
  unfold Half.relTake
  exact Half.relOrder_canon _ _ _ (Half.spanIrq_canon _ _ (Half.spanAccept_canon _ _ hk))
theorem Half.roleSeen_canon {hid : HalfId} {tk : Prop} (x : Half) (n : BitVec 16) (hk : Canon hid tk x.regs x.id x.fc.fifo x.ts.fifos x.can.ram x.dsp.staging x.role.takeover) :
    Canon hid tk (Half.roleSeen x n).regs (Half.roleSeen x n).id (Half.roleSeen x n).fc.fifo (Half.roleSeen x n).ts.fifos (Half.roleSeen x n).can.ram (Half.roleSeen x n).dsp.staging (Half.roleSeen x n).role.takeover := by
  unfold Half.roleSeen
  grind +splitImp [Half.relOrder_canon]
theorem Half.peerError_canon {hid : HalfId} {tk : Prop} (x : Half) (code : Nat) (hk : Canon hid tk x.regs x.id x.fc.fifo x.ts.fifos x.can.ram x.dsp.staging x.role.takeover) :
    Canon hid tk (Half.peerError x code).regs (Half.peerError x code).id (Half.peerError x code).fc.fifo (Half.peerError x code).ts.fifos (Half.peerError x code).can.ram (Half.peerError x code).dsp.staging (Half.peerError x code).role.takeover := by
  unfold Half.peerError
  grind +splitImp [Half.incSat_canon, Half.raise_canon, Half.setBit_canon, Half.irq_canon, Half.setFld_canon]

/-! ### Handover.lean -/

theorem Half.offers_canon {hid : HalfId} {tk : Prop} (x : Half) (k : Handover) (cmd : Option (Nat × Nat)) (hk : Canon hid tk x.regs x.id x.fc.fifo x.ts.fifos x.can.ram x.dsp.staging x.role.takeover) :
    Canon hid tk (Half.offers x k cmd).regs (Half.offers x k cmd).id (Half.offers x k cmd).fc.fifo (Half.offers x k cmd).ts.fifos (Half.offers x k cmd).can.ram (Half.offers x k cmd).dsp.staging (Half.offers x k cmd).role.takeover := by
  unfold Half.offers
  grind +splitImp [Half.spanPut_canon, Half.sendRole_canon]
theorem Half.offered_canon {hid : HalfId} {tk : Prop} (p : Half) (k : Handover) (n : BitVec 16) (hk : Canon hid tk p.regs p.id p.fc.fifo p.ts.fifos p.can.ram p.dsp.staging p.role.takeover) :
    Canon hid tk (Half.offered p k n).regs (Half.offered p k n).id (Half.offered p k n).fc.fifo (Half.offered p k n).ts.fifos (Half.offered p k n).can.ram (Half.offered p k n).dsp.staging (Half.offered p k n).role.takeover := by
  unfold Half.offered
  grind +splitImp [Half.roleSeen_canon]
theorem Half.modHo_canon {hid : HalfId} {tk : Prop} (x : Half) (f : Handover → Handover) (hk : Canon hid tk x.regs x.id x.fc.fifo x.ts.fifos x.can.ram x.dsp.staging x.role.takeover) :
    Canon hid tk (Half.modHo x f).regs (Half.modHo x f).id (Half.modHo x f).fc.fifo (Half.modHo x f).ts.fifos (Half.modHo x f).can.ram (Half.modHo x f).dsp.staging (Half.modHo x f).role.takeover := by
  unfold Half.modHo
  grind +splitImp []
theorem Half.staysActive_canon {hid : HalfId} {tk : Prop} (x : Half) (status : Nat) (hk : Canon hid tk x.regs x.id x.fc.fifo x.ts.fifos x.can.ram x.dsp.staging x.role.takeover) :
    Canon hid tk (Half.staysActive x status).regs (Half.staysActive x status).id (Half.staysActive x status).fc.fifo (Half.staysActive x status).ts.fifos (Half.staysActive x status).can.ram (Half.staysActive x status).dsp.staging (Half.staysActive x status).role.takeover := by
  unfold Half.staysActive
  grind +splitImp [Half.finishCmd_canon]
theorem Half.dropOffer_canon {hid : HalfId} {tk : Prop} (x : Half) (hk : Canon hid tk x.regs x.id x.fc.fifo x.ts.fifos x.can.ram x.dsp.staging x.role.takeover) :
    Canon hid tk (Half.dropOffer x).regs (Half.dropOffer x).id (Half.dropOffer x).fc.fifo (Half.dropOffer x).ts.fifos (Half.dropOffer x).can.ram (Half.dropOffer x).dsp.staging (Half.dropOffer x).role.takeover := by
  unfold Half.dropOffer
  grind +splitImp []
theorem Half.outAtH_canon {hid : HalfId} {tk : Prop} (x : Half) (hk : Canon hid tk x.regs x.id x.fc.fifo x.ts.fifos x.can.ram x.dsp.staging x.role.takeover) :
    Canon hid tk (Half.outAtH x).regs (Half.outAtH x).id (Half.outAtH x).fc.fifo (Half.outAtH x).ts.fifos (Half.outAtH x).can.ram (Half.outAtH x).dsp.staging (Half.outAtH x).role.takeover := by
  unfold Half.outAtH
  grind +splitImp [Half.modHo_canon, Half.relinquish_canon, Half.setBit_canon, Half.endTuning_canon, Half.dropActiveCmds_canon, Half.dispLeave_canon]
theorem Half.inAtH_canon {hid : HalfId} {tk : Prop} (x : Half) (hk : Canon hid tk x.regs x.id x.fc.fifo x.ts.fifos x.can.ram x.dsp.staging x.role.takeover) :
    Canon hid tk (Half.inAtH x).regs (Half.inAtH x).id (Half.inAtH x).fc.fifo (Half.inAtH x).ts.fifos (Half.inAtH x).can.ram (Half.inAtH x).dsp.staging (Half.inAtH x).role.takeover := by
  unfold Half.inAtH
  grind +splitImp [Half.shadowOutputs_canon, Half.modHo_canon]
theorem Half.countHandover_canon {hid : HalfId} {tk : Prop} (x : Half) (k : Handover) (hk : Canon hid tk x.regs x.id x.fc.fifo x.ts.fifos x.can.ram x.dsp.staging x.role.takeover) :
    Canon hid tk (Half.countHandover x k).regs (Half.countHandover x k).id (Half.countHandover x k).fc.fifo (Half.countHandover x k).ts.fifos (Half.countHandover x k).can.ram (Half.countHandover x k).dsp.staging (Half.countHandover x k).role.takeover := by
  unfold Half.countHandover
  grind +splitImp [Half.evrEvent_canon]
theorem Half.becomesStandby_canon {hid : HalfId} {tk : Prop} (x : Half) (k : Handover) (hk : Canon hid tk x.regs x.id x.fc.fifo x.ts.fifos x.can.ram x.dsp.staging x.role.takeover) :
    Canon hid tk (Half.becomesStandby x k).regs (Half.becomesStandby x k).id (Half.becomesStandby x k).fc.fifo (Half.becomesStandby x k).ts.fifos (Half.becomesStandby x k).can.ram (Half.becomesStandby x k).dsp.staging (Half.becomesStandby x k).role.takeover := by
  unfold Half.becomesStandby
  grind +splitImp [canon_foldl, Half.setBit_canon, Half.modTsk_canon, Half.countHandover_canon]

/-! ### Power.lean -/

theorem Half.survivors_canon {hid : HalfId} {tk : Prop} (x : Half) (hk : Canon hid tk x.regs x.id x.fc.fifo x.ts.fifos x.can.ram x.dsp.staging x.role.takeover) :
    Canon hid tk (Half.survivors x).regs (Half.survivors x).id (Half.survivors x).fc.fifo (Half.survivors x).ts.fifos (Half.survivors x).can.ram (Half.survivors x).dsp.staging (Half.survivors x).role.takeover := by
  unfold Half.survivors
  exact ⟨(canon_filter _ _ _ _ _ _ _ _ hk).1, hk.2.1, by simp, CapsOk_nil, rfl, rfl, nofun⟩
theorem Half.powerOff_canon {hid : HalfId} {tk : Prop} (x : Half) (hk : Canon hid tk x.regs x.id x.fc.fifo x.ts.fifos x.can.ram x.dsp.staging x.role.takeover) :
    Canon hid tk (Half.powerOff x).regs (Half.powerOff x).id (Half.powerOff x).fc.fifo (Half.powerOff x).ts.fifos (Half.powerOff x).can.ram (Half.powerOff x).dsp.staging (Half.powerOff x).role.takeover := by
  unfold Half.powerOff
  grind +splitImp [Half.survivors_canon]
theorem Half.powerOn_canon {hid : HalfId} {tk : Prop} (x : Half) (feeds : BitVec 4) (code : BitVec 2) (hk : Canon hid tk x.regs x.id x.fc.fifo x.ts.fifos x.can.ram x.dsp.staging x.role.takeover) :
    Canon hid tk (Half.powerOn x feeds code).regs (Half.powerOn x feeds code).id (Half.powerOn x feeds code).fc.fifo (Half.powerOn x feeds code).ts.fifos (Half.powerOn x feeds code).can.ram (Half.powerOn x feeds code).dsp.staging (Half.powerOn x feeds code).role.takeover := by
  unfold Half.powerOn
  have H := Half.survivors_canon x hk
  obtain ⟨h1, h2, h3, h4, h5⟩ := H
  have H : Canon hid tk x.survivors.regs x.survivors.id x.survivors.fc.fifo [] x.survivors.can.ram x.survivors.dsp.staging x.survivors.role.takeover := ⟨h1, h2, h3, CapsOk_nil, h5⟩
  extract_lets
  grind (splits := 20) (ematch := 20) (gen := 20) [Half.feedSeen_canon, Half.wr_canon, Half.setBit_canon, Half.enterReset_canon, Half.evrPowerOn_canon, Half.fcStatus_canon, Half.setFld_canon]
theorem Half.endPowerFail_canon {hid : HalfId} {tk : Prop} (x : Half) (hk : Canon hid tk x.regs x.id x.fc.fifo x.ts.fifos x.can.ram x.dsp.staging x.role.takeover) :
    Canon hid tk (Half.endPowerFail x).regs (Half.endPowerFail x).id (Half.endPowerFail x).fc.fifo (Half.endPowerFail x).ts.fifos (Half.endPowerFail x).can.ram (Half.endPowerFail x).dsp.staging (Half.endPowerFail x).role.takeover := by
  unfold Half.endPowerFail
  grind +splitImp [Half.endHold_canon, Half.evrPass_canon]
theorem Half.resetDoms_canon {hid : HalfId} {tk : Prop} (x : Half) (doms : Byte) (hk : Canon hid tk x.regs x.id x.fc.fifo x.ts.fifos x.can.ram x.dsp.staging x.role.takeover) :
    Canon hid tk (Half.resetDoms x doms).regs (Half.resetDoms x doms).id (Half.resetDoms x doms).fc.fifo (Half.resetDoms x doms).ts.fifos (Half.resetDoms x doms).can.ram (Half.resetDoms x doms).dsp.staging (Half.resetDoms x doms).role.takeover := by
  unfold Half.resetDoms
  grind +splitImp [canon_foldl, Half.enterReset_canon, Half.setFld_canon]
theorem Half.resetHalf_canon {hid : HalfId} {tk : Prop} (x : Half) (hk : Canon hid tk x.regs x.id x.fc.fifo x.ts.fifos x.can.ram x.dsp.staging x.role.takeover) :
    Canon hid tk (Half.resetHalf x).regs (Half.resetHalf x).id (Half.resetHalf x).fc.fifo (Half.resetHalf x).ts.fifos (Half.resetHalf x).can.ram (Half.resetHalf x).dsp.staging (Half.resetHalf x).role.takeover := by
  unfold Half.resetHalf
  grind +splitImp [Half.halfReset_canon, Half.reboot_canon]

/-! ### SafOps.lean -/

theorem Half.modSaf_canon {hid : HalfId} {tk : Prop} (x : Half) (f : SafBlk → SafBlk) (hk : Canon hid tk x.regs x.id x.fc.fifo x.ts.fifos x.can.ram x.dsp.staging x.role.takeover) :
    Canon hid tk (Half.modSaf x f).regs (Half.modSaf x f).id (Half.modSaf x f).fc.fifo (Half.modSaf x f).ts.fifos (Half.modSaf x f).can.ram (Half.modSaf x f).dsp.staging (Half.modSaf x f).role.takeover := by
  unfold Half.modSaf
  grind +splitImp []
theorem Half.safRaise_canon {hid : HalfId} {tk : Prop} (x : Half) (src : Nat) (hk : Canon hid tk x.regs x.id x.fc.fifo x.ts.fifos x.can.ram x.dsp.staging x.role.takeover) :
    Canon hid tk (Half.safRaise x src).regs (Half.safRaise x src).id (Half.safRaise x src).fc.fifo (Half.safRaise x src).ts.fifos (Half.safRaise x src).can.ram (Half.safRaise x src).dsp.staging (Half.safRaise x src).role.takeover := by
  unfold Half.safRaise
  grind +splitImp [Half.raise_canon]
theorem Half.setFlt_canon {hid : HalfId} {tk : Prop} (x : Half) (b : Bool) (i : Nat) (f : SafFilter) (hk : Canon hid tk x.regs x.id x.fc.fifo x.ts.fifos x.can.ram x.dsp.staging x.role.takeover) :
    Canon hid tk (Half.setFlt x b i f).regs (Half.setFlt x b i f).id (Half.setFlt x b i f).fc.fifo (Half.setFlt x b i f).ts.fifos (Half.setFlt x b i f).can.ram (Half.setFlt x b i f).dsp.staging (Half.setFlt x b i f).role.takeover := by
  unfold Half.setFlt
  grind +splitImp [Half.modSaf_canon]
theorem Half.pairFails_canon {hid : HalfId} {tk : Prop} (x : Half) (p diag : Nat) (hk : Canon hid tk x.regs x.id x.fc.fifo x.ts.fifos x.can.ram x.dsp.staging x.role.takeover) :
    Canon hid tk (Half.pairFails x p diag).regs (Half.pairFails x p diag).id (Half.pairFails x p diag).fc.fifo (Half.pairFails x p diag).ts.fifos (Half.pairFails x p diag).can.ram (Half.pairFails x p diag).dsp.staging (Half.pairFails x p diag).role.takeover := by
  unfold Half.pairFails
  grind +splitImp [Half.safRaise_canon, Half.modSaf_canon]
theorem Half.chanFails_canon {hid : HalfId} {tk : Prop} (x : Half) (i : Nat) (hk : Canon hid tk x.regs x.id x.fc.fifo x.ts.fifos x.can.ram x.dsp.staging x.role.takeover) :
    Canon hid tk (Half.chanFails x i).regs (Half.chanFails x i).id (Half.chanFails x i).fc.fifo (Half.chanFails x i).ts.fifos (Half.chanFails x i).can.ram (Half.chanFails x i).dsp.staging (Half.chanFails x i).role.takeover := by
  unfold Half.chanFails
  grind +splitImp [Half.safRaise_canon, Half.modSaf_canon]
theorem Half.pairClear_canon {hid : HalfId} {tk : Prop} (x : Half) (p : Nat) (hk : Canon hid tk x.regs x.id x.fc.fifo x.ts.fifos x.can.ram x.dsp.staging x.role.takeover) :
    Canon hid tk (Half.pairClear x p).regs (Half.pairClear x p).id (Half.pairClear x p).fc.fifo (Half.pairClear x p).ts.fifos (Half.pairClear x p).can.ram (Half.pairClear x p).dsp.staging (Half.pairClear x p).role.takeover := by
  unfold Half.pairClear
  grind +splitImp [Half.modSaf_canon]
theorem Half.chanClear_canon {hid : HalfId} {tk : Prop} (x : Half) (i : Nat) (hk : Canon hid tk x.regs x.id x.fc.fifo x.ts.fifos x.can.ram x.dsp.staging x.role.takeover) :
    Canon hid tk (Half.chanClear x i).regs (Half.chanClear x i).id (Half.chanClear x i).fc.fifo (Half.chanClear x i).ts.fifos (Half.chanClear x i).can.ram (Half.chanClear x i).dsp.staging (Half.chanClear x i).role.takeover := by
  unfold Half.chanClear
  grind +splitImp [Half.modSaf_canon]
theorem Half.setLatch_canon {hid : HalfId} {tk : Prop} (x : Half) (b : Bool) (j : Nat) (v : Bool) (hk : Canon hid tk x.regs x.id x.fc.fifo x.ts.fifos x.can.ram x.dsp.staging x.role.takeover) :
    Canon hid tk (Half.setLatch x b j v).regs (Half.setLatch x b j v).id (Half.setLatch x b j v).fc.fifo (Half.setLatch x b j v).ts.fifos (Half.setLatch x b j v).can.ram (Half.setLatch x b j v).dsp.staging (Half.setLatch x b j v).role.takeover := by
  unfold Half.setLatch
  grind +splitImp [Half.modSaf_canon]
theorem Half.setBack_canon {hid : HalfId} {tk : Prop} (x : Half) (b : Bool) (j : Nat) (v : Bool) (hk : Canon hid tk x.regs x.id x.fc.fifo x.ts.fifos x.can.ram x.dsp.staging x.role.takeover) :
    Canon hid tk (Half.setBack x b j v).regs (Half.setBack x b j v).id (Half.setBack x b j v).fc.fifo (Half.setBack x b j v).ts.fifos (Half.setBack x b j v).can.ram (Half.setBack x b j v).dsp.staging (Half.setBack x b j v).role.takeover := by
  unfold Half.setBack
  grind +splitImp [Half.modSaf_canon]
theorem Half.matrix_canon {hid : HalfId} {tk : Prop} (x : Half) (b : Bool) (hk : Canon hid tk x.regs x.id x.fc.fifo x.ts.fifos x.can.ram x.dsp.staging x.role.takeover) :
    Canon hid tk (Half.matrix x b).regs (Half.matrix x b).id (Half.matrix x b).fc.fifo (Half.matrix x b).ts.fifos (Half.matrix x b).can.ram (Half.matrix x b).dsp.staging (Half.matrix x b).role.takeover := by
  unfold Half.matrix
  grind +splitImp [canon_foldl, Half.setLatch_canon, Half.setBack_canon]
theorem Half.clearLatches_canon {hid : HalfId} {tk : Prop} (x : Half) (c : SafFunc) (hk : Canon hid tk x.regs x.id x.fc.fifo x.ts.fifos x.can.ram x.dsp.staging x.role.takeover) :
    Canon hid tk (Half.clearLatches x c).regs (Half.clearLatches x c).id (Half.clearLatches x c).fc.fifo (Half.clearLatches x c).ts.fifos (Half.clearLatches x c).can.ram (Half.clearLatches x c).dsp.staging (Half.clearLatches x c).role.takeover := by
  unfold Half.clearLatches
  grind +splitImp [canon_foldl, Half.setLatch_canon]
theorem Half.notePaths_canon {hid : HalfId} {tk : Prop} (x : Half) (hk : Canon hid tk x.regs x.id x.fc.fifo x.ts.fifos x.can.ram x.dsp.staging x.role.takeover) :
    Canon hid tk (Half.notePaths x).regs (Half.notePaths x).id (Half.notePaths x).fc.fifo (Half.notePaths x).ts.fifos (Half.notePaths x).can.ram (Half.notePaths x).dsp.staging (Half.notePaths x).role.takeover := by
  unfold Half.notePaths
  grind +splitImp [canon_foldl, Half.modSaf_canon]
theorem Half.setFn_canon {hid : HalfId} {tk : Prop} (x : Half) (f : Nat) (n : SafFn) (hk : Canon hid tk x.regs x.id x.fc.fifo x.ts.fifos x.can.ram x.dsp.staging x.role.takeover) :
    Canon hid tk (Half.setFn x f n).regs (Half.setFn x f n).id (Half.setFn x f n).fc.fifo (Half.setFn x f n).ts.fifos (Half.setFn x f n).can.ram (Half.setFn x f n).dsp.staging (Half.setFn x f n).role.takeover := by
  unfold Half.setFn
  grind +splitImp [Half.modSaf_canon, Half.icuPend_canon]
theorem Half.armFn_canon {hid : HalfId} {tk : Prop} (x : Half) (f : Nat) (c : SafFunc) (hk : Canon hid tk x.regs x.id x.fc.fifo x.ts.fifos x.can.ram x.dsp.staging x.role.takeover) :
    Canon hid tk (Half.armFn x f c).regs (Half.armFn x f c).id (Half.armFn x f c).fc.fifo (Half.armFn x f c).ts.fifos (Half.armFn x f c).can.ram (Half.armFn x f c).dsp.staging (Half.armFn x f c).role.takeover := by
  unfold Half.armFn
  grind +splitImp [Half.clearLatches_canon, Half.setFn_canon]
theorem Half.noteSpeeds_canon {hid : HalfId} {tk : Prop} (x : Half) (hk : Canon hid tk x.regs x.id x.fc.fifo x.ts.fifos x.can.ram x.dsp.staging x.role.takeover) :
    Canon hid tk (Half.noteSpeeds x).regs (Half.noteSpeeds x).id (Half.noteSpeeds x).fc.fifo (Half.noteSpeeds x).ts.fifos (Half.noteSpeeds x).can.ram (Half.noteSpeeds x).dsp.staging (Half.noteSpeeds x).role.takeover := by
  unfold Half.noteSpeeds
  grind +splitImp [canon_foldl, Half.modSaf_canon]
theorem Half.evalTwohand_canon {hid : HalfId} {tk : Prop} (x : Half) (f : Nat) (c : SafFunc) (hk : Canon hid tk x.regs x.id x.fc.fifo x.ts.fifos x.can.ram x.dsp.staging x.role.takeover) :
    Canon hid tk (Half.evalTwohand x f c).regs (Half.evalTwohand x f c).id (Half.evalTwohand x f c).fc.fifo (Half.evalTwohand x f c).ts.fifos (Half.evalTwohand x f c).can.ram (Half.evalTwohand x f c).dsp.staging (Half.evalTwohand x f c).role.takeover := by
  unfold Half.evalTwohand
  grind +splitImp [Half.clearLatches_canon, Half.setFn_canon]
theorem Half.evalFn_canon {hid : HalfId} {tk : Prop} (x : Half) (f : Nat) (c : SafFunc) (hk : Canon hid tk x.regs x.id x.fc.fifo x.ts.fifos x.can.ram x.dsp.staging x.role.takeover) :
    Canon hid tk (Half.evalFn x f c).regs (Half.evalFn x f c).id (Half.evalFn x f c).fc.fifo (Half.evalFn x f c).ts.fifos (Half.evalFn x f c).can.ram (Half.evalFn x f c).dsp.staging (Half.evalFn x f c).role.takeover := by
  unfold Half.evalFn
  grind +splitImp [Half.evalTwohand_canon, Half.setFn_canon]
theorem Half.writePermits_canon {hid : HalfId} {tk : Prop} (x : Half) (hk : Canon hid tk x.regs x.id x.fc.fifo x.ts.fifos x.can.ram x.dsp.staging x.role.takeover) :
    Canon hid tk (Half.writePermits x).regs (Half.writePermits x).id (Half.writePermits x).fc.fifo (Half.writePermits x).ts.fifos (Half.writePermits x).can.ram (Half.writePermits x).dsp.staging (Half.writePermits x).role.takeover := by
  unfold Half.writePermits
  grind +splitImp [canon_foldl, Half.modSaf_canon]
theorem Half.releaseXtrip_canon {hid : HalfId} {tk : Prop} (x : Half) (hk : Canon hid tk x.regs x.id x.fc.fifo x.ts.fifos x.can.ram x.dsp.staging x.role.takeover) :
    Canon hid tk (Half.releaseXtrip x).regs (Half.releaseXtrip x).id (Half.releaseXtrip x).fc.fifo (Half.releaseXtrip x).ts.fifos (Half.releaseXtrip x).can.ram (Half.releaseXtrip x).dsp.staging (Half.releaseXtrip x).role.takeover := by
  unfold Half.releaseXtrip
  grind +splitImp [canon_foldl, Half.modSaf_canon]
theorem Half.initFns_canon {hid : HalfId} {tk : Prop} (x : Half) (hk : Canon hid tk x.regs x.id x.fc.fifo x.ts.fifos x.can.ram x.dsp.staging x.role.takeover) :
    Canon hid tk (Half.initFns x).regs (Half.initFns x).id (Half.initFns x).fc.fifo (Half.initFns x).ts.fifos (Half.initFns x).can.ram (Half.initFns x).dsp.staging (Half.initFns x).role.takeover := by
  unfold Half.initFns
  grind +splitImp [Half.modSaf_canon]
theorem Half.testSeal_canon {hid : HalfId} {tk : Prop} (x : Half) (hk : Canon hid tk x.regs x.id x.fc.fifo x.ts.fifos x.can.ram x.dsp.staging x.role.takeover) :
    Canon hid tk (Half.testSeal x).regs (Half.testSeal x).id (Half.testSeal x).fc.fifo (Half.testSeal x).ts.fifos (Half.testSeal x).can.ram (Half.testSeal x).dsp.staging (Half.testSeal x).role.takeover := by
  unfold Half.testSeal
  grind +splitImp [Half.modSaf_canon, Half.initFns_canon, Half.safRaise_canon]
theorem Half.scrDiscard_canon {hid : HalfId} {tk : Prop} (x : Half) (hk : Canon hid tk x.regs x.id x.fc.fifo x.ts.fifos x.can.ram x.dsp.staging x.role.takeover) :
    Canon hid tk (Half.scrDiscard x).regs (Half.scrDiscard x).id (Half.scrDiscard x).fc.fifo (Half.scrDiscard x).ts.fifos (Half.scrDiscard x).can.ram (Half.scrDiscard x).dsp.staging (Half.scrDiscard x).role.takeover := by
  unfold Half.scrDiscard
  grind +splitImp [Half.safRaise_canon, Half.modSaf_canon]
theorem Half.takeSet_canon {hid : HalfId} {tk : Prop} (x : Half) (bs : List Byte) (check : Nat) (hk : Canon hid tk x.regs x.id x.fc.fifo x.ts.fifos x.can.ram x.dsp.staging x.role.takeover) :
    Canon hid tk (Half.takeSet x bs check).regs (Half.takeSet x bs check).id (Half.takeSet x bs check).fc.fifo (Half.takeSet x bs check).ts.fifos (Half.takeSet x bs check).can.ram (Half.takeSet x bs check).dsp.staging (Half.takeSet x bs check).role.takeover := by
  unfold Half.takeSet
  grind +splitImp [Half.modSaf_canon, Half.matrix_canon, Half.testSeal_canon, Half.take_canon, Half.initFns_canon]
theorem Half.scrApply_canon {hid : HalfId} {tk : Prop} (x : Half) (k : QKind) (hk : Canon hid tk x.regs x.id x.fc.fifo x.ts.fifos x.can.ram x.dsp.staging x.role.takeover) :
    Canon hid tk (Half.scrApply x k).regs (Half.scrApply x k).id (Half.scrApply x k).fc.fifo (Half.scrApply x k).ts.fifos (Half.scrApply x k).can.ram (Half.scrApply x k).dsp.staging (Half.scrApply x k).role.takeover := by
  unfold Half.scrApply
  grind +splitImp [Half.modSaf_canon, Half.icuPend_canon, Half.take_canon, Half.takeSet_canon]
theorem Half.scrTake_canon {hid : HalfId} {tk : Prop} (x : Half) (hk : Canon hid tk x.regs x.id x.fc.fifo x.ts.fifos x.can.ram x.dsp.staging x.role.takeover) :
    Canon hid tk (Half.scrTake x).regs (Half.scrTake x).id (Half.scrTake x).fc.fifo (Half.scrTake x).ts.fifos (Half.scrTake x).can.ram (Half.scrTake x).dsp.staging (Half.scrTake x).role.takeover := by
  unfold Half.scrTake
  grind +splitImp [Half.scrDiscard_canon, Half.modSaf_canon, Half.advance_canon, Half.testSeal_canon, Half.wr_canon, Half.icuPend_canon, Half.scrApply_canon]
theorem Half.scrTakeIf_canon {hid : HalfId} {tk : Prop} (x : Half) (p : QKind → Bool) (hk : Canon hid tk x.regs x.id x.fc.fifo x.ts.fifos x.can.ram x.dsp.staging x.role.takeover) :
    Canon hid tk (Half.scrTakeIf x p).regs (Half.scrTakeIf x p).id (Half.scrTakeIf x p).fc.fifo (Half.scrTakeIf x p).ts.fifos (Half.scrTakeIf x p).can.ram (Half.scrTakeIf x p).dsp.staging (Half.scrTakeIf x p).role.takeover := by
  unfold Half.scrTakeIf
  grind +splitImp [Half.scrFill_canon, Half.scrTake_canon]
theorem Half.scrCycle_canon {hid : HalfId} {tk : Prop} (x : Half) (hk : Canon hid tk x.regs x.id x.fc.fifo x.ts.fifos x.can.ram x.dsp.staging x.role.takeover) :
    Canon hid tk (Half.scrCycle x).regs (Half.scrCycle x).id (Half.scrCycle x).fc.fifo (Half.scrCycle x).ts.fifos (Half.scrCycle x).can.ram (Half.scrCycle x).dsp.staging (Half.scrCycle x).role.takeover := by
  unfold Half.scrCycle
  grind +splitImp [canon_foldl, Half.scrFill_canon, Half.scrTake_canon]
theorem Half.setSrs_canon {hid : HalfId} {tk : Prop} (x : Half) (k : Nat) (r : SafSrs) (hk : Canon hid tk x.regs x.id x.fc.fifo x.ts.fifos x.can.ram x.dsp.staging x.role.takeover) :
    Canon hid tk (Half.setSrs x k r).regs (Half.setSrs x k r).id (Half.setSrs x k r).fc.fifo (Half.setSrs x k r).ts.fifos (Half.setSrs x k r).can.ram (Half.setSrs x k r).dsp.staging (Half.setSrs x k r).role.takeover := by
  unfold Half.setSrs
  grind +splitImp [Half.modSaf_canon]
theorem Half.resetEvent_canon {hid : HalfId} {tk : Prop} (x : Half) (k : Nat) (hk : Canon hid tk x.regs x.id x.fc.fifo x.ts.fifos x.can.ram x.dsp.staging x.role.takeover) :
    Canon hid tk (Half.resetEvent x k).regs (Half.resetEvent x k).id (Half.resetEvent x k).fc.fifo (Half.resetEvent x k).ts.fifos (Half.resetEvent x k).can.ram (Half.resetEvent x k).dsp.staging (Half.resetEvent x k).role.takeover := by
  unfold Half.resetEvent
  grind +splitImp [canon_foldl, Half.modSaf_canon, Half.armFn_canon, Half.icuPend_canon]
theorem Half.showFunc_canon {hid : HalfId} {tk : Prop} (y x : Half) (f : Nat) (hk : Canon hid tk y.regs y.id y.fc.fifo y.ts.fifos y.can.ram y.dsp.staging y.role.takeover) :
    Canon hid tk (Half.showFunc y x f).regs (Half.showFunc y x f).id (Half.showFunc y x f).fc.fifo (Half.showFunc y x f).ts.fifos (Half.showFunc y x f).can.ram (Half.showFunc y x f).dsp.staging (Half.showFunc y x f).role.takeover := by
  unfold Half.showFunc
  split <;> exact Half.wr_canon _ _ _ hk
theorem Half.showSaf_canon {hid : HalfId} {tk : Prop} (x : Half) (hk : Canon hid tk x.regs x.id x.fc.fifo x.ts.fifos x.can.ram x.dsp.staging x.role.takeover) :
    Canon hid tk (Half.showSaf x).regs (Half.showSaf x).id (Half.showSaf x).fc.fifo (Half.showSaf x).ts.fifos (Half.showSaf x).can.ram (Half.showSaf x).dsp.staging (Half.showSaf x).role.takeover := by
  unfold Half.showSaf
  extract_lets
  repeat' (apply Half.wr_canon)
  exact hk
theorem Half.refreshSaf_canon {hid : HalfId} {tk : Prop} (x : Half) (hk : Canon hid tk x.regs x.id x.fc.fifo x.ts.fifos x.can.ram x.dsp.staging x.role.takeover) :
    Canon hid tk (Half.refreshSaf x).regs (Half.refreshSaf x).id (Half.refreshSaf x).fc.fifo (Half.refreshSaf x).ts.fifos (Half.refreshSaf x).can.ram (Half.refreshSaf x).dsp.staging (Half.refreshSaf x).role.takeover := by
  unfold Half.refreshSaf
  exact Half.modSaf_canon _ _ (canon_foldl (Half.showSaf_canon _ hk) fun w f hw => Half.showFunc_canon _ _ _ hw)
theorem Half.checkSkew_canon {hid : HalfId} {tk : Prop} (x : Half) (hk : Canon hid tk x.regs x.id x.fc.fifo x.ts.fifos x.can.ram x.dsp.staging x.role.takeover) :
    Canon hid tk (Half.checkSkew x).regs (Half.checkSkew x).id (Half.checkSkew x).fc.fifo (Half.checkSkew x).ts.fifos (Half.checkSkew x).can.ram (Half.checkSkew x).dsp.staging (Half.checkSkew x).role.takeover := by
  unfold Half.checkSkew
  grind +splitImp [canon_foldl, Half.modSaf_canon, Half.safRaise_canon]
theorem Half.startSet_canon {hid : HalfId} {tk : Prop} (x : Half) (hk : Canon hid tk x.regs x.id x.fc.fifo x.ts.fifos x.can.ram x.dsp.staging x.role.takeover) :
    Canon hid tk (Half.startSet x).regs (Half.startSet x).id (Half.startSet x).fc.fifo (Half.startSet x).ts.fifos (Half.startSet x).can.ram (Half.startSet x).dsp.staging (Half.startSet x).role.takeover := by
  unfold Half.startSet
  grind +splitImp [Half.testSeal_canon, Half.deliverSet_canon]
theorem Half.startScruple_canon {hid : HalfId} {tk : Prop} (x : Half) (word : BitVec 12) (hk : Canon hid tk x.regs x.id x.fc.fifo x.ts.fifos x.can.ram x.dsp.staging x.role.takeover) :
    Canon hid tk (Half.startScruple x word).regs (Half.startScruple x word).id (Half.startScruple x word).fc.fifo (Half.startScruple x word).ts.fifos (Half.startScruple x word).can.ram (Half.startScruple x word).dsp.staging (Half.startScruple x word).role.takeover := by
  unfold Half.startScruple
  grind +splitImp [canon_foldl, Half.startSet_canon, Half.modSaf_canon, Half.setFld_canon, Half.wr_canon, Half.clrReg_canon, Half.setBit_canon]

/-! ### Boot.lean -/

theorem Half.bootChoose_canon {hid : HalfId} {tk : Prop} (x : Half) (hk : Canon hid tk x.regs x.id x.fc.fifo x.ts.fifos x.can.ram x.dsp.staging x.role.takeover) :
    Canon hid tk (Half.bootChoose x).regs (Half.bootChoose x).id (Half.bootChoose x).fc.fifo (Half.bootChoose x).ts.fifos (Half.bootChoose x).can.ram (Half.bootChoose x).dsp.staging (Half.bootChoose x).role.takeover := by
  unfold Half.bootChoose
  grind +splitImp []
theorem Half.makeKey_canon {hid : HalfId} {tk : Prop} (x : Half) (partnerHas : Bool) (hk : Canon hid tk x.regs x.id x.fc.fifo x.ts.fifos x.can.ram x.dsp.staging x.role.takeover) :
    Canon hid tk (Half.makeKey x partnerHas).regs (Half.makeKey x partnerHas).id (Half.makeKey x partnerHas).fc.fifo (Half.makeKey x partnerHas).ts.fifos (Half.makeKey x partnerHas).can.ram (Half.makeKey x partnerHas).dsp.staging (Half.makeKey x partnerHas).role.takeover := by
  unfold Half.makeKey
  grind +splitImp [Half.free_canon]
theorem Half.initImages_canon {hid : HalfId} {tk : Prop} (x : Half) (hk : Canon hid tk x.regs x.id x.fc.fifo x.ts.fifos x.can.ram x.dsp.staging x.role.takeover) :
    Canon hid tk (Half.initImages x).regs (Half.initImages x).id (Half.initImages x).fc.fifo (Half.initImages x).ts.fifos (Half.initImages x).can.ram (Half.initImages x).dsp.staging (Half.initImages x).role.takeover := by
  unfold Half.initImages
  grind +splitImp []
theorem Half.imageEnds_canon {hid : HalfId} {tk : Prop} (x : Half) (hk : Canon hid tk x.regs x.id x.fc.fifo x.ts.fifos x.can.ram x.dsp.staging x.role.takeover) :
    Canon hid tk (Half.imageEnds x).regs (Half.imageEnds x).id (Half.imageEnds x).fc.fifo (Half.imageEnds x).ts.fifos (Half.imageEnds x).can.ram (Half.imageEnds x).dsp.staging (Half.imageEnds x).role.takeover := by
  unfold Half.imageEnds
  grind +splitImp []
theorem Half.imageFails_canon {hid : HalfId} {tk : Prop} (x : Half) (hk : Canon hid tk x.regs x.id x.fc.fifo x.ts.fifos x.can.ram x.dsp.staging x.role.takeover) :
    Canon hid tk (Half.imageFails x).regs (Half.imageFails x).id (Half.imageFails x).fc.fifo (Half.imageFails x).ts.fifos (Half.imageFails x).can.ram (Half.imageFails x).dsp.staging (Half.imageFails x).role.takeover := by
  unfold Half.imageFails
  grind +splitImp []
theorem Half.handOver_canon {hid : HalfId} {tk : Prop} (x : Half) (hk : Canon hid tk x.regs x.id x.fc.fifo x.ts.fifos x.can.ram x.dsp.staging x.role.takeover) :
    Canon hid tk (Half.handOver x).regs (Half.handOver x).id (Half.handOver x).fc.fifo (Half.handOver x).ts.fifos (Half.handOver x).can.ram (Half.handOver x).dsp.staging (Half.handOver x).role.takeover := by
  unfold Half.handOver
  extract_lets y1 y2 b2 y3 y4 y5 y6
  have H1 : Canon hid tk y1.regs y1.id y1.fc.fifo y1.ts.fifos y1.can.ram y1.dsp.staging y1.role.takeover := Half.resetDoms_canon _ _ (Half.cvStop_canon _ _ (Half.cvStop_canon _ _ hk))
  clear_value y1
  have H2 : Canon hid tk y2.regs y2.id y2.fc.fifo y2.ts.fifos y2.can.ram y2.dsp.staging y2.role.takeover := canon_foldl (l := List.range 256) (g := fun z i => z.setFld (Reg.ICU_SRC i) 4 0 0) H1 fun z i h => Half.setFld_canon _ _ _ _ _ h
  clear_value y2
  have H3 : Canon hid tk y3.regs y3.id y3.fc.fifo y3.ts.fifos y3.can.ram y3.dsp.staging y3.role.takeover := H2
  clear_value y3
  have H4 : Canon hid tk y4.regs y4.id y4.fc.fifo y4.ts.fifos y4.can.ram y4.dsp.staging y4.role.takeover := Half.loadRegs_canon _ _ H3
  clear_value y4
  have H5 : Canon hid tk y5.regs y5.id y5.fc.fifo y5.ts.fifos y5.can.ram y5.dsp.staging y5.role.takeover :=
    Half.setFld_canon _ _ _ _ _ (canon_foldl H4 fun z a h => Half.setBit_canon _ _ _ _ h)
  clear_value y5
  exact Half.negotiate_canon _ (canon_ite (Half.sendJoin_canon _ H5) H5)

end Sys2Proof.Machine
end

