-- ==== Sys2Proof/Laws/CanonCommands.lean ====
section
/-! SUPPORT. Every operation keeps a half in canonical form (Canon, Safety.lean): the mailbox commands' operations, the register writes and the tick.
One lemma per operation, in the order of the model. -/
namespace Sys2Proof.Machine
set_option linter.all false
set_option maxHeartbeats 400000

/-! ### Can.lean -/

theorem Half.canTakeFrame_canon {hid : HalfId} {tk : Prop} (x : Half) (c head : Nat) (f : CanFrame) (hk : Canon hid tk x.regs x.id x.fc.fifo x.ts.fifos x.can.ram x.dsp.staging x.role.takeover) :
    Canon hid tk (Half.canTakeFrame x c head f).regs (Half.canTakeFrame x c head f).id (Half.canTakeFrame x c head f).fc.fifo (Half.canTakeFrame x c head f).ts.fifos (Half.canTakeFrame x c head f).can.ram (Half.canTakeFrame x c head f).dsp.staging (Half.canTakeFrame x c head f).role.takeover := by
  unfold Half.canTakeFrame
  grind +splitImp [Half.canCount_canon, Half.setFull_canon, Half.canImport_canon, Half.canStore_canon, Half.canIrq_canon, Half.raise_canon, Half.setBit_canon]
theorem Half.canRecord_canon {hid : HalfId} {tk : Prop} (x : Half) (c : Nat) (f : CanFrame) (hk : Canon hid tk x.regs x.id x.fc.fifo x.ts.fifos x.can.ram x.dsp.staging x.role.takeover) :
    Canon hid tk (Half.canRecord x c f).regs (Half.canRecord x c f).id (Half.canRecord x c f).fc.fifo (Half.canRecord x c f).ts.fifos (Half.canRecord x c f).can.ram (Half.canRecord x c f).dsp.staging (Half.canRecord x c f).role.takeover := by
  unfold Half.canRecord
  grind +splitImp [canon_foldl]

/-! ### Mbx.lean -/

theorem Half.cancel_canon {hid : HalfId} {tk : Prop} (x : Half) (c : Ctx) (hk : Canon hid tk x.regs x.id x.fc.fifo x.ts.fifos x.can.ram x.dsp.staging x.role.takeover) :
    ∀ z, (Half.cancel x c) = some z → Canon hid tk z.regs z.id z.fc.fifo z.ts.fifos z.can.ram z.dsp.staging z.role.takeover := by
  intro z hz
  unfold Half.cancel at hz
  grind +splitImp [Half.cancelSwitch_canon, Half.staysActive_canon, Half.spanPut_canon, Half.requestSwap_canon, Half.tgEnd_canon, Half.dropStop_canon, Half.forwardCe_canon, Half.sendCfg_canon, Half.sendRole_canon]
theorem Half.abortCmd_canon {hid : HalfId} {tk : Prop} (x : Half) (ch tag gen target : Nat) (hk : Canon hid tk x.regs x.id x.fc.fifo x.ts.fifos x.can.ram x.dsp.staging x.role.takeover) :
    Canon hid tk (Half.abortCmd x ch tag gen target).regs (Half.abortCmd x ch tag gen target).id (Half.abortCmd x ch tag gen target).fc.fifo (Half.abortCmd x ch tag gen target).ts.fifos (Half.abortCmd x ch tag gen target).can.ram (Half.abortCmd x ch tag gen target).dsp.staging (Half.abortCmd x ch tag gen target).role.takeover := by
  unfold Half.abortCmd
  dsimp only
  split
  · exact Half.lateDone_canon _ _ _ hk
  · split
    · exact Half.abortPeer_canon _ _ _ _ hk
    · split
      · rename_i y hy
        exact Half.finish_canon _ _ _ _ _ (Half.cancel_canon _ _ (Half.modCtx_canon _ _ _ _ hk) _ hy)
      · exact Half.modCtx_canon _ _ _ _ hk
theorem Half.cancelAll_canon {hid : HalfId} {tk : Prop} (x : Half) (ch : Nat) (hk : Canon hid tk x.regs x.id x.fc.fifo x.ts.fifos x.can.ram x.dsp.staging x.role.takeover) :
    Canon hid tk (Half.cancelAll x ch).regs (Half.cancelAll x ch).id (Half.cancelAll x ch).fc.fifo (Half.cancelAll x ch).ts.fifos (Half.cancelAll x ch).can.ram (Half.cancelAll x ch).dsp.staging (Half.cancelAll x ch).role.takeover := by
  unfold Half.cancelAll
  refine canon_foldl (Half.orphan_canon _ _ hk) fun y c hy => ?_
  have hz := Half.stopPeer_canon _ c hy
  dsimp only
  generalize y.stopPeer c = z at hz ⊢
  have H := Half.cancel_canon ({ z with mbx := { z.mbx with ctxs := z.mbx.ctxs.filter fun d => !(d.ch == ch && d.tag == c.tag) } } : Half)
    c hz
  cases hc : ({ z with mbx := { z.mbx with ctxs := z.mbx.ctxs.filter fun d => !(d.ch == ch && d.tag == c.tag) } } : Half).cancel c with
  | none => exact hz
  | some y => exact H y hc
theorem Half.closeCh_canon {hid : HalfId} {tk : Prop} (x : Half) (ch code : Nat) (hk : Canon hid tk x.regs x.id x.fc.fifo x.ts.fifos x.can.ram x.dsp.staging x.role.takeover) :
    Canon hid tk (Half.closeCh x ch code).regs (Half.closeCh x ch code).id (Half.closeCh x ch code).fc.fifo (Half.closeCh x ch code).ts.fifos (Half.closeCh x ch code).can.ram (Half.closeCh x ch code).dsp.staging (Half.closeCh x ch code).role.takeover := by
  unfold Half.closeCh
  grind +splitImp [Half.endSession_canon, Half.cancelAll_canon]
theorem Half.protoError_canon {hid : HalfId} {tk : Prop} (x : Half) (ch code : Nat) (hk : Canon hid tk x.regs x.id x.fc.fifo x.ts.fifos x.can.ram x.dsp.staging x.role.takeover) :
    Canon hid tk (Half.protoError x ch code).regs (Half.protoError x ch code).id (Half.protoError x ch code).fc.fifo (Half.protoError x ch code).ts.fifos (Half.protoError x ch code).can.ram (Half.protoError x ch code).dsp.staging (Half.protoError x ch code).role.takeover := by
  unfold Half.protoError
  grind +splitImp [Half.modChan_canon, Half.incSat_canon, Half.poolStatus_canon, Half.closeCh_canon, Half.setFld_canon, Half.setBit_canon, Half.cancelAll_canon, Half.irq_canon]
theorem Half.takeHead_canon {hid : HalfId} {tk : Prop} (x : Half) (ch n tag : Nat) (hk : Canon hid tk x.regs x.id x.fc.fifo x.ts.fifos x.can.ram x.dsp.staging x.role.takeover) :
    Canon hid tk (Half.takeHead x ch n tag).regs (Half.takeHead x ch n tag).id (Half.takeHead x ch n tag).fc.fifo (Half.takeHead x ch n tag).ts.fifos (Half.takeHead x ch n tag).can.ram (Half.takeHead x ch n tag).dsp.staging (Half.takeHead x ch n tag).role.takeover := by
  unfold Half.takeHead
  grind +splitImp [Half.modChan_canon, Half.wr_canon, Half.poolStatus_canon, Half.advance_canon]
theorem Half.consumeCmd_canon {hid : HalfId} {tk : Prop} (x : Half) (ch : Nat) (es : List Entry) (hk : Canon hid tk x.regs x.id x.fc.fifo x.ts.fifos x.can.ram x.dsp.staging x.role.takeover) :
    Canon hid tk (Half.consumeCmd x ch es).regs (Half.consumeCmd x ch es).id (Half.consumeCmd x ch es).fc.fifo (Half.consumeCmd x ch es).ts.fifos (Half.consumeCmd x ch es).can.ram (Half.consumeCmd x ch es).dsp.staging (Half.consumeCmd x ch es).role.takeover := by
  unfold Half.consumeCmd
  grind +splitImp [Half.poolStatus_canon, Half.takeHead_canon, Half.setBit_canon, Half.finish_canon, Half.lateDone_canon, Half.abortCmd_canon, Half.irq_canon]
theorem Half.reply_canon {hid : HalfId} {tk : Prop} (x : Half) (c : Ctx) (st : Nat) (payload : List Byte) (hk : Canon hid tk x.regs x.id x.fc.fifo x.ts.fifos x.can.ram x.dsp.staging x.role.takeover) :
    Canon hid tk (Half.reply x c st payload).regs (Half.reply x c st payload).id (Half.reply x c st payload).fc.fifo (Half.reply x c st payload).ts.fifos (Half.reply x c st payload).can.ram (Half.reply x c st payload).dsp.staging (Half.reply x c st payload).role.takeover := by
  unfold Half.reply
  grind +splitImp [Half.finish_canon]
theorem Half.replyAcked_canon {hid : HalfId} {tk : Prop} (x : Half) (c : Ctx) (st : Nat) (payload : List Byte) (hk : Canon hid tk x.regs x.id x.fc.fifo x.ts.fifos x.can.ram x.dsp.staging x.role.takeover) :
    Canon hid tk (Half.replyAcked x c st payload).regs (Half.replyAcked x c st payload).id (Half.replyAcked x c st payload).fc.fifo (Half.replyAcked x c st payload).ts.fifos (Half.replyAcked x c st payload).can.ram (Half.replyAcked x c st payload).dsp.staging (Half.replyAcked x c st payload).role.takeover := by
  unfold Half.replyAcked
  grind +splitImp [Half.modCtx_canon, Half.reply_canon]
theorem Half.cmd_canon {hid : HalfId} {tk : Prop} (x : Half) (ch tag op : Nat) (lenOk : Ctx → Bool) (role : Ctx → Nat) (need : Ctx → Needs)
    (body : Half → Ctx → Half) (hk : Canon hid tk x.regs x.id x.fc.fifo x.ts.fifos x.can.ram x.dsp.staging x.role.takeover) (hbody : ∀ (z : Half) (a0 : Ctx), Canon hid tk z.regs z.id z.fc.fifo z.ts.fifos z.can.ram z.dsp.staging z.role.takeover → Canon hid tk (body z a0).regs (body z a0).id (body z a0).fc.fifo (body z a0).ts.fifos (body z a0).can.ram (body z a0).dsp.staging (body z a0).role.takeover) :
    Canon hid tk (Half.cmd x ch tag op lenOk role need body).regs (Half.cmd x ch tag op lenOk role need body).id (Half.cmd x ch tag op lenOk role need body).fc.fifo (Half.cmd x ch tag op lenOk role need body).ts.fifos (Half.cmd x ch tag op lenOk role need body).can.ram (Half.cmd x ch tag op lenOk role need body).dsp.staging (Half.cmd x ch tag op lenOk role need body).role.takeover := by
  unfold Half.cmd
  grind +splitImp [Half.modCtx_canon, Half.reply_canon]

/-! ### CmdCe.lean -/

theorem Half.writeSect_canon {hid : HalfId} {tk : Prop} (x : Half) (c k : Nat) (s : Sect) (hk : Canon hid tk x.regs x.id x.fc.fifo x.ts.fifos x.can.ram x.dsp.staging x.role.takeover) :
    Canon hid tk (Half.writeSect x c k s).regs (Half.writeSect x c k s).id (Half.writeSect x c k s).fc.fifo (Half.writeSect x c k s).ts.fifos (Half.writeSect x c k s).can.ram (Half.writeSect x c k s).dsp.staging (Half.writeSect x c k s).role.takeover := by
  unfold Half.writeSect
  grind +splitImp [Half.sealChain_canon, Half.setSect_canon]
theorem Half.chainWrite_canon {hid : HalfId} {tk : Prop} (x : Half) (c : Ctx) (hk : Canon hid tk x.regs x.id x.fc.fifo x.ts.fifos x.can.ram x.dsp.staging x.role.takeover) :
    Canon hid tk (Half.chainWrite x c).regs (Half.chainWrite x c).id (Half.chainWrite x c).fc.fifo (Half.chainWrite x c).ts.fifos (Half.chainWrite x c).can.ram (Half.chainWrite x c).dsp.staging (Half.chainWrite x c).role.takeover := by
  unfold Half.chainWrite
  grind +splitImp [Half.modChain_canon, Half.writeSect_canon, Half.replyAcked_canon, Half.sendCfg_canon, Half.writeDesc_canon, Half.reply_canon]
theorem Half.tgSet_canon {hid : HalfId} {tk : Prop} (y : Half) (c : Ctx) (g : Nat) (hk : Canon hid tk y.regs y.id y.fc.fifo y.ts.fifos y.can.ram y.dsp.staging y.role.takeover) :
    Canon hid tk (Half.tgSet y c g).regs (Half.tgSet y c g).id (Half.tgSet y c g).fc.fifo (Half.tgSet y c g).ts.fifos (Half.tgSet y c g).can.ram (Half.tgSet y c g).dsp.staging (Half.tgSet y c g).role.takeover := by
  unfold Half.tgSet
  extract_lets w z1 z2 z3
  have H1 : Canon hid tk z1.regs z1.id z1.fc.fifo z1.ts.fifos z1.can.ram z1.dsp.staging z1.role.takeover := Half.wr_canon _ _ _ hk
  have H2 : Canon hid tk z2.regs z2.id z2.fc.fifo z2.ts.fifos z2.can.ram z2.dsp.staging z2.role.takeover := Half.wr_canon _ _ _ (Half.wr_canon _ _ _ (Half.wr_canon _ _ _ (Half.wr_canon _ _ _ H1)))
  have H3 : Canon hid tk z3.regs z3.id z3.fc.fifo z3.ts.fifos z3.can.ram z3.dsp.staging z3.role.takeover := Half.wr_canon _ _ _ (Half.wr_canon _ _ _ (Half.wr_canon _ _ _ H2))
  exact Half.wr_canon _ _ _ H3
theorem Half.tcSet_canon {hid : HalfId} {tk : Prop} (y : Half) (c : Ctx) (t : Nat) (hk : Canon hid tk y.regs y.id y.fc.fifo y.ts.fifos y.can.ram y.dsp.staging y.role.takeover) :
    Canon hid tk (Half.tcSet y c t).regs (Half.tcSet y c t).id (Half.tcSet y c t).fc.fifo (Half.tcSet y c t).ts.fifos (Half.tcSet y c t).can.ram (Half.tcSet y c t).dsp.staging (Half.tcSet y c t).role.takeover := by
  unfold Half.tcSet
  grind +splitImp [Half.wr_canon]

/-! ### CmdCfg.lean -/

theorem Half.setCfgEnd_canon {hid : HalfId} {tk : Prop} (x : Half) (ch : Nat) (first : Bool) (e : Nat) (hk : Canon hid tk x.regs x.id x.fc.fifo x.ts.fifos x.can.ram x.dsp.staging x.role.takeover) :
    Canon hid tk (Half.setCfgEnd x ch first e).regs (Half.setCfgEnd x ch first e).id (Half.setCfgEnd x ch first e).fc.fifo (Half.setCfgEnd x ch first e).ts.fifos (Half.setCfgEnd x ch first e).can.ram (Half.setCfgEnd x ch first e).dsp.staging (Half.setCfgEnd x ch first e).role.takeover := by
  unfold Half.setCfgEnd
  grind +splitImp [Half.modChan_canon]
theorem Half.stageHere_canon {hid : HalfId} {tk : Prop} (x : Half) (c : Ctx) (hk : Canon hid tk x.regs x.id x.fc.fifo x.ts.fifos x.can.ram x.dsp.staging x.role.takeover) :
    Canon hid tk (Half.stageHere x c).regs (Half.stageHere x c).id (Half.stageHere x c).fc.fifo (Half.stageHere x c).ts.fifos (Half.stageHere x c).can.ram (Half.stageHere x c).dsp.staging (Half.stageHere x c).role.takeover := by
  unfold Half.stageHere
  grind +splitImp [Half.replyAcked_canon, Half.sendCfg_canon, Half.stageWrite_canon, Half.setCfgEnd_canon, Half.reply_canon]
theorem Half.keepImage_canon {hid : HalfId} {tk : Prop} (x : Half) (station : Nat) (c : Ctx) (hk : Canon hid tk x.regs x.id x.fc.fifo x.ts.fifos x.can.ram x.dsp.staging x.role.takeover) :
    Canon hid tk (Half.keepImage x station c).regs (Half.keepImage x station c).id (Half.keepImage x station c).fc.fifo (Half.keepImage x station c).ts.fifos (Half.keepImage x station c).can.ram (Half.keepImage x station c).dsp.staging (Half.keepImage x station c).role.takeover := by
  unfold Half.keepImage
  grind +splitImp [Half.take_canon]
theorem Half.startSwitch_canon {hid : HalfId} {tk : Prop} (x : Half) (rollback : Bool) (r : Nat × Nat) (slot : Nat) (mask : BitVec 16) (hk : Canon hid tk x.regs x.id x.fc.fifo x.ts.fifos x.can.ram x.dsp.staging x.role.takeover) :
    Canon hid tk (Half.startSwitch x rollback r slot mask).regs (Half.startSwitch x rollback r slot mask).id (Half.startSwitch x rollback r slot mask).fc.fifo (Half.startSwitch x rollback r slot mask).ts.fifos (Half.startSwitch x rollback r slot mask).can.ram (Half.startSwitch x rollback r slot mask).dsp.staging (Half.startSwitch x rollback r slot mask).role.takeover := by
  unfold Half.startSwitch
  grind +splitImp [Half.cmd_canon, Half.deliverSet_canon, Half.beginSwitch_canon, Half.endCommit_canon]

/-! ### CmdMisc.lean -/

theorem Half.stagePixels_canon {hid : HalfId} {tk : Prop} (x : Half) (c : Ctx) (hk : Canon hid tk x.regs x.id x.fc.fifo x.ts.fifos x.can.ram x.dsp.staging x.role.takeover) :
    Canon hid tk (Half.stagePixels x c).regs (Half.stagePixels x c).id (Half.stagePixels x c).fc.fifo (Half.stagePixels x c).ts.fifos (Half.stagePixels x c).can.ram (Half.stagePixels x c).dsp.staging (Half.stagePixels x c).role.takeover := by
  unfold Half.stagePixels
  extract_lets m o d
  clear_value o d
  exact ⟨hk.1, hk.2.1, hk.2.2.1, hk.2.2.2.1, hk.2.2.2.2.1, Memory.wf_write hk.2.2.2.2.2.1 _ _, hk.2.2.2.2.2.2⟩
theorem Half.beginRegion_canon {hid : HalfId} {tk : Prop} (x : Half) (c : Ctx) (e : JournalEntry) (levels : List Nat) (hk : Canon hid tk x.regs x.id x.fc.fifo x.ts.fifos x.can.ram x.dsp.staging x.role.takeover) :
    Canon hid tk (Half.beginRegion x c e levels).regs (Half.beginRegion x c e levels).id (Half.beginRegion x c e levels).fc.fifo (Half.beginRegion x c e levels).ts.fifos (Half.beginRegion x c e levels).can.ram (Half.beginRegion x c e levels).dsp.staging (Half.beginRegion x c e levels).role.takeover := by
  unfold Half.beginRegion
  grind +splitImp [Half.regionCommit_canon, Half.modCtx_canon, Half.reply_canon]

/-! ### Tasks.lean -/

theorem Half.overrun_canon {hid : HalfId} {tk : Prop} (x : Half) (t : Nat) (hk : Canon hid tk x.regs x.id x.fc.fifo x.ts.fifos x.can.ram x.dsp.staging x.role.takeover) :
    Canon hid tk (Half.overrun x t).regs (Half.overrun x t).id (Half.overrun x t).fc.fifo (Half.overrun x t).ts.fifos (Half.overrun x t).can.ram (Half.overrun x t).dsp.staging (Half.overrun x t).role.takeover := by
  unfold Half.overrun
  grind +splitImp [Half.raiseIf_canon, Half.modTsk_canon]
theorem Half.skipRelease_canon {hid : HalfId} {tk : Prop} (x : Half) (t : Nat) (hk : Canon hid tk x.regs x.id x.fc.fifo x.ts.fifos x.can.ram x.dsp.staging x.role.takeover) :
    Canon hid tk (Half.skipRelease x t).regs (Half.skipRelease x t).id (Half.skipRelease x t).fc.fifo (Half.skipRelease x t).ts.fifos (Half.skipRelease x t).can.ram (Half.skipRelease x t).dsp.staging (Half.skipRelease x t).role.takeover := by
  unfold Half.skipRelease
  grind +splitImp [Half.modTsk_canon, Half.overrun_canon]
theorem Half.startTask_canon {hid : HalfId} {tk : Prop} (x : Half) (t : Nat) (hk : Canon hid tk x.regs x.id x.fc.fifo x.ts.fifos x.can.ram x.dsp.staging x.role.takeover) :
    Canon hid tk (Half.startTask x t).regs (Half.startTask x t).id (Half.startTask x t).fc.fifo (Half.startTask x t).ts.fifos (Half.startTask x t).can.ram (Half.startTask x t).dsp.staging (Half.startTask x t).role.takeover := by
  unfold Half.startTask
  grind +splitImp [canon_foldl, Half.modTsk_canon, Half.finishCmd_canon]
theorem Half.resume_canon {hid : HalfId} {tk : Prop} (x : Half) (hk : Canon hid tk x.regs x.id x.fc.fifo x.ts.fifos x.can.ram x.dsp.staging x.role.takeover) :
    Canon hid tk (Half.resume x).regs (Half.resume x).id (Half.resume x).fc.fifo (Half.resume x).ts.fifos (Half.resume x).can.ram (Half.resume x).dsp.staging (Half.resume x).role.takeover := by
  unfold Half.resume
  grind +splitImp [Half.modTsk_canon]
theorem Half.startCycle_canon {hid : HalfId} {tk : Prop} (x : Half) (t : Nat) (hk : Canon hid tk x.regs x.id x.fc.fifo x.ts.fifos x.can.ram x.dsp.staging x.role.takeover) :
    Canon hid tk (Half.startCycle x t).regs (Half.startCycle x t).id (Half.startCycle x t).fc.fifo (Half.startCycle x t).ts.fifos (Half.startCycle x t).can.ram (Half.startCycle x t).dsp.staging (Half.startCycle x t).role.takeover := by
  unfold Half.startCycle
  grind +splitImp [Half.modTsk_canon, Half.switchTask_canon, Half.fillImage_canon, Half.markSwitched_canon, Half.spanRel_canon]
theorem Half.stopObjects_canon {hid : HalfId} {tk : Prop} (x : Half) (t : Nat) (hk : Canon hid tk x.regs x.id x.fc.fifo x.ts.fifos x.can.ram x.dsp.staging x.role.takeover) :
    Canon hid tk (Half.stopObjects x t).regs (Half.stopObjects x t).id (Half.stopObjects x t).fc.fifo (Half.stopObjects x t).ts.fifos (Half.stopObjects x t).can.ram (Half.stopObjects x t).dsp.staging (Half.stopObjects x t).role.takeover := by
  unfold Half.stopObjects
  grind +splitImp [canon_foldl, Half.writePoint_canon]
theorem Half.storeCycle_canon {hid : HalfId} {tk : Prop} (x : Half) (t : Nat) (c : TaskCfg) (hk : Canon hid tk x.regs x.id x.fc.fifo x.ts.fifos x.can.ram x.dsp.staging x.role.takeover) :
    Canon hid tk (Half.storeCycle x t c).regs (Half.storeCycle x t c).id (Half.storeCycle x t c).fc.fifo (Half.storeCycle x t c).ts.fifos (Half.storeCycle x t c).can.ram (Half.storeCycle x t c).dsp.staging (Half.storeCycle x t c).role.takeover := by
  unfold Half.storeCycle
  grind +splitImp [Half.modTsk_canon, Half.applyObjs_canon, Half.storeRetain_canon, Half.sendCycle_canon, Half.evrValue_canon, Half.compareAll_canon]
theorem Half.endCycle_canon {hid : HalfId} {tk : Prop} (x : Half) (t : Nat) (c : TaskCfg) (hk : Canon hid tk x.regs x.id x.fc.fifo x.ts.fifos x.can.ram x.dsp.staging x.role.takeover) :
    Canon hid tk (Half.endCycle x t c).regs (Half.endCycle x t c).id (Half.endCycle x t c).fc.fifo (Half.endCycle x t c).ts.fifos (Half.endCycle x t c).can.ram (Half.endCycle x t c).dsp.staging (Half.endCycle x t c).role.takeover := by
  unfold Half.endCycle
  have H := Half.storeCycle_canon x t c hk
  generalize x.storeCycle t c = y at H ⊢
  refine Half.resume_canon _ (Half.flush_canon _ _ (Half.endCommit_canon _ (canon_ite ?_ (canon_ite (Half.activateTask_canon _ _ H) H))))
  exact canon_foldl (Half.modTsk_canon _ _ _ H) fun z c h => Half.finishCmd_canon _ _ _ _ h
theorem Half.recordPoints_canon {hid : HalfId} {tk : Prop} (x : Half) (t : Nat) (before : Half) (published : List Nat) (hk : Canon hid tk x.regs x.id x.fc.fifo x.ts.fifos x.can.ram x.dsp.staging x.role.takeover) :
    Canon hid tk (Half.recordPoints x t before published).regs (Half.recordPoints x t before published).id (Half.recordPoints x t before published).fc.fifo (Half.recordPoints x t before published).ts.fifos (Half.recordPoints x t before published).can.ram (Half.recordPoints x t before published).dsp.staging (Half.recordPoints x t before published).role.takeover := by
  unfold Half.recordPoints
  grind +splitImp [canon_foldl, Half.evrValue_canon, Half.evrTally_canon]
theorem Half.applySet_canon {hid : HalfId} {tk : Prop} (x : Half) (task : Nat) (c : TaskCfg) (hk : Canon hid tk x.regs x.id x.fc.fifo x.ts.fifos x.can.ram x.dsp.staging x.role.takeover) :
    Canon hid tk (Half.applySet x task c).regs (Half.applySet x task c).id (Half.applySet x task c).fc.fifo (Half.applySet x task c).ts.fifos (Half.applySet x task c).can.ram (Half.applySet x task c).dsp.staging (Half.applySet x task c).role.takeover := by
  unfold Half.applySet
  grind +splitImp [canon_foldl, Half.applyEffect_canon, Half.stopObjects_canon, Half.applyTerms_canon, Half.sentUpdate_canon, Half.applyObjs_canon, Half.canStatus_canon, Half.canSleepEdges_canon, Half.canUpdate_canon]
theorem Half.publishSet_canon {hid : HalfId} {tk : Prop} (y : Half) (task : Nat) (cycle : Word) (tEnd : DWord) (before : Half) (hk : Canon hid tk y.regs y.id y.fc.fifo y.ts.fifos y.can.ram y.dsp.staging y.role.takeover) :
    Canon hid tk (Half.publishSet y task cycle tEnd before).regs (Half.publishSet y task cycle tEnd before).id (Half.publishSet y task cycle tEnd before).fc.fifo (Half.publishSet y task cycle tEnd before).ts.fifos (Half.publishSet y task cycle tEnd before).can.ram (Half.publishSet y task cycle tEnd before).dsp.staging (Half.publishSet y task cycle tEnd before).role.takeover := by
  unfold Half.publishSet
  grind +splitImp [Half.recordPoints_canon, Half.sendExchange_canon, Half.sendRefresh_canon, Half.refresh_canon, Half.compareAll_canon]
theorem Half.updateOutputs_canon {hid : HalfId} {tk : Prop} (x : Half) (task : Nat) (c : TaskCfg) (hk : Canon hid tk x.regs x.id x.fc.fifo x.ts.fifos x.can.ram x.dsp.staging x.role.takeover) :
    Canon hid tk (Half.updateOutputs x task c).regs (Half.updateOutputs x task c).id (Half.updateOutputs x task c).fc.fifo (Half.updateOutputs x task c).ts.fifos (Half.updateOutputs x task c).can.ram (Half.updateOutputs x task c).dsp.staging (Half.updateOutputs x task c).role.takeover := by
  unfold Half.updateOutputs
  grind +splitImp [Half.publishSet_canon, Half.applySet_canon, Half.modTsk_canon]

/-! ### CmdObj.lean -/

theorem Half.writeObj_canon {hid : HalfId} {tk : Prop} (x : Half) (oid : Nat) (v : DWord) (hk : Canon hid tk x.regs x.id x.fc.fifo x.ts.fifos x.can.ram x.dsp.staging x.role.takeover) :
    Canon hid tk (Half.writeObj x oid v).2.2.regs (Half.writeObj x oid v).2.2.id (Half.writeObj x oid v).2.2.fc.fifo (Half.writeObj x oid v).2.2.ts.fifos (Half.writeObj x oid v).2.2.can.ram (Half.writeObj x oid v).2.2.dsp.staging (Half.writeObj x oid v).2.2.role.takeover := by
  unfold Half.writeObj
  grind +splitImp [Half.hostWrite_canon, Half.canRestart_canon]
theorem Half.setForce_canon {hid : HalfId} {tk : Prop} (x : Half) (p : Nat) (v : Option Val) (hk : Canon hid tk x.regs x.id x.fc.fifo x.ts.fifos x.can.ram x.dsp.staging x.role.takeover) :
    Canon hid tk (Half.setForce x p v).regs (Half.setForce x p v).id (Half.setForce x p v).fc.fifo (Half.setForce x p v).ts.fifos (Half.setForce x p v).can.ram (Half.setForce x p v).dsp.staging (Half.setForce x p v).role.takeover := by
  unfold Half.setForce
  grind +splitImp [Half.publishHost_canon, Half.sendCfg_canon, Half.driveForced_canon, Half.putPoint_canon, Half.mirrorPoint_canon, Half.evrEvent_canon]
theorem Half.stopIdle_canon {hid : HalfId} {tk : Prop} (x : Half) (t : Nat) (hk : Canon hid tk x.regs x.id x.fc.fifo x.ts.fifos x.can.ram x.dsp.staging x.role.takeover) :
    Canon hid tk (Half.stopIdle x t).regs (Half.stopIdle x t).id (Half.stopIdle x t).fc.fifo (Half.stopIdle x t).ts.fifos (Half.stopIdle x t).can.ram (Half.stopIdle x t).dsp.staging (Half.stopIdle x t).role.takeover := by
  unfold Half.stopIdle
  grind +splitImp [canon_foldl, Half.stopObjects_canon, Half.sendRefresh_canon, Half.finishCmd_canon, Half.compareAll_canon, Half.modTsk_canon]

/-! ### CmdRole.lean -/

theorem Half.forward_canon {hid : HalfId} {tk : Prop} (x : Half) (c : Ctx) (hk : Canon hid tk x.regs x.id x.fc.fifo x.ts.fifos x.can.ram x.dsp.staging x.role.takeover) :
    Canon hid tk (Half.forward x c).regs (Half.forward x c).id (Half.forward x c).fc.fifo (Half.forward x c).ts.fifos (Half.forward x c).can.ram (Half.forward x c).dsp.staging (Half.forward x c).role.takeover := by
  unfold Half.forward
  grind +splitImp [Half.modCtx_canon, Half.peerSubmit_canon]
theorem Half.stageFw_canon {hid : HalfId} {tk : Prop} (x : Half) (c : Ctx) (sigOk : Bool) (hk : Canon hid tk x.regs x.id x.fc.fifo x.ts.fifos x.can.ram x.dsp.staging x.role.takeover) :
    Canon hid tk (Half.stageFw x c sigOk).regs (Half.stageFw x c sigOk).id (Half.stageFw x c sigOk).fc.fifo (Half.stageFw x c sigOk).ts.fifos (Half.stageFw x c sigOk).can.ram (Half.stageFw x c sigOk).dsp.staging (Half.stageFw x c sigOk).role.takeover := by
  unfold Half.stageFw
  grind +splitImp [Half.modChan_canon, Half.setFwSlot_canon, Half.reply_canon]
theorem Half.restartInto_canon {hid : HalfId} {tk : Prop} (x : Half) (k : Nat) (hk : Canon hid tk x.regs x.id x.fc.fifo x.ts.fifos x.can.ram x.dsp.staging x.role.takeover) :
    Canon hid tk (Half.restartInto x k).regs (Half.restartInto x k).id (Half.restartInto x k).fc.fifo (Half.restartInto x k).ts.fifos (Half.restartInto x k).can.ram (Half.restartInto x k).dsp.staging (Half.restartInto x k).role.takeover := by
  unfold Half.restartInto
  grind +splitImp [Half.halfReset_canon, Half.reboot_canon, Half.evrEvent_canon]
theorem Half.stopAndRestart_canon {hid : HalfId} {tk : Prop} (x : Half) (k : Nat) (hk : Canon hid tk x.regs x.id x.fc.fifo x.ts.fifos x.can.ram x.dsp.staging x.role.takeover) :
    Canon hid tk (Half.stopAndRestart x k).regs (Half.stopAndRestart x k).id (Half.stopAndRestart x k).fc.fifo (Half.stopAndRestart x k).ts.fifos (Half.stopAndRestart x k).can.ram (Half.stopAndRestart x k).dsp.staging (Half.stopAndRestart x k).role.takeover := by
  unfold Half.stopAndRestart
  grind +splitImp [Half.restartInto_canon, Half.dropSessions_canon, Half.relinquish_canon, Half.loseClaim_canon]
theorem Half.awaitRestart_canon {hid : HalfId} {tk : Prop} (p : Half) (t : Nat) (v : Word) (hk : Canon hid tk p.regs p.id p.fc.fifo p.ts.fifos p.can.ram p.dsp.staging p.role.takeover) :
    Canon hid tk (Half.awaitRestart p t v).regs (Half.awaitRestart p t v).id (Half.awaitRestart p t v).fc.fifo (Half.awaitRestart p t v).ts.fifos (Half.awaitRestart p t v).can.ram (Half.awaitRestart p t v).dsp.staging (Half.awaitRestart p t v).role.takeover := by
  unfold Half.awaitRestart
  grind +splitImp [Half.modCtx_canon]
theorem Half.askHandover_canon {hid : HalfId} {tk : Prop} (x : Half) (c : Ctx) (cause : Cause) (at_ : DWord) (hk : Canon hid tk x.regs x.id x.fc.fifo x.ts.fifos x.can.ram x.dsp.staging x.role.takeover) :
    Canon hid tk (Half.askHandover x c cause at_).regs (Half.askHandover x c cause at_).id (Half.askHandover x c cause at_).fc.fifo (Half.askHandover x c cause at_).ts.fifos (Half.askHandover x c cause at_).can.ram (Half.askHandover x c cause at_).dsp.staging (Half.askHandover x c cause at_).role.takeover := by
  unfold Half.askHandover
  grind +splitImp [Half.reply_canon, Half.offers_canon]
theorem Half.clearLatch_canon {hid : HalfId} {tk : Prop} (x : Half) (hk : Canon hid tk x.regs x.id x.fc.fifo x.ts.fifos x.can.ram x.dsp.staging x.role.takeover) :
    Canon hid tk (Half.clearLatch x).regs (Half.clearLatch x).id (Half.clearLatch x).fc.fifo (Half.clearLatch x).ts.fifos (Half.clearLatch x).can.ram (Half.clearLatch x).dsp.staging (Half.clearLatch x).role.takeover := by
  unfold Half.clearLatch
  grind +splitImp [canon_foldl, Half.fcStatus_canon, Half.setFld_canon]
theorem Half.leaveLatched_canon {hid : HalfId} {tk : Prop} (x : Half) (hk : Canon hid tk x.regs x.id x.fc.fifo x.ts.fifos x.can.ram x.dsp.staging x.role.takeover) :
    Canon hid tk (Half.leaveLatched x).regs (Half.leaveLatched x).id (Half.leaveLatched x).fc.fifo (Half.leaveLatched x).ts.fifos (Half.leaveLatched x).can.ram (Half.leaveLatched x).dsp.staging (Half.leaveLatched x).role.takeover := by
  unfold Half.leaveLatched
  grind +splitImp [Half.halfReset_canon, Half.releaseResets_canon, Half.setBit_canon, Half.fcStatus_canon, Half.enterNative_canon]

/-! ### Cv.lean -/

theorem Half.telemetry_canon {hid : HalfId} {tk : Prop} (x : Half) (v : Nat × F64) (hk : Canon hid tk x.regs x.id x.fc.fifo x.ts.fifos x.can.ram x.dsp.staging x.role.takeover) :
    Canon hid tk (Half.telemetry x v).regs (Half.telemetry x v).id (Half.telemetry x v).fc.fifo (Half.telemetry x v).ts.fifos (Half.telemetry x v).can.ram (Half.telemetry x v).dsp.staging (Half.telemetry x v).role.takeover := by
  unfold Half.telemetry
  grind +splitImp [Half.evrValue_canon]
theorem Half.proofInject_canon {hid : HalfId} {tk : Prop} (x : Half) (hk : Canon hid tk x.regs x.id x.fc.fifo x.ts.fifos x.can.ram x.dsp.staging x.role.takeover) :
    Canon hid tk (Half.proofInject x).regs (Half.proofInject x).id (Half.proofInject x).fc.fifo (Half.proofInject x).ts.fifos (Half.proofInject x).can.ram (Half.proofInject x).dsp.staging (Half.proofInject x).role.takeover := by
  unfold Half.proofInject
  grind +splitImp [canon_foldl, Half.inject_canon, Half.setFld_canon]
theorem Half.nextProof_canon {hid : HalfId} {tk : Prop} (x : Half) (bad : List Nat) (hk : Canon hid tk x.regs x.id x.fc.fifo x.ts.fifos x.can.ram x.dsp.staging x.role.takeover) :
    Canon hid tk (Half.nextProof x bad).regs (Half.nextProof x bad).id (Half.nextProof x bad).fc.fifo (Half.nextProof x bad).ts.fifos (Half.nextProof x bad).can.ram (Half.nextProof x bad).dsp.staging (Half.nextProof x bad).role.takeover := by
  unfold Half.nextProof
  grind +splitImp [canon_foldl, Half.proofInject_canon, Half.raise_canon]

/-! ### Dsp.lean -/

theorem Half.dspFrame_canon {hid : HalfId} {tk : Prop} (x : Half) (hk : Canon hid tk x.regs x.id x.fc.fifo x.ts.fifos x.can.ram x.dsp.staging x.role.takeover) :
    Canon hid tk (Half.dspFrame x).regs (Half.dspFrame x).id (Half.dspFrame x).fc.fifo (Half.dspFrame x).ts.fifos (Half.dspFrame x).can.ram (Half.dspFrame x).dsp.staging (Half.dspFrame x).role.takeover := by
  unfold Half.dspFrame
  have H0 : Canon hid tk x.regs x.id x.fc.fifo x.ts.fifos x.can.ram x.dsp.pass.staging x.role.takeover := by rw [DspBlk.pass_staging]; exact hk
  extract_lets y y1 y2 y3 y4 y5 ended
  have H : Canon hid tk y.regs y.id y.fc.fifo y.ts.fifos y.can.ram y.dsp.staging y.role.takeover := H0
  clear_value y
  have H1 : Canon hid tk y1.regs y1.id y1.fc.fifo y1.ts.fifos y1.can.ram y1.dsp.staging y1.role.takeover := Half.clearPanel_canon _ H
  have H2 : Canon hid tk y2.regs y2.id y2.fc.fifo y2.ts.fifos y2.can.ram y2.dsp.staging y2.role.takeover := canon_foldl H1 fun _ _ => Half.regionStart_canon _ _
  have H3 : Canon hid tk y3.regs y3.id y3.fc.fifo y3.ts.fifos y3.can.ram y3.dsp.staging y3.role.takeover := Half.recoverStep_canon _ H2
  have H4 : Canon hid tk y4.regs y4.id y4.fc.fifo y4.ts.fifos y4.can.ram y4.dsp.staging y4.role.takeover := canon_foldl H3 fun _ _ => Half.goOn_canon _ _ _
  have H5 : Canon hid tk y5.regs y5.id y5.fc.fifo y5.ts.fifos y5.can.ram y5.dsp.staging y5.role.takeover := Half.stressFrame_canon _ H4
  exact Half.dspShow_canon _ (canon_foldl H5 fun _ _ => Half.regionDone_canon _ _)
theorem Half.coverNew_canon {hid : HalfId} {tk : Prop} (x : Half) (cover : CoverId) (hk : Canon hid tk x.regs x.id x.fc.fifo x.ts.fifos x.can.ram x.dsp.staging x.role.takeover) :
    Canon hid tk (Half.coverNew x cover).regs (Half.coverNew x cover).id (Half.coverNew x cover).fc.fifo (Half.coverNew x cover).ts.fifos (Half.coverNew x cover).can.ram (Half.coverNew x cover).dsp.staging (Half.coverNew x cover).role.takeover := by
  unfold Half.coverNew
  extract_lets new y1 y2 y3 y4 y5 d5 y6 d6 y7
  have H1 : Canon hid tk y1.regs y1.id y1.fc.fifo y1.ts.fifos y1.can.ram y1.dsp.staging y1.role.takeover := Half.setBit_canon _ _ _ _ (Half.setBit_canon _ _ _ _ hk)
  have H2 : Canon hid tk y2.regs y2.id y2.fc.fifo y2.ts.fifos y2.can.ram y2.dsp.staging y2.role.takeover := Half.wr_canon _ _ _ (Half.wr_canon _ _ _ (Half.wr_canon _ _ _ H1))
  have H3 : Canon hid tk y3.regs y3.id y3.fc.fifo y3.ts.fifos y3.can.ram y3.dsp.staging y3.role.takeover := Half.wr_canon _ _ _ (Half.wr_canon _ _ _ H2)
  have H4 : Canon hid tk y4.regs y4.id y4.fc.fifo y4.ts.fifos y4.can.ram y4.dsp.staging y4.role.takeover := Half.dspIrq_canon _ _ (Half.wr_canon _ _ _ H3)
  have H5 : Canon hid tk y5.regs y5.id y5.fc.fifo y5.ts.fifos y5.can.ram y5.dsp.staging y5.role.takeover := canon_ite H4 (Half.dspIrq_canon _ _ H4)
  have H6 : Canon hid tk y6.regs y6.id y6.fc.fifo y6.ts.fifos y6.can.ram y6.dsp.staging y6.role.takeover := H5
  have H7 : Canon hid tk y7.regs y7.id y7.fc.fifo y7.ts.fifos y7.can.ram y7.dsp.staging y7.role.takeover := by
    subst y7
    split
    · exact Half.setBit_canon _ _ _ _ (Half.wr_canon _ _ _ H6)
    · exact H6
  exact canon_ite (Half.dispTake_canon _ H7) (Half.dspShow_canon _ H7)

/-! ### Net.lean -/

theorem Half.lanTake_canon {hid : HalfId} {tk : Prop} (x : Half) (port : Nat) (k : LanKind) (hk : Canon hid tk x.regs x.id x.fc.fifo x.ts.fifos x.can.ram x.dsp.staging x.role.takeover) :
    Canon hid tk (Half.lanTake x port k).regs (Half.lanTake x port k).id (Half.lanTake x port k).fc.fifo (Half.lanTake x port k).ts.fifos (Half.lanTake x port k).can.ram (Half.lanTake x port k).dsp.staging (Half.lanTake x port k).role.takeover := by
  unfold Half.lanTake
  grind +splitImp [Half.enqueue_canon, Half.incSat_canon, Half.netIrq_canon, Half.echo_canon]
theorem Half.lanGood_canon {hid : HalfId} {tk : Prop} (x : Half) (port : Nat) (f : LanFrame) (hk : Canon hid tk x.regs x.id x.fc.fifo x.ts.fifos x.can.ram x.dsp.staging x.role.takeover) :
    Canon hid tk (Half.lanGood x port f).regs (Half.lanGood x port f).id (Half.lanGood x port f).fc.fifo (Half.lanGood x port f).ts.fifos (Half.lanGood x port f).can.ram (Half.lanGood x port f).dsp.staging (Half.lanGood x port f).role.takeover := by
  unfold Half.lanGood
  grind +splitImp [Half.incSat_canon, Half.prpHear_canon, Half.lanTake_canon]

/-! ### Recorder.lean -/

theorem Half.recovMinute_canon {hid : HalfId} {tk : Prop} (x : Half) (hk : Canon hid tk x.regs x.id x.fc.fifo x.ts.fifos x.can.ram x.dsp.staging x.role.takeover) :
    Canon hid tk (Half.recovMinute x).regs (Half.recovMinute x).id (Half.recovMinute x).fc.fifo (Half.recovMinute x).ts.fifos (Half.recovMinute x).can.ram (Half.recovMinute x).dsp.staging (Half.recovMinute x).role.takeover := by
  unfold Half.recovMinute
  grind +splitImp [canon_foldl, Half.setFld_canon]

/-! ### Time.lean -/

theorem Half.modPort_canon {hid : HalfId} {tk : Prop} (x : Half) (p : Nat) (f : PtpPort → PtpPort) (hk : Canon hid tk x.regs x.id x.fc.fifo x.ts.fifos x.can.ram x.dsp.staging x.role.takeover) :
    Canon hid tk (Half.modPort x p f).regs (Half.modPort x p f).id (Half.modPort x p f).fc.fifo (Half.modPort x p f).ts.fifos (Half.modPort x p f).can.ram (Half.modPort x p f).dsp.staging (Half.modPort x p f).role.takeover := by
  unfold Half.modPort
  grind +splitImp []
theorem Half.abWatch_canon {hid : HalfId} {tk : Prop} (x : Half) (hk : Canon hid tk x.regs x.id x.fc.fifo x.ts.fifos x.can.ram x.dsp.staging x.role.takeover) :
    Canon hid tk (Half.abWatch x).regs (Half.abWatch x).id (Half.abWatch x).fc.fifo (Half.abWatch x).ts.fifos (Half.abWatch x).can.ram (Half.abWatch x).dsp.staging (Half.abWatch x).role.takeover := by
  unfold Half.abWatch
  grind +splitImp []
theorem Half.portOffset_canon {hid : HalfId} {tk : Prop} (x : Half) (p : Nat) (hk : Canon hid tk x.regs x.id x.fc.fifo x.ts.fifos x.can.ram x.dsp.staging x.role.takeover) :
    Canon hid tk (Half.portOffset x p).regs (Half.portOffset x p).id (Half.portOffset x p).fc.fifo (Half.portOffset x p).ts.fifos (Half.portOffset x p).can.ram (Half.portOffset x p).dsp.staging (Half.portOffset x p).role.takeover := by
  unfold Half.portOffset
  grind +splitImp [Half.abWatch_canon, Half.wr_canon, Half.modPort_canon, Half.applyOffset_canon]
theorem Half.portChoice_canon {hid : HalfId} {tk : Prop} (x : Half) (p : Nat) (hk : Canon hid tk x.regs x.id x.fc.fifo x.ts.fifos x.can.ram x.dsp.staging x.role.takeover) :
    Canon hid tk (Half.portChoice x p).regs (Half.portChoice x p).id (Half.portChoice x p).fc.fifo (Half.portChoice x p).ts.fifos (Half.portChoice x p).can.ram (Half.portChoice x p).dsp.staging (Half.portChoice x p).role.takeover := by
  unfold Half.portChoice
  grind +splitImp [Half.modPort_canon]
theorem Half.takeSync_canon {hid : HalfId} {tk : Prop} (x : Half) (p : Nat) (m : PtpSync) (hk : Canon hid tk x.regs x.id x.fc.fifo x.ts.fifos x.can.ram x.dsp.staging x.role.takeover) :
    Canon hid tk (Half.takeSync x p m).regs (Half.takeSync x p m).id (Half.takeSync x p m).fc.fifo (Half.takeSync x p m).ts.fifos (Half.takeSync x p m).can.ram (Half.takeSync x p m).dsp.staging (Half.takeSync x p m).role.takeover := by
  unfold Half.takeSync
  grind +splitImp [Half.portOffset_canon, Half.portChoice_canon, Half.modPort_canon]
theorem Half.evalMaster_canon {hid : HalfId} {tk : Prop} (x : Half) (p : Nat) (hk : Canon hid tk x.regs x.id x.fc.fifo x.ts.fifos x.can.ram x.dsp.staging x.role.takeover) :
    Canon hid tk (Half.evalMaster x p).regs (Half.evalMaster x p).id (Half.evalMaster x p).fc.fifo (Half.evalMaster x p).ts.fifos (Half.evalMaster x p).can.ram (Half.evalMaster x p).dsp.staging (Half.evalMaster x p).role.takeover := by
  unfold Half.evalMaster
  grind +splitImp [Half.modPort_canon]
theorem Half.adopt_canon {hid : HalfId} {tk : Prop} (x : Half) (p : TimePayload) (hk : Canon hid tk x.regs x.id x.fc.fifo x.ts.fifos x.can.ram x.dsp.staging x.role.takeover) :
    Canon hid tk (Half.adopt x p).regs (Half.adopt x p).id (Half.adopt x p).fc.fifo (Half.adopt x p).ts.fifos (Half.adopt x p).can.ram (Half.adopt x p).dsp.staging (Half.adopt x p).role.takeover := by
  unfold Half.adopt
  grind +splitImp [Half.newSegment_canon, Half.setBit_canon]
theorem Half.diEdge_canon {hid : HalfId} {tk : Prop} (x x0 : Half) (di : Nat) (rising : Bool) (hk : Canon hid tk x.regs x.id x.fc.fifo x.ts.fifos x.can.ram x.dsp.staging x.role.takeover) :
    Canon hid tk (Half.diEdge x x0 di rising).regs (Half.diEdge x x0 di rising).id (Half.diEdge x x0 di rising).fc.fifo (Half.diEdge x x0 di rising).ts.fifos (Half.diEdge x x0 di rising).can.ram (Half.diEdge x x0 di rising).dsp.staging (Half.diEdge x x0 di rising).role.takeover := by
  unfold Half.diEdge
  grind +splitImp []

/-! ### Transport.lean -/

theorem Half.modSub_canon {hid : HalfId} {tk : Prop} (x : Half) (num : Nat) (f : Sub → Sub) (hk : Canon hid tk x.regs x.id x.fc.fifo x.ts.fifos x.can.ram x.dsp.staging x.role.takeover) :
    Canon hid tk (Half.modSub x num f).regs (Half.modSub x num f).id (Half.modSub x num f).fc.fifo (Half.modSub x num f).ts.fifos (Half.modSub x num f).can.ram (Half.modSub x num f).dsp.staging (Half.modSub x num f).role.takeover := by
  unfold Half.modSub
  grind +splitImp []
theorem Half.postLast_canon {hid : HalfId} {tk : Prop} (x : Half) (b : Sub) (hk : Canon hid tk x.regs x.id x.fc.fifo x.ts.fifos x.can.ram x.dsp.staging x.role.takeover) :
    Canon hid tk (Half.postLast x b).regs (Half.postLast x b).id (Half.postLast x b).fc.fifo (Half.postLast x b).ts.fifos (Half.postLast x b).can.ram (Half.postLast x b).dsp.staging (Half.postLast x b).role.takeover := by
  unfold Half.postLast
  grind +splitImp [Half.putCq_canon, Half.poolStatus_canon]
theorem Half.postItem_canon {hid : HalfId} {tk : Prop} (x : Half) (b : Sub) (i : SubItem) (k : Nat) (hk : Canon hid tk x.regs x.id x.fc.fifo x.ts.fifos x.can.ram x.dsp.staging x.role.takeover) :
    Canon hid tk (Half.postItem x b i k).regs (Half.postItem x b i k).id (Half.postItem x b i k).fc.fifo (Half.postItem x b i k).ts.fifos (Half.postItem x b i k).can.ram (Half.postItem x b i k).dsp.staging (Half.postItem x b i k).role.takeover := by
  unfold Half.postItem
  grind +splitImp [Half.modSub_canon, Half.putCq_canon, Half.overrun_canon]
theorem Half.authFailed_canon {hid : HalfId} {tk : Prop} (x : Half) (addr : Word) (hk : Canon hid tk x.regs x.id x.fc.fifo x.ts.fifos x.can.ram x.dsp.staging x.role.takeover) :
    Canon hid tk (Half.authFailed x addr).regs (Half.authFailed x addr).id (Half.authFailed x addr).fc.fifo (Half.authFailed x addr).ts.fifos (Half.authFailed x addr).can.ram (Half.authFailed x addr).dsp.staging (Half.authFailed x addr).role.takeover := by
  unfold Half.authFailed
  grind +splitImp [Half.evrEvent_canon]
theorem Half.shake_canon {hid : HalfId} {tk : Prop} (x : Half) (ch : Nat) (addr : Word) (c : Cert) (hk : Canon hid tk x.regs x.id x.fc.fifo x.ts.fifos x.can.ram x.dsp.staging x.role.takeover) :
    Canon hid tk (Half.shake x ch addr c).regs (Half.shake x ch addr c).id (Half.shake x ch addr c).fc.fifo (Half.shake x ch addr c).ts.fifos (Half.shake x ch addr c).can.ram (Half.shake x ch addr c).dsp.staging (Half.shake x ch addr c).role.takeover := by
  unfold Half.shake
  grind +splitImp [Half.modChan_canon, Half.authFailed_canon, Half.setFld_canon, Half.send_canon, Half.evrEvent_canon]
theorem Half.openNew_canon {hid : HalfId} {tk : Prop} (x : Half) (ch gen : Nat) (hk : Canon hid tk x.regs x.id x.fc.fifo x.ts.fifos x.can.ram x.dsp.staging x.role.takeover) :
    Canon hid tk (Half.openNew x ch gen).regs (Half.openNew x ch gen).id (Half.openNew x ch gen).fc.fifo (Half.openNew x ch gen).ts.fifos (Half.openNew x ch gen).can.ram (Half.openNew x ch gen).dsp.staging (Half.openNew x ch gen).role.takeover := by
  unfold Half.openNew
  grind +splitImp [Half.modChan_canon, Half.clearChan_canon, Half.sendTr_canon, Half.wr_canon, Half.setBit_canon, Half.evrEvent_canon]
theorem Half.hostHead_canon {hid : HalfId} {tk : Prop} (x : Half) (ch : Nat) (v : BitVec 16) (hk : Canon hid tk x.regs x.id x.fc.fifo x.ts.fifos x.can.ram x.dsp.staging x.role.takeover) :
    Canon hid tk (Half.hostHead x ch v).regs (Half.hostHead x ch v).id (Half.hostHead x ch v).fc.fifo (Half.hostHead x ch v).ts.fifos (Half.hostHead x ch v).can.ram (Half.hostHead x ch v).dsp.staging (Half.hostHead x ch v).role.takeover := by
  unfold Half.hostHead
  grind +splitImp [Half.cqTake_canon]
theorem Half.takeEntries_canon {hid : HalfId} {tk : Prop} (x : Half) (ch : Nat) (first : Word) (es : List (Entry)) (cqHead : BitVec 16) (hk : Canon hid tk x.regs x.id x.fc.fifo x.ts.fifos x.can.ram x.dsp.staging x.role.takeover) :
    Canon hid tk (Half.takeEntries x ch first es cqHead).regs (Half.takeEntries x ch first es cqHead).id (Half.takeEntries x ch first es cqHead).fc.fifo (Half.takeEntries x ch first es cqHead).ts.fifos (Half.takeEntries x ch first es cqHead).can.ram (Half.takeEntries x ch first es cqHead).dsp.staging (Half.takeEntries x ch first es cqHead).role.takeover := by
  unfold Half.takeEntries
  grind +splitImp [Half.modChan_canon, Half.hostHead_canon, Half.usbCount_canon, Half.sendTr_canon, Half.advance_canon, Half.when_canon, Half.irq_canon]
theorem Half.dropCh_canon {hid : HalfId} {tk : Prop} (x : Half) (ch code : Nat) (hk : Canon hid tk x.regs x.id x.fc.fifo x.ts.fifos x.can.ram x.dsp.staging x.role.takeover) :
    Canon hid tk (Half.dropCh x ch code).regs (Half.dropCh x ch code).id (Half.dropCh x ch code).fc.fifo (Half.dropCh x ch code).ts.fifos (Half.dropCh x ch code).can.ram (Half.dropCh x ch code).dsp.staging (Half.dropCh x ch code).role.takeover := by
  unfold Half.dropCh
  grind +splitImp [Half.wr_canon, Half.when_canon, Half.cancelAll_canon, Half.setBit_canon, Half.clearChan_canon, Half.irq_canon]
theorem Half.mp1Run_canon {hid : HalfId} {tk : Prop} (x : Half) (bs : List Byte) (hk : Canon hid tk x.regs x.id x.fc.fifo x.ts.fifos x.can.ram x.dsp.staging x.role.takeover) :
    Canon hid tk (Half.mp1Run x bs).2.2.regs (Half.mp1Run x bs).2.2.id (Half.mp1Run x bs).2.2.fc.fifo (Half.mp1Run x bs).2.2.ts.fifos (Half.mp1Run x bs).2.2.can.ram (Half.mp1Run x bs).2.2.dsp.staging (Half.mp1Run x bs).2.2.role.takeover := by
  unfold Half.mp1Run
  grind +splitImp [Half.writeObj_canon]
theorem Half.mp1Chan_canon {hid : HalfId} {tk : Prop} (x : Half) (addr : Word) (port : BitVec 16) (hk : Canon hid tk x.regs x.id x.fc.fifo x.ts.fifos x.can.ram x.dsp.staging x.role.takeover) :
    Canon hid tk (Half.mp1Chan x addr port).2.regs (Half.mp1Chan x addr port).2.id (Half.mp1Chan x addr port).2.fc.fifo (Half.mp1Chan x addr port).2.ts.fifos (Half.mp1Chan x addr port).2.can.ram (Half.mp1Chan x addr port).2.dsp.staging (Half.mp1Chan x addr port).2.role.takeover := by
  unfold Half.mp1Chan
  grind +splitImp [Half.modChan_canon, Half.wr_canon, Half.clearChan_canon, Half.evrEvent_canon]
theorem Half.mp1Take_canon {hid : HalfId} {tk : Prop} (y : Half) (ch : Nat) (bytes : List Byte) (hk : Canon hid tk y.regs y.id y.fc.fifo y.ts.fifos y.can.ram y.dsp.staging y.role.takeover) :
    Canon hid tk (Half.mp1Take y ch bytes).regs (Half.mp1Take y ch bytes).id (Half.mp1Take y ch bytes).fc.fifo (Half.mp1Take y ch bytes).ts.fifos (Half.mp1Take y ch bytes).can.ram (Half.mp1Take y ch bytes).dsp.staging (Half.mp1Take y ch bytes).role.takeover := by
  unfold Half.mp1Take
  grind +splitImp [Half.modChan_canon, Half.incSat_canon, Half.send_canon, Half.setBit_canon, Half.take_canon, Half.mp1Run_canon]
theorem Half.leavePeer_canon {hid : HalfId} {tk : Prop} (x : Half) (c : Ctx) (hk : Canon hid tk x.regs x.id x.fc.fifo x.ts.fifos x.can.ram x.dsp.staging x.role.takeover) :
    Canon hid tk (Half.leavePeer x c).regs (Half.leavePeer x c).id (Half.leavePeer x c).fc.fifo (Half.leavePeer x c).ts.fifos (Half.leavePeer x c).can.ram (Half.leavePeer x c).dsp.staging (Half.leavePeer x c).role.takeover := by
  unfold Half.leavePeer
  grind +splitImp [Half.modCtx_canon]

/-! ### RegWrite.lean -/

theorem Half.apertureWrite_canon {hid : HalfId} {tk : Prop} (x : Half) (c a : Nat) (v : Word) (hk : Canon hid tk x.regs x.id x.fc.fifo x.ts.fifos x.can.ram x.dsp.staging x.role.takeover) :
    Canon hid tk (Half.apertureWrite x c a v).regs (Half.apertureWrite x c a v).id (Half.apertureWrite x c a v).fc.fifo (Half.apertureWrite x c a v).ts.fifos (Half.apertureWrite x c a v).can.ram (Half.apertureWrite x c a v).dsp.staging (Half.apertureWrite x c a v).role.takeover := by
  unfold Half.apertureWrite
  extract_lets p
  clear_value p
  generalize wordBytes v = bs
  exact ⟨hk.1, hk.2.1, hk.2.2.1, hk.2.2.2.1, Memory.wf_write hk.2.2.2.2.1 _ _, hk.2.2.2.2.2⟩

/-! ### Scruple.lean -/

theorem Half.setShown_canon {hid : HalfId} {tk : Prop} (y : Half) (h : HalfId) (shown : Word) (hk : Canon hid tk y.regs y.id y.fc.fifo y.ts.fifos y.can.ram y.dsp.staging y.role.takeover) :
    Canon hid tk (Half.setShown y h shown).regs (Half.setShown y h shown).id (Half.setShown y h shown).fc.fifo (Half.setShown y h shown).ts.fifos (Half.setShown y h shown).can.ram (Half.setShown y h shown).dsp.staging (Half.setShown y h shown).role.takeover := by
  unfold Half.setShown
  grind +splitImp [Half.endCommit_canon]
theorem Half.safReadback_canon {hid : HalfId} {tk : Prop} (x : Half) (readback : Byte) (masksOk : Bool) (hk : Canon hid tk x.regs x.id x.fc.fifo x.ts.fifos x.can.ram x.dsp.staging x.role.takeover) :
    Canon hid tk (Half.safReadback x readback masksOk).regs (Half.safReadback x readback masksOk).id (Half.safReadback x readback masksOk).fc.fifo (Half.safReadback x readback masksOk).ts.fifos (Half.safReadback x readback masksOk).can.ram (Half.safReadback x readback masksOk).dsp.staging (Half.safReadback x readback masksOk).role.takeover := by
  unfold Half.safReadback
  grind +splitImp [canon_foldl, Half.modSaf_canon, Half.scrCycle_canon, Half.safRaise_canon]
theorem Half.safCycle_canon {hid : HalfId} {tk : Prop} (x : Half) (readback : Byte) (masksOk : Bool) (hk : Canon hid tk x.regs x.id x.fc.fifo x.ts.fifos x.can.ram x.dsp.staging x.role.takeover) :
    Canon hid tk (Half.safCycle x readback masksOk).regs (Half.safCycle x readback masksOk).id (Half.safCycle x readback masksOk).fc.fifo (Half.safCycle x readback masksOk).ts.fifos (Half.safCycle x readback masksOk).can.ram (Half.safCycle x readback masksOk).dsp.staging (Half.safCycle x readback masksOk).role.takeover := by
  unfold Half.safCycle
  have H := Half.safReadback_canon x readback masksOk hk
  generalize x.safReadback readback masksOk = y at H ⊢
  refine Half.flush_canon _ _ (Half.refreshSaf_canon _ (Half.notePaths_canon _ (Half.modSaf_canon _ _ (Half.releaseXtrip_canon _ (Half.checkSkew_canon _ (Half.writePermits_canon _ (Half.noteSpeeds_canon _ (canon_ite ?_ H))))))))
  exact canon_foldl H fun z e h => canon_ite h (Half.evalFn_canon _ _ _ h)
theorem Half.siTake_canon {hid : HalfId} {tk : Prop} (y : Half) (i : Nat) (a b : Bool) (hk : Canon hid tk y.regs y.id y.fc.fifo y.ts.fifos y.can.ram y.dsp.staging y.role.takeover) :
    Canon hid tk (Half.siTake y i a b).regs (Half.siTake y i a b).id (Half.siTake y i a b).fc.fifo (Half.siTake y i a b).ts.fifos (Half.siTake y i a b).can.ram (Half.siTake y i a b).dsp.staging (Half.siTake y i a b).role.takeover := by
  unfold Half.siTake
  grind +splitImp [Half.setFlt_canon]
theorem Half.srsTake_canon {hid : HalfId} {tk : Prop} (z : Half) (b : Bool) (k : Nat) (v : Bool) (hk : Canon hid tk z.regs z.id z.fc.fifo z.ts.fifos z.can.ram z.dsp.staging z.role.takeover) :
    Canon hid tk (Half.srsTake z b k v).regs (Half.srsTake z b k v).id (Half.srsTake z b k v).fc.fifo (Half.srsTake z b k v).ts.fifos (Half.srsTake z b k v).can.ram (Half.srsTake z b k v).dsp.staging (Half.srsTake z b k v).role.takeover := by
  unfold Half.srsTake
  grind +splitImp [Half.setFlt_canon]
theorem Half.darkPulse_canon {hid : HalfId} {tk : Prop} (y : Half) (rawA rawB : BitVec 16) (i : Nat) (hk : Canon hid tk y.regs y.id y.fc.fifo y.ts.fifos y.can.ram y.dsp.staging y.role.takeover) :
    Canon hid tk (Half.darkPulse y rawA rawB i).regs (Half.darkPulse y rawA rawB i).id (Half.darkPulse y rawA rawB i).fc.fifo (Half.darkPulse y rawA rawB i).ts.fifos (Half.darkPulse y rawA rawB i).can.ram (Half.darkPulse y rawA rawB i).dsp.staging (Half.darkPulse y rawA rawB i).role.takeover := by
  unfold Half.darkPulse
  grind +splitImp [Half.pairFails_canon, Half.modSaf_canon, Half.pairClear_canon, Half.chanFails_canon, Half.chanClear_canon]
theorem Half.scrFiEdge_canon {hid : HalfId} {tk : Prop} (x : Half) (fi : Nat) (hk : Canon hid tk x.regs x.id x.fc.fifo x.ts.fifos x.can.ram x.dsp.staging x.role.takeover) :
    Canon hid tk (Half.scrFiEdge x fi).regs (Half.scrFiEdge x fi).id (Half.scrFiEdge x fi).fc.fifo (Half.scrFiEdge x fi).ts.fifos (Half.scrFiEdge x fi).can.ram (Half.scrFiEdge x fi).dsp.staging (Half.scrFiEdge x fi).role.takeover := by
  unfold Half.scrFiEdge
  grind +splitImp [Half.modSaf_canon]
theorem Half.overspeed_canon {hid : HalfId} {tk : Prop} (z : Half) (fi : Nat) (f : Nat) (c : SafFunc) (hk : Canon hid tk z.regs z.id z.fc.fifo z.ts.fifos z.can.ram z.dsp.staging z.role.takeover) :
    Canon hid tk (Half.overspeed z fi f c).regs (Half.overspeed z fi f c).id (Half.overspeed z fi f c).fc.fifo (Half.overspeed z fi f c).ts.fifos (Half.overspeed z fi f c).can.ram (Half.overspeed z fi f c).dsp.staging (Half.overspeed z fi f c).role.takeover := by
  unfold Half.overspeed
  grind +splitImp [Half.setFn_canon]

/-! ### Vd.lean -/

theorem Half.vdRefresh_canon {hid : HalfId} {tk : Prop} (x : Half) (vd : Nat) (i : F32) (slope : Option F32) (hk : Canon hid tk x.regs x.id x.fc.fifo x.ts.fifos x.can.ram x.dsp.staging x.role.takeover) :
    Canon hid tk (Half.vdRefresh x vd i slope).regs (Half.vdRefresh x vd i slope).id (Half.vdRefresh x vd i slope).fc.fifo (Half.vdRefresh x vd i slope).ts.fifos (Half.vdRefresh x vd i slope).can.ram (Half.vdRefresh x vd i slope).dsp.staging (Half.vdRefresh x vd i slope).role.takeover := by
  unfold Half.vdRefresh
  dsimp only
  have H1 := Half.vdSee_canon _ vd i (Half.vdShow_canon _ vd hk)
  generalize (x.vdShow vd).vdSee vd i = y at H1 ⊢
  have H2 := Half.fieldVolts_canon y (vd / 4) H1
  generalize y.fieldVolts (vd / 4) = p at H2 ⊢
  obtain ⟨volts, z⟩ := p
  refine canon_ite H1 ?_
  cases slope with
  | none => exact Half.modVd_canon _ _ _ H2
  | some m => exact canon_ite (Half.setBit_canon _ _ _ _ (Half.modVd_canon _ _ _ (Half.modVd_canon _ _ _ (Half.modVd_canon _ _ _ H2)))) (Half.modVd_canon _ _ _ (Half.modVd_canon _ _ _ H2))
theorem Half.vdMsEnd_canon {hid : HalfId} {tk : Prop} (y : Half) (vd : Nat) (i : F32) (hk : Canon hid tk y.regs y.id y.fc.fifo y.ts.fifos y.can.ram y.dsp.staging y.role.takeover) :
    Canon hid tk (Half.vdMsEnd y vd i).regs (Half.vdMsEnd y vd i).id (Half.vdMsEnd y vd i).fc.fifo (Half.vdMsEnd y vd i).ts.fifos (Half.vdMsEnd y vd i).can.ram (Half.vdMsEnd y vd i).dsp.staging (Half.vdMsEnd y vd i).role.takeover := by
  unfold Half.vdMsEnd
  grind +splitImp [Half.modVd_canon, Half.setFld_canon, Half.wr_canon, Half.setBit_canon]
theorem Half.vdConvert_canon {hid : HalfId} {tk : Prop} (x : Half) (vd : Nat) (i : F32) (hk : Canon hid tk x.regs x.id x.fc.fifo x.ts.fifos x.can.ram x.dsp.staging x.role.takeover) :
    Canon hid tk (Half.vdConvert x vd i).regs (Half.vdConvert x vd i).id (Half.vdConvert x vd i).fc.fifo (Half.vdConvert x vd i).ts.fifos (Half.vdConvert x vd i).can.ram (Half.vdConvert x vd i).dsp.staging (Half.vdConvert x vd i).role.takeover := by
  unfold Half.vdConvert
  dsimp only
  have H1 := Half.modVd_canon ((x.vdShow vd).vdSee vd i) vd (fun k => { k with sar := (i :: k.sar).take 255 }) (Half.vdSee_canon _ _ _ (Half.vdShow_canon _ _ hk))
  generalize ((x.vdShow vd).vdSee vd i).modVd vd (fun k => { k with sar := (i :: k.sar).take 255 }) = y at H1 ⊢
  have H2 := Half.modVd_canon ((y.wr (Reg.VD_I_SAR vd) (meanOf (max 1 (x.fld (Reg.VD_TIMING vd) 23 16)) (y.vd_ vd).sar)).vdMsEnd vd i) vd
    (fun k => { k with msSum := f64add k.msSum (f64of32 i), msCount := k.msCount + 1 }) (Half.vdMsEnd_canon _ _ _ (Half.wr_canon _ _ _ H1))
  generalize ((y.wr (Reg.VD_I_SAR vd) (meanOf (max 1 (x.fld (Reg.VD_TIMING vd) 23 16)) (y.vd_ vd).sar)).vdMsEnd vd i).modVd vd
    (fun k => { k with msSum := f64add k.msSum (f64of32 i), msCount := k.msCount + 1 }) = z at H2 ⊢
  have H3 := canon_ite (c := ((z.vd_ vd).retrying && !f32lt i (f32int 20)) = true) (Half.setBit_canon _ (Reg.VD_STAT vd) 1 false (Half.modVd_canon z vd (fun k => { k with retrying := false }) H2)) H2
  exact canon_ite (Half.tcSource_canon _ _ _ _ _ H3) H3
theorem Half.vdTracked_canon {hid : HalfId} {tk : Prop} (x : Half) (hk : Canon hid tk x.regs x.id x.fc.fifo x.ts.fifos x.can.ram x.dsp.staging x.role.takeover) :
    Canon hid tk (Half.vdTracked x).regs (Half.vdTracked x).id (Half.vdTracked x).fc.fifo (Half.vdTracked x).ts.fifos (Half.vdTracked x).can.ram (Half.vdTracked x).dsp.staging (Half.vdTracked x).role.takeover := by
  unfold Half.vdTracked
  grind +splitImp [Half.shadowRefs_canon]

/-! ### Tick.lean -/

theorem Half.tick_canon {hid : HalfId} {tk : Prop} (x : Half) (hk : Canon hid tk x.regs x.id x.fc.fifo x.ts.fifos x.can.ram x.dsp.staging x.role.takeover) :
    Canon hid tk (Half.tick x).regs (Half.tick x).id (Half.tick x).fc.fifo (Half.tick x).ts.fifos (Half.tick x).can.ram (Half.tick x).dsp.staging (Half.tick x).role.takeover := by
  unfold Half.tick
  grind +splitImp [Half.ceLoad_canon]
theorem Half.tickSys_canon {hid : HalfId} {tk : Prop} (x : Half) (hk : Canon hid tk x.regs x.id x.fc.fifo x.ts.fifos x.can.ram x.dsp.staging x.role.takeover) :
    Canon hid tk (Half.tickSys x).regs (Half.tickSys x).id (Half.tickSys x).fc.fifo (Half.tickSys x).ts.fifos (Half.tickSys x).can.ram (Half.tickSys x).dsp.staging (Half.tickSys x).role.takeover := by
  unfold Half.tickSys
  grind +splitImp []
theorem Half.tickSaf_canon {hid : HalfId} {tk : Prop} (x : Half) (hk : Canon hid tk x.regs x.id x.fc.fifo x.ts.fifos x.can.ram x.dsp.staging x.role.takeover) :
    Canon hid tk (Half.tickSaf x).regs (Half.tickSaf x).id (Half.tickSaf x).fc.fifo (Half.tickSaf x).ts.fifos (Half.tickSaf x).can.ram (Half.tickSaf x).dsp.staging (Half.tickSaf x).role.takeover := by
  unfold Half.tickSaf
  grind +splitImp []

end Sys2Proof.Machine
end

