-- ==== Sys2Proof/Laws/Commands.lean ====
section
/-! SUPPORT. What a mailbox command does once it is accepted (R305, R306): its body runs on the half in which the command
has started. -/
namespace Sys2Proof.Machine

/-- An accepted command whose request has its length runs its body. -/
theorem Half.cmd_accepted {x : Half} {ch tag op role : Nat} {lenOk : Ctx → Bool} {roleOf : Ctx → Nat} {needOf : Ctx → Needs}
    {body : Half → Ctx → Half} {need : Needs} {c : Ctx} (ha : x.Accepts ch tag op role need c) (hl : lenOk c = true)
    (hr : roleOf c = role) (hn : needOf c = need) :
    x.cmd ch tag op lenOk roleOf needOf body = body (x.begun ch tag c) c := by
  obtain ⟨h1, rfl, rfl, h4, h5, h6⟩ := ha
  subst hr hn
  simp [Half.cmd, h1, h4, hl, h6, Nat.not_lt.mpr h5, Half.begun]

/-- A command that is not its channel's next one does nothing (R275). -/
theorem Half.cmd_idle {x : Half} {ch tag op : Nat} {lenOk : Ctx → Bool} {roleOf : Ctx → Nat} {needOf : Ctx → Needs}
    {body : Half → Ctx → Half} (h : ∀ c, x.nextCmd ch = some c → c.tag = tag → c.op ≠ op) :
    x.cmd ch tag op lenOk roleOf needOf body = x := by
  unfold Half.cmd
  split
  · rfl
  · next c hc =>
    by_cases ht : c.tag = tag
    · simp [h c hc ht]
    · simp [ht]

end Sys2Proof.Machine
end

