-- ==== Sys2Proof/Laws/State.lean ====
section
/-! SUPPORT. One lemma per field per update, true by unfolding: a register operation changes the register file and nothing
else; a change of one half leaves the other half, the baseplate and the queue. -/
namespace Sys2Proof.Machine

/-! ### The station -/

@[simp] theorem State.half_mod_self (s : State) (h : HalfId) (f : Half → Half) : (s.mod h f).half h = f (s.half h) := by
  cases h <;> rfl
@[simp] theorem State.half_mod_other (s : State) (h : HalfId) (f : Half → Half) : (s.mod h f).half h.other = s.half h.other := by
  cases h <;> rfl
@[simp] theorem State.mod_stn (s : State) (h : HalfId) (f : Half → Half) : (s.mod h f).stn = s.stn := by cases h <;> rfl
@[simp] theorem State.mod_pending (s : State) (h : HalfId) (f : Half → Half) : (s.mod h f).pending = s.pending := by
  cases h <;> rfl
@[simp] theorem State.half_modStn (s : State) (h : HalfId) (f : Station → Station) : (s.modStn f).half h = s.half h := by
  cases h <;> rfl
@[simp] theorem State.modStn_stn (s : State) (f : Station → Station) : (s.modStn f).stn = f s.stn := rfl
@[simp] theorem State.modStn_pending (s : State) (f : Station → Station) : (s.modStn f).pending = s.pending := rfl
@[simp] theorem State.tick_stn (s : State) : s.tick.stn = s.stn := rfl
@[simp] theorem State.tick_pending (s : State) : s.tick.pending = s.pending := rfl
@[simp] theorem HalfId.other_other (h : HalfId) : h.other.other = h := by cases h <;> rfl
theorem HalfId.other_ne (h : HalfId) : h.other ≠ h := by cases h <;> simp [HalfId.other]

/-- A command of one powered half answers a next state in which that half is changed as its meaning says. -/
theorem onHalf_powered {s : State} {h : HalfId} {f : Half → Half} (hp : (s.half h).st ≠ .off) :
    onHalf s h f = .next (s.mod h f) := by
  cases h <;> simp_all [onHalf, State.mod, State.half, Half.live]

/-- A command of one half that is OFF changes nothing. -/
theorem onHalf_off {s : State} {h : HalfId} {f : Half → Half} (hp : (s.half h).st = .off) : onHalf s h f = .next s := by
  cases h <;> simp_all [onHalf, State.mod, State.half, Half.live]

/-- Two meanings that agree on the half of a state give the same next state. -/
theorem State.mod_congr {s : State} {h : HalfId} {f g : Half → Half} (e : f (s.half h) = g (s.half h)) :
    s.mod h f = s.mod h g := by
  cases h <;> simp_all [State.mod, State.half]

/-! ### Registers -/

@[simp] theorem Half.wr_id (x : Half) (a : Nat) (v : Word) : (x.wr a v).id = x.id := rfl
@[simp] theorem Half.wr_st (x : Half) (a : Nat) (v : Word) : (x.wr a v).st = x.st := rfl
@[simp] theorem Half.wr_rdata (x : Half) (a : Nat) (v : Word) : (x.wr a v).rdata = x.rdata := rfl
@[simp] theorem Half.wr_tx (x : Half) (a : Nat) (v : Word) : (x.wr a v).tx = x.tx := rfl
@[simp] theorem Half.wr_fresh (x : Half) (a : Nat) (v : Word) : (x.wr a v).fresh = x.fresh := rfl
@[simp] theorem Half.wr_sys (x : Half) (a : Nat) (v : Word) : (x.wr a v).sys = x.sys := rfl
@[simp] theorem Half.wr_boot (x : Half) (a : Nat) (v : Word) : (x.wr a v).boot = x.boot := rfl
@[simp] theorem Half.wr_cfg (x : Half) (a : Nat) (v : Word) : (x.wr a v).cfg = x.cfg := rfl
@[simp] theorem Half.wr_role (x : Half) (a : Nat) (v : Word) : (x.wr a v).role = x.role := rfl
@[simp] theorem Half.wr_span (x : Half) (a : Nat) (v : Word) : (x.wr a v).span = x.span := rfl
@[simp] theorem Half.wr_copy (x : Half) (a : Nat) (v : Word) : (x.wr a v).copy = x.copy := rfl
@[simp] theorem Half.wr_fc (x : Half) (a : Nat) (v : Word) : (x.wr a v).fc = x.fc := rfl
@[simp] theorem Half.wr_ts (x : Half) (a : Nat) (v : Word) : (x.wr a v).ts = x.ts := rfl
@[simp] theorem Half.wr_evr (x : Half) (a : Nat) (v : Word) : (x.wr a v).evr = x.evr := rfl
@[simp] theorem Half.wr_mbx (x : Half) (a : Nat) (v : Word) : (x.wr a v).mbx = x.mbx := rfl
@[simp] theorem Half.wr_task (x : Half) (a : Nat) (v : Word) : (x.wr a v).task = x.task := rfl
@[simp] theorem Half.wr_dio (x : Half) (a : Nat) (v : Word) : (x.wr a v).dio = x.dio := rfl
@[simp] theorem Half.wr_aio (x : Half) (a : Nat) (v : Word) : (x.wr a v).aio = x.aio := rfl
@[simp] theorem Half.wr_obj (x : Half) (a : Nat) (v : Word) : (x.wr a v).obj = x.obj := rfl
@[simp] theorem Half.wr_ce (x : Half) (a : Nat) (v : Word) : (x.wr a v).ce = x.ce := rfl
@[simp] theorem Half.wr_vd (x : Half) (a : Nat) (v : Word) : (x.wr a v).vd = x.vd := rfl
@[simp] theorem Half.wr_saf (x : Half) (a : Nat) (v : Word) : (x.wr a v).saf = x.saf := rfl
@[simp] theorem Half.wr_can (x : Half) (a : Nat) (v : Word) : (x.wr a v).can = x.can := rfl
@[simp] theorem Half.wr_net (x : Half) (a : Nat) (v : Word) : (x.wr a v).net = x.net := rfl
@[simp] theorem Half.wr_cv (x : Half) (a : Nat) (v : Word) : (x.wr a v).cv = x.cv := rfl
@[simp] theorem Half.wr_nor (x : Half) (a : Nat) (v : Word) : (x.wr a v).nor = x.nor := rfl
@[simp] theorem Half.wr_dsp (x : Half) (a : Nat) (v : Word) : (x.wr a v).dsp = x.dsp := rfl
@[simp] theorem Half.wr_jobs (x : Half) (a : Nat) (v : Word) : (x.wr a v).jobs = x.jobs := rfl

@[simp] theorem Half.setFld_id (x : Half) (a hi lo v : Nat) : (x.setFld a hi lo v).id = x.id := rfl
@[simp] theorem Half.setFld_st (x : Half) (a hi lo v : Nat) : (x.setFld a hi lo v).st = x.st := rfl
@[simp] theorem Half.setFld_rdata (x : Half) (a hi lo v : Nat) : (x.setFld a hi lo v).rdata = x.rdata := rfl
@[simp] theorem Half.setFld_tx (x : Half) (a hi lo v : Nat) : (x.setFld a hi lo v).tx = x.tx := rfl
@[simp] theorem Half.setFld_fresh (x : Half) (a hi lo v : Nat) : (x.setFld a hi lo v).fresh = x.fresh := rfl
@[simp] theorem Half.setFld_sys (x : Half) (a hi lo v : Nat) : (x.setFld a hi lo v).sys = x.sys := rfl
@[simp] theorem Half.setFld_boot (x : Half) (a hi lo v : Nat) : (x.setFld a hi lo v).boot = x.boot := rfl
@[simp] theorem Half.setFld_cfg (x : Half) (a hi lo v : Nat) : (x.setFld a hi lo v).cfg = x.cfg := rfl
@[simp] theorem Half.setFld_role (x : Half) (a hi lo v : Nat) : (x.setFld a hi lo v).role = x.role := rfl
@[simp] theorem Half.setFld_span (x : Half) (a hi lo v : Nat) : (x.setFld a hi lo v).span = x.span := rfl
@[simp] theorem Half.setFld_copy (x : Half) (a hi lo v : Nat) : (x.setFld a hi lo v).copy = x.copy := rfl
@[simp] theorem Half.setFld_fc (x : Half) (a hi lo v : Nat) : (x.setFld a hi lo v).fc = x.fc := rfl
@[simp] theorem Half.setFld_ts (x : Half) (a hi lo v : Nat) : (x.setFld a hi lo v).ts = x.ts := rfl
@[simp] theorem Half.setFld_evr (x : Half) (a hi lo v : Nat) : (x.setFld a hi lo v).evr = x.evr := rfl
@[simp] theorem Half.setFld_mbx (x : Half) (a hi lo v : Nat) : (x.setFld a hi lo v).mbx = x.mbx := rfl
@[simp] theorem Half.setFld_task (x : Half) (a hi lo v : Nat) : (x.setFld a hi lo v).task = x.task := rfl
@[simp] theorem Half.setFld_dio (x : Half) (a hi lo v : Nat) : (x.setFld a hi lo v).dio = x.dio := rfl
@[simp] theorem Half.setFld_aio (x : Half) (a hi lo v : Nat) : (x.setFld a hi lo v).aio = x.aio := rfl
@[simp] theorem Half.setFld_obj (x : Half) (a hi lo v : Nat) : (x.setFld a hi lo v).obj = x.obj := rfl
@[simp] theorem Half.setFld_ce (x : Half) (a hi lo v : Nat) : (x.setFld a hi lo v).ce = x.ce := rfl
@[simp] theorem Half.setFld_vd (x : Half) (a hi lo v : Nat) : (x.setFld a hi lo v).vd = x.vd := rfl
@[simp] theorem Half.setFld_saf (x : Half) (a hi lo v : Nat) : (x.setFld a hi lo v).saf = x.saf := rfl
@[simp] theorem Half.setFld_can (x : Half) (a hi lo v : Nat) : (x.setFld a hi lo v).can = x.can := rfl
@[simp] theorem Half.setFld_net (x : Half) (a hi lo v : Nat) : (x.setFld a hi lo v).net = x.net := rfl
@[simp] theorem Half.setFld_cv (x : Half) (a hi lo v : Nat) : (x.setFld a hi lo v).cv = x.cv := rfl
@[simp] theorem Half.setFld_nor (x : Half) (a hi lo v : Nat) : (x.setFld a hi lo v).nor = x.nor := rfl
@[simp] theorem Half.setFld_dsp (x : Half) (a hi lo v : Nat) : (x.setFld a hi lo v).dsp = x.dsp := rfl
@[simp] theorem Half.setFld_jobs (x : Half) (a hi lo v : Nat) : (x.setFld a hi lo v).jobs = x.jobs := rfl

@[simp] theorem Half.setBit_id (x : Half) (a i : Nat) (b : Bool) : (x.setBit a i b).id = x.id := rfl
@[simp] theorem Half.setBit_st (x : Half) (a i : Nat) (b : Bool) : (x.setBit a i b).st = x.st := rfl
@[simp] theorem Half.setBit_rdata (x : Half) (a i : Nat) (b : Bool) : (x.setBit a i b).rdata = x.rdata := rfl
@[simp] theorem Half.setBit_tx (x : Half) (a i : Nat) (b : Bool) : (x.setBit a i b).tx = x.tx := rfl
@[simp] theorem Half.setBit_fresh (x : Half) (a i : Nat) (b : Bool) : (x.setBit a i b).fresh = x.fresh := rfl
@[simp] theorem Half.setBit_sys (x : Half) (a i : Nat) (b : Bool) : (x.setBit a i b).sys = x.sys := rfl
@[simp] theorem Half.setBit_boot (x : Half) (a i : Nat) (b : Bool) : (x.setBit a i b).boot = x.boot := rfl
@[simp] theorem Half.setBit_cfg (x : Half) (a i : Nat) (b : Bool) : (x.setBit a i b).cfg = x.cfg := rfl
@[simp] theorem Half.setBit_role (x : Half) (a i : Nat) (b : Bool) : (x.setBit a i b).role = x.role := rfl
@[simp] theorem Half.setBit_span (x : Half) (a i : Nat) (b : Bool) : (x.setBit a i b).span = x.span := rfl
@[simp] theorem Half.setBit_copy (x : Half) (a i : Nat) (b : Bool) : (x.setBit a i b).copy = x.copy := rfl
@[simp] theorem Half.setBit_fc (x : Half) (a i : Nat) (b : Bool) : (x.setBit a i b).fc = x.fc := rfl
@[simp] theorem Half.setBit_ts (x : Half) (a i : Nat) (b : Bool) : (x.setBit a i b).ts = x.ts := rfl
@[simp] theorem Half.setBit_evr (x : Half) (a i : Nat) (b : Bool) : (x.setBit a i b).evr = x.evr := rfl
@[simp] theorem Half.setBit_mbx (x : Half) (a i : Nat) (b : Bool) : (x.setBit a i b).mbx = x.mbx := rfl
@[simp] theorem Half.setBit_task (x : Half) (a i : Nat) (b : Bool) : (x.setBit a i b).task = x.task := rfl
@[simp] theorem Half.setBit_dio (x : Half) (a i : Nat) (b : Bool) : (x.setBit a i b).dio = x.dio := rfl
@[simp] theorem Half.setBit_aio (x : Half) (a i : Nat) (b : Bool) : (x.setBit a i b).aio = x.aio := rfl
@[simp] theorem Half.setBit_obj (x : Half) (a i : Nat) (b : Bool) : (x.setBit a i b).obj = x.obj := rfl
@[simp] theorem Half.setBit_ce (x : Half) (a i : Nat) (b : Bool) : (x.setBit a i b).ce = x.ce := rfl
@[simp] theorem Half.setBit_vd (x : Half) (a i : Nat) (b : Bool) : (x.setBit a i b).vd = x.vd := rfl
@[simp] theorem Half.setBit_saf (x : Half) (a i : Nat) (b : Bool) : (x.setBit a i b).saf = x.saf := rfl
@[simp] theorem Half.setBit_can (x : Half) (a i : Nat) (b : Bool) : (x.setBit a i b).can = x.can := rfl
@[simp] theorem Half.setBit_net (x : Half) (a i : Nat) (b : Bool) : (x.setBit a i b).net = x.net := rfl
@[simp] theorem Half.setBit_cv (x : Half) (a i : Nat) (b : Bool) : (x.setBit a i b).cv = x.cv := rfl
@[simp] theorem Half.setBit_nor (x : Half) (a i : Nat) (b : Bool) : (x.setBit a i b).nor = x.nor := rfl
@[simp] theorem Half.setBit_dsp (x : Half) (a i : Nat) (b : Bool) : (x.setBit a i b).dsp = x.dsp := rfl
@[simp] theorem Half.setBit_jobs (x : Half) (a i : Nat) (b : Bool) : (x.setBit a i b).jobs = x.jobs := rfl

@[simp] theorem Half.orReg_id (x : Half) (a : Nat) (m : Word) : (x.orReg a m).id = x.id := rfl
@[simp] theorem Half.orReg_st (x : Half) (a : Nat) (m : Word) : (x.orReg a m).st = x.st := rfl
@[simp] theorem Half.orReg_rdata (x : Half) (a : Nat) (m : Word) : (x.orReg a m).rdata = x.rdata := rfl
@[simp] theorem Half.orReg_tx (x : Half) (a : Nat) (m : Word) : (x.orReg a m).tx = x.tx := rfl
@[simp] theorem Half.orReg_fresh (x : Half) (a : Nat) (m : Word) : (x.orReg a m).fresh = x.fresh := rfl
@[simp] theorem Half.orReg_sys (x : Half) (a : Nat) (m : Word) : (x.orReg a m).sys = x.sys := rfl
@[simp] theorem Half.orReg_boot (x : Half) (a : Nat) (m : Word) : (x.orReg a m).boot = x.boot := rfl
@[simp] theorem Half.orReg_cfg (x : Half) (a : Nat) (m : Word) : (x.orReg a m).cfg = x.cfg := rfl
@[simp] theorem Half.orReg_role (x : Half) (a : Nat) (m : Word) : (x.orReg a m).role = x.role := rfl
@[simp] theorem Half.orReg_span (x : Half) (a : Nat) (m : Word) : (x.orReg a m).span = x.span := rfl
@[simp] theorem Half.orReg_copy (x : Half) (a : Nat) (m : Word) : (x.orReg a m).copy = x.copy := rfl
@[simp] theorem Half.orReg_fc (x : Half) (a : Nat) (m : Word) : (x.orReg a m).fc = x.fc := rfl
@[simp] theorem Half.orReg_ts (x : Half) (a : Nat) (m : Word) : (x.orReg a m).ts = x.ts := rfl
@[simp] theorem Half.orReg_evr (x : Half) (a : Nat) (m : Word) : (x.orReg a m).evr = x.evr := rfl
@[simp] theorem Half.orReg_mbx (x : Half) (a : Nat) (m : Word) : (x.orReg a m).mbx = x.mbx := rfl
@[simp] theorem Half.orReg_task (x : Half) (a : Nat) (m : Word) : (x.orReg a m).task = x.task := rfl
@[simp] theorem Half.orReg_dio (x : Half) (a : Nat) (m : Word) : (x.orReg a m).dio = x.dio := rfl
@[simp] theorem Half.orReg_aio (x : Half) (a : Nat) (m : Word) : (x.orReg a m).aio = x.aio := rfl
@[simp] theorem Half.orReg_obj (x : Half) (a : Nat) (m : Word) : (x.orReg a m).obj = x.obj := rfl
@[simp] theorem Half.orReg_ce (x : Half) (a : Nat) (m : Word) : (x.orReg a m).ce = x.ce := rfl
@[simp] theorem Half.orReg_vd (x : Half) (a : Nat) (m : Word) : (x.orReg a m).vd = x.vd := rfl
@[simp] theorem Half.orReg_saf (x : Half) (a : Nat) (m : Word) : (x.orReg a m).saf = x.saf := rfl
@[simp] theorem Half.orReg_can (x : Half) (a : Nat) (m : Word) : (x.orReg a m).can = x.can := rfl
@[simp] theorem Half.orReg_net (x : Half) (a : Nat) (m : Word) : (x.orReg a m).net = x.net := rfl
@[simp] theorem Half.orReg_cv (x : Half) (a : Nat) (m : Word) : (x.orReg a m).cv = x.cv := rfl
@[simp] theorem Half.orReg_nor (x : Half) (a : Nat) (m : Word) : (x.orReg a m).nor = x.nor := rfl
@[simp] theorem Half.orReg_dsp (x : Half) (a : Nat) (m : Word) : (x.orReg a m).dsp = x.dsp := rfl
@[simp] theorem Half.orReg_jobs (x : Half) (a : Nat) (m : Word) : (x.orReg a m).jobs = x.jobs := rfl

@[simp] theorem Half.clrReg_id (x : Half) (a : Nat) (m : Word) : (x.clrReg a m).id = x.id := rfl
@[simp] theorem Half.clrReg_st (x : Half) (a : Nat) (m : Word) : (x.clrReg a m).st = x.st := rfl
@[simp] theorem Half.clrReg_rdata (x : Half) (a : Nat) (m : Word) : (x.clrReg a m).rdata = x.rdata := rfl
@[simp] theorem Half.clrReg_tx (x : Half) (a : Nat) (m : Word) : (x.clrReg a m).tx = x.tx := rfl
@[simp] theorem Half.clrReg_fresh (x : Half) (a : Nat) (m : Word) : (x.clrReg a m).fresh = x.fresh := rfl
@[simp] theorem Half.clrReg_sys (x : Half) (a : Nat) (m : Word) : (x.clrReg a m).sys = x.sys := rfl
@[simp] theorem Half.clrReg_boot (x : Half) (a : Nat) (m : Word) : (x.clrReg a m).boot = x.boot := rfl
@[simp] theorem Half.clrReg_cfg (x : Half) (a : Nat) (m : Word) : (x.clrReg a m).cfg = x.cfg := rfl
@[simp] theorem Half.clrReg_role (x : Half) (a : Nat) (m : Word) : (x.clrReg a m).role = x.role := rfl
@[simp] theorem Half.clrReg_span (x : Half) (a : Nat) (m : Word) : (x.clrReg a m).span = x.span := rfl
@[simp] theorem Half.clrReg_copy (x : Half) (a : Nat) (m : Word) : (x.clrReg a m).copy = x.copy := rfl
@[simp] theorem Half.clrReg_fc (x : Half) (a : Nat) (m : Word) : (x.clrReg a m).fc = x.fc := rfl
@[simp] theorem Half.clrReg_ts (x : Half) (a : Nat) (m : Word) : (x.clrReg a m).ts = x.ts := rfl
@[simp] theorem Half.clrReg_evr (x : Half) (a : Nat) (m : Word) : (x.clrReg a m).evr = x.evr := rfl
@[simp] theorem Half.clrReg_mbx (x : Half) (a : Nat) (m : Word) : (x.clrReg a m).mbx = x.mbx := rfl
@[simp] theorem Half.clrReg_task (x : Half) (a : Nat) (m : Word) : (x.clrReg a m).task = x.task := rfl
@[simp] theorem Half.clrReg_dio (x : Half) (a : Nat) (m : Word) : (x.clrReg a m).dio = x.dio := rfl
@[simp] theorem Half.clrReg_aio (x : Half) (a : Nat) (m : Word) : (x.clrReg a m).aio = x.aio := rfl
@[simp] theorem Half.clrReg_obj (x : Half) (a : Nat) (m : Word) : (x.clrReg a m).obj = x.obj := rfl
@[simp] theorem Half.clrReg_ce (x : Half) (a : Nat) (m : Word) : (x.clrReg a m).ce = x.ce := rfl
@[simp] theorem Half.clrReg_vd (x : Half) (a : Nat) (m : Word) : (x.clrReg a m).vd = x.vd := rfl
@[simp] theorem Half.clrReg_saf (x : Half) (a : Nat) (m : Word) : (x.clrReg a m).saf = x.saf := rfl
@[simp] theorem Half.clrReg_can (x : Half) (a : Nat) (m : Word) : (x.clrReg a m).can = x.can := rfl
@[simp] theorem Half.clrReg_net (x : Half) (a : Nat) (m : Word) : (x.clrReg a m).net = x.net := rfl
@[simp] theorem Half.clrReg_cv (x : Half) (a : Nat) (m : Word) : (x.clrReg a m).cv = x.cv := rfl
@[simp] theorem Half.clrReg_nor (x : Half) (a : Nat) (m : Word) : (x.clrReg a m).nor = x.nor := rfl
@[simp] theorem Half.clrReg_dsp (x : Half) (a : Nat) (m : Word) : (x.clrReg a m).dsp = x.dsp := rfl
@[simp] theorem Half.clrReg_jobs (x : Half) (a : Nat) (m : Word) : (x.clrReg a m).jobs = x.jobs := rfl

@[simp] theorem Half.incSat_id (x : Half) (a : Nat) : (x.incSat a).id = x.id := rfl
@[simp] theorem Half.incSat_st (x : Half) (a : Nat) : (x.incSat a).st = x.st := rfl
@[simp] theorem Half.incSat_rdata (x : Half) (a : Nat) : (x.incSat a).rdata = x.rdata := rfl
@[simp] theorem Half.incSat_tx (x : Half) (a : Nat) : (x.incSat a).tx = x.tx := rfl
@[simp] theorem Half.incSat_fresh (x : Half) (a : Nat) : (x.incSat a).fresh = x.fresh := rfl
@[simp] theorem Half.incSat_sys (x : Half) (a : Nat) : (x.incSat a).sys = x.sys := rfl
@[simp] theorem Half.incSat_boot (x : Half) (a : Nat) : (x.incSat a).boot = x.boot := rfl
@[simp] theorem Half.incSat_cfg (x : Half) (a : Nat) : (x.incSat a).cfg = x.cfg := rfl
@[simp] theorem Half.incSat_role (x : Half) (a : Nat) : (x.incSat a).role = x.role := rfl
@[simp] theorem Half.incSat_span (x : Half) (a : Nat) : (x.incSat a).span = x.span := rfl
@[simp] theorem Half.incSat_copy (x : Half) (a : Nat) : (x.incSat a).copy = x.copy := rfl
@[simp] theorem Half.incSat_fc (x : Half) (a : Nat) : (x.incSat a).fc = x.fc := rfl
@[simp] theorem Half.incSat_ts (x : Half) (a : Nat) : (x.incSat a).ts = x.ts := rfl
@[simp] theorem Half.incSat_evr (x : Half) (a : Nat) : (x.incSat a).evr = x.evr := rfl
@[simp] theorem Half.incSat_mbx (x : Half) (a : Nat) : (x.incSat a).mbx = x.mbx := rfl
@[simp] theorem Half.incSat_task (x : Half) (a : Nat) : (x.incSat a).task = x.task := rfl
@[simp] theorem Half.incSat_dio (x : Half) (a : Nat) : (x.incSat a).dio = x.dio := rfl
@[simp] theorem Half.incSat_aio (x : Half) (a : Nat) : (x.incSat a).aio = x.aio := rfl
@[simp] theorem Half.incSat_obj (x : Half) (a : Nat) : (x.incSat a).obj = x.obj := rfl
@[simp] theorem Half.incSat_ce (x : Half) (a : Nat) : (x.incSat a).ce = x.ce := rfl
@[simp] theorem Half.incSat_vd (x : Half) (a : Nat) : (x.incSat a).vd = x.vd := rfl
@[simp] theorem Half.incSat_saf (x : Half) (a : Nat) : (x.incSat a).saf = x.saf := rfl
@[simp] theorem Half.incSat_can (x : Half) (a : Nat) : (x.incSat a).can = x.can := rfl
@[simp] theorem Half.incSat_net (x : Half) (a : Nat) : (x.incSat a).net = x.net := rfl
@[simp] theorem Half.incSat_cv (x : Half) (a : Nat) : (x.incSat a).cv = x.cv := rfl
@[simp] theorem Half.incSat_nor (x : Half) (a : Nat) : (x.incSat a).nor = x.nor := rfl
@[simp] theorem Half.incSat_dsp (x : Half) (a : Nat) : (x.incSat a).dsp = x.dsp := rfl
@[simp] theorem Half.incSat_jobs (x : Half) (a : Nat) : (x.incSat a).jobs = x.jobs := rfl

@[simp] theorem Half.free_id (x : Half) : x.free.2.id = x.id := rfl
@[simp] theorem Half.free_st (x : Half) : x.free.2.st = x.st := rfl
@[simp] theorem Half.free_rdata (x : Half) : x.free.2.rdata = x.rdata := rfl
@[simp] theorem Half.free_tx (x : Half) : x.free.2.tx = x.tx := rfl
@[simp] theorem Half.free_sys (x : Half) : x.free.2.sys = x.sys := rfl
@[simp] theorem Half.free_boot (x : Half) : x.free.2.boot = x.boot := rfl
@[simp] theorem Half.free_cfg (x : Half) : x.free.2.cfg = x.cfg := rfl
@[simp] theorem Half.free_role (x : Half) : x.free.2.role = x.role := rfl
@[simp] theorem Half.free_span (x : Half) : x.free.2.span = x.span := rfl
@[simp] theorem Half.free_copy (x : Half) : x.free.2.copy = x.copy := rfl
@[simp] theorem Half.free_fc (x : Half) : x.free.2.fc = x.fc := rfl
@[simp] theorem Half.free_ts (x : Half) : x.free.2.ts = x.ts := rfl
@[simp] theorem Half.free_evr (x : Half) : x.free.2.evr = x.evr := rfl
@[simp] theorem Half.free_mbx (x : Half) : x.free.2.mbx = x.mbx := rfl
@[simp] theorem Half.free_task (x : Half) : x.free.2.task = x.task := rfl
@[simp] theorem Half.free_dio (x : Half) : x.free.2.dio = x.dio := rfl
@[simp] theorem Half.free_aio (x : Half) : x.free.2.aio = x.aio := rfl
@[simp] theorem Half.free_obj (x : Half) : x.free.2.obj = x.obj := rfl
@[simp] theorem Half.free_ce (x : Half) : x.free.2.ce = x.ce := rfl
@[simp] theorem Half.free_vd (x : Half) : x.free.2.vd = x.vd := rfl
@[simp] theorem Half.free_saf (x : Half) : x.free.2.saf = x.saf := rfl
@[simp] theorem Half.free_can (x : Half) : x.free.2.can = x.can := rfl
@[simp] theorem Half.free_net (x : Half) : x.free.2.net = x.net := rfl
@[simp] theorem Half.free_cv (x : Half) : x.free.2.cv = x.cv := rfl
@[simp] theorem Half.free_nor (x : Half) : x.free.2.nor = x.nor := rfl
@[simp] theorem Half.free_dsp (x : Half) : x.free.2.dsp = x.dsp := rfl
@[simp] theorem Half.free_jobs (x : Half) : x.free.2.jobs = x.jobs := rfl
@[simp] theorem Half.free_fresh (x : Half) : x.free.2.fresh = x.fresh + 1 := rfl
@[simp] theorem Half.free_regs (x : Half) : x.free.2.regs = x.regs := rfl

/-! ### Operations with a condition: the fields they leave -/

@[simp] theorem Half.irq_id (x : Half) (stat en bit src : Nat) : (x.irq stat en bit src).id = x.id := by
  unfold Half.irq; dsimp only; split <;> rfl
@[simp] theorem Half.irq_st (x : Half) (stat en bit src : Nat) : (x.irq stat en bit src).st = x.st := by
  unfold Half.irq; dsimp only; split <;> rfl
@[simp] theorem Half.irq_rdata (x : Half) (stat en bit src : Nat) : (x.irq stat en bit src).rdata = x.rdata := by
  unfold Half.irq; dsimp only; split <;> rfl
@[simp] theorem Half.irq_tx (x : Half) (stat en bit src : Nat) : (x.irq stat en bit src).tx = x.tx := by
  unfold Half.irq; dsimp only; split <;> rfl
@[simp] theorem Half.irq_fresh (x : Half) (stat en bit src : Nat) : (x.irq stat en bit src).fresh = x.fresh := by
  unfold Half.irq; dsimp only; split <;> rfl
@[simp] theorem Half.irq_sys (x : Half) (stat en bit src : Nat) : (x.irq stat en bit src).sys = x.sys := by
  unfold Half.irq; dsimp only; split <;> rfl
@[simp] theorem Half.irq_boot (x : Half) (stat en bit src : Nat) : (x.irq stat en bit src).boot = x.boot := by
  unfold Half.irq; dsimp only; split <;> rfl
@[simp] theorem Half.irq_cfg (x : Half) (stat en bit src : Nat) : (x.irq stat en bit src).cfg = x.cfg := by
  unfold Half.irq; dsimp only; split <;> rfl
@[simp] theorem Half.irq_role (x : Half) (stat en bit src : Nat) : (x.irq stat en bit src).role = x.role := by
  unfold Half.irq; dsimp only; split <;> rfl
@[simp] theorem Half.irq_span (x : Half) (stat en bit src : Nat) : (x.irq stat en bit src).span = x.span := by
  unfold Half.irq; dsimp only; split <;> rfl
@[simp] theorem Half.irq_copy (x : Half) (stat en bit src : Nat) : (x.irq stat en bit src).copy = x.copy := by
  unfold Half.irq; dsimp only; split <;> rfl
@[simp] theorem Half.irq_fc (x : Half) (stat en bit src : Nat) : (x.irq stat en bit src).fc = x.fc := by
  unfold Half.irq; dsimp only; split <;> rfl
@[simp] theorem Half.irq_ts (x : Half) (stat en bit src : Nat) : (x.irq stat en bit src).ts = x.ts := by
  unfold Half.irq; dsimp only; split <;> rfl
@[simp] theorem Half.irq_evr (x : Half) (stat en bit src : Nat) : (x.irq stat en bit src).evr = x.evr := by
  unfold Half.irq; dsimp only; split <;> rfl
@[simp] theorem Half.irq_mbx (x : Half) (stat en bit src : Nat) : (x.irq stat en bit src).mbx = x.mbx := by
  unfold Half.irq; dsimp only; split <;> rfl
@[simp] theorem Half.irq_task (x : Half) (stat en bit src : Nat) : (x.irq stat en bit src).task = x.task := by
  unfold Half.irq; dsimp only; split <;> rfl
@[simp] theorem Half.irq_dio (x : Half) (stat en bit src : Nat) : (x.irq stat en bit src).dio = x.dio := by
  unfold Half.irq; dsimp only; split <;> rfl
@[simp] theorem Half.irq_aio (x : Half) (stat en bit src : Nat) : (x.irq stat en bit src).aio = x.aio := by
  unfold Half.irq; dsimp only; split <;> rfl
@[simp] theorem Half.irq_obj (x : Half) (stat en bit src : Nat) : (x.irq stat en bit src).obj = x.obj := by
  unfold Half.irq; dsimp only; split <;> rfl
@[simp] theorem Half.irq_ce (x : Half) (stat en bit src : Nat) : (x.irq stat en bit src).ce = x.ce := by
  unfold Half.irq; dsimp only; split <;> rfl
@[simp] theorem Half.irq_vd (x : Half) (stat en bit src : Nat) : (x.irq stat en bit src).vd = x.vd := by
  unfold Half.irq; dsimp only; split <;> rfl
@[simp] theorem Half.irq_saf (x : Half) (stat en bit src : Nat) : (x.irq stat en bit src).saf = x.saf := by
  unfold Half.irq; dsimp only; split <;> rfl
@[simp] theorem Half.irq_can (x : Half) (stat en bit src : Nat) : (x.irq stat en bit src).can = x.can := by
  unfold Half.irq; dsimp only; split <;> rfl
@[simp] theorem Half.irq_net (x : Half) (stat en bit src : Nat) : (x.irq stat en bit src).net = x.net := by
  unfold Half.irq; dsimp only; split <;> rfl
@[simp] theorem Half.irq_cv (x : Half) (stat en bit src : Nat) : (x.irq stat en bit src).cv = x.cv := by
  unfold Half.irq; dsimp only; split <;> rfl
@[simp] theorem Half.irq_nor (x : Half) (stat en bit src : Nat) : (x.irq stat en bit src).nor = x.nor := by
  unfold Half.irq; dsimp only; split <;> rfl
@[simp] theorem Half.irq_dsp (x : Half) (stat en bit src : Nat) : (x.irq stat en bit src).dsp = x.dsp := by
  unfold Half.irq; dsimp only; split <;> rfl
@[simp] theorem Half.irq_jobs (x : Half) (stat en bit src : Nat) : (x.irq stat en bit src).jobs = x.jobs := by
  unfold Half.irq; dsimp only; split <;> rfl

end Sys2Proof.Machine
end

