-- ==== Sys2Proof/Laws/Tables.lean ====
section
/-! SUPPORT. The laws of the indexed tables: a record reads back as it was put, every other record is left alone; and the
same of each unit's record in a half. -/
namespace Sys2Proof.Machine

@[simp] theorem Tab.get_put_self {α : Type} (d : α) (t : Tab α) (i : Nat) (v : α) : Tab.get d (Tab.put t i v) i = v := by
  induction t with
  | nil => simp [Tab.put, Tab.get]
  | cons e t ih =>
    obtain ⟨k, w⟩ := e
    by_cases h : k = i
    · simp [Tab.put, Tab.get, h]
    · by_cases h2 : Nat.blt i k = true <;> simp [Tab.put, Tab.get, h, h2, ih]

theorem Tab.get_put_other {α : Type} (d : α) (t : Tab α) {i j : Nat} (hj : j ≠ i) (v : α) :
    Tab.get d (Tab.put t i v) j = Tab.get d t j := by
  induction t with
  | nil => simp [Tab.put, Tab.get, Ne.symm hj]
  | cons e t ih =>
    obtain ⟨k, w⟩ := e
    by_cases h : k = i
    · subst h; simp [Tab.put, Tab.get, Ne.symm hj]
    · by_cases h2 : Nat.blt i k = true
      · simp [Tab.put, Tab.get, h, h2, Ne.symm hj]
      · by_cases h3 : k = j
        · subst h3; simp [Tab.put, Tab.get, h, h2]
        · simp [Tab.put, Tab.get, h, h2, h3, ih]

@[simp] theorem Tab.get_upd_self {α : Type} (d : α) (t : Tab α) (i : Nat) (f : α → α) :
    Tab.get d (Tab.upd d t i f) i = f (Tab.get d t i) := Tab.get_put_self d t i _

theorem Tab.get_upd_other {α : Type} (d : α) (t : Tab α) {i j : Nat} (hj : j ≠ i) (f : α → α) :
    Tab.get d (Tab.upd d t i f) j = Tab.get d t j := Tab.get_put_other d t hj _

theorem Tab.get_eq {α : Type} (d : α) (t : Tab α) (i : Nat) : Tab.get d t i = (Tab.get? t i).getD d := by
  induction t with
  | nil => rfl
  | cons e t ih =>
    obtain ⟨k, w⟩ := e
    by_cases h : k = i <;> simp [Tab.get, Tab.get?, h, ih]

/-- A present task's state after a change; a task not present stays absent. -/
theorem Half.tsk_modTsk (x : Half) (t : Nat) (f : TaskSt → TaskSt) :
    (x.modTsk t f).tsk t = f (x.tsk t) ∨ x.modTsk t f = x ∧ x.tsk t = {} := by
  unfold Half.modTsk
  split
  · next k hk => exact .inl (by simp [Half.tsk, Tab.get_eq _ x.task.tasks, hk])
  · next hk => exact .inr ⟨rfl, by simp [Half.tsk, Tab.get_eq, hk]⟩

@[simp] theorem Half.chainSt_modChain (x : Half) (i : Nat) (f : ChainSt → ChainSt) : (x.modChain i f).chainSt i = f (x.chainSt i) := Tab.get_upd_self ..
theorem Half.chainSt_modChain_other (x : Half) {i j : Nat} (hj : j ≠ i) (f : ChainSt → ChainSt) : (x.modChain i f).chainSt j = x.chainSt j := Tab.get_upd_other _ _ hj f
@[simp] theorem Half.vd_modVd (x : Half) (i : Nat) (f : VdSt → VdSt) : (x.modVd i f).vd_ i = f (x.vd_ i) := Tab.get_upd_self ..
theorem Half.vd_modVd_other (x : Half) {i j : Nat} (hj : j ≠ i) (f : VdSt → VdSt) : (x.modVd i f).vd_ j = x.vd_ j := Tab.get_upd_other _ _ hj f
@[simp] theorem Half.tg_modTg (x : Half) (i : Nat) (f : TgSt → TgSt) : (x.modTg i f).tg i = f (x.tg i) := Tab.get_upd_self ..
theorem Half.tg_modTg_other (x : Half) {i j : Nat} (hj : j ≠ i) (f : TgSt → TgSt) : (x.modTg i f).tg j = x.tg j := Tab.get_upd_other _ _ hj f
@[simp] theorem Half.tc_modTc (x : Half) (i : Nat) (f : TcSt → TcSt) : (x.modTc i f).tc i = f (x.tc i) := Tab.get_upd_self ..
theorem Half.tc_modTc_other (x : Half) {i j : Nat} (hj : j ≠ i) (f : TcSt → TcSt) : (x.modTc i f).tc j = x.tc j := Tab.get_upd_other _ _ hj f
@[simp] theorem Half.ai_modAi (x : Half) (i : Nat) (f : AiSt → AiSt) : (x.modAi i f).ai i = f (x.ai i) := Tab.get_upd_self ..
theorem Half.ai_modAi_other (x : Half) {i j : Nat} (hj : j ≠ i) (f : AiSt → AiSt) : (x.modAi i f).ai j = x.ai j := Tab.get_upd_other _ _ hj f
@[simp] theorem Half.canCtl_modCan (x : Half) (i : Nat) (f : CanCtl → CanCtl) : (x.modCan i f).canCtl i = f (x.canCtl i) := Tab.get_upd_self ..
theorem Half.canCtl_modCan_other (x : Half) {i j : Nat} (hj : j ≠ i) (f : CanCtl → CanCtl) : (x.modCan i f).canCtl j = x.canCtl j := Tab.get_upd_other _ _ hj f
@[simp] theorem Half.serBus_modSer (x : Half) (i : Nat) (f : SerBus → SerBus) : (x.modSer i f).serBus i = f (x.serBus i) := Tab.get_upd_self ..
theorem Half.serBus_modSer_other (x : Half) {i j : Nat} (hj : j ≠ i) (f : SerBus → SerBus) : (x.modSer i f).serBus j = x.serBus j := Tab.get_upd_other _ _ hj f
@[simp] theorem Half.station_modStation (x : Half) (i : Nat) (f : StationSt → StationSt) : (x.modStation i f).station i = f (x.station i) := Tab.get_upd_self ..
theorem Half.station_modStation_other (x : Half) {i j : Nat} (hj : j ≠ i) (f : StationSt → StationSt) : (x.modStation i f).station j = x.station j := Tab.get_upd_other _ _ hj f
@[simp] theorem Half.chan_modChan (x : Half) (i : Nat) (f : Chan → Chan) : (x.modChan i f).chan i = f (x.chan i) := Tab.get_upd_self ..
theorem Half.chan_modChan_other (x : Half) {i j : Nat} (hj : j ≠ i) (f : Chan → Chan) : (x.modChan i f).chan j = x.chan j := Tab.get_upd_other _ _ hj f
@[simp] theorem Half.port_modPort (x : Half) (i : Nat) (f : PtpPort → PtpPort) : (x.modPort i f).port i = f (x.port i) := Tab.get_upd_self ..
theorem Half.port_modPort_other (x : Half) {i j : Nat} (hj : j ≠ i) (f : PtpPort → PtpPort) : (x.modPort i f).port j = x.port j := Tab.get_upd_other _ _ hj f
@[simp] theorem Half.region_modRegion (x : Half) (i : Nat) (f : Region → Region) : (x.modRegion i f).region i = f (x.region i) := Tab.get_upd_self ..
theorem Half.region_modRegion_other (x : Half) {i j : Nat} (hj : j ≠ i) (f : Region → Region) : (x.modRegion i f).region j = x.region j := Tab.get_upd_other _ _ hj f
@[simp] theorem Half.copyOf_modCopy (x : Half) (i : Nat) (f : TaskCopy → TaskCopy) : (x.modCopy i f).copyOf i = f (x.copyOf i) := Tab.get_upd_self ..
theorem Half.copyOf_modCopy_other (x : Half) {i j : Nat} (hj : j ≠ i) (f : TaskCopy → TaskCopy) : (x.modCopy i f).copyOf j = x.copyOf j := Tab.get_upd_other _ _ hj f

end Sys2Proof.Machine
end

