-- ==== Sys2Proof/WellFormed.lean ====
section
/-! DEFINITION. Well-formed commands: every number that names a part of the station lies in the manual's range for that
part. A command that is not well-formed names no part of the station. -/
namespace Sys2Proof

/-- A fault source number (R226): the FC_INJ field has 7 bits. -/
def isSourceNumber (src : Nat) : Bool := Nat.blt src 128

/-- An address in the peripheral windows (R505, R514). -/
def isRegisterAddress (addr : Nat) : Bool :=
  Nat.ble 0x30000000 addr && Nat.blt addr 0x30100000 && addr % 4 == 0

/-- A command is well-formed. -/
def Instr.wf (c : Instr) : Bool :=
  match c with
  | .taskRelease _ task => Nat.blt task 16
  | .minimumSeparationEnd _ task => Nat.blt task 16
  | .eventTaskDeadline _ task => Nat.blt task 16
  | .swTaskHang _ task => Nat.blt task 16
  | .taskCycleStart _ => true
  | .configSwitchTimeout _ task => Nat.blt task 16
  | .blockBoundary _ => true
  | .taskCycleEnd _ => true
  | .outputUpdate _ task => Nat.blt task 16
  | .chainTrigger _ chain => Nat.blt chain 256
  | .sampleDispatch _ => true
  | .chainSampleComplete _ chain => Nat.blt chain 256
  | .ceTrackSend _ => true
  | .ceTrack _ _ _ => true
  | .ceCmdRun _ chain => Nat.blt chain 256
  | .ceCmdHold _ chain => Nat.blt chain 256
  | .ceCmdOff _ chain => Nat.blt chain 256
  | .ceCmdRestart _ chain => Nat.blt chain 256
  | .ceSwap _ chain _ _ => Nat.blt chain 256
  | .ceLevelMaxRead _ => true
  | .vdThresholdCross _ vd _ => Nat.blt vd 8
  | .vdMinTimeEnd _ vd _ => Nat.blt vd 8
  | .vdFfRefresh _ vd _ _ => Nat.blt vd 8
  | .vdSarConversion _ vd _ => Nat.blt vd 8
  | .vdOpenLoad _ vd => Nat.blt vd 8
  | .vdOpenLoadRetry _ vd => Nat.blt vd 8
  | .vdShort _ vd => Nat.blt vd 8
  | .vdShortRetry _ vd => Nat.blt vd 8
  | .vdOvertemp _ vd => Nat.blt vd 8
  | .vdOvertempClear _ vd => Nat.blt vd 8
  | .vdRegErr _ vd => Nat.blt vd 8
  | .tgStart _ tg => Nat.blt tg 4
  | .tgStop _ tg => Nat.blt tg 4
  | .tgRunStart _ tg => Nat.blt tg 4
  | .tgDone _ tg => Nat.blt tg 4
  | .tcArm _ tc => Nat.blt tc 8
  | .tcTrigger _ tc => Nat.blt tc 8
  | .tcStop _ tc => Nat.blt tc 8
  | .tcReset _ tc => Nat.blt tc 8
  | .safetyTaskCycle _ _ _ => true
  | .safeWdg _ => true
  | .sealChange _ _ => true
  | .queueTrip _ => true
  | .paramChunk _ => true
  | .paramEnd _ => true
  | .queueTimeEntry _ => true
  | .proofStart _ => true
  | .proofTestComplete _ _ => true
  | .siFilterChange _ si _ => Nat.blt si 16
  | .matrixBackstopExpire _ _ so => Nat.blt so 8
  | .pairDiscrepancy _ pair => Nat.blt pair 8
  | .tpDarkPulse _ tp _ _ => Nat.blt tp 8
  | .tpMasterTakeover _ tp => Nat.blt tp 8
  | .functionDelayElapsed _ f => Nat.blt f 16
  | .twohandSyncTimeout _ f => Nat.blt f 16
  | .guardAutoReset _ f => Nat.blt f 16
  | .scrupleFiEdge _ fi => Nat.blt fi 2
  | .safeFi _ f => Nat.blt f 16
  | .soSwitchTest _ so _ => Nat.blt so 8
  | .soSwitchTestEnd _ so _ _ => Nat.blt so 8
  | .xtripAssert _ so => Nat.blt so 8
  | .xtripReceive _ => true
  | .safeXtripRx _ => true
  | .xtripWiring _ => true
  | .srsLevelChange _ srs => Nat.blt srs 4
  | .resetHeld _ srs => Nat.blt srs 4
  | .srsRecoverEnd _ srs => Nat.blt srs 4
  | .readbackReset _ f => Nat.blt f 16
  | .proofOverdue _ => true
  | .pd0PowerOn _ _ => true
  | .pdRailGood _ pd => Nat.blt pd 8
  | .bootRomStart _ => true
  | .bootImageVerified _ _ => true
  | .bootRetry _ => true
  | .nativeImageStart _ _ => true
  | .nativeImageReturn _ _ => true
  | .nativeImageTimeout _ => true
  | .startupDone _ => true
  | .negotiationTimeout _ => true
  | .applicationLoadDone _ => true
  | .claimInvalid _ => true
  | .claimValid _ => true
  | .claimLineEnd _ => true
  | .presenceBreak _ => true
  | .partnerAbsent _ => true
  | .partnerReleased _ => true
  | .takeoverDecision _ => true
  | .holdWindowEnd _ => true
  | .heartbeatSend _ => true
  | .heartbeat _ _ _ => true
  | .heartbeatTimeout _ => true
  | .spanLinkLoss _ => true
  | .peerArmedTimeout _ => true
  | .spanFrameDiscard _ => true
  | .spanRelRetransmit _ _ => true
  | .stateDelta _ _ _ => true
  | .cycleEnd _ _ _ => true
  | .fullCopyComplete _ => true
  | .cfgFrame _ _ _ => true
  | .peerMbx _ _ _ _ => true
  | .roleOffer _ _ _ => true
  | .roleAccept _ => true
  | .roleRefuse _ => true
  | .roleAbort _ => true
  | .roleRelinquish _ => true
  | .roleClaimed _ => true
  | .offerTimeout _ => true
  | .handoverInstantH _ => true
  | .handoverInstantHV _ => true
  | .incomingVdStart _ => true
  | .handoverDoRelease _ => true
  | .handoverComplete _ => true
  | .handoverTimeout _ => true
  | .periodicSwap _ _ => true
  | .swapOverdue _ => true
  | .releaseButtonHold _ _ => true
  | .releaseRecoveryHold _ => true
  | .faultRaise _ src => isSourceNumber src
  | .sourcePairInvalid _ src => isSourceNumber src
  | .reactionWindowExpire _ src => isSourceNumber src
  | .fcPendClear _ i _ => Nat.blt i 4
  | .heldFaultRelease _ => true
  | .classClear _ cls => Nat.blt cls 12
  | .domainResetEnd _ pd => Nat.blt pd 8
  | .quietL2Expire _ cls => Nat.blt cls 12
  | .fcLatchMark _ => true
  | .lockstepMismatch _ _ _ => true
  | .flushTimerExpire _ _ => true
  | .flushSup _ => true
  | .flushApp _ => true
  | .fcInj _ src => isSourceNumber src
  | .fcEvtPop _ => true
  | .fcLock _ => true
  | .fcCfgChk _ => true
  | .fixtureLoss _ => true
  | .swSupWdg _ => true
  | .eccError _ _ _ => true
  | .thermalThreshold _ _ => true
  | .clockMonitorWindow _ _ _ _ => true
  | .leagueHeartbeatSend _ => true
  | .leagueHeartbeat _ _ => true
  | .workerLost _ station => Nat.blt station 4096
  | .managerLost _ => true
  | .exchange _ _ => true
  | .refresh _ _ => true
  | .relay _ _ => true
  | .join _ _ => true
  | .joinReply _ result _ _ => Nat.blt result 256
  | .refreshReq _ task => Nat.blt task 16
  | .stationState _ station _ => Nat.blt station 4096
  | .fragmentTimeout _ station task => Nat.blt station 4096 && Nat.blt task 16
  | .refreshSend _ task => Nat.blt task 16
  | .fullRefreshStart _ => true
  | .fullRefreshDeadline _ task => Nat.blt task 16
  | .storeBatch _ => true
  | .commandConsume _ ch => Nat.blt ch 8
  | .completionPost _ ch tag => Nat.blt ch 8 && Nat.blt tag 64
  | .notificationPost _ sub => Nat.blt sub 256
  | .mbxCh0SqTail _ _ => true
  | .mbxCh0CqHead _ _ => true
  | .mbxChnCtrlReset _ ch => Nat.blt ch 8
  | .mbxPoolMaxRead _ => true
  | .dtlsHandshake _ ch _ _ => ch.all (fun c => c == 6)
  | .dtlsKeyUpdate _ ch => Nat.blt ch 8
  | .openSession _ ch gen => Nat.blt ch 8 && Nat.blt gen 16
  | .entries _ ch _ es _ => Nat.blt ch 8 && Nat.ble es.length 21
  | .pointers _ ch _ _ => Nat.blt ch 8
  | .closeSession _ ch => Nat.blt ch 8
  | .completionRetransmit _ ch => Nat.blt ch 8
  | .pointersKeepalive _ ch => Nat.blt ch 8
  | .sessionTimeout _ ch => Nat.blt ch 8
  | .mp1Message _ _ _ _ => true
  | .usbDisconnect _ => true
  | .peerCommandTimeout _ ch tag => Nat.blt ch 8 && Nat.blt tag 64
  | .nop _ ch tag => Nat.blt ch 8 && Nat.blt tag 64
  | .identify _ ch tag => Nat.blt ch 8 && Nat.blt tag 64
  | .sessionInfo _ ch tag => Nat.blt ch 8 && Nat.blt tag 64
  | .abort _ ch tag => Nat.blt ch 8 && Nat.blt tag 64
  | .objRead _ ch tag => Nat.blt ch 8 && Nat.blt tag 64
  | .objWrite _ ch tag => Nat.blt ch 8 && Nat.blt tag 64
  | .objReadGroup _ ch tag => Nat.blt ch 8 && Nat.blt tag 64
  | .objSubscribe _ ch tag => Nat.blt ch 8 && Nat.blt tag 64
  | .objUnsubscribe _ ch tag => Nat.blt ch 8 && Nat.blt tag 64
  | .objForce _ ch tag => Nat.blt ch 8 && Nat.blt tag 64
  | .taskState _ ch tag => Nat.blt ch 8 && Nat.blt tag 64
  | .taskStats _ ch tag => Nat.blt ch 8 && Nat.blt tag 64
  | .cfgStage _ ch tag _ => Nat.blt ch 8 && Nat.blt tag 64
  | .cfgVerify _ ch tag => Nat.blt ch 8 && Nat.blt tag 64
  | .cfgCommit _ ch tag => Nat.blt ch 8 && Nat.blt tag 64
  | .cfgRollback _ ch tag => Nat.blt ch 8 && Nat.blt tag 64
  | .fwStage _ ch tag _ => Nat.blt ch 8 && Nat.blt tag 64
  | .fwActivate _ ch tag _ => Nat.blt ch 8 && Nat.blt tag 64
  | .roleQuery _ ch tag => Nat.blt ch 8 && Nat.blt tag 64
  | .roleSwap _ ch tag _ => Nat.blt ch 8 && Nat.blt tag 64
  | .halfRelease _ ch tag _ => Nat.blt ch 8 && Nat.blt tag 64
  | .faultQuery _ ch tag => Nat.blt ch 8 && Nat.blt tag 64
  | .faultAck _ ch tag => Nat.blt ch 8 && Nat.blt tag 64
  | .faultInject _ ch tag => Nat.blt ch 8 && Nat.blt tag 64
  | .recSnapshot _ ch tag => Nat.blt ch 8 && Nat.blt tag 64
  | .recList _ ch tag => Nat.blt ch 8 && Nat.blt tag 64
  | .ceChainWrite _ ch tag => Nat.blt ch 8 && Nat.blt tag 64
  | .ceCoefSwap _ ch tag => Nat.blt ch 8 && Nat.blt tag 64
  | .ceInject _ ch tag => Nat.blt ch 8 && Nat.blt tag 64
  | .ceTraceArm _ ch tag => Nat.blt ch 8 && Nat.blt tag 64
  | .ceTraceRead _ ch tag => Nat.blt ch 8 && Nat.blt tag 64
  | .timeGet _ ch tag => Nat.blt ch 8 && Nat.blt tag 64
  | .timeSource _ ch tag => Nat.blt ch 8 && Nat.blt tag 64
  | .dispUpdate _ ch tag => Nat.blt ch 8 && Nat.blt tag 64
  | .dispStatus _ ch tag => Nat.blt ch 8 && Nat.blt tag 64
  | .leagueJoin _ ch tag => Nat.blt ch 8 && Nat.blt tag 64
  | .leagueStatus _ ch tag => Nat.blt ch 8 && Nat.blt tag 64
  | .safetyStatus _ ch tag => Nat.blt ch 8 && Nat.blt tag 64
  | .tsSrvGo _ => true
  | .tsSrvStep _ => true
  | .tsMonoRead _ => true
  | .monoWrap _ => true
  | .stationWrap _ => true
  | .servoHoldover _ => true
  | .stationTimeSave _ => true
  | .sync _ port _ => Nat.blt port 4
  | .followUp _ port _ => Nat.blt port 4
  | .delayReq _ port m => Nat.blt port 4 && Nat.blt m.domain 256
  | .delayResp _ port _ => Nat.blt port 4
  | .announce _ port _ => Nat.blt port 4
  | .ptpMessageSend _ port _ => Nat.blt port 4
  | .ptpFrameDeparture _ port _ => Nat.blt port 4
  | .announceReceiptTimeout _ port => Nat.blt port 4
  | .ptpPortSyncLoss _ => true
  | .abDis _ => true
  | .spanTimeSend _ => true
  | .spanTimeFrame _ _ _ => true
  | .edgeCapture _ fifo _ _ => Nat.blt fifo 20
  | .tsCapPop _ fifo => Nat.blt fifo 20
  | .diFilterChange _ di => Nat.blt di 64
  | .diSink _ di => Nat.blt di 64
  | .doLimit _ ch => Nat.blt ch 32
  | .doOvertemp _ ch => Nat.blt ch 32
  | .doOvertempClear _ ch => Nat.blt ch 32
  | .doGroup _ group count => Nat.blt group 2 && Nat.ble count 16
  | .doGroupRestart _ ch => Nat.blt ch 32
  | .doOpenLoad _ ch => Nat.blt ch 32
  | .doShort24v _ ch => Nat.blt ch 32
  | .doStuck _ ch => Nat.blt ch 32
  | .fiEdge _ fi _ _ => Nat.blt fi 4
  | .fiSpeedUpdate _ fi => Nat.blt fi 4
  | .fiZero _ fi => Nat.blt fi 4
  | .aiConversion _ ai _ _ _ _ => Nat.blt ai 32
  | .aiBandQuality _ ai => Nat.blt ai 32
  | .aiComply _ ai => Nat.blt ai 32
  | .aiComplyEnd _ ai => Nat.blt ai 32
  | .aiCalibration _ ai bin _ _ _ _ _ _ => Nat.blt ai 32 && Nat.blt bin 31
  | .aoComply _ ao _ _ => Nat.blt ao 8
  | .aoComplyReturn _ ao _ => Nat.blt ao 8
  | .aoOpen _ ao _ => Nat.blt ao 8
  | .aoSink _ ao => Nat.blt ao 8
  | .canFrameReceive _ ctl _ => Nat.blt ctl 4
  | .canSendDue _ ctl obj => Nat.blt ctl 4 && Nat.blt obj 128
  | .canFrameSent _ ctl obj _ => Nat.blt ctl 4 && Nat.blt obj 128
  | .canError _ ctl tec rec => Nat.blt ctl 4 && Nat.blt tec 512 && Nat.blt rec 256
  | .canBusoffRecovered _ ctl => Nat.blt ctl 4
  | .boRel _ ctl => Nat.blt ctl 4
  | .boDelay _ ctl => Nat.blt ctl 4
  | .canRateCandidateTimeout _ ctl => Nat.blt ctl 4
  | .canRateNone _ ctl => Nat.blt ctl 4
  | .canSleep _ ctl => Nat.blt ctl 4
  | .canBusWake _ ctl _ => Nat.blt ctl 4
  | .canRoleChange _ ctl => Nat.blt ctl 4
  | .canXcvr _ ctl => Nat.blt ctl 4
  | .lanFrameReceive _ port _ => Nat.blt port 3
  | .prpSupervisionSend _ => true
  | .prpNodeForget _ _ => true
  | .lanLinkChange _ port _ => Nat.blt port 3
  | .netLanLost _ => true
  | .insSentenceReceive _ _ => true
  | .sentenceTimeout _ _ => true
  | .sentenceSendDue _ _ => true
  | .serFrameReceive _ bus _ => Nat.blt bus 2
  | .modbusPollDue _ bus _ => Nat.blt bus 2
  | .modbusResponseTimeout _ bus => Nat.blt bus 2
  | .serRoleChange _ bus => Nat.blt bus 2
  | .authAddressUnblock _ _ => true
  | .cvJobGo _ slot => Nat.blt slot 8
  | .cvJobStop _ slot => Nat.blt slot 8
  | .cvJobDone _ slot _ _ _ => Nat.blt slot 8
  | .cvJobRepeat _ slot => Nat.blt slot 8
  | .bgActivityDue _ _ _ _ => true
  | .swBgBudget _ _ => true
  | .norErase _ block _ => Nat.blt block 8192
  | .operatingMinute _ => true
  | .evrCommitPass _ => true
  | .dispFrame _ _ => true
  | .coverDetect _ _ => true
  | .coverRemove _ => true
  | .dispNoClaim _ => true
  | .dispDischargeDone _ => true
  | .dispJournalAckTimeout _ slot => Nat.blt slot 16
  | .dispStressSend _ => true
  | .logicFeedFail _ => true
  | .powerFailConfirm _ => true
  | .logicFeedReturn _ _ => true
  | .holdupStoreEmpty _ => true
  | .pwrHoldup _ _ => true
  | .fieldFeedRange _ _ _ => true
  | .domainRailFault _ pd => Nat.blt pd 8
  | .sysRstDomain _ _ => true
  | .sysRstHalf _ => true
  | .spanRelinq _ => true
  | .icuClaimRead _ _ => true
  | .registerWrite _ _ addr _ => isRegisterAddress addr
  | .commandTimeout _ ch tag => Nat.blt ch 8 && Nat.blt tag 64
  | .scrupleResetEnd _ => true
  | .partnerPresent _ => true
  | .fixturePresent _ => true
  | .dispRailFault _ => true
  | .dispRailsOn _ => true
  | .spanLinkUp _ => true
  | .diSample _ _ _ => true
  | .siSample _ _ _ _ _ => true
  | .crossTripEnd _ => true
  | .stationSecond _ => true

end Sys2Proof
end

