-- ==== Sys2Proof/Tests/Slice0.lean ====
section
/-! SUPPORT. Tests: a witness for every statement of the obligations with hypotheses (for each clause, values that meet
all of its hypotheses together), ill-formed commands that the check refuses, and check values from the manual. -/
set_option maxRecDepth 20000
set_option linter.all false
namespace Sys2Proof.Tests
open Sys2Proof.Machine

/-! ### Small states -/

/-- An active half whose power domains are all on. -/
def powered : Half := { st := .active, regs := [(Reg.SYS_PD, 0xFF)] }
/-- The same with its Span link enabled. -/
def linked : Half := { st := .active, regs := [(Reg.SYS_PD, 0xFF), (Reg.SPAN_CTRL, 1)] }
/-- The same 73 minutes after its time unit started. -/
def timeOn : Half := { powered with regs := [(Reg.SYS_PD, 0xFF), (Reg.TS_CTRL, 1)], ts := { mono := 0x4000000000000000000 } }
/-- The same 73 minutes after its power-on. -/
def longPowered : Half := { powered with sys := { up := 0x40000000000 } }
/-- Valve drive 7 with field feed B in range, enabled, and a reference of 100 mA. -/
def driveRef : Half := { st := .active, regs := [(Reg.SYS_STAT, 0x80), (Reg.SYS_PD, 0xFF), (Reg.VD_CTRL 7, 1), (Reg.VD_BAND 7, 0x3E80000), (Reg.VD_STAT 7, 2)], role := { vdRun := true }, vd := { vd := [(7, { iref := f32int 100, condAt := some 0 })] }, ts := { mono := 0x4000000000000000000 } }
def driveRefIdle : Half := { driveRef with regs := [(Reg.SYS_STAT, 0x80), (Reg.SYS_PD, 0xFF), (Reg.VD_CTRL 7, 1), (Reg.VD_BAND 7, 0x3E80000), (Reg.VD_STAT 7, 1)] }
def driveRefB : Half := { driveRef with regs := [(Reg.SYS_STAT, 0x80), (Reg.SYS_PD, 0xFF), (Reg.VD_CTRL 7, 1), (Reg.VD_BAND 7, 0x3E80000), (Reg.VD_STAT 7, 4)] }
/-- Scruple running, with one entry in its request queue. -/
def safetyQueue (op : Nat) (pl : List Byte) : Half :=
  { st := .active, saf := { run := true },
    regs := [(Reg.SYS_PD, 0xFF), (Reg.MBX_CH_SQ_TAIL 1, 1)] ++ (subEntry op 0 pl).zipIdx.map fun e => (ringAddr 0x30026000 0 e.2, e.1) }
/-- An active half that sees its partner in STANDBY with SYNCED set. -/
def offering : Half := { st := .active, regs := [(Reg.SYS_PD, 0xFF), (Reg.SYS_STAT, 2), (Reg.FC_STAT, 8), (Reg.SPAN_CTRL, 1), (Reg.SPAN_STAT, 3)], role := { partner := some { state := 4, synced := true } } }
/-- A drawing display engine. -/
def drawing : Half := { st := .active, regs := [(Reg.SYS_STAT, 8), (Reg.SYS_PD, 0xFF), (Reg.DSP_CTRL, 3), (Reg.DSP_STAT, 3)] }
/-- A submission entry of one word 0. -/
def entryOf (w0 : Word) : Entry := sealEntry 0 (w0 :: 0 :: List.replicate 13 0)
/-- A session on channel 2 with one entry in its ring. -/
def session (e : Entry) : Half :=
  { st := .active, regs := [(Reg.SYS_PD, 0xFF), (Reg.MBX_CTRL, 1), (Reg.MBX_CH_CTRL 2, 0x121)], mbx := { chans := [(2, { sq := [e] })] } }
/-- CAN controller 3 in mode 1 with object 0 configured by the word o, driving its bus. -/
def canBus (ctrl o stat : Word) : Half :=
  { st := .active, regs := [(Reg.SYS_PD, 0xFF), (Reg.CAN_CTRL 3, ctrl), (Reg.CAN_STAT 3, stat), (Reg.CAN_OBJ_CFG 3 0, o)]
    can := { ctl := [(3, { drives := true })] } }
/-- Serial bus 1 of type t, driven, with one poll request. -/
def serialBus (t : Word) (pend : Option (Nat × Nat)) : Half :=
  { st := .active, regs := [(Reg.SYS_PD, 0xFF), (Reg.SER_CTRL, 1), (Reg.SER_B_CFG 1, t)]
    net := { ser := [(1, { drives := true, pend := pend })] }, cfg := { cur := some 0, slot0 := { cfg := some { modbus := [{ bus := 1, req := 0 }] } } } }
/-- Ethernet on, with every port's link up. -/
def allLinksUp : Half := { st := .active, regs := [(Reg.SYS_PD, 0xFF), (Reg.ETH_CTRL, 3), (Reg.ETH_P_STAT 0, 1), (Reg.ETH_P_STAT 1, 1), (Reg.ETH_P_STAT 2, 1)] }
/-- A station of the station halves. -/
def station (x y : Half) : State := { a := x, b := { y with id := .b } }
/-- A half with empty FIFOs and memories beside one as at the start is in canonical form. -/
theorem station_sound {x : Half} (h1 : x.regs.wf = true) (h2 : x.id = .a) (h3 : x.fc.fifo = []) (h4 : x.ts.fifos = [])
    (h5 : (x.can.ram, x.dsp.staging) = ([], [])) : (station x {}).Sound := by
  simp only [Prod.mk.injEq] at h5
  refine ⟨⟨h1, h2, ?_, ?_, ?_, ?_, fun _ => trivial⟩, ⟨rfl, rfl, by simp [station], ?_, rfl, rfl, fun _ => trivial⟩⟩
  · simp [station, h3]
  · simp [station, h4, CapsOk]
  · simp [station, h5.1, Memory.wf]
  · simp [station, h5.2, Memory.wf]
  · simp [station, CapsOk]
def takingOver : Half := { st := .syncing, regs := [(Reg.SYS_PD, 0xFF)] }
/-- FAULT_ACK op k, waiting on channel 0. -/
def ackCommand (k : Byte) : Ctx := { ch := 0, tag := 1, op := 0x61, role := 4, payload := [k, 0, 0, 0] }
def ackHalf (st : HState) (k : Byte) : Half := { powered with st := st, mbx := { ctxs := [ackCommand k] } }
def nativeImage : Image := { kind := 2, target := 1 }
theorem usb_not_control : Reg.MBX_CH_CTRL 6 ≠ Reg.USB_RXCNT := by decide

/-! ### Witnesses -/

theorem witness_TaskRowsComplete :
    (∃ (x : Half) (task : Nat) (c : TaskCfg), x.st ≠ .off ∧ x.taskCfg task = some c ∧ c.event = false ∧ (x.appOn ||
      x.appComes) = true ∧ (x.tsk task).state = .waiting ∧ x.relPassed (x.tsk task) (x.releaseInstant c) (taskTi c) =
      false) ∧
    (∃ (x : Half) (task : Nat) (c : TaskCfg), x.st ≠ .off ∧ x.taskCfg task = some c ∧ c.event = false ∧ (x.appOn ||
      x.appComes) = true ∧ (x.tsk task).state = .running ∧ x.relPassed (x.tsk task) (x.releaseInstant c) (taskTi c) =
      false) ∧
    (∃ (x : Half) (task : Nat), x.st ≠ .off ∧ x.appOn = true ∧ (x.tsk task).sep = true ∧ (x.tsk task).pendAct = false
      ∧ x.gone (x.tsk task).relMono ((x.taskCfg task).elim 0 (·.minSep)) = true) ∧
    (∃ (x : Half) (task : Nat) (y : Half), x.st ≠ .off ∧ x.appOn = true ∧ (x.tsk task).sep = true ∧ (x.tsk
      task).pendAct = true ∧ (x.tsk task).state = .waiting ∧ x.gone (x.tsk task).relMono ((x.taskCfg task).elim 0
      (·.minSep)) = true ∧ y = x.modTsk task (fun k => { k with sep := false })) ∧
    (∃ (x : Half) (task : Nat) (c : TaskCfg), x.st ≠ .off ∧ x.appOn = true ∧ x.taskCfg task = some c ∧ c.event = true
      ∧ inCycle (x.tsk task) = true ∧ x.gone (x.tsk task).relMono c.deadline = true) ∧
    (∃ (x : Half) (task : Nat) (c : TaskCfg), x.st ≠ .off ∧ x.isActive = true ∧ inCycle (x.tsk task) = true ∧
      x.taskCfg task = some c ∧ x.gone (x.tsk task).relMono (hangMs c) = true) ∧
    (∃ (x : Half) (t : Nat), x.st ≠ .off ∧ x.appRuns = true ∧ x.runningTask = none ∧ x.topTask (fun k => k.state ==
      .ready || k.state == .preempted) = some t ∧ (x.tsk t).state = .ready) ∧
    (∃ (x : Half) (t : Nat), x.st ≠ .off ∧ x.appRuns = true ∧ x.runningTask = none ∧ x.topTask (fun k => k.state ==
      .ready || k.state == .preempted) = some t ∧ (x.tsk t).state = .preempted) ∧
    (∃ (x : Half) (task : Nat) (c : TaskCfg), x.st ≠ .off ∧ x.appRuns = true ∧ x.taskCfg task = some c ∧ c.event =
      true ∧ (x.tsk task).switchTo.isSome = true ∧ (x.tsk task).state = .waiting ∧ (x.cfg.pend.any fun p => x.gone
      p.at_ c.deadline) = true) ∧
    (∃ (x : Half) (t : Nat) (c : TaskCfg) (r : CallRec) (y : Half), x.st ≠ .off ∧ x.appRuns = true ∧ x.runningTask =
      some t ∧ x.taskCfg t = some c ∧ c.calls[(x.tsk t).pos]? = some r ∧ y = (x.execCall t c r).modTsk t (fun k =>
      { k with pos := k.pos + 1 }) ∧ y.topTask (fun k => k.state == .ready) = none) ∧
    (∃ (x : Half) (t : Nat) (u : Nat) (c : TaskCfg), x.st ≠ .off ∧ x.appRuns = true ∧ x.runningTask = some t ∧
      x.taskCfg t = some c ∧ c.calls[(x.tsk t).pos]? = none ∧ x.topTask (fun k => k.state == .ready) = some u ∧
      x.taskPrio u < x.taskPrio t) ∧
    (∃ (x : Half) (t : Nat) (c : TaskCfg), x.st ≠ .off ∧ x.appRuns = true ∧ x.runningTask = some t ∧ x.taskCfg t =
      some c ∧ c.calls.length ≤ (x.tsk t).pos) ∧
    (∃ (x : Half) (task : Nat) (c : TaskCfg), x.st ≠ .off ∧ x.taskCfg task = some c ∧ (x.tsk task).updDue = true ∧
      x.isActive = true) :=
  ⟨⟨{ timeOn with cfg := { cur := some 0, slot0 := { cfg := some { tasks := [(0, {})] } } }, task := { tasks := [(0, { state := .waiting })] } },
      0, {}, by decide, by decide, by decide, by decide, by decide, by decide⟩,
    ⟨{ timeOn with cfg := { cur := some 0, slot0 := { cfg := some { tasks := [(0, {})] } } }, task := { tasks := [(0, { state := .running })] } },
      0, {}, by decide, by decide, by decide, by decide, by decide, by decide⟩,
    ⟨{ timeOn with cfg := { cur := some 0, slot0 := { cfg := some { tasks := [(0, { event := true })] } } }, task := { tasks := [(0, { state := .waiting, sep := true })] } },
      0, by decide, by decide, by decide, by decide, by decide⟩,
    ⟨{ timeOn with cfg := { cur := some 0, slot0 := { cfg := some { tasks := [(0, { event := true })] } } }, task := { tasks := [(0, { state := .waiting, sep := true, pendAct := true })] } },
      0, _, by decide, by decide, by decide, by decide, by decide, by decide, rfl⟩,
    ⟨{ timeOn with cfg := { cur := some 0, slot0 := { cfg := some { tasks := [(0, { event := true })] } } }, task := { tasks := [(0, { state := .running })] } },
      0, { event := true }, by decide, by decide, by decide, by decide, by decide, by decide⟩,
    ⟨{ timeOn with cfg := { cur := some 0, slot0 := { cfg := some { tasks := [(0, {})] } } }, task := { tasks := [(0, { state := .running })] } },
      0, {}, by decide, by decide, by decide, by decide, by decide⟩,
    ⟨{ timeOn with cfg := { cur := some 0, slot0 := { cfg := some { tasks := [(0, {})] } } }, task := { tasks := [(0, { state := .ready })] } },
      0, by decide, by decide, by decide, by decide, by decide⟩,
    ⟨{ timeOn with cfg := { cur := some 0, slot0 := { cfg := some { tasks := [(0, {})] } } }, task := { tasks := [(0, { state := .preempted })] } },
      0, by decide, by decide, by decide, by decide, by decide⟩,
    ⟨{ timeOn with cfg := { pend := some { slot := 0 }, cur := some 0, slot0 := { cfg := some { tasks := [(0, { event := true })] } } }, task := { tasks := [(0, { state := .waiting, switchTo := some 0 })] } },
      0, { event := true }, by decide, by decide, by decide, by decide, by decide, by decide, by decide⟩,
    ⟨{ timeOn with cfg := { cur := some 0, slot0 := { cfg := some { tasks := [(0, { calls := [{ skip := true }] })] } } }, task := { tasks := [(0, { state := .running })] } },
      0, { calls := [{ skip := true }] }, { skip := true }, _, by decide, by decide, by decide, by decide, by decide,
      rfl, by decide⟩,
    ⟨{ powered with cfg := { cur := some 0, slot0 := { cfg := some { tasks := [(0, { prio := 1 }), (1, {})] } } }, task := { tasks := [(0, { state := .running }), (1, { state := .ready })] } },
      0, 1, { prio := 1 }, by decide, by decide, by decide, by decide, by decide, by decide, by decide⟩,
    ⟨{ timeOn with cfg := { cur := some 0, slot0 := { cfg := some { tasks := [(0, {})] } } }, task := { tasks := [(0, { state := .running })] } },
      0, {}, by decide, by decide, by decide, by decide, by decide⟩,
    ⟨{ timeOn with cfg := { cur := some 0, slot0 := { cfg := some { tasks := [(0, {})] } } }, task := { tasks := [(0, { updDue := true })] } },
      0, {}, by decide, by decide, by decide, by decide⟩⟩

theorem witness_ControlEngineRowsComplete :
    (∃ (x : Half) (chain : Nat) (y : Half), x.st ≠ .off ∧ chain < 256 ∧ x.ceOn = true ∧ (x.chainSt chain).present =
      true ∧ (x.chainSt chain).mode = .run ∧ x.fires chain (x.desc chain) = true ∧ (x.desc chain).trigKind ≠ 4 ∧
      (x.chainSt chain).flight = none ∧ x.ce.queue = [] ∧ y = x.modChain chain (fun k =>
      { k with tLast := x.now, lastTrig := some x.mono })) ∧
    (∃ (x : Half) (c : Nat) (trig : DWord) (tTrig : DWord), x.st ≠ .off ∧ x.ceOn = true ∧ x.nextSample = some (c,
      trig, tTrig) ∧ ((x.dequeueSample c).chainSt c).mode ≠ .off ∧ ((x.dequeueSample c).chainSt c).mode ≠ .halted) ∧
    (∃ (x : Half) (c : Nat) (trig : DWord) (tTrig : DWord), x.st ≠ .off ∧ x.ceOn = true ∧ x.nextSample = some (c,
      trig, tTrig) ∧ ((x.dequeueSample c).chainSt c).mode = .halted) ∧
    (∃ (x : Half) (chain : Nat) (l : Latch), x.st ≠ .off ∧ (x.chainSt chain).flight = some l) ∧
    (∃ (x : Half), x.st ≠ .off ∧ x.isActive = true ∧ x.due .track 1000 = true) ∧
    (∃ (x : Half) (hdr : SpanHdr) (chains : List TrackChain), x.st ≠ .off ∧ x.linked = true ∧ (x.spanAccept hdr).st =
      .standby) ∧
    (∃ (x : Half) (hdr : SpanHdr) (chains : List TrackChain), x.st ≠ .off ∧ x.linked = true ∧ (x.spanAccept hdr).st =
      .syncing) :=
  ⟨⟨{ powered with regs := powered.regs ++ [(Reg.CE_CTRL, 5)], ce := { chains := [(0, { present := true, mode := .run })], queue := [] } },
      0, _, by decide, by decide, by decide, by decide, by decide, by decide, by decide, by decide, by decide, rfl⟩,
    ⟨{ powered with regs := powered.regs ++ [(Reg.CE_CTRL, 5)], ce := { chains := [(0, { present := true, mode := .run })], queue := [(0, 0, 0)] } },
      0, 0, 0, by decide, by decide, by decide, by decide, by decide⟩,
    ⟨{ powered with regs := powered.regs ++ [(Reg.CE_CTRL, 5)], ce := { chains := [(0, { present := true, mode := .halted })], queue := [(0, 0, 0)] } },
      0, 0, 0, by decide, by decide, by decide, by decide⟩,
    ⟨{ powered with regs := powered.regs ++ [(Reg.CE_CTRL, 5)], ce := { chains := [(0, { present := true, mode := .run, flight := some {} })], queue := [] } },
      0, {}, by decide, by decide⟩,
    ⟨powered, by decide, by decide, by decide⟩,
    ⟨{ linked with st := .standby }, {}, [], by decide, by decide, by decide⟩,
    ⟨{ linked with st := .syncing }, {}, [], by decide, by decide, by decide⟩⟩

theorem witness_ChainCommandRowsComplete :
    (∃ (x : Half) (chain : Nat), x.st ≠ .off ∧ chain < 256 ∧ x.domainOn 3 = true) ∧
    (∃ (x : Half) (chain : Nat), x.st ≠ .off ∧ chain < 256 ∧ x.domainOn 3 = true) ∧
    (∃ (x : Half) (chain : Nat), x.st ≠ .off ∧ chain < 256 ∧ x.domainOn 3 = true) ∧
    (∃ (x : Half) (chain : Nat), x.st ≠ .off ∧ chain < 256 ∧ x.domainOn 3 = true) ∧
    (∃ (x : Half) (chain : Nat) (bankB : Bool) (bumpless : Bool), x.st ≠ .off ∧ chain < 256 ∧ x.domainOn 3 = true ∧
      (x.chainSt chain).present = true) ∧
    (∃ (x : Half), x.st ≠ .off) :=
  ⟨⟨powered, 255, by decide, by decide, by decide⟩,
    ⟨powered, 255, by decide, by decide, by decide⟩,
    ⟨powered, 255, by decide, by decide, by decide⟩,
    ⟨powered, 255, by decide, by decide, by decide⟩,
    ⟨{ powered with regs := powered.regs ++ [(Reg.CE_CTRL, 5)], ce := { chains := [(0, { present := true, mode := .run })], queue := [] } },
      0, true, false, by decide, by decide, by decide, by decide⟩,
    ⟨powered, by decide⟩⟩

theorem witness_ValveDriveRowsComplete :
    (∃ (x : Half) (vd : Nat) (i : F32) (y : Half), x.st ≠ .off ∧ vd < 8 ∧ x.domainOn 6 = true ∧ y = (x.vdShow
      vd).vdSee vd i) ∧
    (∃ (x : Half) (vd : Nat) (i : F32) (y : Half) (on : Bool), x.st ≠ .off ∧ vd < 8 ∧ x.domainOn 6 = true ∧ y =
      (x.vdShow vd).vdSee vd i ∧ (y.vd_ vd).deferred = some on) ∧
    (∃ (x : Half) (vd : Nat) (i : F32) (slope : Option F32), x.st ≠ .off ∧ vd < 8 ∧ x.domainOn 6 = true ∧ x.due
      (.refresh vd) 1 = true) ∧
    (∃ (x : Half) (vd : Nat) (i : F32), x.st ≠ .off ∧ vd < 8 ∧ x.domainOn 6 = true) ∧
    (∃ (x : Half) (vd : Nat), x.st ≠ .off ∧ vd < 8 ∧ x.feedOk (vd / 4) = true ∧ x.vdTracked.vdOpen vd = true) ∧
    (∃ (x : Half) (vd : Nat), x.st ≠ .off ∧ vd < 8 ∧ x.bit (Reg.VD_STAT vd) 1 = true ∧ f32lt (x.vdRef vd).1 (f32int
      50) = false ∧ x.vdRested vd 1000 = true) ∧
    (∃ (x : Half) (vd : Nat), x.st ≠ .off ∧ vd < 8 ∧ x.role.vdRun = true ∧ (x.vd_ vd).retries < 10) ∧
    (∃ (x : Half) (vd : Nat), x.st ≠ .off ∧ vd < 8 ∧ x.role.vdRun = true ∧ 10 ≤ (x.vd_ vd).retries) ∧
    (∃ (x : Half) (vd : Nat), x.st ≠ .off ∧ vd < 8 ∧ x.bit (Reg.VD_STAT vd) 2 = true ∧ x.bit (Reg.VD_STAT vd) 3 =
      false ∧ x.vdRested vd 100 = true) ∧
    (∃ (x : Half) (vd : Nat), x.st ≠ .off ∧ vd < 8 ∧ x.role.vdRun = true) ∧
    (∃ (x : Half) (vd : Nat), x.st ≠ .off ∧ vd < 8 ∧ x.bit (Reg.VD_STAT vd) 4 = true) ∧
    (∃ (x : Half) (vd : Nat), x.st ≠ .off ∧ vd < 8 ∧ x.feedOk (vd / 4) = true ∧ x.bit (Reg.VD_CTRL vd) 0 = true ∧
      x.fld (Reg.VD_STAT vd) 4 1 = 0 ∧ x.vdFar vd = true) :=
  ⟨⟨powered, 7, 0, _, by decide, by decide, by decide, rfl⟩,
    ⟨{ powered with vd := { vd := [(7, { deferred := some true })] } }, 7, 0, _, true, by decide, by decide, by
      decide, rfl, by decide⟩,
    ⟨powered, 7, 0, none, by decide, by decide, by decide, by decide⟩,
    ⟨powered, 7, 0, by decide, by decide, by decide⟩,
    ⟨driveRefIdle, 7, by decide, by decide, by decide, by decide⟩,
    ⟨driveRef, 7, by decide, by decide, by decide, by decide, by decide⟩,
    ⟨{ powered with role := { vdRun := true } }, 7, by decide, by decide, by decide, by decide⟩,
    ⟨{ powered with role := { vdRun := true }, vd := { vd := [(7, { retries := 10 })] } }, 7, by decide, by decide,
      by decide, by decide⟩,
    ⟨driveRefB, 7, by decide, by decide, by decide, by decide, by decide⟩,
    ⟨{ powered with role := { vdRun := true } }, 7, by decide, by decide, by decide⟩,
    ⟨{ powered with regs := powered.regs ++ [(Reg.VD_STAT 7, 0x10)] }, 7, by decide, by decide, by decide⟩,
    ⟨{ timeOn with regs := timeOn.regs ++ [(Reg.SYS_STAT, 0x80), (Reg.VD_CTRL 7, 1)], vd := { vd := [(7, { farAt := some 0 })] } },
      7, by decide, by decide, by decide, by decide, by decide, by decide⟩⟩

theorem witness_TuningRowsComplete :
    (∃ (x : Half) (tg : Nat), x.st ≠ .off ∧ tg < 4 ∧ x.tunes = true ∧ x.tgState tg = 0) ∧
    (∃ (x : Half) (tg : Nat), x.st ≠ .off ∧ tg < 4 ∧ x.tgState tg = 2) ∧
    (∃ (x : Half) (tg : Nat), x.st ≠ .off ∧ tg < 4 ∧ x.tgState tg = 1 ∧ ((List.range 8).all fun c => !(x.tg
      tg).mask.getLsbD c || x.tcState c != 1) = true) ∧
    (∃ (x : Half) (tg : Nat), x.st ≠ .off ∧ tg < 4 ∧ x.tgState tg = 2) ∧
    (∃ (x : Half) (tc : Nat), x.st ≠ .off ∧ tc < 8 ∧ x.tunes = true ∧ x.tcState tc = 0) ∧
    (∃ (x : Half) (tc : Nat), x.st ≠ .off ∧ tc < 8) ∧
    (∃ (x : Half) (tc : Nat), x.st ≠ .off ∧ tc < 8) ∧
    (∃ (x : Half) (tc : Nat), x.st ≠ .off ∧ tc < 8 ∧ x.tcState tc = 4) :=
  ⟨⟨powered, 3, by decide, by decide, by decide, by decide⟩,
    ⟨{ powered with regs := powered.regs ++ [(Reg.TG_STAT 3, 2)] }, 3, by decide, by decide, by decide⟩,
    ⟨{ powered with regs := powered.regs ++ [(Reg.TG_STAT 3, 1)] }, 3, by decide, by decide, by decide, by decide⟩,
    ⟨{ powered with regs := powered.regs ++ [(Reg.TG_STAT 3, 2)] }, 3, by decide, by decide, by decide⟩,
    ⟨powered, 7, by decide, by decide, by decide, by decide⟩,
    ⟨powered, 7, by decide, by decide⟩,
    ⟨powered, 7, by decide, by decide⟩,
    ⟨{ powered with regs := powered.regs ++ [(Reg.TC_STAT 7, 4)] }, 7, by decide, by decide, by decide⟩⟩

theorem witness_CanRowsComplete :
    (∃ (x : Half) (ctl : Nat) (f : CanFrame) (y : Half), x.st ≠ .off ∧ x.canReceives ctl = true ∧ x.canCarries ctl f
      = true ∧ f.rtr = true ∧ y = (x.canGood ctl f).canFall ctl false) ∧
    (∃ (x : Half) (ctl : Nat) (f : CanFrame) (y : Half) (z : Half) (n : Nat), x.st ≠ .off ∧ x.canReceives ctl = true
      ∧ x.canCarries ctl f = true ∧ f.rtr = false ∧ y = (x.canGood ctl f).canFall ctl false ∧ z = (if (y.canCtl
      ctl).drives then y else (y.canIdle ctl).canRecord ctl f) ∧ (z.canObjs ctl false).find? (fun n => z.canMatch ctl
      n f) = some n) ∧
    (∃ (x : Half) (ctl : Nat) (obj : Nat), x.st ≠ .off ∧ x.conf.canSends.any (fun o => o.ctl == ctl && o.obj == obj
      && x.canIsDue o) = true ∧ (x.canObj ctl obj).getLsbD 0 = true ∧ (x.canObj ctl obj).getLsbD 1 = true ∧
      x.canSends ctl = true ∧ x.canFull ctl obj = false) ∧
    (∃ (x : Half) (ctl : Nat) (obj : Nat) (f : CanFrame) (y : Half), x.st ≠ .off ∧ x.domainOn 4 = true ∧ (x.canObj
      ctl obj).getLsbD 1 = true ∧ (x.canFull ctl obj || (x.canCtl ctl).finishing.contains obj) = true ∧ x.canErr ctl
      < 2 ∧ f = x.canLoad ctl obj ∧ y = (((x.canIdle ctl).canStore ctl obj x.now f).setFull ctl obj false).send
      (.canFrame ctl obj f)) ∧
    (∃ (x : Half) (ctl : Nat) (tec : Nat) (rec : Nat), x.st ≠ .off ∧ x.canHears ctl = true ∧ x.canDetects ctl = false
      ∧ x.canEff ctl = 1 ∧ x.canErr ctl < 2 ∧ tec < 256) ∧
    (∃ (x : Half) (ctl : Nat) (tec : Nat) (rec : Nat) (z : Half), x.st ≠ .off ∧ x.canHears ctl = true ∧ x.canDetects
      ctl = false ∧ x.canEff ctl = 1 ∧ x.canErr ctl < 2 ∧ 256 ≤ tec ∧ z = (x.setEcr ctl tec rec).setErr ctl 2) ∧
    (∃ (x : Half) (ctl : Nat), x.st ≠ .off ∧ x.canHears ctl = true ∧ x.canErr ctl = 3 ∧ x.goneUs (x.canCtl
      ctl).recovAt (x.canRecovery ctl) = true) ∧
    (∃ (x : Half) (ctl : Nat), x.st ≠ .off ∧ x.canHears ctl = true ∧ x.bit (Reg.CAN_CTRL ctl) 5 = true) ∧
    (∃ (x : Half) (ctl : Nat) (used : List Word), x.st ≠ .off ∧ used = (x.canCtl ctl).releases.filter (fun m =>
      (x.opmin - m).toNat < 60) ∧ x.canHears ctl = true ∧ x.bit (Reg.CAN_CTRL ctl) 5 = true ∧ x.canErr ctl = 2 ∧
      (x.canCtl ctl).stuck = false ∧ x.gone (x.canCtl ctl).offAt (x.fld (Reg.CAN_BO_CFG ctl) 15 0) = true ∧
      used.length < x.fld (Reg.CAN_BO_CFG ctl) 19 16) ∧
    (∃ (x : Half) (ctl : Nat), x.st ≠ .off ∧ x.canHears ctl = true ∧ x.canDetects ctl = true ∧ x.goneUs (x.canCtl
      ctl).candAt 100000 = true) ∧
    (∃ (x : Half) (ctl : Nat), x.st ≠ .off ∧ x.canHears ctl = true ∧ x.canDetects ctl = true ∧ x.goneUs (x.canCtl
      ctl).detAt 10000000 = true) ∧
    (∃ (x : Half) (ctl : Nat), x.st ≠ .off ∧ x.canHears ctl = true ∧ (((x.canCtl ctl).sleepReq = true ∨ x.canMode ctl
      = 4))) ∧
    (∃ (x : Half) (ctl : Nat) (frame : Option CanFrame), x.st ≠ .off ∧ ctl < 4 ∧ x.domainOn 4 = true ∧ x.canAsleep
      ctl = true ∧ x.bit (Reg.CAN_CTRL ctl) 7 = false) ∧
    (∃ (x : Half) (ctl : Nat), x.st ≠ .off ∧ ctl < 4 ∧ x.domainOn 4 = true ∧ x.role.ho = none ∧ x.isActive = true ∧
      (x.canCtl ctl).drives = false) ∧
    (∃ (x : Half) (ctl : Nat), x.st ≠ .off ∧ ctl < 4 ∧ x.domainOn 4 = true ∧ x.role.ho = none ∧ x.isActive = false) ∧
    (∃ (x : Half) (ctl : Nat), x.st ≠ .off ∧ ctl < 4 ∧ x.domainOn 4 = true) :=
  ⟨⟨canBus 1 0 0, 3, { rtr := true }, _, by decide, by decide, by decide, by decide, rfl⟩,
    ⟨canBus 1 1 0, 3, {}, _, _, 0, by decide, by decide, by decide, by decide, rfl, rfl, by decide⟩,
    ⟨{ canBus 1 3 0 with cfg := { cur := some 0, slot0 := { cfg := some { canSends := [{ ctl := 3, obj := 0, period := 5 }] } } } },
      3, 0, by decide, by decide, by decide, by decide, by decide, by decide⟩,
    ⟨canBus 1 0x1000003 0, 3, 0, _, _, by decide, by decide, by decide, by decide, by decide, rfl, rfl⟩,
    ⟨canBus 1 0 0, 3, 255, 0, by decide, by decide, by decide, by decide, by decide, by decide⟩,
    ⟨canBus 1 0 0, 3, 256, 0, _, by decide, by decide, by decide, by decide, by decide, by decide, rfl⟩,
    ⟨canBus 1 0 0x18, 3, by decide, by decide, by decide, by decide⟩,
    ⟨{ canBus 0x21 0 0x10 with regs := (canBus 0x21 0 0x10).regs ++ [(Reg.CAN_BO_CFG 3, 0x30000)] }, 3, by decide, by
      decide, by decide⟩,
    ⟨{ canBus 0x21 0 0x10 with regs := (canBus 0x21 0 0x10).regs ++ [(Reg.CAN_BO_CFG 3, 0x30000)] }, 3, _, by decide,
      rfl, by decide, by decide, by decide, by decide, by decide, by decide⟩,
    ⟨canBus 3 0 0, 3, by decide, by decide, by decide, by decide⟩,
    ⟨canBus 3 0 0, 3, by decide, by decide, by decide, by decide⟩,
    ⟨canBus 4 0 0, 3, by decide, by decide, by decide⟩,
    ⟨canBus 1 0 0x40, 3, none, by decide, by decide, by decide, by decide, by decide⟩,
    ⟨powered, 3, by decide, by decide, by decide, by decide, by decide, by decide⟩,
    ⟨{ powered with st := .standby }, 3, by decide, by decide, by decide, by decide, by decide⟩,
    ⟨powered, 3, by decide, by decide, by decide⟩⟩

theorem witness_PortRowsComplete :
    (∃ (x : Half) (port : Nat) (f : LanFrame), x.st ≠ .off ∧ port < 2 ∧ x.ethOn = true ∧ x.linkUp port = true ∧
      f.fcsOk = true) ∧
    (∃ (x : Half) (port : Nat) (f : LanFrame), x.st ≠ .off ∧ port < 2 ∧ x.ethOn = true ∧ x.linkUp port = true ∧
      f.fcsOk = false) ∧
    (∃ (x : Half), x.st ≠ .off ∧ x.ethOn = true ∧ x.bit Reg.ETH_CTRL 1 = true ∧ x.due .prp 2000000 = true) ∧
    (∃ (x : Half) (src : DWord) (n : PrpNode), x.st ≠ .off ∧ x.net.nodes.get? src.toNat = some n ∧ x.gone n.heard
      60000 = true) ∧
    (∃ (x : Half) (port : Nat) (up : Bool) (y : Half) (z : Half), x.st ≠ .off ∧ port < 2 ∧ x.domainOn 4 = true ∧
      x.linkUp port ≠ up ∧ y = (x.setBit (Reg.ETH_P_STAT port) 0 up).setFld (Reg.ETH_P_STAT port) 2 1 (if up then 2
      else 0) ∧ z = (if up then y else { y with net := { y.net with downAt := y.net.downAt.put port x.mono } })) ∧
    (∃ (x : Half) (up : Bool) (y : Half) (z : Half), x.st ≠ .off ∧ x.domainOn 4 = true ∧ x.linkUp 2 ≠ up ∧ y =
      (x.setBit (Reg.ETH_P_STAT 2) 0 up).setFld (Reg.ETH_P_STAT 2) 2 1 (if up then 1 else 0) ∧ z = (if up then y else
      { y with net := { y.net with downAt := y.net.downAt.put 2 x.mono } })) ∧
    (∃ (x : Half), x.st ≠ .off ∧ x.linkUp 0 = false ∧ x.linkUp 1 = false ∧ x.gone (x.net.downAt.get 0 0) 1000 = true
      ∧ x.gone (x.net.downAt.get 0 1) 1000 = true) ∧
    (∃ (x : Half) (sn : Sentence) (y : Half), x.st ≠ .off ∧ x.ethOn = true ∧ x.linkUp 2 = true ∧ (x.incSat
      (Reg.ETH_P_RXCNT 2)).enqueue 2 0 = (true, y) ∧ sn.checksumOk = true ∧ sn.ownSource = false) ∧
    (∃ (x : Half) (idx : Nat) (c : SentenceCfg) (y : Half), x.st ≠ .off ∧ x.sentenceCfg idx = some c ∧ c.send = false
      ∧ ((x.net.heard.get? idx).any fun e => e.2 || !x.gone e.1 c.timeout) = false ∧ y =
      { x with net := { x.net with heard := x.net.heard.put idx (x.mono, true) } }) ∧
    (∃ (x : Half) (idx : Nat) (c : SentenceCfg), x.st ≠ .off ∧ x.sentenceCfg idx = some c ∧ c.send = true ∧ 0 <
      c.timeout ∧ x.due (.sentence idx) (c.timeout * 1000) = true) ∧
    (∃ (x : Half) (bus : Nat) (framing : Bool), x.st ≠ .off ∧ x.serOn bus = true) ∧
    (∃ (x : Half) (bus : Nat) (sn : Sentence), x.st ≠ .off ∧ x.serOn bus = true ∧ x.serType bus = 2 ∧ sn.checksumOk =
      true) ∧
    (∃ (x : Half) (bus : Nat) (addr : Byte) (fn : Byte) (data : List Byte) (y : Half), x.st ≠ .off ∧ x.serOn bus =
      true ∧ x.serType bus = 3 ∧ y = x.serTaken bus ∧ x.serDrives bus = true ∧ y.serDrives bus = true ∧ y.serType bus
      = 3) ∧
    (∃ (x : Half) (bus : Nat) (req : Nat) (q : ModbusReq) (y : Half), x.st ≠ .off ∧ x.request bus req = some q ∧
      x.serDrives bus = true ∧ x.serType bus = 3 ∧ x.due (.poll bus req) (q.period * 1000) = true ∧ y = x.ran (.poll
      bus req) ∧ (y.serBus bus).pend.isSome = true) ∧
    (∃ (x : Half) (bus : Nat) (req : Nat) (q : ModbusReq) (y : Half), x.st ≠ .off ∧ x.request bus req = some q ∧
      x.serDrives bus = true ∧ x.serType bus = 3 ∧ x.due (.poll bus req) (q.period * 1000) = true ∧ y = x.ran (.poll
      bus req) ∧ (y.serBus bus).pend = none) ∧
    (∃ (x : Half) (bus : Nat) (req : Nat) (q : ModbusReq) (n : Nat), x.st ≠ .off ∧ (x.serBus bus).pend = some (req,
      n) ∧ x.request bus req = some q ∧ x.serDrives bus = true ∧ x.serType bus = 3 ∧ x.gone (x.serBus bus).pendAt
      q.timeout = true) ∧
    (∃ (x : Half) (bus : Nat), x.st ≠ .off ∧ bus < 2 ∧ x.domainOn 4 = true ∧ x.role.ho = none ∧ x.isActive = true ∧
      x.role.drives = true ∧ (x.serBus bus).drives = false) ∧
    (∃ (x : Half) (bus : Nat), x.st ≠ .off ∧ bus < 2 ∧ x.domainOn 4 = true ∧ x.role.ho = none ∧ x.isActive = false) ∧
    (∃ (x : Half) (addr : Word), x.st ≠ .off ∧ x.mbx.blocked.contains addr.toNat = true ∧ ((x.mbx.authFails.get []
      addr.toNat).getLast?.all fun t => x.gone t 60000) = true) :=
  ⟨⟨allLinksUp, 1, { fcsOk := true }, by decide, by decide, by decide, by decide, by decide⟩,
    ⟨allLinksUp, 1, { fcsOk := false }, by decide, by decide, by decide, by decide, by decide⟩,
    ⟨allLinksUp, by decide, by decide, by decide, by decide⟩,
    ⟨{ powered with net := { nodes := [(5, default)] }, ts := { mono := 0x4000000000000000000 } }, 5, default, by
      decide, by decide, by decide⟩,
    ⟨powered, 1, true, _, _, by decide, by decide, by decide, by decide, rfl, rfl⟩,
    ⟨powered, true, _, _, by decide, by decide, by decide, rfl, rfl⟩,
    ⟨{ powered with ts := { mono := 0x4000000000000000000 } }, by decide, by decide, by decide, by decide, by decide⟩,
    ⟨allLinksUp, { checksumOk := true }, _, by decide, by decide, by decide, rfl, by decide, by decide⟩,
    ⟨{ powered with cfg := { cur := some 0, slot0 := { cfg := some { sentences := [{ idx := 0 }] } } } }, 0,
      { idx := 0 }, _, by decide, by decide, by decide, by decide, rfl⟩,
    ⟨{ powered with cfg := { cur := some 0, slot0 := { cfg := some { sentences := [{ idx := 0, send := true, timeout := 5 }] } } } },
      0, { idx := 0, send := true, timeout := 5 }, by decide, by decide, by decide, by decide, by decide⟩,
    ⟨serialBus 3 none, 1, true, by decide, by decide⟩,
    ⟨serialBus 2 none, 1, { checksumOk := true }, by decide, by decide, by decide, by decide⟩,
    ⟨serialBus 3 none, 1, 0, 0, [], _, by decide, by decide, by decide, rfl, by decide, by decide, by decide⟩,
    ⟨serialBus 3 (some (0, 0)), 1, 0, { bus := 1, req := 0 }, _, by decide, by decide, by decide, by decide, by
      decide, rfl, by decide⟩,
    ⟨serialBus 3 none, 1, 0, { bus := 1, req := 0 }, _, by decide, by decide, by decide, by decide, by decide, rfl,
      by decide⟩,
    ⟨{ serialBus 3 (some (0, 0)) with ts := { mono := 0x4000000000000000000 } }, 1, 0, { bus := 1, req := 0 }, 0, by
      decide, by decide, by decide, by decide, by decide, by decide⟩,
    ⟨{ powered with role := { drives := true } }, 1, by decide, by decide, by decide, by decide, by decide, by
      decide, by decide⟩,
    ⟨{ powered with st := .standby }, 1, by decide, by decide, by decide, by decide, by decide⟩,
    ⟨{ powered with mbx := { blocked := [9] } }, 9, by decide, by decide, by decide⟩⟩

theorem witness_CoverageRowsComplete :
    (∃ (x : Half) (slot : Nat), x.st ≠ .off) ∧
    (∃ (x : Half) (slot : Nat), x.st ≠ .off) ∧
    (∃ (x : Half) (slot : Nat) (data : List Byte) (ecc : Bool) (wr : Bool), x.st ≠ .off ∧ slot < 8 ∧ x.cvState slot =
      1 ∧ ((ecc = true ∨ (x.cvTook slot = true ∧ data.length = (x.cvJob slot).len)))) ∧
    (∃ (x : Half) (slot : Nat), x.st ≠ .off ∧ slot < 8 ∧ x.cvOn = true ∧ x.bit (Reg.CV_JOB_CFG slot) 6 = true ∧
      (x.cv.jobs.get? slot).isSome = true ∧ x.gone (x.cvJob slot).start (x.fld (Reg.CV_JOB_REP slot) 23 0) = true ∧
      x.cvStarted slot = false) ∧
    (∃ (x : Half) (slot : Nat), x.st ≠ .off ∧ slot < 8 ∧ x.cvOn = true ∧ x.bit (Reg.CV_JOB_CFG slot) 6 = true ∧
      (x.cv.jobs.get? slot).isSome = true ∧ x.gone (x.cvJob slot).start (x.fld (Reg.CV_JOB_REP slot) 23 0) = true ∧
      x.cvStarted slot = true) ∧
    (∃ (x : Half) (vs : List (Nat × F64)) (bad : List (Nat × Nat)), x.st ≠ .off ∧ x.serves = true ∧ x.bgDue
      .flashScan = true) ∧
    (∃ (x : Half) (vs : List (Nat × F64)) (bad : List (Nat × Nat)) (y : Half), x.st ≠ .off ∧ x.serves = true ∧
      x.bgDue .paramChain = true ∧ y = bad.foldl (fun (y : Half) b => if b.1 = 16 then y.chainBad b.2 else y.paramBad
      b.1 b.2) x) ∧
    (∃ (x : Half) (vs : List (Nat × F64)) (bad : List (Nat × Nat)), x.st ≠ .off ∧ x.serves = true ∧ x.bgDue
      .telemetry = true) ∧
    (∃ (x : Half) (vs : List (Nat × F64)) (bad : List (Nat × Nat)), x.st ≠ .off ∧ x.serves = true ∧ x.bgDue
      .proofTests = true) ∧
    (∃ (x : Half) (act : Activity) (vs : List (Nat × F64)) (bad : List (Nat × Nat)), x.st ≠ .off ∧ ((act = .dramScrub
      ∨ act = .sramScrub ∨ act = .scrupleScrub ∨ act = .selfCal ∨ act = .norWear ∨ act = .displayStress))) ∧
    (∃ (x : Half) (act : Activity), x.st ≠ .off ∧ x.serves = true ∧ x.bgLate act = true) ∧
    (∃ (x : Half) (block : Nat) (ok : Bool), x.st ≠ .off ∧ x.domainOn 1 = true) ∧
    (∃ (x : Half), x.st ≠ .off ∧ x.bit Reg.EVR_CTRL 0 = true ∧ x.sys.powerFail = false) ∧
    (∃ (x : Half), x.st ≠ .off ∧ x.sys.powerFail = true) :=
  ⟨⟨powered, 7, by decide⟩,
    ⟨powered, 7, by decide⟩,
    ⟨{ st := .active, regs := [(Reg.SYS_PD, 0xFF), (Reg.CV_CTRL, 1), (Reg.CV_JOB_CFG 7, 0x40), (Reg.CV_JOB_STAT 7, 1)], cv := { jobs := [(7, {})] } },
      7, [], true, false, by decide, by decide, by decide, by decide⟩,
    ⟨{ st := .active, regs := [(Reg.SYS_PD, 0xFF), (Reg.CV_CTRL, 1), (Reg.CV_JOB_CFG 7, 0x40)], cv := { jobs := [(7, {})] } },
      7, by decide, by decide, by decide, by decide, by decide, by decide, by decide⟩,
    ⟨{ st := .active, regs := [(Reg.SYS_PD, 0xFF), (Reg.CV_CTRL, 1), (Reg.CV_JOB_CFG 7, 0x40), (Reg.CV_JOB_STAT 7, 2)], cv := { jobs := [(7, {})] } },
      7, by decide, by decide, by decide, by decide, by decide, by decide, by decide⟩,
    ⟨powered, [], [], by decide, by decide, by decide⟩,
    ⟨powered, [], [], powered, by decide, by decide, by decide, by decide⟩,
    ⟨powered, [], [], by decide, by decide, by decide⟩,
    ⟨powered, [], [], by decide, by decide, by decide⟩,
    ⟨powered, .norWear, [], [], by decide, by decide⟩,
    ⟨{ powered with ts := { mono := 644245094400000000 } }, .telemetry, by decide, by decide, by decide⟩,
    ⟨powered, 0, true, by decide, by decide⟩,
    ⟨{ powered with regs := powered.regs ++ [(Reg.EVR_CTRL, 1)] }, by decide, by decide, by decide⟩,
    ⟨{ powered with sys := { powerFail := true } }, by decide, by decide⟩⟩

theorem witness_DisplayRowsComplete :
    (∃ (x : Half) (temp : BitVec 16) (z : Half), x.st ≠ .off ∧ z = (if x.domainOn 6 && x.dspPresent then (x.wr
      Reg.DSP_TEMP (temp.setWidth 32)).setFld Reg.DSP_STAT 15 13 (nextBand (x.fld Reg.DSP_STAT 15 13) temp.toInt)
      else x) ∧ z.draws = true ∧ z.due .frame 11764 = true) ∧
    (∃ (x : Half) (cover : CoverId), x.st ≠ .off ∧ x.domainOn 6 = true) ∧
    (∃ (x : Half) (y : Half), x.st ≠ .off ∧ x.dspPresent = true ∧ y = (x.discharge.setBit Reg.DSP_STAT 0
      false).dspIrq 4) ∧
    (∃ (x : Half), x.st ≠ .off ∧ 5000000 ≤ x.sys.noClaim.toNat ∧ x.claims = false ∧ x.partnerClaim = false) ∧
    (∃ (x : Half), x.st ≠ .off) ∧
    (∃ (x : Half) (slot : Nat), x.st ≠ .off ∧ slot < 16 ∧ awaits (x.journal slot) = true ∧ x.goneUs (x.region
      slot).at_ 1000 = true) ∧
    (∃ (x : Half) (y : Half), x.st ≠ .off ∧ x.due .stress 10000000 = true ∧ y = x.ran .stress) ∧
    (∃ (x : Half), x.st ≠ .off ∧ x.bit Reg.DSP_STAT 1 = true) ∧
    (∃ (x : Half), x.st ≠ .off ∧ x.domainOn 6 = true ∧ x.bit Reg.DSP_CTRL 1 = true ∧ x.dspPresent = true ∧ x.bit
      Reg.DSP_STAT 6 = false ∧ x.claims = true) ∧
    (∃ (x : Half) (app : Bool) (i : Nat), x.st ≠ .off ∧ x.domainOn 1 = true ∧ x.topIrq app = some i) ∧
    (∃ (x : Half) (app : Bool), x.st ≠ .off ∧ x.domainOn 1 = true ∧ x.topIrq app = none) :=
  ⟨⟨drawing, 250, _, by decide, rfl, by decide, by decide⟩,
    ⟨powered, {}, by decide, by decide⟩,
    ⟨drawing, _, by decide, by decide, rfl⟩,
    ⟨{ powered with sys := { noClaim := 5000000 } }, by decide, by decide, by decide, by decide⟩,
    ⟨powered, by decide⟩,
    ⟨{ powered with dsp := { journal := [(15, { valid := true })] } }, 15, by decide, by decide, by decide, by
      decide⟩,
    ⟨powered, _, by decide, by decide, rfl⟩,
    ⟨{ powered with regs := powered.regs ++ [(Reg.DSP_STAT, 2)] }, by decide, by decide⟩,
    ⟨drawing, by decide, by decide, by decide, by decide, by decide, by decide⟩,
    ⟨{ st := .active, regs := [(Reg.SYS_PD, 0xFF), (Reg.ICU_SRC 16, 0x30)] }, false, 16, by decide, by decide, by
      decide⟩,
    ⟨powered, false, by decide, by decide, by decide⟩⟩

theorem witness_ConsumeRowsComplete :
    (∃ (s : State) (h : HalfId) (x : Half) (ch : Nat) (es : List Entry) (y : Half) (t : State), s.half h = x ∧ x.st ≠
      .off ∧ x.mbxServes ch = true ∧ x.headCmd ch = .ok (some es) ∧ y = x.consumeCmd ch es ∧ t = (if ch = 7 then
      (s.mod h fun _ => y).mod h.other (fun p => p.peerHead (y.rd (Reg.MBX_CH_SQ_SEQ 7))) else (s.mod h fun _ => y)))
      ∧
    (∃ (x : Half) (ch : Nat) (k : Nat) (y : Half), x.st ≠ .off ∧ x.mbxServes ch = true ∧ x.headCmd ch = .error k ∧ ch
      ≠ 7 ∧ y = x.protoError ch k) ∧
    (∃ (x : Half) (k : Nat), x.st ≠ .off ∧ x.mbxServes 7 = true ∧ x.headCmd 7 = .error k) ∧
    (∃ (s : State) (h : HalfId) (x : Half) (ch : Nat) (tag : Nat) (es : List Entry) (y : Half) (t : State), s.half h
      = x ∧ x.st ≠ .off ∧ x.mbxServes ch = true ∧ x.headCmd ch = .ok (some es) ∧ getField ((es.headD []).getD 0 0) 13
      0 = 256 * tag + 1 ∧ y = x.consumeCmd ch es ∧ t = (if ch = 7 then (s.mod h fun _ => y).mod h.other (fun p =>
      p.peerHead (y.rd (Reg.MBX_CH_SQ_SEQ 7))) else (s.mod h fun _ => y))) ∧
    (∃ (s : State) (h : HalfId) (x : Half) (ch : Nat) (tag : Nat) (es : List Entry) (y : Half) (t : State), s.half h
      = x ∧ x.st ≠ .off ∧ x.mbxServes ch = true ∧ x.headCmd ch = .ok (some es) ∧ getField ((es.headD []).getD 0 0) 13
      0 = 256 * tag + 0xF0 ∧ y = x.consumeCmd ch es ∧ t = (if ch = 7 then (s.mod h fun _ => y).mod h.other (fun p =>
      p.peerHead (y.rd (Reg.MBX_CH_SQ_SEQ 7))) else (s.mod h fun _ => y))) :=
  ⟨⟨{ a := session (entryOf 0x2000501), b := {} }, .a, session (entryOf 0x2000501), 2, [entryOf 0x2000501], _, _,
      rfl, by decide, by decide, rfl, rfl, rfl⟩,
    ⟨session [], 2, 1, _, by decide, by decide, rfl, by decide, rfl⟩,
    ⟨{ st := .active, regs := [(Reg.SYS_PD, 0xFF), (Reg.MBX_CTRL, 1), (Reg.MBX_CH_CTRL 7, 0x21)], mbx := { chans := [(7, { sq := [[]] })] } },
      1, by decide, by decide, rfl⟩,
    ⟨{ a := session (entryOf 0x2000501), b := {} }, .a, session (entryOf 0x2000501), 2, 5, [entryOf 0x2000501], _, _,
      rfl, by decide, by decide, rfl, by decide, rfl, rfl⟩,
    ⟨{ a := session (entryOf 0x20006F0), b := {} }, .a, session (entryOf 0x20006F0), 2, 6, [entryOf 0x20006F0], _, _,
      rfl, by decide, by decide, rfl, by decide, rfl, rfl⟩⟩

theorem witness_RegisterWritesComplete :
    (∃ (s : State) (h : HalfId) (x : Half) (app : Bool) (addr : Nat) (v : Word) (d : RegDesc), s.half h = x ∧ x.st ≠
      .off ∧ 0x30000000 ≤ addr ∧ addr < 0x30100000 ∧ addr % 4 = 0 ∧ ((regDomain addr = 0 ∨ x.domainOn (regDomain
      addr) = true)) ∧ ((app = true → x.appMay addr = true)) ∧ (if app then x.fc.haltApp else x.fc.haltSup) = false ∧
      mbxRing addr = false ∧ canAperture addr = none ∧ regDesc? addr = some d ∧ v &&& d.resv = 0 ∧ ((addr =
      Reg.FC_CTRL → getField v 2 1 ≠ 3)) ∧ actions h addr v = none ∧ sideActions h addr v = []) ∧
    (∃ (x : Half) (app : Bool) (addr : Nat) (v : Word), x.st ≠ .off ∧ 0x30000000 ≤ addr ∧ addr < 0x30100000 ∧ addr %
      4 = 0 ∧ x.domainOn (regDomain addr) = true ∧ ((app = true → x.appMay addr = true)) ∧ (if app then x.fc.haltApp
      else x.fc.haltSup) = false ∧ mbxRing addr = true) ∧
    (∃ (x : Half) (app : Bool) (addr : Nat) (c : Nat) (v : Word), x.st ≠ .off ∧ 0x30000000 ≤ addr ∧ addr < 0x30100000
      ∧ addr % 4 = 0 ∧ x.domainOn (regDomain addr) = true ∧ ((app = true → x.appMay addr = true)) ∧ (if app then
      x.fc.haltApp else x.fc.haltSup) = false ∧ canAperture addr = some c) ∧
    (∃ (x : Half) (app : Bool) (addr : Nat) (v : Word), x.st ≠ .off ∧ ((addr < 0x30000000 ∨ 0x30100000 ≤ addr ∨ addr
      % 4 ≠ 0))) ∧
    (∃ (x : Half) (app : Bool) (addr : Nat) (v : Word), x.st ≠ .off ∧ 0x30000000 ≤ addr ∧ addr < 0x30100000 ∧ addr %
      4 = 0 ∧ (if app then x.fc.haltApp else x.fc.haltSup) = true) ∧
    (∃ (x : Half) (app : Bool) (addr : Nat) (v : Word), x.st ≠ .off ∧ 0x30000000 ≤ addr ∧ addr < 0x30100000 ∧ addr %
      4 = 0 ∧ regDomain addr ≠ 0 ∧ x.domainOn (regDomain addr) = false) ∧
    (∃ (x : Half) (app : Bool) (addr : Nat) (v : Word) (d : RegDesc), x.st ≠ .off ∧ 0x30000000 ≤ addr ∧ addr <
      0x30100000 ∧ addr % 4 = 0 ∧ ((regDomain addr = 0 ∨ x.domainOn (regDomain addr) = true)) ∧ ((app = true →
      x.appMay addr = true)) ∧ (if app then x.fc.haltApp else x.fc.haltSup) = false ∧ mbxRing addr = false ∧
      canAperture addr = none ∧ regDesc? addr = some d ∧ v &&& d.resv ≠ 0) ∧
    (∃ (x : Half) (app : Bool) (addr : Nat) (v : Word), x.st ≠ .off ∧ 0x30000000 ≤ addr ∧ addr < 0x30100000 ∧ addr %
      4 = 0 ∧ ((regDomain addr = 0 ∨ x.domainOn (regDomain addr) = true)) ∧ ((app = true → x.appMay addr = true)) ∧
      (if app then x.fc.haltApp else x.fc.haltSup) = false ∧ mbxRing addr = false ∧ canAperture addr = none ∧
      regDesc? addr = none ∧ v ≠ 0) :=
  ⟨⟨{ a := powered, b := {} }, .a, powered, false, Reg.TS_SRV_OFS_FR, 5, (regDesc? Reg.TS_SRV_OFS_FR).getD default,
      rfl, by decide, by decide, by decide, by decide, by decide, by decide, by decide, by decide, by decide, by
      decide, by decide, by decide, by decide, by decide⟩,
    ⟨powered, true, 0x30024004, 7, by decide, by decide, by decide, by decide, by decide, by decide, by decide, by
      decide⟩,
    ⟨powered, false, 0x30082004, 0, 7, by decide, by decide, by decide, by decide, by decide, by decide, by decide,
      by decide⟩,
    ⟨powered, false, 0x30000002, 1, by decide, by decide⟩,
    ⟨{ powered with fc := { haltSup := true } }, false, Reg.DI_MODE, 1, by decide, by decide, by decide, by decide,
      by decide⟩,
    ⟨{ st := .active }, false, Reg.DI_MODE, 1, by decide, by decide, by decide, by decide, by decide, by decide⟩,
    ⟨powered, false, Reg.TS_SRV_OFS_FR, 0xFFFFFFFF, (regDesc? Reg.TS_SRV_OFS_FR).getD default, by decide, by decide,
      by decide, by decide, by decide, by decide, by decide, by decide, by decide, by decide, by decide⟩,
    ⟨powered, false, 0x3000FFFC, 1, by decide, by decide, by decide, by decide, by decide, by decide, by decide, by
      decide, by decide, by decide, by decide⟩⟩

theorem witness_IdleStepTicks : State.reset.pending = [] :=
  rfl

theorem witness_ResetLeavesHalvesOff : (HalfId.a = .a ∨ (0 : Nat) ≠ Reg.SYS_STAT) ∧ (HalfId.b = .a ∨ (0 : Nat) ≠
      Reg.SYS_STAT) :=
  by decide

theorem witness_StepKeepsSound : (station powered {}).Sound ∧ step (station powered {}) = .next (station powered
      {}).tick :=
  ⟨station_sound rfl rfl rfl rfl rfl, rfl⟩

theorem witness_TakeoverOnlyOnRelease : (∃ t, (station takingOver {}).Sound ∧ exec (.partnerReleased .a) (station
      takingOver {}) = .next t ∧ ((station takingOver {}).half .a).role.takeover = false ∧ (t.half .a).role.takeover
      = true) ∧
    (State.reset.half .b).role.takeover = false :=
  ⟨⟨_, station_sound rfl rfl rfl rfl rfl, rfl, rfl, by decide⟩, rfl⟩

theorem witness_CommandsKeepQueue : exec (.dispNoClaim .a) State.reset = .next State.reset :=
  rfl

theorem witness_EveryCommandCompletes : ∃ c : Instr, (∀ h app a v, c ≠ .registerWrite h app a v) ∧ (∀ h v, c ≠
      .mbxCh0SqTail h v) ∧ ∀ h v, c ≠ .mbxCh0CqHead h v :=
  ⟨.dispNoClaim .a, nofun, nofun, nofun⟩

theorem witness_PartnerUnchanged : (Instr.dispNoClaim .a).reachesPartner = false ∧ exec (.dispNoClaim .a) State.reset
      = .next State.reset :=
  ⟨rfl, rfl⟩

theorem witness_BaseplateUnchanged : (Instr.dispNoClaim .a).changesBaseplate = false ∧ exec (.dispNoClaim .a)
      State.reset = .next State.reset :=
  ⟨rfl, rfl⟩

theorem witness_AccessCodesByBit : 31 < 32 :=
  by decide

theorem witness_LockedConfigIgnoresWrites : ∃ (x : Half) (d e : RegDesc), x.regs.wf = true ∧ x.bit Reg.FC_CTRL 0 =
      true ∧ regDesc? (Reg.FC_CLASS_CFG 11) = some d ∧ (0x64 : Word) &&& d.resv = 0 ∧
    regDesc? (Reg.FC_SRC_CFG 127) = some e ∧ (3 : Word) &&& e.resv = 0 :=
  ⟨{ regs := [(Reg.FC_CTRL, 1)] }, _, _, by decide, by decide, rfl, by decide, rfl, by decide⟩

theorem witness_RaiseAtRecordOnly : powered.regs.wf = true ∧ isSource 0 = true ∧ powered.st ≠ .off ∧ powered.srcBit
      (Reg.FC_INHIB 0) 0 = false ∧ (powered.decision 0 0).1 = 0 ∧ (powered.decision 0 0).2.2 = false :=
  by decide

theorem witness_RaiseToHandle : powered.regs.wf = true ∧ isSource 12 = true ∧ powered.st ≠ .off ∧ powered.srcBit
      (Reg.FC_INHIB 0) 12 = false ∧ (powered.decision 12 1).1 = 1 ∧ (powered.decision 12 1).2.2 = false :=
  by decide

theorem witness_FifoKeepsFirst64 : powered.regs.wf = true ∧ powered.fc.fifo.length < 64 ∧ ∃ y : Half, y.regs.wf =
      true ∧ 64 ≤ y.fc.fifo.length ∧ y.rd Reg.FC_EVT_LOST = 0xFFFFFFFF :=
  ⟨by decide, by decide, { regs := [(Reg.FC_EVT_LOST, 0xFFFFFFFF)], fc := { fifo := List.replicate 64 {} } }, by
      decide, by decide, by decide⟩

theorem witness_CaptureKeepsNewest64 : (powered.ts.fifos.get [] 0).length ≤ 64 ∧ (1 : Nat) ≠ 0 :=
  by decide

theorem witness_GateEquation : ∃ x : Half, x.safRuns = true ∧ x.bit Reg.FC_STAT 6 = false ∧ x.saf.testHs.getLsbD 7 =
      false ∧ x.saf.testLs.getLsbD 7 = false ∧ x.proofOff false 7 = false ∧ x.proofOff true 7 = false :=
  ⟨{ powered with saf := { run := true } }, by decide, by decide, by decide, by decide, by decide, by decide⟩

theorem witness_FaultAckClears : (∃ c, (station (ackHalf .latched 1) {}).Sound ∧ (ackHalf .latched 1).st ≠ .off ∧
      (ackHalf .latched 1).Accepts 0 1 0x61 4 .either c ∧ c.payload.length = 4 ∧ c.num 1 3 = 0 ∧ c.num 0 1 = 1) ∧
    (∃ c, (ackHalf .active 1).Accepts 0 1 0x61 4 .either c ∧ c.num 0 1 = 1) ∧
    ∃ c, (station (ackHalf .active 2) {}).Sound ∧ (ackHalf .active 2).Accepts 0 1 0x61 4 .either c ∧ c.payload.length
      = 4 ∧ c.num 1 3 = 0 ∧ c.num 0 1 = 2 ∧ (ackHalf .active 2).heldSources = [] :=
  ⟨⟨ackCommand 1, station_sound rfl rfl rfl rfl rfl, by decide, by decide, by decide, by decide, by decide⟩,
      ⟨ackCommand 1, by decide, by decide⟩,
    ackCommand 2, station_sound rfl rfl rfl rfl rfl, by decide, by decide, by decide, by decide, by decide⟩

theorem witness_EventsMerge : ∀ k : TaskSt, (k = { state := .running, pendAct := true } ∨ k = { state := .preempted }
      ∨ k = { state := .waiting, sep := true }) →
    ∃ x : Half, x.task.tasks.get? 3 = some k ∧ (k.state = .running ∨ k.state = .preempted ∨ (k.state = .waiting ∧
      k.sep = true)) :=
  by
  intro k hk
  refine ⟨{ task := { tasks := [(3, k)] } }, rfl, ?_⟩
  rcases hk with rfl | rfl | rfl <;> decide

theorem witness_ResetWritesIgnoredWhileClaiming : (∃ x : Half, x.claims = true) ∧ ∃ x : Half, x.role.holdWindow =
      true :=
  ⟨⟨{ regs := [(Reg.SYS_STAT, 8)] }, by decide⟩, { role := { holdWindow := true } }, rfl⟩

theorem witness_ScrupleSurvivesResets : ∃ t u : State, (station powered {}).Sound ∧ exec (.sysRstDomain .a 0x10)
      (station powered {}) = .next t ∧ exec (.sysRstHalf .a) (station powered {}) = .next u :=
  ⟨_, _, station_sound rfl rfl rfl rfl rfl, rfl, rfl⟩

theorem witness_SealedEntryAccepted : (List.replicate 13 (0 : Word)).length = 13 ∧ (1 : Word) ≠ 0 :=
  by decide

theorem witness_CommandChecksInOrder : ∃ c : Ctx, (ackHalf .boot 1).nextCmd 0 = some c ∧ c.tag = 1 ∧ c.op = 0x61 ∧
      c.malformed = false ∧ lenIs 4 c = true ∧ lenIs 5 c = false ∧ c.role < 5 ∧ 4 ≤ c.role ∧
    (ackHalf .boot 1).permitsCmd .either c = false :=
  ⟨ackCommand 1, by decide, rfl, rfl, rfl, by decide, by decide, by decide, by decide, by decide⟩

theorem witness_ClaimedInterruptIsHighest : ∃ x : Half, x.topIrq false = some 17 ∧ x.topIrq true = none :=
  ⟨{ regs := [(Reg.ICU_SRC 16, 0x31), (Reg.ICU_SRC 17, 0x30)] }, by decide, by decide⟩

theorem witness_CanBufferRoundTrip : ({} : Half).can.ram.wf = true ∧ ({} : CanFrame).fmt < 4 ∧ ({} :
      CanFrame).data.length < 4096 ∧ 16 ≤ 16 :=
  by decide

theorem witness_ObjectIdsRoundTrip : ({} : Half).conf.station ≤ 4095 ∧ 8191 ≤ 8191 :=
  by decide

theorem witness_InputFilterCounts : ∃ (s : State) (x : Half), s.half .a = x ∧ x.regs.wf = true ∧ x.st ≠ .off ∧
      x.domainOn 6 = true ∧ (x.partnerClaim = true ∨ x.role.drives = true) ∧ x.timed = true ∧ x.onMultiple x.mono
      250000 = true ∧ x.dio.sampled ≠ some (x.mono.toNat / 250000) ∧ x.dio.count.get 0 63 = x.diN 63 ∧ (63 : Nat) <
      64 :=
  ⟨{ a := { powered with role := { drives := true }, dio := { count := [(63, 12)] } } }, _, rfl, by decide, by
      decide, by decide, .inr rfl, by decide, by decide, by decide, by decide, by decide⟩

theorem witness_LedsShowTheState : (({} : Half).st = .off) ∧ (({ st := .boot } : Half).st ≠ .off ∧ (({ st := .boot }
      : Half).sys.up - ({ st := .boot } : Half).sys.onAt).toNat < 1000000000) ∧
      (({ st := .standby, sys := { onAt := 0 - 1000000000 } } : Half).st ≠ .off ∧ 1000000000 ≤
      (({ st := .standby, sys := { onAt := 0 - 1000000000 } } : Half).sys.up -
      ({ st := .standby, sys := { onAt := 0 - 1000000000 } } : Half).sys.onAt).toNat) ∧
      ({ st := .active, role := { released := true, claimLine := true, refusedAt := some 0 } } : Half).refusedLately
      = true :=
  ⟨rfl, ⟨by decide, by decide⟩, ⟨by decide, by decide⟩, by decide⟩

theorem witness_ScrupleRowsComplete :
    (∃ (x : Half), x.st ≠ .off ∧ x.safRuns = true ∧ x.safPast x.saf.cycAt 3000000 = true) ∧
    (∃ (x : Half) (m : Byte), x.st ≠ .off ∧ x.safRuns = true ∧ x.saf.taken < 8 ∧ x.sqUsed 1 ≠ 0 ∧ x.scrHead = some
      (.trip m)) ∧
    (∃ (x : Half) (o : Nat) (bs : List Byte), x.st ≠ .off ∧ x.safRuns = true ∧ x.saf.taken < 8 ∧ x.sqUsed 1 ≠ 0 ∧
      x.scrHead = some (.chunk o bs)) ∧
    (∃ (x : Half) (n : Nat) (w : Nat), x.st ≠ .off ∧ x.safRuns = true ∧ x.saf.taken < 8 ∧ x.sqUsed 1 ≠ 0 ∧ x.scrHead
      = some (.fin n w)) ∧
    (∃ (x : Half) (t : DWord), x.st ≠ .off ∧ x.safRuns = true ∧ x.saf.taken < 8 ∧ x.sqUsed 1 ≠ 0 ∧ x.scrHead = some
      (.time t)) ∧
    (∃ (x : Half), x.st ≠ .off ∧ x.safRuns = true ∧ x.saf.taken < 8 ∧ x.sqUsed 1 ≠ 0 ∧ x.scrHead = some .proof) ∧
    (∃ (x : Half) (failed : List Nat) (y : Half) (z : Half), x.st ≠ .off ∧ x.safRuns = true ∧ x.saf.proof = true ∧ y
      = x.modSaf (fun k => { k with proof := false, proofAt := x.opmin, overdue := false }) ∧ z = (if
      y.role.proofTest && y.role.proofStep ≤ 1 then { y with role := { y.role with proofStep := 2 } } else y)) ∧
    (∃ (x : Half) (si : Nat), x.st ≠ .off ∧ si < 16 ∧ x.domainOn 5 = true ∧ siOut (x.safFlt false si) ≠ (x.safFlt
      false si).out) ∧
    (∃ (x : Half) (si : Nat), x.st ≠ .off ∧ si < 16 ∧ x.domainOn 5 = true ∧ siOut (x.safFlt true si) ≠ (x.safFlt true
      si).out) ∧
    (∃ (x : Half) (b : Bool) (so : Nat), x.st ≠ .off ∧ x.backDone b so = true) ∧
    (∃ (x : Half) (pair : Nat), x.st ≠ .off ∧ pair < 8 ∧ x.safRuns = true ∧ x.pairSingle pair = false ∧ x.pairDiffers
      pair = true ∧ x.saf.pairFault.get? pair = none ∧ x.safPast (x.safFlt false (2 * pair)).stamp (x.pairTime pair *
      1000000 + 1) = true ∧ x.safPast (x.safFlt false (2 * pair + 1)).stamp (x.pairTime pair * 1000000 + 1) = true) ∧
    (∃ (x : Half) (tp : Nat) (rawA : BitVec 16) (rawB : BitVec 16), x.st ≠ .off ∧ x.safRuns = true) ∧
    (∃ (x : Half) (f : Nat) (c : SafFunc), x.st ≠ .off ∧ x.safRuns = true ∧ (x.safFn f).state = .delay ∧ x.safFunc f
      = some c ∧ x.safPast (x.safFn f).stamp (c.delay * 1000000) = true) ∧
    (∃ (x : Half) (f : Nat), x.st ≠ .off ∧ x.safRuns = true ∧ (x.safFn f).state = .sync ∧ (x.safFunc f).isSome = true
      ∧ x.safPast (x.safFn f).stamp 500000000 = true) ∧
    (∃ (x : Half) (f : Nat) (c : SafFunc), x.st ≠ .off ∧ x.safFunc f = some c ∧ x.safRuns = true ∧ x.saf.sealOk =
      true ∧ c.typ = 2 ∧ c.auto = true ∧ (x.safFn f).state = .resetWait ∧ x.fnDemand c = false ∧ x.fnUnlocked c =
      false ∧ x.fnStill c 500000000 = true) ∧
    (∃ (x : Half) (fi : Nat), x.st ≠ .off ∧ fi < 2 ∧ x.safRuns = true ∧ (x.scrFiEdge fi).saf.sealOk = true) ∧
    (∃ (x : Half) (f : Nat) (c : SafFunc) (t : DWord), x.st ≠ .off ∧ x.safFunc f = some c ∧ x.safRuns = true ∧
      x.saf.sealOk = true ∧ c.typ = 6 ∧ c.fi.length = 2 ∧ (x.safFn f).state ≠ .fault ∧ x.saf.fiAt.get? f = some t ∧
      x.safPast t 1000000000 = true ∧ (x.fiLoss c || x.fiApart c) = true) ∧
    (∃ (x : Half) (so : Nat) (low : Bool), x.st ≠ .off ∧ so < 8 ∧ x.safRuns = true ∧ x.saf.testHs.getLsbD so = false
      ∧ x.saf.testLs.getLsbD so = false) ∧
    (∃ (x : Half) (so : Nat) (low : Bool) (confirmed : Bool) (y : Half), x.st ≠ .off ∧ (if low then x.saf.testLs else
      x.saf.testHs).getLsbD so = true ∧ y = x.modSaf (fun k => if low then
      { k with testLs := maskBit k.testLs so false } else { k with testHs := maskBit k.testHs so false })) ∧
    (∃ (x : Half) (so : Nat) (t : DWord), x.st ≠ .off ∧ so < 8 ∧ x.safRuns = true ∧ x.soCause so = true ∧ x.pathOpen
      so = true ∧ x.saf.openAt.get? so = some t ∧ x.safPast t 2000000 = true) ∧
    (∃ (x : Half), x.st ≠ .off ∧ x.domainOn 5 = true) ∧
    (∃ (x : Half), x.st ≠ .off ∧ x.domainOn 5 = true ∧ x.saf.xin = true ∧ x.saf.xlatch = false ∧ x.safPast
      x.saf.xinAt 500000 = true) ∧
    (∃ (x : Half), x.st ≠ .off ∧ x.saf.xin = true ∧ x.saf.xlatch = false) ∧
    (∃ (x : Half), x.st ≠ .off ∧ x.saf.xin = true ∧ x.saf.xlatch = true) ∧
    (∃ (x : Half), x.st ≠ .off ∧ x.domainOn 5 = true ∧ x.partnerPresent = true) ∧
    (∃ (x : Half) (srs : Nat), x.st ≠ .off ∧ srs < 4 ∧ x.safRuns = true ∧ (x.safFlt false (16 + srs)).out = true ∧
      (x.safFlt true (16 + srs)).out = true ∧ (x.safSrs srs).level = false ∧ (x.safSrs srs).state = .idle) ∧
    (∃ (x : Half) (srs : Nat), x.st ≠ .off ∧ srs < 4 ∧ x.safRuns = true ∧ (x.safSrs srs).state = .pressed ∧ x.safPast
      (x.safSrs srs).stamp 3000000001 = true) ∧
    (∃ (x : Half) (srs : Nat), x.st ≠ .off ∧ srs < 4 ∧ x.safRuns = true ∧ (x.safSrs srs).state = .recover ∧ (x.safSrs
      srs).level = false ∧ x.safPast (x.safSrs srs).stamp 500000001 = true) ∧
    (∃ (x : Half) (f : Nat) (c : SafFunc), x.st ≠ .off ∧ x.safFunc f = some c ∧ x.safRuns = true ∧ x.saf.sealOk =
      true ∧ c.typ ≠ 3 ∧ (x.safFn f).state = .resetWait ∧ x.fnDemand c = false ∧ x.fnUnlocked c = false ∧
      ((List.range 8).any fun j => fnNames c j && x.soCause j) = false ∧ ((List.range 8).all fun j => !fnNames c j ||
      (x.saf.energised.getLsbD j && (x.saf.enAt.get? j).any fun t => x.safPast t 20000000)) = true) ∧
    (∃ (x : Half), x.st ≠ .off ∧ x.saf.overdue = false ∧ 336 * 60 ≤ (x.opmin - x.saf.proofAt).toNat) ∧
    (∃ (x : Half) (siA : BitVec 16) (siB : BitVec 16) (srsA : BitVec 4) (srsB : BitVec 4) (y : Half), x.st ≠ .off ∧
      x.domainOn 5 = true ∧ x.saf.siAt = none ∧ y = x.modSaf (fun k => { k with siAt := some k.clk })) :=
  ⟨⟨{ powered with st := .active, regs := powered.regs ++ [], saf := { run := true, clk := 0x100000000000 } }, by
      decide, by decide, by decide⟩,
    ⟨safetyQueue 0xD0 [1, 0, 0, 0], 1, by decide, by decide, by decide, by decide, by decide⟩,
    ⟨safetyQueue 0xD1 [0, 0, 0, 0, 7], 0, [7], by decide, by decide, by decide, by decide, by decide⟩,
    ⟨safetyQueue 0xD2 [8, 0, 0, 0, 0, 0, 0, 0], 8, 0, by decide, by decide, by decide, by decide, by decide⟩,
    ⟨safetyQueue 0xD3 [0, 0, 0, 0, 0, 0, 0, 0], 0, by decide, by decide, by decide, by decide, by decide⟩,
    ⟨safetyQueue 0xD4 [], by decide, by decide, by decide, by decide, by decide⟩,
    ⟨{ powered with st := .active, regs := powered.regs ++ [], saf := { run := true, clk := 0x100000000000, proof := true } },
      [], _, _, by decide, by decide, by decide, rfl, rfl⟩,
    ⟨{ powered with st := .active, regs := powered.regs ++ [], saf := { run := true, clk := 0x100000000000, fltA := [(15, { count := 9 })] } },
      15, by decide, by decide, by decide, by decide⟩,
    ⟨{ powered with st := .active, regs := powered.regs ++ [], saf := { run := true, clk := 0x100000000000, fltB := [(15, { count := 9 })] } },
      15, by decide, by decide, by decide, by decide⟩,
    ⟨{ powered with st := .active, regs := powered.regs ++ [], saf := { run := true, clk := 0x100000000000, backA := 0x80 } },
      false, 7, by decide, by decide⟩,
    ⟨{ powered with st := .active, regs := powered.regs ++ [], saf := { run := true, clk := 0x100000000000, fltA := [(14, { count := 9, out := true })] } },
      7, by decide, by decide, by decide, by decide, by decide, by decide, by decide, by decide⟩,
    ⟨{ powered with st := .active, regs := powered.regs ++ [], saf := { run := true, clk := 0x100000000000 } }, 0, 0,
      0, by decide, by decide⟩,
    ⟨{ powered with st := .active, regs := powered.regs ++ [], saf := { run := true, clk := 0x100000000000, held := some (0, 0, { funcs := [(0, {})] }), sealOk := true, funcs := [(0, { state := .delay })] } },
      0, {}, by decide, by decide, by decide, by decide, by decide⟩,
    ⟨{ powered with st := .active, regs := powered.regs ++ [], saf := { run := true, clk := 0x100000000000, held := some (0, 0, { funcs := [(0, {})] }), sealOk := true, funcs := [(0, { state := .sync })] } },
      0, by decide, by decide, by decide, by decide, by decide⟩,
    ⟨{ powered with st := .active, regs := powered.regs ++ [], saf := { run := true, clk := 0x100000000000, held := some (0, 0, { funcs := [(0, { typ := 2, auto := true })] }), sealOk := true, funcs := [(0, { state := .resetWait })] } },
      0, { typ := 2, auto := true }, by decide, by decide, by decide, by decide, by decide, by decide, by decide, by
      decide, by decide, by decide⟩,
    ⟨{ powered with st := .active, regs := powered.regs ++ [], saf := { run := true, clk := 0x100000000000, held := some (0, 0, { funcs := [(0, {})] }), sealOk := true } },
      1, by decide, by decide, by decide, by decide⟩,
    ⟨{ powered with st := .active, regs := powered.regs ++ [], saf := { run := true, clk := 0x100000000000, held := some (0, 0, { funcs := [(0, { typ := 6, fi := [0, 1], tripRpm := 0x42C80000 })] }), sealOk := true, fiAt := [(0, 0)], fi := [(1, { last := some 0x100000000000, speed := 0x42C80000 })] } },
      0, { typ := 6, fi := [0, 1], tripRpm := 0x42C80000 }, 0, by decide, by decide, by decide, by decide, by decide,
      by decide, by decide, by decide, by decide, by decide⟩,
    ⟨{ powered with st := .active, regs := powered.regs ++ [], saf := { run := true, clk := 0x100000000000 } }, 7,
      true, by decide, by decide, by decide, by decide, by decide⟩,
    ⟨{ powered with st := .active, regs := powered.regs ++ [], saf := { run := true, clk := 0x100000000000, testHs := 0x80 } },
      7, false, true, _, by decide, by decide, rfl⟩,
    ⟨{ powered with st := .active, regs := powered.regs ++ [], saf := { run := true, clk := 0x100000000000, openAt := [(7, 0)], qtrip := 0x80 } },
      7, 0, by decide, by decide, by decide, by decide, by decide, by decide, by decide⟩,
    ⟨powered, by decide, by decide⟩,
    ⟨{ powered with st := .active, regs := powered.regs ++ [], saf := { run := true, clk := 0x100000000000, xin := true } },
      by decide, by decide, by decide, by decide, by decide⟩,
    ⟨{ powered with st := .active, regs := powered.regs ++ [], saf := { run := true, clk := 0x100000000000, xin := true } },
      by decide, by decide, by decide⟩,
    ⟨{ powered with st := .active, regs := powered.regs ++ [], saf := { run := true, clk := 0x100000000000, xin := true, xlatch := true } },
      by decide, by decide, by decide⟩,
    ⟨{ powered with st := .active, regs := powered.regs ++ [(Reg.SYS_STAT, 2)], saf := { run := true, clk := 0x100000000000 } },
      by decide, by decide, by decide⟩,
    ⟨{ powered with st := .active, regs := powered.regs ++ [], saf := { run := true, clk := 0x100000000000, fltA := [(19, { out := true })], fltB := [(19, { out := true })], srs := [(3, { state := .idle })] } },
      3, by decide, by decide, by decide, by decide, by decide, by decide, by decide⟩,
    ⟨{ powered with st := .active, regs := powered.regs ++ [], saf := { run := true, clk := 0x100000000000, srs := [(3, { state := .pressed })] } },
      3, by decide, by decide, by decide, by decide, by decide⟩,
    ⟨{ powered with st := .active, regs := powered.regs ++ [], saf := { run := true, clk := 0x100000000000, srs := [(3, { state := .recover })] } },
      3, by decide, by decide, by decide, by decide, by decide, by decide⟩,
    ⟨{ powered with st := .active, regs := powered.regs ++ [], saf := { run := true, clk := 0x100000000000, held := some (0, 0, { funcs := [(0, { typ := 1 })] }), sealOk := true, funcs := [(0, { state := .resetWait })] } },
      0, { typ := 1 }, by decide, by decide, by decide, by decide, by decide, by decide, by decide, by decide, by
      decide, by decide⟩,
    ⟨{ powered with st := .active, regs := powered.regs ++ [(Reg.SYS_OPMIN, 0x4EC0)], saf := { run := true, clk := 0x100000000000 } },
      by decide, by decide, by decide⟩,
    ⟨powered, 0, 0, 0, 0, _, by decide, by decide, by decide, rfl⟩⟩

theorem witness_ScrupleRowsOfBothHalvesComplete :
    (∃ (s : State) (h : HalfId) (x : Half) (p : Half) (readback : Byte) (masksOk : Bool) (t : State), s.half h = x ∧
      s.half h.other = p ∧ x.st ≠ .off ∧ p.st ≠ .off ∧ x.safRuns = true ∧ t = s.put h (x.safCycle readback masksOk)) ∧
    (∃ (x : Half) (p : Half) (tp : Nat), x.st ≠ .off ∧ p.st ≠ .off ∧ tp < 8 ∧ x.safRuns = true ∧ x.saf.tpMaster =
      false) ∧
    (∃ (s : State) (h : HalfId) (x : Half) (p : Half), s.half h = x ∧ s.half h.other = p ∧ x.st ≠ .off ∧ p.st ≠ .off
      ∧ h = .b) ∧
    (∃ (s : State) (h : HalfId) (x : Half) (p : Half), s.half h = x ∧ s.half h.other = p ∧ x.st ≠ .off ∧ p.st ≠ .off
      ∧ h = .a ∧ (p.saf.tpMaster && !x.partnerPresent) = false) ∧
    (∃ (s : State) (h : HalfId) (x : Half) (p : Half), s.half h = x ∧ s.half h.other = p ∧ x.st ≠ .off ∧ p.st ≠ .off
      ∧ h = .a ∧ p.saf.tpMaster = true ∧ x.partnerPresent = false) ∧
    (∃ (x : Half) (p : Half) (word : BitVec 12), x.st ≠ .off ∧ p.st ≠ .off ∧ x.safRuns = true) :=
  ⟨⟨{ a := { powered with st := .active, regs := powered.regs ++ [], saf := { run := true, clk := 0x100000000000 } }, b := powered },
      .a, { powered with st := .active, regs := powered.regs ++ [], saf := { run := true, clk := 0x100000000000 } },
      powered, 0, true, _, rfl, rfl, by decide, by decide, by decide, rfl⟩,
    ⟨{ powered with st := .active, regs := powered.regs ++ [], saf := { run := true, clk := 0x100000000000 } },
      powered, 7, by decide, by decide, by decide, by decide, by decide⟩,
    ⟨{ a := powered, b := powered }, HalfId.b, powered, powered, rfl, rfl, by decide, by decide, by decide⟩,
    ⟨{ a := powered, b := powered }, .a, powered, powered, rfl, rfl, by decide, by decide, by decide, by decide⟩,
    ⟨{ a := powered, b := { powered with saf := { tpMaster := true } } }, HalfId.a, powered,
      { powered with saf := { tpMaster := true } }, rfl, rfl, by decide, by decide, by decide, by decide, by decide⟩,
    ⟨{ powered with st := .active, regs := powered.regs ++ [], saf := { run := true, clk := 0x100000000000 } },
      powered, 1, by decide, by decide, by decide⟩⟩

theorem witness_PowerRowsComplete :
    (∃ (x : Half) (pd : Nat) (y : Half), x.st ≠ .off ∧ railOrder.contains pd = true ∧ x.bit Reg.SYS_PD pd = false ∧
      ((railOrder.takeWhile (· != pd)).all (x.bit Reg.SYS_PD)) = true ∧ x.upGone x.sys.railAt 100 = true ∧ y =
      ({ x with sys := { x.sys with railAt := x.sys.up } } : Half).setBit Reg.SYS_PD pd true ∧ pd ≠ 1 ∧
      y.fc.domains.contains pd = false ∧ y.bit Reg.FC_STAT 6 = false) ∧
    (∃ (x : Half), x.st ≠ .off ∧ x.sys.onStore = true ∧ x.sys.powerFail = false ∧ x.upGone x.sys.storeAt 1000 = true)
      ∧
    (∃ (x : Half), x.st ≠ .off ∧ x.sys.onStore = true ∧ (x.bit Reg.SYS_STAT 8 && !(x.sys.powerFail && x.upGone
      x.sys.failAt 5000)) = false) ∧
    (∃ (x : Half) (energy : BitVec 16), x.st ≠ .off ∧ 100 ≤ energy.toNat ∧ x.bit Reg.SYS_STAT 8 = true) ∧
    (∃ (x : Half) (energy : BitVec 16), x.st ≠ .off ∧ energy.toNat < 100 ∧ x.bit Reg.SYS_STAT 8 = true) ∧
    (∃ (x : Half) (pd : Nat), x.st ≠ .off ∧ (pd = 1 ∨ pd = 2 ∨ pd = 3 ∨ pd = 4 ∨ pd = 7)) ∧
    (∃ (x : Half), x.st ≠ .off) ∧
    (∃ (x : Half), x.st ≠ .off ∧ ((((x.setBit Reg.SYS_PD 6 false).discharge).raise 49).role.holdWindow) = false) ∧
    (∃ (x : Half) (doms : Byte), x.st ≠ .off) ∧
    (∃ (x : Half), x.st ≠ .off) ∧
    (∃ (x : Half) (pd : Nat) (y : Half) (z : Half), x.st ≠ .off ∧ pd ≤ 7 ∧ x.bit Reg.SYS_PD (8 + pd) = true ∧ x.bit
      Reg.SYS_PD pd = true ∧ x.upGone (x.sys.rstAt.get 0 pd) 10 = true ∧ x.bit Reg.FC_STAT 6 = false ∧
      x.boot.startupDone = false ∧ x.fc.resetting = false ∧ y =
      { x with fc := { x.fc with domains := x.fc.domains.erase pd } } ∧ z = (List.range 4).foldl (fun (z : Half) i =>
      z.clrReg (Reg.FC_INHIB i) (domainMask [pd] i)) (y.setBit Reg.SYS_PD (8 + pd) false)) ∧
    (∃ (x : Half) (y : Half), x.st ≠ .off ∧ 59 ≤ x.partMinute ∧ x.opmin ≠ 0xFFFFFFFF ∧ y = x.wr Reg.SYS_OPMIN
      (x.opmin + 1)) ∧
    (∃ (x : Half) (y : Half), x.st ≠ .off ∧ 59 ≤ x.partMinute ∧ x.opmin = 0xFFFFFFFF ∧ y = x.setBit Reg.SYS_STAT 10
      true) :=
  ⟨⟨{ longPowered with regs := [(Reg.SYS_PD, 0xBF)] }, 6, _, by decide, by decide, by decide, by decide, by decide,
      rfl, by decide, by decide, by decide⟩,
    ⟨{ longPowered with sys := { longPowered.sys with onStore := true } }, by decide, by decide, by decide, by
      decide⟩,
    ⟨{ powered with sys := { onStore := true } }, by decide, by decide, by decide⟩,
    ⟨{ powered with regs := powered.regs ++ [(Reg.SYS_STAT, 0x100)] }, 100, by decide, by decide, by decide⟩,
    ⟨{ powered with regs := powered.regs ++ [(Reg.SYS_STAT, 0x100)] }, 99, by decide, by decide, by decide⟩,
    ⟨powered, 7, by decide, by decide⟩,
    ⟨powered, by decide⟩,
    ⟨{ powered with regs := powered.regs ++ [(Reg.FC_INHIB 1, 0x20000)] }, by decide, by decide⟩,
    ⟨powered, 4, by decide⟩,
    ⟨powered, by decide⟩,
    ⟨{ longPowered with regs := [(Reg.SYS_PD, 0x80FF)] }, 7, _, _, by decide, by decide, by decide, by decide, by
      decide, by decide, by decide, by decide, rfl, rfl⟩,
    ⟨longPowered, _, by decide, by decide, by decide, rfl⟩,
    ⟨{ longPowered with regs := [(Reg.SYS_PD, 0xFF), (Reg.SYS_OPMIN, 0xFFFFFFFF)] }, _, by decide, by decide, by
      decide, rfl⟩⟩

theorem witness_FeedRowsComplete :
    (∃ (x : Half) (p : Half) (y : Half), x.st ≠ .off ∧ p.st ≠ .off ∧ x.sys.onStore = false ∧ y =
      ({ x with sys := { x.sys with onStore := true, storeAt := x.sys.up } } : Half).setFld Reg.SYS_STAT 5 4 0) ∧
    (∃ (x : Half) (p : Half) (feed : Feed), x.st ≠ .off ∧ p.st ≠ .off ∧ (feed = .psa ∨ feed = .psb) ∧ x.sys.powerFail
      = false) ∧
    (∃ (x : Half) (p : Half) (feed : Feed) (inRange : Bool), x.st ≠ .off ∧ p.st ≠ .off ∧ (feed = .flda ∨ feed =
      .fldb)) :=
  ⟨⟨powered, powered, _, by decide, by decide, by decide, rfl⟩,
    ⟨powered, powered, .psb, by decide, by decide, by decide, by decide⟩,
    ⟨powered, powered, .fldb, false, by decide, by decide, by decide⟩⟩

theorem witness_PowerOnStartsAnUnpoweredHalf :
    (∃ (x : Half) (slotCode : BitVec 2), x.st = .off) :=
  ⟨{}, 1, by decide⟩

theorem witness_BootRowsComplete :
    (∃ (x : Half), x.st ≠ .off ∧ x.mayBoot = true ∧ x.boot.noSlot = false) ∧
    (∃ (x : Half), x.st ≠ .off ∧ x.mayBoot = true ∧ x.boot.noSlot = true ∧ x.upGone x.boot.noSlotAt 60000000 = true) ∧
    (∃ (s : State) (h : HalfId) (x : Half) (sigOk : Bool) (second : Bool) (k : Nat) (i : Image) (y : Half), s.half h
      = x ∧ x.st ≠ .off ∧ x.st = .boot ∧ x.boot.trying = some (k, second) ∧ (x.fwSlot k).image = some i ∧ fwVerifies
      i sigOk = true ∧ y =
      ({ x with boot := { x.boot with trying := none, running := k, version := i.version, stateFormat := Config.stateFormat i.body, trial := x.boot.trial && !second } }
      : Half).enterNative.makeKey
        ((s.half h.other).boot.key.isSome && (s.half h.other).st != .off)) ∧
    (∃ (x : Half) (sigOk : Bool) (second : Bool) (k : Nat) (i : Image), x.st ≠ .off ∧ x.st = .boot ∧ x.boot.trying =
      some (k, second) ∧ (x.fwSlot k).image = some i ∧ fwVerifies i sigOk = false) ∧
    (∃ (x : Half) (sigOk : Bool) (i : Image) (rest : List Image) (y : Half), x.st ≠ .off ∧ x.st = .native ∧
      x.boot.startupDone = false ∧ x.boot.current = none ∧ x.domainOn 2 = true ∧ y = x.initImages ∧ y.boot.images = i
      :: rest ∧ i.wellFormed = true ∧ i.target = 1 ∧ sigOk = true) ∧
    (∃ (x : Half), x.st ≠ .off ∧ x.boot.current.isSome = true) ∧
    (∃ (x : Half) (a0 : DWord), x.st ≠ .off ∧ x.boot.current.isSome = true ∧ a0 ≠ 0) ∧
    (∃ (x : Half) (i : Image), x.st ≠ .off ∧ x.boot.current = some i ∧ x.upGone x.boot.startedAt (x.imageLimit i) =
      true) ∧
    (∃ (s : State) (h : HalfId) (x : Half) (y : Half), s.half h = x ∧ x.st ≠ .off ∧ x.st = .native ∧
      x.boot.startupDone = false ∧ x.boot.current = none ∧ x.boot.recovery = none ∧ y = x.initImages ∧ y.boot.images
      = [] ∧ s.stn.identOk = true ∧ ((y.cfg.cur.isSome = true ∨ y.partnerClaim = true))) ∧
    (∃ (x : Half), x.st ≠ .off ∧ x.st = .native ∧ x.role.negotiating = true ∧ x.goneUs x.role.negAt 5000000 = true ∧
      x.partnerClaim = false) ∧
    (∃ (x : Half), x.st ≠ .off ∧ x.st = .native ∧ x.role.negotiating = true ∧ x.goneUs x.role.negAt 5000000 = true ∧
      x.partnerClaim = true) ∧
    (∃ (x : Half) (n : Nat), x.st ≠ .off ∧ x.st = .native ∧ x.role.loading = true ∧ x.partnerClaim = false ∧
      x.cfg.cur = some n) ∧
    (∃ (x : Half), x.st ≠ .off ∧ x.st = .boot) :=
  ⟨⟨{ st := .boot, regs := [(Reg.SYS_STAT, 0x100), (Reg.SYS_PD, 0xFF)] }, by decide, by decide, by decide⟩,
    ⟨{ st := .boot, sys := longPowered.sys, boot := { noSlot := true }, regs := [(Reg.SYS_STAT, 0x100), (Reg.SYS_PD, 0xFF)] },
      by decide, by decide, by decide, by decide⟩,
    ⟨{ a := { powered with st := .boot, boot := { trying := some (0, false), slot0 := { image := some { kind := 1, secVer := Config.minSecVer } } } } },
      .a,
      { powered with st := .boot, boot := { trying := some (0, false), slot0 := { image := some { kind := 1, secVer := Config.minSecVer } } } },
      true, false, 0, { kind := 1, secVer := Config.minSecVer }, _, rfl, by decide, by decide, by decide, rfl, by
      simp [fwVerifies], rfl⟩,
    ⟨{ powered with st := .boot, boot := { trying := some (0, false), slot0 := { image := some { kind := 1, secVer := Config.minSecVer } } } },
      false, false, 0, { kind := 1, secVer := Config.minSecVer }, by decide, by decide, by decide, rfl, by simp
      [fwVerifies]⟩,
    ⟨{ powered with st := .native, boot := { imgInit := true, images := [nativeImage] } }, _, nativeImage, [], _, by
      decide, by decide, by decide, by decide, by decide, rfl, by decide, by decide, by decide, rfl⟩,
    ⟨{ powered with st := .native, boot := { current := some nativeImage } }, by decide, by decide⟩,
    ⟨{ powered with st := .native, boot := { current := some nativeImage } }, 1, by decide, by decide, by decide⟩,
    ⟨{ longPowered with st := .native, boot := { current := some nativeImage } }, nativeImage, by decide, by decide,
      by decide⟩,
    ⟨{ a := { powered with st := .native, boot := { imgInit := true }, cfg := { cur := some 0 } }, b := {} }, .a,
      { powered with st := .native, boot := { imgInit := true }, cfg := { cur := some 0 } }, _, rfl, by decide, by
      decide, by decide, by decide, by decide, rfl, by decide, by decide, by decide⟩,
    ⟨{ powered with st := .native, role := { negotiating := true } }, by decide, by decide, by decide, by decide, by
      decide⟩,
    ⟨{ powered with st := .native, regs := powered.regs ++ [(Reg.SYS_STAT, 4)], role := { negotiating := true } }, by
      decide, by decide, by decide, by decide, by decide⟩,
    ⟨{ powered with st := .native, role := { loading := true }, cfg := { cur := some 0 } }, 0, by decide, by decide,
      by decide, by decide, by decide⟩,
    ⟨{ powered with st := .boot }, by decide, by decide⟩⟩

theorem witness_ClaimAndPresenceRowsComplete :
    (∃ (x : Half), x.st ≠ .off ∧ x.partnerClaim = true) ∧
    (∃ (x : Half) (y : Half) (z : Half), x.st ≠ .off ∧ x.partnerClaim = false ∧ y =
      ({ ((x.setBit Reg.SYS_STAT 2 true).sysIrq 5) with role := { ((x.setBit Reg.SYS_STAT 2 true).sysIrq 5).role with relinq := false, claimAt := x.mono } }
      : Half).showReleased ∧ z = (if y.role.holdWindow then y.endHold else y)) ∧
    (∃ (x : Half) (y : Half), x.st ≠ .off ∧ (x.st = .standby ∨ x.st = .syncing ∨ x.st = .native ∨ x.st = .fault) ∧ y
      = x.relinquish.loseClaim) ∧
    (∃ (x : Half) (y : Half), x.st ≠ .off ∧ (x.st = .active ∨ x.st = .relinquishing) ∧ y =
      x.dropRole.relinquish.loseClaim) ∧
    (∃ (x : Half) (y : Half), x.st ≠ .off ∧ x.partnerPresent = true ∧ y = ((x.setBit Reg.SYS_STAT 1 false).sysIrq
      4).setBit Reg.AI_VAR 1 false) ∧
    (∃ (x : Half), x.st ≠ .off ∧ x.partnerPresent = false) ∧
    (∃ (x : Half), x.st ≠ .off) ∧
    (∃ (x : Half) (y : Half), x.st ≠ .off ∧ x.fld Reg.FC_CTRL 2 1 ≠ 2) ∧
    (∃ (x : Half), x.st ≠ .off ∧ x.fld Reg.FC_CTRL 2 1 = 2) ∧
    (∃ (x : Half), x.st ≠ .off ∧ x.domainOn 1 = true ∧ x.releaseHolds = true ∧ ((x.partnerClaim = true ∨
      x.role.takeover = true))) ∧
    (∃ (x : Half), x.st ≠ .off ∧ x.domainOn 1 = true ∧ x.releaseHolds = true ∧ x.partnerClaim = false ∧
      x.role.takeover = false) ∧
    (∃ (x : Half), x.st ≠ .off ∧ x.role.takeover = true ∧ x.st = .standby ∧ x.role.cold = false) ∧
    (∃ (x : Half) (n : Nat), x.st ≠ .off ∧ x.role.takeover = true ∧ (x.st = .standby ∨ x.st = .syncing) ∧ x.role.cold
      = true ∧ x.partnerClaim = false ∧ x.cfg.cur = some n) ∧
    (∃ (x : Half), x.st ≠ .off ∧ x.role.holdWindow = true ∧ (x.partnerClaim || x.goneUs x.role.holdAt 110) = true) ∧
    (∃ (x : Half) (y : Half) (z : Half), x.st ≠ .off ∧ x.hbOk = true ∧ x.goneUs x.role.hbAt 100 = true ∧ y =
      (x.setBit Reg.SPAN_STAT 1 false).spanIrq 1 ∧ z = { y with role := { y.role with partner := none } }) ∧
    (∃ (x : Half) (y : Half), x.st ≠ .off ∧ x.bit Reg.SPAN_STAT 0 = true ∧ x.st ≠ .standby ∧ y = ((((x.setBit
      Reg.SPAN_STAT 0 false).spanIrq 7).restartRel).clearChan 7).leaveSource4 ∧ y.st ≠ .standby) ∧
    (∃ (x : Half) (y : Half), x.st ≠ .off ∧ x.linked = true ∧ x.bit Reg.SPAN_STAT 0 = false ∧ y = (x.setBit
      Reg.SPAN_STAT 0 true).spanIrq 7 ∧ y.span.lost = false) ∧
    (∃ (x : Half), x.st ≠ .off ∧ x.goneUs x.role.armedAt 100 = true) ∧
    (∃ (x : Half), x.st ≠ .off ∧ x.linked = true) ∧
    (∃ (x : Half), x.st ≠ .off ∧ x.linked = true) ∧
    (∃ (x : Half), x.st ≠ .off ∧ x.isActive = true ∧ x.goneUs x.role.lastSwap 604800000000 = true) :=
  ⟨⟨{ powered with regs := powered.regs ++ [(Reg.SYS_STAT, 4)] }, by decide, by decide⟩,
    ⟨powered, _, _, by decide, by decide, rfl, rfl⟩,
    ⟨{ powered with st := .standby }, _, by decide, by decide, rfl⟩,
    ⟨powered, _, by decide, by decide, rfl⟩,
    ⟨{ powered with regs := [(Reg.SYS_STAT, 2), (Reg.SYS_PD, 0xFF)] }, _, by decide, by decide, rfl⟩,
    ⟨powered, by decide, by decide⟩,
    ⟨powered, by decide⟩,
    ⟨powered, powered, by decide, by decide⟩,
    ⟨{ powered with regs := powered.regs ++ [(Reg.FC_CTRL, 4)] }, by decide, by decide⟩,
    ⟨{ powered with role := { takeover := true } }, by decide, by decide, by decide, by decide⟩,
    ⟨powered, by decide, by decide, by decide, by decide, by decide⟩,
    ⟨{ powered with st := .standby, role := { takeover := true } }, by decide, by decide, by decide, by decide⟩,
    ⟨{ powered with st := .syncing, role := { takeover := true, cold := true }, cfg := { cur := some 0 } }, 0, by
      decide, by decide, by decide, by decide, by decide, by decide⟩,
    ⟨{ powered with role := { holdWindow := true } }, by decide, by decide, by decide⟩,
    ⟨{ powered with regs := powered.regs ++ [(Reg.SPAN_STAT, 2)] }, _, _, by decide, by decide, by decide, rfl, rfl⟩,
    ⟨{ powered with regs := powered.regs ++ [(Reg.SPAN_STAT, 1)] }, _, by decide, by decide, by decide, rfl, by
      decide⟩,
    ⟨linked, _, by decide, by decide, by decide, rfl, by decide⟩,
    ⟨powered, by decide, by decide⟩,
    ⟨linked, by decide, by decide⟩,
    ⟨linked, by decide, by decide⟩,
    ⟨powered, by decide, by decide, by decide⟩⟩

theorem witness_SpanFrameRowsComplete :
    (∃ (x : Half) (y : Half), x.st ≠ .off ∧ x.linked = true ∧ x.due .heartbeat 50 = true ∧ y = (x.ran
      .heartbeat).spanPut (fun seq => .heartbeat seq {
        state := BitVec.ofNat 8 x.st.code, fcLevel := BitVec.ofNat 8 ((x.pendLevel fun _ => true).getD 0)
        takeoverArmed := x.role.armed, synced := x.role.synced, released := x.role.released, partnerClaim :=
      x.partnerClaim
        partnerPresent := x.partnerPresent, startupDone := x.boot.startupDone, fwVersion := x.boot.version
        stateFormat := x.boot.stateFormat, resyncMask := x.copy.resync, cfgCommit := x.cfgCommit, monoTime := x.mono
        hbCount := x.role.hbCount })) ∧
    (∃ (x : Half), x.st ≠ .off ∧ x.linked = true) ∧
    (∃ (x : Half) (item : BitVec 16) (u : RelItem) (y : Half), x.st ≠ .off ∧ x.span.unacked.find? (fun v => v.item ==
      item) = some u ∧ x.linked = true ∧ x.goneUs u.at_ 200 = true ∧ u.retries < 3 ∧ y =
      { x with span := { x.span with unacked := x.span.unacked.map fun v => if v.item == item then { v with retries := v.retries + 1, at_ := x.mono } else v } })
      ∧
    (∃ (x : Half) (item : BitVec 16) (u : RelItem), x.st ≠ .off ∧ x.span.unacked.find? (fun v => v.item == item) =
      some u ∧ x.linked = true ∧ x.goneUs u.at_ 200 = true ∧ 3 ≤ u.retries) ∧
    (∃ (x : Half) (hdr : SpanHdr) (d : StateDelta) (y : Half), x.st ≠ .off ∧ x.linked = true ∧ y = x.spanAccept hdr ∧
      y.follows = true ∧ d.region.toNat < 3) ∧
    (∃ (x : Half) (hdr : SpanHdr) (c : CycleEnd) (y : Half), x.st ≠ .off ∧ x.linked = true ∧ y = x.spanAccept hdr ∧
      y.follows = true ∧ c.task = 0xFF) ∧
    (∃ (x : Half) (hdr : SpanHdr) (c : CycleEnd) (y : Half), x.st ≠ .off ∧ x.linked = true ∧ y = x.spanAccept hdr ∧
      y.follows = true ∧ c.task ≠ 0xFF) ∧
    (∃ (x : Half) (hdr : SpanHdr) (item : CfgItem), x.st ≠ .off ∧ x.linked = true) ∧
    (∃ (x : Half), x.st ≠ .off ∧ (x.st = .active ∨ x.st = .relinquishing) ∧ x.due .time 1000 = true) ∧
    (∃ (x : Half) (hdr : SpanHdr) (p : TimePayload) (y : Half) (z : Half), x.st ≠ .off ∧ x.linked = true ∧ y =
      (x.spanAccept hdr).selectSource 4 ∧ (x.spanAccept hdr).st = .syncing ∧ y.bit Reg.TS_STAT 6 = false ∧ z =
      { y with ts := { y.ts with utcOffset := p.utcOffset, gm := p.gmIdentity, selected := if p.source.toNat < 4 then some p.source.toNat else y.ts.selected } }
      ∧ z.st = .syncing ∧ z.bit Reg.TS_STAT 6 = false) :=
  ⟨⟨linked, _, by decide, by decide, by decide, rfl⟩,
    ⟨linked, by decide, by decide⟩,
    ⟨{ linked with span := { unacked := [{}] } }, 0, {}, _, by decide, by decide, by decide, by decide, by decide,
      rfl⟩,
    ⟨{ linked with span := { unacked := [{ retries := 3 }] } }, 0, { retries := 3 }, by decide, by decide, by decide,
      by decide, by decide⟩,
    ⟨{ linked with st := .standby }, {}, {}, _, by decide, by decide, rfl, by decide, by decide⟩,
    ⟨{ linked with st := .standby }, {}, { task := 0xFF }, _, by decide, by decide, rfl, by decide, by decide⟩,
    ⟨{ linked with st := .standby }, {}, {}, _, by decide, by decide, rfl, by decide, by decide⟩,
    ⟨linked, {}, default, by decide, by decide⟩,
    ⟨powered, by decide, by decide, by decide⟩,
    ⟨{ linked with st := .syncing }, {}, {}, _, _, by decide, by decide, rfl, by decide, by decide, rfl, by decide,
      by decide⟩⟩

theorem witness_HandoverRowsComplete :
    (∃ (x : Half) (p : Half) (hdr : SpanHdr) (hb : Heartbeat), x.st ≠ .off ∧ p.st ≠ .off ∧ x.linked = true) ∧
    (∃ (x : Half) (p : Half) (y : Half), x.st ≠ .off ∧ p.st ≠ .off ∧ x.st = .syncing ∧ x.role.takeover = false ∧
      x.copyReady = true ∧ y =
      { x with st := .standby, role := { x.role with everStandby := true }, boot := { x.boot with key := p.boot.key } })
      ∧
    (∃ (x : Half) (p : Half) (hdr : SpanHdr) (reply : Bool) (entry : Entry) (y : Half), x.st ≠ .off ∧ p.st ≠ .off ∧
      x.linked = true ∧ y = x.relTake hdr (.mbx reply entry) ∧ y.mbx.fwdBroken = false) ∧
    (∃ (x : Half) (p : Half) (cause : Cause) (at_ : DWord), x.st ≠ .off ∧ p.st ≠ .off ∧ x.role.claimLine = false ∧
      x.mayOffer = true) ∧
    (∃ (x : Half) (p : Half) (k : Handover), x.st ≠ .off ∧ p.st ≠ .off ∧ x.st = .standby ∧ x.role.ho = some k ∧
      k.outgoing = false ∧ k.stage = 0 ∧ k.accepted = false ∧ x.refuses p k = false ∧ p.hears x = true) ∧
    (∃ (x : Half) (p : Half) (k : Handover), x.st ≠ .off ∧ p.st ≠ .off ∧ x.role.ho = some k ∧ k.outgoing = false ∧
      k.stage = 0 ∧ k.accepted = false ∧ x.refuses p k = true ∧ p.hears x = true) ∧
    (∃ (x : Half) (p : Half) (k : Handover), x.st ≠ .off ∧ p.st ≠ .off ∧ x.role.ho = some k ∧ k.stage = 0 ∧ p.hears x
      = true) ∧
    (∃ (x : Half) (p : Half) (k : Handover) (y : Half), x.st ≠ .off ∧ p.st ≠ .off ∧ x.st = .active ∧ x.role.ho = some
      k ∧ k.outgoing = false ∧ k.stage = 3 ∧ p.atStage true 3 = true ∧ p.hears x = true ∧ y = p.roleSeen
      x.span.nextItem) ∧
    (∃ (x : Half) (p : Half) (k : Handover), x.st ≠ .off ∧ p.st ≠ .off ∧ x.role.ho = some k ∧ k.outgoing = true ∧
      k.stage = 0 ∧ k.accepted = false ∧ x.goneUs k.at_ 50000 = true) ∧
    (∃ (x : Half) (p : Half), x.st ≠ .off ∧ p.st ≠ .off ∧ handoverReady x p = true ∧ handoverReady p x = false) ∧
    (∃ (x : Half) (p : Half), x.st ≠ .off ∧ p.st ≠ .off ∧ x.atStage true 1 = true ∧ x.hoReached 40 = true ∧ p.atStage
      true 1 = false ∧ p.atStage false 1 = true) ∧
    (∃ (x : Half) (p : Half), x.st ≠ .off ∧ p.st ≠ .off ∧ x.st = .active ∧ x.atStage false 2 = true ∧ x.hoReached 41
      = true) ∧
    (∃ (x : Half) (p : Half), x.st ≠ .off ∧ p.st ≠ .off ∧ x.atStage true 2 = true ∧ x.hoReached 50 = true ∧ p.atStage
      true 2 = false ∧ p.atStage false 2 = true) ∧
    (∃ (x : Half) (p : Half) (k : Handover) (m : Handover), x.st ≠ .off ∧ p.st ≠ .off ∧ x.role.ho = some k ∧
      k.outgoing = true ∧ k.stage = 3 ∧ x.hoReached 100 = true ∧ p.role.ho = some m ∧ m.outgoing = false ∧ m.stage =
      3 ∧ p.st = .active) ∧
    (∃ (x : Half) (p : Half), x.st ≠ .off ∧ p.st ≠ .off ∧ ((x.pendingHo true).any fun k => x.goneUs k.at_ 10000000) =
      true) ∧
    (∃ (x : Half) (p : Half) (at_ : DWord), x.st ≠ .off ∧ p.st ≠ .off ∧ x.st = .active ∧ x.role.ho = none ∧ x.reached
      x.role.nextSwap = true ∧ x.role.claimLine = false ∧ x.cfg.pend = none ∧ x.mayOffer = true) ∧
    (∃ (x : Half) (p : Half) (at_ : DWord) (y : Half), x.st ≠ .off ∧ p.st ≠ .off ∧ y = (x.setBit Reg.SYS_STAT 9
      true).sysIrq 6 ∧ x.st = .active ∧ x.role.ho = none ∧ x.mayOffer = true ∧ y.mayOffer = true) ∧
    (∃ (x : Half) (p : Half), x.st ≠ .off ∧ p.st ≠ .off ∧ x.partnerClaim = true ∧ x.goneUs x.role.claimAt 1000000 =
      true) :=
  ⟨⟨linked, powered, {}, {}, by decide, by decide, by decide⟩,
    ⟨{ powered with st := .syncing, cfg := { cur := some 0 }, role := { partner := some { stateFormat := 1 } }, copy := { storeDone := true } },
      powered, _, by decide, by decide, by decide, by decide, by decide, rfl⟩,
    ⟨linked, powered, {}, true, [], _, by decide, by decide, by decide, rfl, by decide⟩,
    ⟨offering, { powered with st := .standby }, .periodic, 0, by decide, by decide, by decide, by decide⟩,
    ⟨{ linked with st := .standby, role := { synced := true, ho := some {} } }, linked, {}, by decide, by decide, by
      decide, by decide, by decide, by decide, by decide, by decide, by decide⟩,
    ⟨{ linked with st := .standby, role := { ho := some {} } }, linked, {}, by decide, by decide, by decide, by
      decide, by decide, by decide, by decide, by decide⟩,
    ⟨{ linked with role := { ho := some {} } }, linked, {}, by decide, by decide, by decide, by decide, by decide⟩,
    ⟨{ linked with role := { ho := some { stage := 3 } } },
      { linked with st := .relinquishing, role := { ho := some { outgoing := true, stage := 3 } } }, { stage := 3 },
      _, by decide, by decide, by decide, by decide, by decide, by decide, by decide, by decide, rfl⟩,
    ⟨{ powered with role := { ho := some { outgoing := true } } }, powered, { outgoing := true }, by decide, by
      decide, by decide, by decide, by decide, by decide, by decide⟩,
    ⟨{ powered with role := { ho := some { outgoing := true, accepted := true } } },
      { powered with st := .standby, role := { synced := true, ho := some { accepted := true } } }, by decide, by
      decide, by decide, by decide⟩,
    ⟨{ powered with st := .relinquishing, role := { ho := some { outgoing := true, stage := 1 } } },
      { powered with role := { ho := some { stage := 1 } } }, by decide, by decide, by decide, by decide, by decide,
      by decide⟩,
    ⟨{ powered with role := { ho := some { stage := 2 } } }, powered, by decide, by decide, by decide, by decide, by
      decide⟩,
    ⟨{ powered with st := .relinquishing, role := { ho := some { outgoing := true, stage := 2 } } },
      { powered with role := { ho := some { stage := 2 } } }, by decide, by decide, by decide, by decide, by decide,
      by decide⟩,
    ⟨{ powered with st := .relinquishing, role := { ho := some { outgoing := true, stage := 3 } } },
      { powered with role := { ho := some { stage := 3 } } }, { outgoing := true, stage := 3 }, { stage := 3 }, by
      decide, by decide, by decide, by decide, by decide, by decide, by decide, by decide, by decide, by decide⟩,
    ⟨{ powered with role := { ho := some { outgoing := true } } }, powered, by decide, by decide, by decide⟩,
    ⟨offering, { powered with st := .standby }, 0, by decide, by decide, by decide, by decide, by decide, by decide,
      by decide, by decide⟩,
    ⟨offering, { powered with st := .standby }, 0, _, by decide, by decide, rfl, by decide, by decide, by decide, by
      decide⟩,
    ⟨{ powered with regs := powered.regs ++ [(Reg.SYS_STAT, 4)] }, powered, by decide, by decide, by decide, by
      decide⟩⟩

theorem witness_FaultRowsComplete :
    (∃ (x : Half) (src : Nat), x.st ≠ .off ∧ src ≠ 16 ∧ src ≠ 17 ∧ src ≠ 18 ∧ src ≠ 34) ∧
    (∃ (x : Half), x.st ≠ .off) ∧
    (∃ (x : Half), x.st ≠ .off) ∧
    (∃ (x : Half), x.st ≠ .off) ∧
    (∃ (x : Half), x.st ≠ .off) ∧
    (∃ (x : Half) (src : Nat), x.st ≠ .off ∧ isSource src = true ∧ src ≠ 120 ∧ x.fld (Reg.FC_SRC_CFG src) 3 2 < 2 ∧
      ((x.setSrc (Reg.FC_INVALID 0) src true).take 120 (x.srcLevel 120) true).fld (Reg.FC_SRC_CFG src) 3 2 < 2) ∧
    (∃ (x : Half) (src : Nat) (w : FcWindow) (y : Half), x.st ≠ .off ∧ x.fc.windows.find? (fun v => v.src == src) =
      some w ∧ x.windowOver w = true ∧ y = ({ x with fc := { x.fc with windows := x.fc.windows.erase w } } :
      Half).fcStatus ∧ w.level ≤ 1 ∧ w.handled = false ∧ y.srcBit (Reg.FC_PEND 0) src = true) ∧
    (∃ (x : Half) (src : Nat) (w : FcWindow) (y : Half), x.st ≠ .off ∧ x.fc.windows.find? (fun v => v.src == src) =
      some w ∧ x.windowOver w = true ∧ y = ({ x with fc := { x.fc with windows := x.fc.windows.erase w } } :
      Half).fcStatus ∧ ((1 < w.level ∨ w.handled = true ∨ y.srcBit (Reg.FC_PEND 0) src = false))) ∧
    (∃ (x : Half) (i : Nat) (mask : Word), x.st ≠ .off ∧ i < 4) ∧
    (∃ (x : Half), x.st ≠ .off ∧ x.peerArmed = true ∧ x.goneUs x.fc.peerAt 10000000 = true) ∧
    (∃ (x : Half) (cls : Nat) (srcs : List Nat), x.st ≠ .off ∧ srcs = (List.range 128).filter (fun k => isSource k &&
      x.srcClass k == cls) ∧ srcs.any (x.srcBit (Reg.FC_PEND 0)) = false ∧ srcs.any (x.srcBit (Reg.FC_ACTIVE 0)) =
      true ∧ x.goneUs (x.fc.lastRaise.get 0 cls) (1000000 * x.fld (Reg.FC_CLASS_CFG cls) 23 16) = true) ∧
    (∃ (x : Half) (cls : Nat) (y : Half), x.st ≠ .off ∧ x.st = .fault ∧ x.fc.quiet.contains cls = true ∧
      x.fc.resetting = false ∧ x.role.holdWindow = false ∧ x.goneUs (x.fc.quietAt.get 0 cls) (1000000 * x.fld
      (Reg.FC_CLASS_CFG cls) 31 24) = true ∧ y = { x with fc := { x.fc with quiet := x.fc.quiet.erase cls } }) ∧
    (∃ (x : Half), x.st ≠ .off ∧ x.st = .native ∧ x.fc.latch.isSome = true) ∧
    (∃ (x : Half) (pair : Pair) (cause : LsCause), x.st ≠ .off) ∧
    (∃ (x : Half) (pair : Pair), x.st ≠ .off ∧ x.goneUs (x.fc.lastFlush.get 0 (pairIdx pair)) 100000 = true) ∧
    (∃ (x : Half), x.st ≠ .off) ∧
    (∃ (x : Half), x.st ≠ .off) ∧
    (∃ (x : Half) (src : Nat), x.st ≠ .off) ∧
    (∃ (x : Half), x.st ≠ .off) ∧
    (∃ (x : Half), x.st ≠ .off ∧ x.bit Reg.FC_CTRL 0 = false) ∧
    (∃ (x : Half), x.st ≠ .off ∧ x.bit Reg.FC_CTRL 0 = true ∧ x.fcConfig ≠ x.fc.locked) ∧
    (∃ (x : Half), x.st ≠ .off) ∧
    (∃ (x : Half) (mem : EccMem), x.st ≠ .off) ∧
    (∃ (x : Half) (mem : EccMem), x.st ≠ .off) ∧
    (∃ (x : Half) (kind : Thermal), x.st ≠ .off) ∧
    (∃ (x : Half) (dev : BitVec 16) (mainLost : Bool) (safeLost : Bool) (drift : Bool) (y : Half), x.st ≠ .off ∧
      drift = (1000 < dev.toInt.natAbs && !mainLost && !safeLost) ∧ y = x.setFld Reg.SYS_CLKMON 15 0 dev.toNat) :=
  ⟨⟨powered, 126, by decide, by decide, by decide, by decide, by decide⟩,
    ⟨powered, by decide⟩,
    ⟨powered, by decide⟩,
    ⟨powered, by decide⟩,
    ⟨powered, by decide⟩,
    ⟨powered, 0, by decide, by decide, by decide, by decide, by decide⟩,
    ⟨{ powered with regs := powered.regs ++ [(Reg.FC_PEND 0, 1)], fc := { windows := [{ src := 0 }] } }, 0,
      { src := 0 }, _, by decide, by decide, by decide, rfl, by decide, by decide, by decide⟩,
    ⟨{ powered with regs := powered.regs ++ [], fc := { windows := [{ src := 0 }] } }, 0, { src := 0 }, _, by decide,
      by decide, by decide, rfl, by decide⟩,
    ⟨powered, 3, 1, by decide, by decide⟩,
    ⟨{ powered with regs := powered.regs ++ [(Reg.FC_STAT, 8)] }, by decide, by decide, by decide⟩,
    ⟨{ powered with regs := powered.regs ++ [(Reg.FC_ACTIVE 0, 1)], fc := {  } }, 0, _, by decide, rfl, by decide, by
      decide, by decide⟩,
    ⟨{ powered with st := .fault, fc := { quiet := [0] } }, 0, _, by decide, by decide, by decide, by decide, by
      decide, by decide, rfl⟩,
    ⟨{ powered with st := .native, fc := { latch := some 0 } }, by decide, by decide, by decide⟩,
    ⟨powered, .sup, default, by decide⟩,
    ⟨powered, .sup, by decide, by decide⟩,
    ⟨powered, by decide⟩,
    ⟨powered, by decide⟩,
    ⟨powered, 0, by decide⟩,
    ⟨powered, by decide⟩,
    ⟨powered, by decide, by decide⟩,
    ⟨{ powered with regs := powered.regs ++ [(Reg.FC_CTRL, 1)] }, by decide, by decide, by decide⟩,
    ⟨powered, by decide⟩,
    ⟨powered, default, by decide⟩,
    ⟨powered, default, by decide⟩,
    ⟨powered, default, by decide⟩,
    ⟨powered, 1001, false, false, _, _, by decide, rfl, rfl⟩⟩

theorem witness_LeagueRowsComplete :
    (∃ (x : Half), x.st ≠ .off ∧ ((x.isActive = true ∨ x.st = .standby ∨ x.st = .syncing)) ∧ x.due .league 100000 =
      true) ∧
    (∃ (x : Half) (hb : LeagueHb), x.st ≠ .off ∧ x.conf.manager = true ∧ x.knows hb.station = true) ∧
    (∃ (x : Half) (hb : LeagueHb), x.st ≠ .off ∧ x.conf.manager = false ∧ hb.station = 0 ∧ x.obj.managerLost = false)
      ∧
    (∃ (x : Half) (hb : LeagueHb), x.st ≠ .off ∧ x.conf.manager = false ∧ hb.station = 0 ∧ x.obj.managerLost = true) ∧
    (∃ (s : State) (h : HalfId) (x : Half) (st : Nat) (y : Half), s.half h = x ∧ x.st ≠ .off ∧ x.conf.manager = true
      ∧ x.knows st = true ∧ x.goneUs (x.station st).hbAt 3000000 = true ∧ x.isActive = true ∧ y = x.modStation st
      (fun s => { s with present := false, lost := true, actA := false, actB := false })) ∧
    (∃ (x : Half) (st : Nat), x.st ≠ .off ∧ x.conf.manager = true ∧ x.knows st = true ∧ x.goneUs (x.station st).hbAt
      3000000 = true ∧ x.isActive = false) ∧
    (∃ (x : Half), x.st ≠ .off ∧ x.conf.manager = false ∧ x.domainOn 1 = true ∧ x.goneUs x.obj.managerAt 3000000 =
      true) ∧
    (∃ (x : Half) (f : LeagueFrame) (recs : List ObjRec) (y : Half), x.st ≠ .off ∧ x.conf.manager = true ∧ x.isActive
      = true ∧ x.knows f.station = true ∧ headerOk 1 f = true ∧ x.takeFragment { f with origin := 0 } = (some recs,
      y)) ∧
    (∃ (x : Half) (f : LeagueFrame) (y : Half), x.st ≠ .off ∧ x.conf.manager = true ∧ x.isActive = true ∧ x.knows
      f.station = true ∧ headerOk 1 f = true ∧ x.takeFragment { f with origin := 0 } = (none, y)) ∧
    (∃ (x : Half) (f : LeagueFrame) (recs : List ObjRec) (y : Half), x.st ≠ .off ∧ x.conf.manager = true ∧ x.isActive
      = true ∧ x.knows f.station = true ∧ headerOk 2 f = true ∧ x.takeFragment { f with origin := 2 } = (some recs,
      y)) ∧
    (∃ (x : Half) (f : LeagueFrame) (y : Half), x.st ≠ .off ∧ x.conf.manager = true ∧ x.isActive = true ∧ x.knows
      f.station = true ∧ headerOk 2 f = true ∧ x.takeFragment { f with origin := 2 } = (none, y)) ∧
    (∃ (x : Half) (f : LeagueFrame) (recs : List ObjRec) (y : Half), x.st ≠ .off ∧ x.conf.manager = false ∧
      x.isActive = true ∧ headerOk 3 f = true ∧ x.takeFragment f = (some recs, y)) ∧
    (∃ (x : Half) (f : LeagueFrame) (y : Half), x.st ≠ .off ∧ x.conf.manager = false ∧ x.isActive = true ∧ headerOk 3
      f = true ∧ x.takeFragment f = (none, y)) ∧
    (∃ (x : Half) (j : JoinFrame), x.st ≠ .off ∧ x.conf.manager = true ∧ x.knows j.station = true ∧ j.certStation =
      j.station ∧ (((x.station j.station).cert = none ∨ (x.station j.station).cert = some j.certSerial))) ∧
    (∃ (x : Half) (j : JoinFrame), x.st ≠ .off ∧ x.conf.manager = true ∧ x.knows j.station = false) ∧
    (∃ (x : Half) (j : JoinFrame), x.st ≠ .off ∧ x.conf.manager = true ∧ x.knows j.station = true ∧ j.certStation ≠
      j.station) ∧
    (∃ (x : Half) (j : JoinFrame) (c : DWord), x.st ≠ .off ∧ x.conf.manager = true ∧ x.knows j.station = true ∧
      j.certStation = j.station ∧ (x.station j.station).cert = some c ∧ c ≠ j.certSerial) ∧
    (∃ (x : Half) (res : Nat) (mm : Bool) (ep : Word) (y : Half), x.st ≠ .off ∧ x.conf.manager = false ∧ y =
      { x with obj := { x.obj with joined := res = 0, joinCmd := none, managerLost := if res = 0 then false else x.obj.managerLost, epoch := if res = 0 then ep else x.obj.epoch, joinAt := if res = 0 then x.mono else x.obj.joinAt } })
      ∧
    (∃ (x : Half) (t : Nat), x.st ≠ .off ∧ x.conf.manager = false ∧ x.isActive = true ∧ t < 16 ∧
      x.obj.refresh.contains t = false) ∧
    (∃ (x : Half) (st : Nat), x.st ≠ .off ∧ x.conf.manager = false) ∧
    (∃ (x : Half) (st : Nat), x.st ≠ .off) ∧
    (∃ (x : Half) (st : Nat) (t : Nat), x.st ≠ .off) ∧
    (∃ (x : Half) (t : Nat), x.st ≠ .off ∧ x.isActive = true ∧ t < 16) ∧
    (∃ (x : Half), x.st ≠ .off ∧ x.conf.manager = false ∧ x.isActive = true ∧ x.obj.joined = true ∧ x.goneUs
      x.obj.joinAt (90000 * (x.conf.station % 100)) = true) ∧
    (∃ (x : Half) (t : Nat), x.st ≠ .off ∧ x.isActive = true ∧ x.obj.fullRefresh.contains t = true ∧ x.goneUs
      x.obj.fullAt 1000000 = true) ∧
    (∃ (x : Half), x.st ≠ .off ∧ x.conf.manager = true ∧ x.isActive = true ∧ x.obj.batchMs ≠ some (x.mono.toNat /
      1000000)) :=
  ⟨⟨powered, by decide, by decide, by decide⟩,
    ⟨{ powered with cfg := { cur := some 0, slot0 := { cfg := some { manager := true, league := [{ station := 1 }] } } } },
      { station := 1 }, by decide, by decide, by decide⟩,
    ⟨powered, {}, by decide, by decide, by decide, by decide⟩,
    ⟨{ powered with obj := { managerLost := true } }, {}, by decide, by decide, by decide, by decide⟩,
    ⟨{ a := { powered with cfg := { cur := some 0, slot0 := { cfg := some { manager := true, league := [{ station := 1 }] } } } }, b := {} },
      .a,
      { powered with cfg := { cur := some 0, slot0 := { cfg := some { manager := true, league := [{ station := 1 }] } } } },
      1, _, rfl, by decide, by decide, by decide, by decide, by decide, rfl⟩,
    ⟨{ powered with st := .standby, cfg := { cur := some 0, slot0 := { cfg := some { manager := true, league := [{ station := 1 }] } } } },
      1, by decide, by decide, by decide, by decide, by decide⟩,
    ⟨powered, by decide, by decide, by decide, by decide⟩,
    ⟨{ powered with cfg := { cur := some 0, slot0 := { cfg := some { manager := true, league := [{ station := 1 }] } } } },
      { station := 1 }, [], _, by decide, by decide, by decide, by decide, by decide, rfl⟩,
    ⟨{ powered with cfg := { cur := some 0, slot0 := { cfg := some { manager := true, league := [{ station := 1 }] } } } },
      { station := 1, fragCnt := 2 }, _, by decide, by decide, by decide, by decide, by decide, rfl⟩,
    ⟨{ powered with cfg := { cur := some 0, slot0 := { cfg := some { manager := true, league := [{ station := 1 }] } } } },
      { kind := 2, station := 1 }, [], _, by decide, by decide, by decide, by decide, by decide, rfl⟩,
    ⟨{ powered with cfg := { cur := some 0, slot0 := { cfg := some { manager := true, league := [{ station := 1 }] } } } },
      { kind := 2, station := 1, fragCnt := 2 }, _, by decide, by decide, by decide, by decide, by decide, rfl⟩,
    ⟨powered, { kind := 3, origin := 1, station := 1 }, [], _, by decide, by decide, by decide, by decide, rfl⟩,
    ⟨powered, { kind := 3, origin := 1, station := 1, fragCnt := 2 }, _, by decide, by decide, by decide, by decide,
      rfl⟩,
    ⟨{ powered with cfg := { cur := some 0, slot0 := { cfg := some { manager := true, league := [{ station := 1 }] } } } },
      { station := 1, certStation := 1 }, by decide, by decide, by decide, by decide, by decide⟩,
    ⟨{ powered with cfg := { cur := some 0, slot0 := { cfg := some { manager := true, league := [{ station := 1 }] } } } },
      { station := 2 }, by decide, by decide, by decide⟩,
    ⟨{ powered with cfg := { cur := some 0, slot0 := { cfg := some { manager := true, league := [{ station := 1 }] } } } },
      { station := 1, certStation := 2 }, by decide, by decide, by decide, by decide⟩,
    ⟨{ powered with obj := { stations := [(1, { cert := some 5 })] }, cfg := { cur := some 0, slot0 := { cfg := some { manager := true, league := [{ station := 1 }] } } } },
      { station := 1, certStation := 1 }, 5, by decide, by decide, by decide, by decide, by decide, by decide⟩,
    ⟨powered, 0, false, 1, _, by decide, by decide, rfl⟩,
    ⟨powered, 15, by decide, by decide, by decide, by decide, by decide⟩,
    ⟨powered, 1, by decide, by decide⟩,
    ⟨powered, 1, by decide⟩,
    ⟨powered, 1, 0, by decide⟩,
    ⟨powered, 15, by decide, by decide, by decide⟩,
    ⟨{ powered with obj := { joined := true } }, by decide, by decide, by decide, by decide, by decide⟩,
    ⟨{ powered with obj := { fullRefresh := [3] } }, 3, by decide, by decide, by decide, by decide⟩,
    ⟨{ powered with cfg := { cur := some 0, slot0 := { cfg := some { manager := true, league := [{ station := 1 }] } } } },
      by decide, by decide, by decide, by decide⟩⟩

theorem witness_MailboxCarrierRowsComplete :
    (∃ (x : Half) (ch : Nat) (tag : Nat), x.st ≠ .off ∧ ch < 8 ∧ tag < 64 ∧ x.domainOn 1 = true) ∧
    (∃ (x : Half) (sub : Nat) (b : Sub), x.st ≠ .off ∧ x.mbx.subs.find? (fun b => b.num == sub) = some b ∧ b.ended =
      true ∧ x.cqUsed b.ch ≤ 56) ∧
    (∃ (x : Half) (sub : Nat) (b : Sub) (i : SubItem) (k : Nat), x.st ≠ .off ∧ x.mbx.subs.find? (fun b => b.num ==
      sub) = some b ∧ b.ended = false ∧ x.dueItem b = some (i, k) ∧ x.cqUsed b.ch ≤ 56) ∧
    (∃ (x : Half) (v : Word), x.st ≠ .off ∧ v.toNat < 65536 ∧ x.domainOn 1 = true ∧ (v - x.rd (Reg.MBX_CH_SQ_HEAD
      0)).toNat % 65536 ≤ 64) ∧
    (∃ (x : Half) (v : Word), x.st ≠ .off ∧ v.toNat < 65536 ∧ x.domainOn 1 = true ∧ 64 < (v - x.rd
      (Reg.MBX_CH_SQ_HEAD 0)).toNat % 65536) ∧
    (∃ (x : Half) (v : Word), x.st ≠ .off ∧ v.toNat < 65536 ∧ x.domainOn 1 = true ∧ (v - x.rd (Reg.MBX_CH_CQ_HEAD
      0)).toNat % 65536 ≤ x.cqUsed 0) ∧
    (∃ (x : Half) (v : Word), x.st ≠ .off ∧ v.toNat < 65536 ∧ x.domainOn 1 = true ∧ x.cqUsed 0 < (v - x.rd
      (Reg.MBX_CH_CQ_HEAD 0)).toNat % 65536) ∧
    (∃ (x : Half), x.st ≠ .off ∧ x.domainOn 1 = true) ∧
    (∃ (x : Half) (addr : Word) (cert : Cert) (y : Half), x.st ≠ .off ∧ x.answers = true ∧ y = ((x.setBit
      Reg.USB_STAT 0 true).setBit Reg.USB_STAT 1 true).usbCount Reg.USB_RXCNT ∧ y.inSession 6 = false) ∧
    (∃ (x : Half) (ch : Option Nat) (addr : Word) (cert : Cert) (recent : List DWord) (c : Nat) (y : Half), x.st ≠
      .off ∧ x.answers = true ∧ ch ≠ some 6 ∧ x.mbx.blocked.contains addr.toNat = false ∧ recent =
      x.mbx.shakes.filter (fun t => Nat.blt (x.mono - t).toNat 1000000000) ∧ recent.length < 4 ∧ [2, 3, 4, 5].find?
      (fun c => !x.inSession c) = some c ∧ y = { x with mbx := { x.mbx with shakes := recent ++ [x.mono] } } ∧
      x.boot.key.isSome = true ∧ x.conf.certKey = x.boot.key) ∧
    (∃ (x : Half) (ch : Nat), x.st ≠ .off ∧ x.inSession ch = true ∧ (x.chan ch).mp1 = false ∧ ((0x1000000 ≤ (x.chan
      ch).records ∨ x.goneUs (x.chan ch).keyAt 86400000000 = true))) ∧
    (∃ (x : Half) (ch : Nat) (gen : Nat) (y : Half), x.st ≠ .off ∧ 2 ≤ ch ∧ ch ≤ 6 ∧ y = x.when (ch = 6 && x.domainOn
      4) (·.usbCount Reg.USB_RXCNT) ∧ (x.chan ch).shaken = true ∧ (y.chan ch).shaken = true ∧ y.chOpen ch = false ∧
      ((gen = 2 ∨ (gen = 3 ∧ y.bit Reg.MBX_CTRL 3 = true)))) ∧
    (∃ (x : Half) (ch : Nat) (gen : Nat) (y : Half), x.st ≠ .off ∧ 2 ≤ ch ∧ ch ≤ 6 ∧ y = x.when (ch = 6 && x.domainOn
      4) (·.usbCount Reg.USB_RXCNT) ∧ (x.chan ch).shaken = true ∧ y.chOpen ch = false ∧ gen ≠ 2 ∧ gen ≠ 3) ∧
    (∃ (x : Half) (ch : Nat) (first : Word) (es : List Entry) (head : BitVec 16), x.st ≠ .off ∧ x.inSession ch = true
      ∧ x.chOpen ch = true ∧ (x.chan ch).mp1 = false) ∧
    (∃ (x : Half) (ch : Nat) (tail : BitVec 16) (head : BitVec 16), x.st ≠ .off ∧ x.inSession ch = true ∧ x.chOpen ch
      = true ∧ (x.chan ch).mp1 = false) ∧
    (∃ (x : Half) (ch : Nat), x.st ≠ .off ∧ x.inSession ch = true ∧ x.chOpen ch = true ∧ 0 < x.cqUsed ch ∧ x.goneUs
      (x.chan ch).cqAt 20000 = true) ∧
    (∃ (x : Half) (ch : Nat), x.st ≠ .off ∧ x.inSession ch = true ∧ x.chOpen ch = true ∧ (x.chan ch).mp1 = false ∧
      x.goneUs (x.chan ch).lastSent 1000000 = true) ∧
    (∃ (x : Half) (addr : Word) (port : BitVec 16) (bytes : List Byte) (ch : Nat) (y : Half), x.st ≠ .off ∧ x.answers
      = true ∧ x.bit Reg.MBX_CTRL 1 = true ∧ x.conf.mp1Peers.contains addr = true ∧ x.mp1Chan addr port = (some ch,
      y)) ∧
    (∃ (x : Half) (addr : Word) (port : BitVec 16) (bytes : List Byte), x.st ≠ .off ∧ x.bit Reg.MBX_CTRL 1 = false) ∧
    (∃ (x : Half) (ch : Nat) (tag : Nat) (c : Ctx), x.st ≠ .off ∧ x.ctx ch tag = some c ∧ c.fwd.isSome = true ∧
      c.expect.isNone = true ∧ ((x.bit Reg.SPAN_STAT 2 = true ∨ x.releaseHolds = true ∨ x.bit Reg.SPAN_STAT 0 =
      false))) ∧
    (∃ (x : Half) (ch : Nat) (tag : Nat) (c : Ctx), x.st ≠ .off ∧ x.ctx ch tag = some c ∧ c.started = true ∧ c.done =
      none ∧ c.op = 0x41 ∧ c.expect.isSome = true ∧ x.goneUs c.at_ 60000000 = true) ∧
    (∃ (x : Half) (ch : Nat) (tag : Nat) (c : Ctx), x.st ≠ .off ∧ x.ctx ch tag = some c ∧ c.started = true ∧ c.done =
      none ∧ c.op = 0x30 ∧ c.num 0 2 ≠ x.conf.station ∧ x.goneUs c.at_ 5000000 = true) :=
  ⟨⟨powered, 7, 63, by decide, by decide, by decide, by decide⟩,
    ⟨{ powered with mbx := { subs := [{ num := 3, ch := 2, ended := true }] } }, 3,
      { num := 3, ch := 2, ended := true }, by decide, by decide, by decide, by decide⟩,
    ⟨{ powered with mbx := { subs := [{ num := 3, ch := 2, items := [{ oid := 5 }] }] } }, 3,
      { num := 3, ch := 2, items := [{ oid := 5 }] }, { oid := 5 }, 0, by decide, by decide, by decide, by decide, by
      decide⟩,
    ⟨powered, 64, by decide, by decide, by decide, by decide⟩,
    ⟨powered, 65, by decide, by decide, by decide, by decide⟩,
    ⟨powered, 0, by decide, by decide, by decide, by decide⟩,
    ⟨powered, 1, by decide, by decide, by decide, by decide⟩,
    ⟨powered, by decide, by decide⟩,
    ⟨{ powered with regs := powered.regs ++ [(Reg.MBX_CTRL, 1)] }, 1, {}, _, by decide, by decide, rfl,
      by simp only [Half.inSession, Half.chOpen, Half.usbCount, Half.bit, Half.rd_wr_other _ usb_not_control]; decide⟩,
    ⟨{ st := .active, regs := [(Reg.SYS_PD, 0xFF), (Reg.MBX_CTRL, 1)], boot := { key := some 9 }, cfg := { cur := some 0, slot0 := { cfg := some { certKey := some 9 } } } },
      none, 1, {}, _, 2, _, by decide, by decide, by decide, by decide, rfl, by decide, by decide, rfl, by decide, by
      decide⟩,
    ⟨{ powered with regs := powered.regs ++ [(Reg.MBX_CH_CTRL 2, 0x121)], mbx := { chans := [(2, { shaken := true })] } },
      2, by decide, by decide, by decide, by decide⟩,
    ⟨{ powered with regs := powered.regs ++ [], mbx := { chans := [(2, { shaken := true })] } }, 2, 2, _, by decide,
      by decide, by decide, rfl, by decide, by decide, by decide, by decide⟩,
    ⟨{ powered with regs := powered.regs ++ [], mbx := { chans := [(2, { shaken := true })] } }, 2, 1, _, by decide,
      by decide, by decide, rfl, by decide, by decide, by decide, by decide⟩,
    ⟨{ powered with regs := powered.regs ++ [(Reg.MBX_CH_CTRL 2, 0x121)], mbx := { chans := [(2, { shaken := true })] } },
      2, 0, [], 0, by decide, by decide, by decide, by decide⟩,
    ⟨{ powered with regs := powered.regs ++ [(Reg.MBX_CH_CTRL 2, 0x121)], mbx := { chans := [(2, { shaken := true })] } },
      2, 0, 0, by decide, by decide, by decide, by decide⟩,
    ⟨{ powered with regs := powered.regs ++ [(Reg.MBX_CH_CTRL 2, 0x121), (Reg.MBX_CH_CQ_TAIL 2, 1)], mbx := { chans := [(2, { shaken := true })] } },
      2, by decide, by decide, by decide, by decide, by decide⟩,
    ⟨{ powered with regs := powered.regs ++ [(Reg.MBX_CH_CTRL 2, 0x121)], mbx := { chans := [(2, { shaken := true })] } },
      2, by decide, by decide, by decide, by decide, by decide⟩,
    ⟨{ st := .active, regs := [(Reg.SYS_PD, 0xFF), (Reg.MBX_CTRL, 3)], cfg := { cur := some 0, slot0 := { cfg := some { mp1Peers := [1] } } }, mbx := { chans := [(2, { mp1 := true, addr := 1, mp1Port := 1 })] } },
      1, 1, [], 2, _, by decide, by decide, by decide, by decide, rfl⟩,
    ⟨powered, 1, 1, [], by decide, by decide⟩,
    ⟨{ powered with mbx := { ctxs := [{ ch := 0, tag := 1, op := 0x40, fwd := some 0 }] } }, 0, 1,
      { ch := 0, tag := 1, op := 0x40, fwd := some 0 }, by decide, by decide, by decide, by decide, by decide⟩,
    ⟨{ powered with mbx := { ctxs := [{ ch := 0, tag := 1, op := 0x41, started := true, expect := some 1 }] } }, 0,
      1, { ch := 0, tag := 1, op := 0x41, started := true, expect := some 1 }, by decide, by decide, by decide, by
      decide, by decide, by decide, by decide⟩,
    ⟨{ powered with mbx := { ctxs := [{ ch := 0, tag := 1, op := 0x30, started := true, payload := [7, 0] }] } }, 0,
      1, { ch := 0, tag := 1, op := 0x30, started := true, payload := [7, 0] }, by decide, by decide, by decide, by
      decide, by decide, by decide, by decide⟩⟩

theorem witness_SessionEndRowsComplete :
    (∃ (x : Half) (y : Half), x.st ≠ .off ∧ x.domainOn 1 = true ∧ y = ((x.cancelAll 0).clearChan 0).setBit
      (Reg.MBX_CH_CTRL 0) 1 false) ∧
    (∃ (x : Half) (ch : Nat) (y : Half), x.st ≠ .off ∧ x.domainOn 1 = true ∧ x.inSession ch = true ∧ y = x.closeCh ch
      0) ∧
    (∃ (x : Half) (ch : Nat) (y : Half), x.st ≠ .off ∧ x.inSession ch = true ∧ (x.chan ch).mp1 = false ∧ y = (x.when
      (ch = 6 && x.domainOn 4) (·.usbCount Reg.USB_RXCNT)).dropCh ch 0) ∧
    (∃ (x : Half) (ch : Nat) (y : Half), x.st ≠ .off ∧ x.inSession ch = true ∧ (x.chan ch).mp1 = true ∧ x.goneUs
      (x.chan ch).lastHeard 30000000 = true ∧ y = x.dropCh ch 7) ∧
    (∃ (x : Half) (ch : Nat) (y : Half), x.st ≠ .off ∧ x.inSession ch = true ∧ (x.chan ch).mp1 = false ∧ x.goneUs
      (x.chan ch).lastHeard 10000000 = true ∧ y = x.closeCh ch 7) ∧
    (∃ (x : Half) (y : Half), x.st ≠ .off ∧ x.domainOn 4 = true ∧ y = (x.setBit Reg.USB_STAT 0 false).setBit
      Reg.USB_STAT 1 false ∧ y.inSession 6 = false) ∧
    (∃ (x : Half) (z : Half) (y : Half), x.st ≠ .off ∧ x.domainOn 4 = true ∧ z = (x.setBit Reg.USB_STAT 0
      false).setBit Reg.USB_STAT 1 false ∧ z.inSession 6 = true ∧ y = z.dropCh 6 0) :=
  ⟨⟨powered, _, by decide, by decide, rfl⟩,
    ⟨{ powered with regs := powered.regs ++ [(Reg.MBX_CH_CTRL 2, 0x121)], mbx := { chans := [(2, { shaken := true })] } },
      2, _, by decide, by decide, by decide, rfl⟩,
    ⟨{ powered with regs := powered.regs ++ [(Reg.MBX_CH_CTRL 2, 0x121)], mbx := { chans := [(2, { shaken := true })] } },
      2, _, by decide, by decide, by decide, rfl⟩,
    ⟨{ powered with regs := powered.regs ++ [(Reg.MBX_CH_CTRL 2, 0x111)], mbx := { chans := [(2, { mp1 := true })] } },
      2, _, by decide, by decide, by decide, by decide, rfl⟩,
    ⟨{ powered with regs := powered.regs ++ [(Reg.MBX_CH_CTRL 2, 0x121)], mbx := { chans := [(2, { shaken := true })] } },
      2, _, by decide, by decide, by decide, by decide, rfl⟩,
    ⟨powered, _, by decide, by decide, rfl, by decide⟩,
    ⟨{ powered with regs := powered.regs ++ [(Reg.MBX_CH_CTRL 6, 0x121)], mbx := { chans := [(6, { shaken := true })] } },
      _, _, by decide, by decide, rfl, by decide, rfl⟩⟩

theorem witness_ObjectCommandRowsComplete :
    (∃ (x : Half) (ch : Nat) (tag : Nat) (c : Ctx) (y : Half), x.st ≠ .off ∧ x.Accepts ch tag 0x02 1 .either c ∧ y =
      x.begun ch tag c ∧ c.payload.length = 0) ∧
    (∃ (x : Half) (ch : Nat) (tag : Nat) (c : Ctx) (y : Half), x.st ≠ .off ∧ x.Accepts ch tag 0x03 1 .either c ∧ y =
      x.begun ch tag c ∧ c.payload.length = 0) ∧
    (∃ (x : Half) (ch : Nat) (tag : Nat) (c : Ctx) (y : Half) (r : ObjRec), x.st ≠ .off ∧ x.Accepts ch tag 0x10 1
      .active c ∧ y = x.begun ch tag c ∧ c.payload.length = 4 ∧ y.readObj (c.num 0 4) = some r) ∧
    (∃ (x : Half) (ch : Nat) (tag : Nat) (c : Ctx) (y : Half) (r : List Byte) (z : Half), x.st ≠ .off ∧ x.Accepts ch
      tag 0x11 2 .active c ∧ y = x.begun ch tag c ∧ c.payload.length = 16 ∧ c.num 4 4 = 0 ∧ (y.readObj (c.num 0
      4)).isSome = true ∧ (y.resetsHours (c.num 0 4) && c.role < 3) = false ∧ y.writeObj (c.num 0 4) (BitVec.ofNat 64
      (c.num 8 8)) = (ST_OK, r, z)) ∧
    (∃ (x : Half) (ch : Nat) (tag : Nat) (c : Ctx) (y : Half) (ids : List Nat), x.st ≠ .off ∧ x.Accepts ch tag 0x12 1
      .active c ∧ y = x.begun ch tag c ∧ 1 ≤ c.num 0 1 ∧ c.num 0 1 ≤ (if c.gen = 3 then 52 else 1) ∧ c.num 1 3 = 0 ∧
      c.payload.length = 4 + 4 * c.num 0 1 ∧ ids = (List.range (c.num 0 1)).map (fun i => c.num (4 + 4 * i) 4) ∧
      (ids.filterMap y.readObj).length = ids.length ∧ ids.all (fun i => i / 8192 == ids.headD 0 / 8192) = true) ∧
    (∃ (x : Half) (ch : Nat) (tag : Nat) (c : Ctx) (y : Half) (ids : List Nat) (k : Nat) (sub : Machine.Sub), x.st ≠
      .off ∧ x.Accepts ch tag 0x13 1 .active c ∧ y = x.begun ch tag c ∧ 1 ≤ c.num 0 1 ∧ c.num 0 1 ≤ 64 ∧ c.num 1 1 =
      0 ∧ c.num 2 2 ≤ 60000 ∧ c.num 4 4 = 0 ∧ c.payload.length = 8 + 4 * c.num 0 1 ∧ ids = (List.range (c.num 0
      1)).map (fun i => c.num (8 + 4 * i) 4) ∧ ids.all (fun i => (y.readObj i).isSome) = true ∧ (List.range
      256).find? (fun k => !(y.mbx.subs.any fun b => b.num == k)) = some k ∧ (y.mbx.subs.filter (fun b => b.ch ==
      c.ch)).length < 64 ∧ sub =
      { num := k, ch := c.ch, minInterval := c.num 2 2, items := ids.map (fun i => { oid := BitVec.ofNat 32 i }) }) ∧
    (∃ (x : Half) (ch : Nat) (tag : Nat) (c : Ctx) (y : Half), x.st ≠ .off ∧ x.Accepts ch tag 0x14 1 .either c ∧ y =
      x.begun ch tag c ∧ c.payload.length = 4 ∧ c.num 1 3 = 0 ∧ y.mbx.subs.any (fun b => b.ch == c.ch && b.num ==
      c.num 0 1) = true) ∧
    (∃ (x : Half) (ch : Nat) (tag : Nat) (c : Ctx) (y : Half) (p : Nat) (k : PointCfg) (z : Half), x.st ≠ .off ∧
      x.Accepts ch tag 0x15 3 .active c ∧ y = x.begun ch tag c ∧ c.payload.length = 16 ∧ c.num 4 1 = 1 ∧ ((c.num 5 1
      = 0 ∨ c.num 5 1 = 1 ∨ c.num 5 1 = 3)) ∧ c.num 6 2 = 0 ∧ (y.readObj (c.num 0 4)).isSome = true ∧ y.ownPoint
      (c.num 0 4) = some p ∧ y.pointCfg p = some k ∧ k.writer ≠ .scruple ∧ fillOk k.typ (BitVec.ofNat 64 (c.num 8 8))
      = true ∧ (((y.point p).force.isSome = true ∨ y.forces < 256)) ∧ z = y.setForce p (some
      { v := BitVec.ofNat 64 (c.num 8 8), q := BitVec.ofNat 8 (c.num 5 1 * 64 + 0x1A) })) ∧
    (∃ (x : Half) (ch : Nat) (tag : Nat) (c : Ctx) (y : Half) (p : Nat) (k : PointCfg) (z : Half), x.st ≠ .off ∧
      x.Accepts ch tag 0x15 3 .active c ∧ y = x.begun ch tag c ∧ c.payload.length = 16 ∧ c.num 4 1 = 0 ∧ ((c.num 5 1
      = 0 ∨ c.num 5 1 = 1 ∨ c.num 5 1 = 3)) ∧ c.num 6 2 = 0 ∧ (y.readObj (c.num 0 4)).isSome = true ∧ y.ownPoint
      (c.num 0 4) = some p ∧ y.pointCfg p = some k ∧ k.writer ≠ .scruple ∧ z = (if (y.point p).force.isSome then
      y.setForce p none else y)) ∧
    (∃ (x : Half) (ch : Nat) (tag : Nat) (c : Ctx) (y : Half) (k : TaskCfg), x.st ≠ .off ∧ x.Accepts ch tag 0x20 1
      .either c ∧ y = x.begun ch tag c ∧ c.payload.length = 4 ∧ c.num 1 1 = 0 ∧ c.num 2 2 = 0 ∧ taskIn y.conf (c.num
      0 1) = some k) ∧
    (∃ (x : Half) (ch : Nat) (tag : Nat) (c : Ctx) (y : Half) (k : TaskCfg), x.st ≠ .off ∧ x.Accepts ch tag 0x20 3
      .active c ∧ y = x.begun ch tag c ∧ c.payload.length = 4 ∧ c.num 1 1 = 1 ∧ c.num 2 2 = 0 ∧ taskIn y.conf (c.num
      0 1) = some k ∧ k.event = false ∧ (y.tsk (c.num 0 1)).state = .stopped) ∧
    (∃ (x : Half) (ch : Nat) (tag : Nat) (c : Ctx) (y : Half) (k : TaskCfg), x.st ≠ .off ∧ x.Accepts ch tag 0x20 3
      .active c ∧ y = x.begun ch tag c ∧ c.payload.length = 4 ∧ c.num 1 1 = 2 ∧ c.num 2 2 = 0 ∧ taskIn y.conf (c.num
      0 1) = some k ∧ (y.tsk (c.num 0 1)).state = .running) ∧
    (∃ (x : Half) (ch : Nat) (tag : Nat) (c : Ctx) (y : Half) (k : TaskCfg) (e : TaskStats), x.st ≠ .off ∧ x.Accepts
      ch tag 0x21 1 .active c ∧ y = x.begun ch tag c ∧ c.payload.length = 4 ∧ c.num 1 1 = 0 ∧ c.num 2 2 = 0 ∧ taskIn
      y.conf (c.num 0 1) = some k ∧ e = (y.tsk (c.num 0 1)).stats) :=
  ⟨⟨{ powered with mbx := { ctxs := [{ ch := 0, tag := 1, op := 0x02, role := 4, payload := [] }] } }, 0, 1,
      { ch := 0, tag := 1, op := 0x02, role := 4, payload := [] }, _, by decide, by decide, rfl, by decide⟩,
    ⟨{ powered with mbx := { ctxs := [{ ch := 0, tag := 1, op := 0x03, role := 4, payload := [] }] } }, 0, 1,
      { ch := 0, tag := 1, op := 0x03, role := 4, payload := [] }, _, by decide, by decide, rfl, by decide⟩,
    ⟨{ powered with cfg := { cur := some 0, slot0 := { cfg := some { station := 0, points := [(0, { writer := .host })], tasks := [(1, {})] } } }, mbx := { ctxs := [{ ch := 0, tag := 1, op := 0x10, role := 4, payload := [0, 0, 0, 0] }] } },
      0, 1, { ch := 0, tag := 1, op := 0x10, role := 4, payload := [0, 0, 0, 0] }, _, _, by decide, by decide, rfl,
      by decide, rfl⟩,
    ⟨{ powered with cfg := { cur := some 0, slot0 := { cfg := some { station := 0, points := [(0, { writer := .host })], tasks := [(1, {})] } } }, mbx := { ctxs := [{ ch := 0, tag := 1, op := 0x11, role := 4, payload := [0, 0, 0, 0, 0, 0, 0, 0, 1, 0, 0, 0, 0, 0, 0, 0] }] } },
      0, 1,
      { ch := 0, tag := 1, op := 0x11, role := 4, payload := [0, 0, 0, 0, 0, 0, 0, 0, 1, 0, 0, 0, 0, 0, 0, 0] }, _,
      _, _, by decide, by decide, rfl, by decide, by decide, by decide, by decide, rfl⟩,
    ⟨{ powered with cfg := { cur := some 0, slot0 := { cfg := some { station := 0, points := [(0, { writer := .host })], tasks := [(1, {})] } } }, mbx := { ctxs := [{ ch := 0, tag := 1, op := 0x12, role := 4, payload := [1, 0, 0, 0, 0, 0, 0, 0] }] } },
      0, 1, { ch := 0, tag := 1, op := 0x12, role := 4, payload := [1, 0, 0, 0, 0, 0, 0, 0] }, _, _, by decide, by
      decide, rfl, by decide, by decide, by decide, by decide, rfl, by decide, by decide⟩,
    ⟨{ powered with cfg := { cur := some 0, slot0 := { cfg := some { station := 0, points := [(0, { writer := .host })], tasks := [(1, {})] } } }, mbx := { ctxs := [{ ch := 0, tag := 1, op := 0x13, role := 4, payload := [1, 0, 0, 0, 0, 0, 0, 0, 0, 0, 0, 0] }] } },
      0, 1, { ch := 0, tag := 1, op := 0x13, role := 4, payload := [1, 0, 0, 0, 0, 0, 0, 0, 0, 0, 0, 0] }, _, _, 0,
      _, by decide, by decide, rfl, by decide, by decide, by decide, by decide, by decide, by decide, rfl, by decide,
      by decide, by decide, rfl⟩,
    ⟨{ powered with mbx := { ctxs := [{ ch := 0, tag := 1, op := 0x14, role := 4, payload := [3, 0, 0, 0] }], subs := [{ num := 3, ch := 0 }] } },
      0, 1, { ch := 0, tag := 1, op := 0x14, role := 4, payload := [3, 0, 0, 0] }, _, by decide, by decide, rfl, by
      decide, by decide, by decide⟩,
    ⟨{ powered with cfg := { cur := some 0, slot0 := { cfg := some { station := 0, points := [(0, { writer := .host })], tasks := [(1, {})] } } }, mbx := { ctxs := [{ ch := 0, tag := 1, op := 0x15, role := 4, payload := [0, 0, 0, 0, 1, 3, 0, 0, 0, 0, 0, 0, 0, 0, 0, 0] }] } },
      0, 1,
      { ch := 0, tag := 1, op := 0x15, role := 4, payload := [0, 0, 0, 0, 1, 3, 0, 0, 0, 0, 0, 0, 0, 0, 0, 0] }, _,
      0, { writer := .host }, _, by decide, by decide, rfl, by decide, by decide, by decide, by decide, by decide, by
      decide, by decide, by decide, by decide, by decide, rfl⟩,
    ⟨{ powered with cfg := { cur := some 0, slot0 := { cfg := some { station := 0, points := [(0, { writer := .host })], tasks := [(1, {})] } } }, mbx := { ctxs := [{ ch := 0, tag := 1, op := 0x15, role := 4, payload := [0, 0, 0, 0, 0, 3, 0, 0, 0, 0, 0, 0, 0, 0, 0, 0] }] } },
      0, 1,
      { ch := 0, tag := 1, op := 0x15, role := 4, payload := [0, 0, 0, 0, 0, 3, 0, 0, 0, 0, 0, 0, 0, 0, 0, 0] }, _,
      0, { writer := .host }, _, by decide, by decide, rfl, by decide, by decide, by decide, by decide, by decide, by
      decide, by decide, by decide, rfl⟩,
    ⟨{ powered with cfg := { cur := some 0, slot0 := { cfg := some { station := 0, points := [(0, { writer := .host })], tasks := [(1, {})] } } }, mbx := { ctxs := [{ ch := 0, tag := 1, op := 0x20, role := 4, payload := [1, 0, 0, 0] }] } },
      0, 1, { ch := 0, tag := 1, op := 0x20, role := 4, payload := [1, 0, 0, 0] }, _, {}, by decide, by decide, rfl,
      by decide, by decide, by decide, by decide⟩,
    ⟨{ powered with cfg := { cur := some 0, slot0 := { cfg := some { station := 0, points := [(0, { writer := .host })], tasks := [(1, {})] } } }, task := { tasks := [(1, { state := .stopped })] }, mbx := { ctxs := [{ ch := 0, tag := 1, op := 0x20, role := 4, payload := [1, 1, 0, 0] }] } },
      0, 1, { ch := 0, tag := 1, op := 0x20, role := 4, payload := [1, 1, 0, 0] }, _, {}, by decide, by decide, rfl,
      by decide, by decide, by decide, by decide, by decide, by decide⟩,
    ⟨{ powered with cfg := { cur := some 0, slot0 := { cfg := some { station := 0, points := [(0, { writer := .host })], tasks := [(1, {})] } } }, task := { tasks := [(1, { state := .running })] }, mbx := { ctxs := [{ ch := 0, tag := 1, op := 0x20, role := 4, payload := [1, 2, 0, 0] }] } },
      0, 1, { ch := 0, tag := 1, op := 0x20, role := 4, payload := [1, 2, 0, 0] }, _, {}, by decide, by decide, rfl,
      by decide, by decide, by decide, by decide, by decide⟩,
    ⟨{ powered with cfg := { cur := some 0, slot0 := { cfg := some { station := 0, points := [(0, { writer := .host })], tasks := [(1, {})] } } }, mbx := { ctxs := [{ ch := 0, tag := 1, op := 0x21, role := 4, payload := [1, 0, 0, 0] }] } },
      0, 1, { ch := 0, tag := 1, op := 0x21, role := 4, payload := [1, 0, 0, 0] }, _, {}, _, by decide, by decide,
      rfl, by decide, by decide, by decide, by decide, rfl⟩⟩

theorem witness_ConfigurationCommandRowsComplete :
    (∃ (x : Half) (ch : Nat) (tag : Nat) (c : Ctx) (y : Half), x.st ≠ .off ∧ x.Accepts ch tag 0x30 3 .config c ∧ y =
      x.begun ch tag c ∧ stageLen 0x8000000 c = true ∧ ((y.cfg.cur = none ∨ c.num 0 2 = y.conf.station))) ∧
    (∃ (x : Half) (ch : Nat) (tag : Nat) (c : Ctx) (y : Half) (sl : CfgSlot) (new : StationCfg) (f : Nat × Nat), x.st
      ≠ .off ∧ x.Accepts ch tag 0x31 3 .config c ∧ y = x.begun ch tag c ∧ c.payload.length = 0 ∧ sl = y.cfgSlot
      y.otherCfg ∧ sl.bytes.isEmpty = false ∧ sl.wasCurrent = false ∧ sl.cfg = some new ∧ f = lowestFail (y.failures
      y.conf new)) ∧
    (∃ (x : Half) (ch : Nat) (tag : Nat) (c : Ctx) (y : Half) (sl : CfgSlot), x.st ≠ .off ∧ x.Accepts ch tag 0x32 3
      .config c ∧ y = x.begun ch tag c ∧ c.payload.length = 0 ∧ sl = y.cfgSlot y.otherCfg ∧ sl.verified = true ∧
      sl.complete = true ∧ y.role.ho = none ∧ y.cfg.pend = none) ∧
    (∃ (x : Half) (ch : Nat) (tag : Nat) (c : Ctx) (y : Half) (k : Nat) (sl : CfgSlot) (z : Half) (w : Half), x.st ≠
      .off ∧ x.Accepts ch tag 0x33 3 .config c ∧ y = x.begun ch tag c ∧ c.payload.length = 0 ∧ y.rollbackSlot = some
      k ∧ sl = y.cfgSlot k ∧ y.editOn = true ∧ z = (y.finishCmd (y.cfg.pend.bind (·.cmd)) ST_ABORTED []).setCfgSlot k
      { sl with commit := y.nextCommit } ∧ w = z.setCfgSlot z.otherCfg
      { z.cfgSlot z.otherCfg with verified := false }) ∧
    (∃ (x : Half) (ch : Nat) (tag : Nat) (c : Ctx) (y : Half) (sig : Bool), x.st ≠ .off ∧ x.Accepts ch tag 0x40 4
      .either c ∧ y = x.begun ch tag c ∧ stageLen 0x4000000 c = true ∧ c.num 0 1 < 2 ∧ c.num 1 1 = 0 ∧ y.named c =
      true) ∧
    (∃ (x : Half) (ch : Nat) (tag : Nat) (c : Ctx) (y : Half) (sig : Bool), x.st ≠ .off ∧ x.Accepts ch tag 0x40 4
      .either c ∧ y = x.begun ch tag c ∧ stageLen 0x4000000 c = true ∧ c.num 0 1 < 2 ∧ c.num 1 1 = 0 ∧ y.named c =
      false) ∧
    (∃ (x : Half) (ch : Nat) (tag : Nat) (c : Ctx) (y : Half) (at_ : DWord) (i : Image), x.st ≠ .off ∧ x.Accepts ch
      tag 0x41 4 .either c ∧ y = x.begun ch tag c ∧ c.payload.length = 4 ∧ c.num 0 1 < 2 ∧ c.num 1 1 < 2 ∧ c.num 2 2
      = 0 ∧ y.named c = true ∧ x.named c = true ∧ y.st = .standby ∧ x.st = .standby ∧ (y.fwSlot y.otherFw).image =
      some i ∧ (x.fwSlot x.otherFw).image = some i ∧ x.peer = none ∧ y.peer = none ∧ (y.restartInto
      y.otherFw).role.ho = none ∧ ch ≠ 7) ∧
    (∃ (x : Half) (ch : Nat) (tag : Nat) (c : Ctx) (y : Half) (flags : Nat), x.st ≠ .off ∧ x.Accepts ch tag 0x50 1
      .either c ∧ y = x.begun ch tag c ∧ c.payload.length = 0 ∧ flags = y.role.synced.toNat + 2 * y.role.armed.toNat
      + 4 * y.role.released.toNat + 8 * y.role.claimLine.toNat + 16 * y.partnerPresent.toNat + 32 * (y.bit
      Reg.FC_STAT 2).toNat + 64 * y.role.ho.isSome.toNat) ∧
    (∃ (x : Half) (ch : Nat) (tag : Nat) (c : Ctx) (y : Half) (at_ : DWord) (z : Half), x.st ≠ .off ∧ x.Accepts ch
      tag 0x51 3 .active c ∧ y = x.begun ch tag c ∧ c.payload.length = 0 ∧ x.role.ho = none ∧ y.role.claimLine =
      false ∧ y.cfg.pend = none ∧ y.mayOffer = true ∧ z = y.offers (y.newOffer .roleSwap at_) (some c.ref) ∧
      z.role.ho = some (y.newOffer .roleSwap at_)) ∧
    (∃ (x : Half) (ch : Nat) (tag : Nat) (c : Ctx) (y : Half) (at_ : DWord) (z : Half), x.st ≠ .off ∧ x.Accepts ch
      tag 0x52 3 .active c ∧ y = x.begun ch tag c ∧ c.payload.length = 0 ∧ x.role.ho = none ∧ y.role.claimLine =
      false ∧ y.cfg.pend = none ∧ y.mayOffer = true ∧ z = y.offers (y.newOffer .halfRelease at_) (some c.ref) ∧
      z.role.ho = some (y.newOffer .halfRelease at_)) :=
  ⟨⟨{ powered with mbx := { ctxs := [{ ch := 0, tag := 1, op := 0x30, role := 4, payload := [0, 0, 1, 0, 0, 0, 0, 0] }] } },
      0, 1, { ch := 0, tag := 1, op := 0x30, role := 4, payload := [0, 0, 1, 0, 0, 0, 0, 0] }, _, by decide, by
      decide, rfl, by decide, by decide⟩,
    ⟨{ powered with cfg := { cur := some 0, slot1 := { cfg := some {}, bytes := [1], complete := true, verified := true } }, mbx := { ctxs := [{ ch := 0, tag := 1, op := 0x31, role := 4, payload := [] }] } },
      0, 1, { ch := 0, tag := 1, op := 0x31, role := 4, payload := [] }, _, _, {}, _, by decide, by decide, rfl, by
      decide, rfl, by decide, by decide, by decide, rfl⟩,
    ⟨{ powered with cfg := { slot0 := { bytes := [1], complete := true, verified := true } }, mbx := { ctxs := [{ ch := 0, tag := 1, op := 0x32, role := 4, payload := [] }] } },
      0, 1, { ch := 0, tag := 1, op := 0x32, role := 4, payload := [] }, _, _, by decide, by decide, rfl, by decide,
      rfl, by decide, by decide, by decide, by decide⟩,
    ⟨{ st := .active, regs := [(Reg.SYS_PD, 0xFF), (Reg.SAF_STAT, 2)], cfg := { cur := some 0, slot1 := { complete := true, wasCurrent := true } }, mbx := { ctxs := [{ ch := 0, tag := 1, op := 0x33, role := 4, payload := [] }] } },
      0, 1, { ch := 0, tag := 1, op := 0x33, role := 4, payload := [] }, _, 1, _, _, _, by decide, by decide, rfl, by
      decide, by decide, rfl, by decide, rfl, rfl⟩,
    ⟨{ powered with mbx := { ctxs := [{ ch := 0, tag := 1, op := 0x40, role := 4, payload := [0, 0, 1, 0, 0, 0, 0, 0] }] } },
      0, 1, { ch := 0, tag := 1, op := 0x40, role := 4, payload := [0, 0, 1, 0, 0, 0, 0, 0] }, _, true, by decide, by
      decide, rfl, by decide, by decide, by decide, by decide⟩,
    ⟨{ powered with mbx := { ctxs := [{ ch := 0, tag := 1, op := 0x40, role := 4, payload := [1, 0, 1, 0, 0, 0, 0, 0] }] } },
      0, 1, { ch := 0, tag := 1, op := 0x40, role := 4, payload := [1, 0, 1, 0, 0, 0, 0, 0] }, _, true, by decide, by
      decide, rfl, by decide, by decide, by decide, by decide⟩,
    ⟨{ powered with st := .standby, boot := { slot1 := { image := some {} } }, mbx := { ctxs := [{ ch := 0, tag := 1, op := 0x41, role := 4, payload := [0, 0, 0, 0] }] } },
      0, 1, { ch := 0, tag := 1, op := 0x41, role := 4, payload := [0, 0, 0, 0] }, _, 0, default, by decide, by
      decide, rfl, by decide, by decide, by decide, by decide, by decide, by decide, by decide, by decide, rfl, rfl,
      by decide, by decide, by decide, by decide⟩,
    ⟨{ powered with mbx := { ctxs := [{ ch := 0, tag := 1, op := 0x50, role := 4, payload := [] }] } }, 0, 1,
      { ch := 0, tag := 1, op := 0x50, role := 4, payload := [] }, _, _, by decide, by decide, rfl, by decide, rfl⟩,
    ⟨{ offering with mbx := { ctxs := [{ ch := 0, tag := 1, op := 0x51, role := 4, payload := [] }] } }, 0, 1,
      { ch := 0, tag := 1, op := 0x51, role := 4, payload := [] }, _, 0, _, by decide, by decide, rfl, by decide, by
      decide, by decide, by decide, by decide, rfl, by decide⟩,
    ⟨{ offering with mbx := { ctxs := [{ ch := 0, tag := 1, op := 0x52, role := 4, payload := [] }] } }, 0, 1,
      { ch := 0, tag := 1, op := 0x52, role := 4, payload := [] }, _, 0, _, by decide, by decide, rfl, by decide, by
      decide, by decide, by decide, by decide, rfl, by decide⟩⟩

theorem witness_ServiceCommandRowsComplete :
    (∃ (x : Half) (ch : Nat) (tag : Nat) (c : Ctx) (y : Half), x.st ≠ .off ∧ x.Accepts ch tag 0x60 1 .either c ∧ y =
      x.begun ch tag c ∧ c.payload.length = 4 ∧ c.num 0 1 = 0 ∧ c.num 2 2 = 0) ∧
    (∃ (x : Half) (ch : Nat) (tag : Nat) (c : Ctx) (y : Half) (i : Nat), x.st ≠ .off ∧ x.Accepts ch tag 0x60 1
      .either c ∧ y = x.begun ch tag c ∧ c.payload.length = 4 ∧ c.num 0 1 = 1 ∧ c.num 2 2 = 0 ∧ c.num 1 1 < 12 ∧ i =
      c.num 1 1) ∧
    (∃ (x : Half) (ch : Nat) (tag : Nat) (c : Ctx) (y : Half) (i : Nat), x.st ≠ .off ∧ x.Accepts ch tag 0x60 1
      .either c ∧ y = x.begun ch tag c ∧ c.payload.length = 4 ∧ c.num 0 1 = 2 ∧ c.num 2 2 = 0 ∧ c.num 1 1 < 128 ∧ i =
      c.num 1 1) ∧
    (∃ (x : Half) (ch : Nat) (tag : Nat) (c : Ctx) (y : Half) (z : Half), x.st ≠ .off ∧ x.Accepts ch tag 0x61 4
      .either c ∧ y = x.begun ch tag c ∧ c.payload.length = 4 ∧ c.num 0 1 = 1 ∧ c.num 1 3 = 0 ∧ z = y.clearLatch ∧
      z.st ≠ .latched) ∧
    (∃ (x : Half) (ch : Nat) (tag : Nat) (c : Ctx) (y : Half) (z : Half), x.st ≠ .off ∧ x.Accepts ch tag 0x61 4
      .either c ∧ y = x.begun ch tag c ∧ c.payload.length = 4 ∧ c.num 0 1 = 1 ∧ c.num 1 3 = 0 ∧ z = y.clearLatch ∧
      z.st = .latched) ∧
    (∃ (x : Half) (ch : Nat) (tag : Nat) (c : Ctx) (y : Half) (z : Half), x.st ≠ .off ∧ x.Accepts ch tag 0x61 4
      .either c ∧ y = x.begun ch tag c ∧ c.payload.length = 4 ∧ c.num 0 1 = 2 ∧ c.num 1 3 = 0 ∧ z =
      (y.heldSources.foldl (fun (z : Half) src => z.setSrc (Reg.FC_HELD 0) src false) y).fcStatus) ∧
    (∃ (x : Half) (ch : Nat) (tag : Nat) (c : Ctx) (y : Half) (z : Half), x.st ≠ .off ∧ x.Accepts ch tag 0x62 4
      .standby c ∧ y = x.begun ch tag c ∧ c.payload.length = 4 ∧ c.num 0 1 < 128 ∧ c.num 1 3 = 0 ∧ z = (((y.clrReg
      Reg.FC_INJ_STAT 3).setFld Reg.FC_CTRL 2 1 1).inject (c.num 0 1)).setFld Reg.FC_CTRL 2 1 (y.fld Reg.FC_CTRL 2 1)
      ∧ z.bit Reg.FC_INJ_STAT 1 = false) ∧
    (∃ (x : Half) (ch : Nat) (tag : Nat) (c : Ctx) (y : Half) (q : Bool) (e : EvrSlot) (bs : List Byte) (d : List
      Byte), x.st ≠ .off ∧ x.Accepts ch tag 0x70 1 .either c ∧ y = x.begun ch tag c ∧ c.payload.length = 8 ∧ c.num 0
      2 < 16384 ∧ c.num 2 2 = 0 ∧ c.num 6 2 = 0 ∧ (y.evrKind (c.num 0 2)).1 ≠ 0 ∧ y.evr.newest (c.num 0 2) = some (q,
      e) ∧ bs = evrBytes (c.num 0 2) e ∧ d = (bs.drop (c.num 4 2)).take (if c.gen = 3 then 1652 else 40)) ∧
    (∃ (x : Half) (ch : Nat) (tag : Nat) (c : Ctx) (y : Half) (n : Nat), x.st ≠ .off ∧ x.Accepts ch tag 0x71 1
      .either c ∧ y = x.begun ch tag c ∧ c.payload.length = 4 ∧ 1 ≤ c.num 2 2 ∧ c.num 2 2 ≤ (if c.gen = 3 then 830
      else 24) ∧ c.num 0 2 < 16384 ∧ n = min (c.num 2 2) (16384 - c.num 0 2)) ∧
    (∃ (x : Half) (ch : Nat) (tag : Nat) (c : Ctx) (y : Half), x.st ≠ .off ∧ x.Accepts ch tag 0x80 3 .active c ∧ y =
      x.begun ch tag c ∧ chainWriteLen c = true ∧ (y.chainSt (c.num 0 1)).present = true) ∧
    (∃ (x : Half) (ch : Nat) (tag : Nat) (c : Ctx) (y : Half), x.st ≠ .off ∧ x.Accepts ch tag 0x81 3 .active c ∧ y =
      x.begun ch tag c ∧ c.payload.length = 4 ∧ c.num 1 1 < 2 ∧ c.num 2 1 < 2 ∧ c.num 3 1 = 0 ∧ (y.chainSt (c.num 0
      1)).present = true ∧ y.instWrites 0x0802 (c.num 0 1) = false) ∧
    (∃ (x : Half) (ch : Nat) (tag : Nat) (c : Ctx) (y : Half) (v : ChainView) (per : Nat × Nat), x.st ≠ .off ∧
      x.Accepts ch tag 0x82 3 .active c ∧ y = x.begun ch tag c ∧ injectLen c = true ∧ y.liveViews.find? (fun v => v.c
      == c.num 3 1) = some v ∧ c.num 0 1 < 4 ∧ per = y.livePeriod v ∧ freqOk per (BitVec.ofNat 32 (c.num 12 4)) =
      true ∧ freqOk per (BitVec.ofNat 32 (c.num 16 4)) = true ∧ c.num 20 4 ≠ 0 ∧ (List.range 4).all (fun k =>
      y.tgState k == 0) = true ∧ (y.chainSt (c.num 3 1)).mode = .run ∧ c.num 33 1 = 0) ∧
    (∃ (x : Half) (ch : Nat) (tag : Nat) (c : Ctx) (y : Half) (z : Half), x.st ≠ .off ∧ x.Accepts ch tag 0x83 3
      .active c ∧ y = x.begun ch tag c ∧ traceLen c = true ∧ c.num 0 1 < 8 ∧ y.instWrites 0x0808 (c.num 0 1) = false
      ∧ y.hostTrace (c.num 0 1) = true ∧ c.num 1 1 = 1 ∧ c.num 10 2 < c.num 12 4 ∧ z = (y.tcSet c (c.num 0
      1)).tcArmed (c.num 0 1)) ∧
    (∃ (x : Half) (ch : Nat) (tag : Nat) (c : Ctx) (y : Half) (z : Half), x.st ≠ .off ∧ x.Accepts ch tag 0x83 3
      .active c ∧ y = x.begun ch tag c ∧ traceLen c = true ∧ c.num 0 1 < 8 ∧ y.instWrites 0x0808 (c.num 0 1) = false
      ∧ c.num 1 1 = 3 ∧ z = y.tcStopped (c.num 0 1)) ∧
    (∃ (x : Half) (ch : Nat) (tag : Nat) (c : Ctx) (y : Half) (t : Nat), x.st ≠ .off ∧ x.Accepts ch tag 0x84 1
      .active c ∧ y = x.begun ch tag c ∧ c.payload.length = 8 ∧ c.num 1 1 = 0 ∧ c.num 0 1 < 8 ∧ y.tcState (c.num 0 1)
      = 4 ∧ c.num 2 2 = 0 ∧ t = c.num 0 1) ∧
    (∃ (x : Half) (ch : Nat) (tag : Nat) (c : Ctx) (y : Half), x.st ≠ .off ∧ x.Accepts ch tag 0x90 1 .either c ∧ y =
      x.begun ch tag c ∧ c.payload.length = 0) ∧
    (∃ (x : Half) (ch : Nat) (tag : Nat) (c : Ctx) (y : Half), x.st ≠ .off ∧ x.Accepts ch tag 0x91 3 .active c ∧ y =
      x.begun ch tag c ∧ c.payload.length = 16 ∧ c.num 0 1 = 0 ∧ c.num 1 1 < 4 ∧ c.num 2 6 = 0) ∧
    (∃ (x : Half) (ch : Nat) (tag : Nat) (c : Ctx) (y : Half) (z : Half), x.st ≠ .off ∧ x.Accepts ch tag 0x91 3
      .active c ∧ y = x.begun ch tag c ∧ c.payload.length = 16 ∧ c.num 0 1 = 1 ∧ c.num 1 1 < 4 ∧ c.num 2 6 = 0 ∧ z =
      ({ y with ts := { y.ts with selected := some (c.num 1 1) } } : Half).selectSource (c.num 1 1)) ∧
    (∃ (x : Half) (ch : Nat) (tag : Nat) (c : Ctx) (y : Half) (z : Half), x.st ≠ .off ∧ x.Accepts ch tag 0x91 3
      .active c ∧ y = x.begun ch tag c ∧ c.payload.length = 16 ∧ c.num 0 1 = 2 ∧ c.num 1 1 < 4 ∧ c.num 2 6 = 0 ∧
      y.ts.source = 0 ∧ z = (y.phaseStep (BitVec.ofNat 64 (c.num 8 8) - y.now)).setBit Reg.TS_STAT 0 true) ∧
    (∃ (x : Half) (ch : Nat) (tag : Nat) (c : Ctx) (y : Half) (v : DWord) (z : Half), x.st ≠ .off ∧ x.Accepts ch tag
      0xA0 2 .active c ∧ y = x.begun ch tag c ∧ dispLen c = true ∧ y.dspPresent = true ∧ c.num 0 1 = 1 ∧
      (y.stagePixels c).free = (v, z)) ∧
    (∃ (x : Half) (ch : Nat) (tag : Nat) (c : Ctx) (y : Half), x.st ≠ .off ∧ x.Accepts ch tag 0xA0 2 .active c ∧ y =
      x.begun ch tag c ∧ dispLen c = true ∧ y.dspPresent = true ∧ c.num 0 1 = 2) ∧
    (∃ (x : Half) (ch : Nat) (tag : Nat) (c : Ctx) (y : Half), x.st ≠ .off ∧ x.Accepts ch tag 0xA1 1 .either c ∧ y =
      x.begun ch tag c ∧ c.payload.length = 0) ∧
    (∃ (x : Half) (ch : Nat) (tag : Nat) (c : Ctx) (y : Half), x.st ≠ .off ∧ x.Accepts ch tag 0xB0 3 .active c ∧ y =
      x.begun ch tag c ∧ c.payload.length = 0 ∧ y.conf.manager = false) ∧
    (∃ (x : Half) (ch : Nat) (tag : Nat) (c : Ctx) (y : Half) (o : ObjBlk), x.st ≠ .off ∧ x.Accepts ch tag 0xB1 1
      .active c ∧ y = x.begun ch tag c ∧ c.payload.length = 8 ∧ c.num 0 1 = 0 ∧ c.num 1 1 = 0 ∧ 1 ≤ c.num 4 2 ∧ c.num
      4 2 ≤ (if c.gen = 3 then 830 else 24) ∧ c.num 6 2 = 0 ∧ o = y.obj) ∧
    (∃ (x : Half) (ch : Nat) (tag : Nat) (c : Ctx) (y : Half) (n : Nat), x.st ≠ .off ∧ x.Accepts ch tag 0xB1 1
      .active c ∧ y = x.begun ch tag c ∧ c.payload.length = 8 ∧ c.num 0 1 = 1 ∧ c.num 1 1 = 0 ∧ 1 ≤ c.num 4 2 ∧ c.num
      4 2 ≤ (if c.gen = 3 then 830 else 24) ∧ c.num 6 2 = 0 ∧ y.conf.manager = true ∧ c.num 2 2 < 4096 ∧ n = min
      (c.num 4 2) (4096 - c.num 2 2)) ∧
    (∃ (x : Half) (ch : Nat) (tag : Nat) (c : Ctx) (y : Half), x.st ≠ .off ∧ x.Accepts ch tag 0xC0 1 .either c ∧ y =
      x.begun ch tag c ∧ c.payload.length = 4 ∧ c.num 0 1 < 32 ∧ 1 ≤ c.num 1 1 ∧ c.num 1 1 ≤ (if c.gen = 3 then 32
      else 13) ∧ c.num 2 2 = 0) :=
  ⟨⟨{ powered with mbx := { ctxs := [{ ch := 0, tag := 1, op := 0x60, role := 4, payload := [0, 0, 0, 0] }] } }, 0,
      1, { ch := 0, tag := 1, op := 0x60, role := 4, payload := [0, 0, 0, 0] }, _, by decide, by decide, rfl, by
      decide, by decide, by decide⟩,
    ⟨{ powered with mbx := { ctxs := [{ ch := 0, tag := 1, op := 0x60, role := 4, payload := [1, 11, 0, 0] }] } }, 0,
      1, { ch := 0, tag := 1, op := 0x60, role := 4, payload := [1, 11, 0, 0] }, _, _, by decide, by decide, rfl, by
      decide, by decide, by decide, by decide, rfl⟩,
    ⟨{ powered with mbx := { ctxs := [{ ch := 0, tag := 1, op := 0x60, role := 4, payload := [2, 127, 0, 0] }] } },
      0, 1, { ch := 0, tag := 1, op := 0x60, role := 4, payload := [2, 127, 0, 0] }, _, _, by decide, by decide, rfl,
      by decide, by decide, by decide, by decide, rfl⟩,
    ⟨{ powered with mbx := { ctxs := [{ ch := 0, tag := 1, op := 0x61, role := 4, payload := [1, 0, 0, 0] }] } }, 0,
      1, { ch := 0, tag := 1, op := 0x61, role := 4, payload := [1, 0, 0, 0] }, _, _, by decide, by decide, rfl, by
      decide, by decide, by decide, rfl, by decide⟩,
    ⟨{ powered with st := .latched, mbx := { ctxs := [{ ch := 0, tag := 1, op := 0x61, role := 4, payload := [1, 0, 0, 0] }] } },
      0, 1, { ch := 0, tag := 1, op := 0x61, role := 4, payload := [1, 0, 0, 0] }, _, _, by decide, by decide, rfl,
      by decide, by decide, by decide, rfl, by decide⟩,
    ⟨{ powered with mbx := { ctxs := [{ ch := 0, tag := 1, op := 0x61, role := 4, payload := [2, 0, 0, 0] }] } }, 0,
      1, { ch := 0, tag := 1, op := 0x61, role := 4, payload := [2, 0, 0, 0] }, _,
      ((({ powered with mbx := { ctxs := [{ ch := 0, tag := 1, op := 0x61, role := 4, payload := [2, 0, 0, 0] }] } }
      : Half).begun 0 1 { ch := 0, tag := 1, op := 0x61, role := 4, payload := [2, 0, 0, 0] }).heldSources.foldl (fun
      (z : Half) src => z.setSrc (Reg.FC_HELD 0) src false)
      (({ powered with mbx := { ctxs := [{ ch := 0, tag := 1, op := 0x61, role := 4, payload := [2, 0, 0, 0] }] } } :
      Half).begun 0 1 { ch := 0, tag := 1, op := 0x61, role := 4, payload := [2, 0, 0, 0] })).fcStatus, by decide, by
      decide, rfl, by decide, by decide, by decide, by decide⟩,
    ⟨{ st := .standby, regs := [(Reg.SYS_STAT, 4), (Reg.SYS_PD, 0xFF)], mbx := { ctxs := [{ ch := 0, tag := 1, op := 0x62, role := 4, payload := [0, 0, 0, 0] }] } },
      0, 1, { ch := 0, tag := 1, op := 0x62, role := 4, payload := [0, 0, 0, 0] }, _, _, by decide, by decide, rfl,
      by decide, by decide, by decide, rfl, by decide⟩,
    ⟨{ powered with evr := { slot0 := [(384, { valid := true, checkOk := true })] }, mbx := { ctxs := [{ ch := 0, tag := 1, op := 0x70, role := 4, payload := [128, 1, 0, 0, 0, 0, 0, 0] }] } },
      0, 1, { ch := 0, tag := 1, op := 0x70, role := 4, payload := [128, 1, 0, 0, 0, 0, 0, 0] }, _, false,
      { valid := true, checkOk := true }, _, _, by decide, by decide, rfl, by decide, by decide, by decide, by
      decide, by decide, by decide, rfl, rfl⟩,
    ⟨{ powered with mbx := { ctxs := [{ ch := 0, tag := 1, op := 0x71, role := 4, payload := [0, 0, 24, 0] }] } }, 0,
      1, { ch := 0, tag := 1, op := 0x71, role := 4, payload := [0, 0, 24, 0] }, _, _, by decide, by decide, rfl, by
      decide, by decide, by decide, by decide, rfl⟩,
    ⟨{ powered with mbx := { ctxs := [{ ch := 0, tag := 1, op := 0x80, role := 4, payload := [3, 3, 0, 0, 0, 0, 0, 0] }] }, ce := { chains := [(3, { present := true })] } },
      0, 1, { ch := 0, tag := 1, op := 0x80, role := 4, payload := [3, 3, 0, 0, 0, 0, 0, 0] }, _, by decide, by
      decide, rfl, by decide, by decide⟩,
    ⟨{ powered with mbx := { ctxs := [{ ch := 0, tag := 1, op := 0x81, role := 4, payload := [3, 1, 1, 0] }] }, ce := { chains := [(3, { present := true })] } },
      0, 1, { ch := 0, tag := 1, op := 0x81, role := 4, payload := [3, 1, 1, 0] }, _, by decide, by decide, rfl, by
      decide, by decide, by decide, by decide, by decide, by decide⟩,
    ⟨{ powered with ce := { chains := [(0, { present := true, mode := .run })] }, mbx := { ctxs := [{ ch := 0, tag := 1, op := 0x82, role := 4, payload := [0, 1, 0, 0, 0, 0, 0, 0, 0, 0, 0, 0, 0, 0, 128, 63, 0, 0, 128, 63, 1, 0, 0, 0, 0, 0, 0, 0, 0, 0, 0, 0, 7, 0, 1, 0] }] } },
      0, 1,
      { ch := 0, tag := 1, op := 0x82, role := 4, payload := [0, 1, 0, 0, 0, 0, 0, 0, 0, 0, 0, 0, 0, 0, 128, 63, 0, 0, 128, 63, 1, 0, 0, 0, 0, 0, 0, 0, 0, 0, 0, 0, 7, 0, 1, 0] },
      _, _, _, by decide, by decide, rfl, by decide, rfl, by decide, rfl, by decide, by decide, by decide, by decide,
      by decide, by decide⟩,
    ⟨{ powered with mbx := { ctxs := [{ ch := 0, tag := 1, op := 0x83, role := 4, payload := [7, 1, 0, 0, 0, 0, 0, 0, 1, 0, 0, 0, 1, 0, 0, 0, 0, 0, 0, 0] }] } },
      0, 1,
      { ch := 0, tag := 1, op := 0x83, role := 4, payload := [7, 1, 0, 0, 0, 0, 0, 0, 1, 0, 0, 0, 1, 0, 0, 0, 0, 0, 0, 0] },
      _, _, by decide, by decide, rfl, by decide, by decide, by decide, by decide, by decide, by decide, rfl⟩,
    ⟨{ powered with mbx := { ctxs := [{ ch := 0, tag := 1, op := 0x83, role := 4, payload := [7, 3, 0, 0, 0, 0, 0, 0, 0, 0, 0, 0, 0, 0, 0, 0, 0, 0, 0, 0] }] } },
      0, 1,
      { ch := 0, tag := 1, op := 0x83, role := 4, payload := [7, 3, 0, 0, 0, 0, 0, 0, 0, 0, 0, 0, 0, 0, 0, 0, 0, 0, 0, 0] },
      _, _, by decide, by decide, rfl, by decide, by decide, by decide, by decide, rfl⟩,
    ⟨{ powered with regs := powered.regs ++ [(Reg.TC_STAT 7, 4)], mbx := { ctxs := [{ ch := 0, tag := 1, op := 0x84, role := 4, payload := [7, 0, 0, 0, 0, 0, 0, 0] }] } },
      0, 1, { ch := 0, tag := 1, op := 0x84, role := 4, payload := [7, 0, 0, 0, 0, 0, 0, 0] }, _, _, by decide, by
      decide, rfl, by decide, by decide, by decide, by decide, by decide, rfl⟩,
    ⟨{ powered with mbx := { ctxs := [{ ch := 0, tag := 1, op := 0x90, role := 4, payload := [] }] } }, 0, 1,
      { ch := 0, tag := 1, op := 0x90, role := 4, payload := [] }, _, by decide, by decide, rfl, by decide⟩,
    ⟨{ powered with mbx := { ctxs := [{ ch := 0, tag := 1, op := 0x91, role := 4, payload := [0, 0, 0, 0, 0, 0, 0, 0, 0, 0, 0, 0, 0, 0, 0, 0] }] } },
      0, 1,
      { ch := 0, tag := 1, op := 0x91, role := 4, payload := [0, 0, 0, 0, 0, 0, 0, 0, 0, 0, 0, 0, 0, 0, 0, 0] }, _,
      by decide, by decide, rfl, by decide, by decide, by decide, by decide⟩,
    ⟨{ powered with mbx := { ctxs := [{ ch := 0, tag := 1, op := 0x91, role := 4, payload := [1, 3, 0, 0, 0, 0, 0, 0, 0, 0, 0, 0, 0, 0, 0, 0] }] } },
      0, 1,
      { ch := 0, tag := 1, op := 0x91, role := 4, payload := [1, 3, 0, 0, 0, 0, 0, 0, 0, 0, 0, 0, 0, 0, 0, 0] }, _,
      _, by decide, by decide, rfl, by decide, by decide, by decide, by decide, rfl⟩,
    ⟨{ powered with mbx := { ctxs := [{ ch := 0, tag := 1, op := 0x91, role := 4, payload := [2, 0, 0, 0, 0, 0, 0, 0, 0, 0, 0, 0, 0, 0, 0, 0] }] } },
      0, 1,
      { ch := 0, tag := 1, op := 0x91, role := 4, payload := [2, 0, 0, 0, 0, 0, 0, 0, 0, 0, 0, 0, 0, 0, 0, 0] }, _,
      _, by decide, by decide, rfl, by decide, by decide, by decide, by decide, by decide, rfl⟩,
    ⟨{ st := .active, regs := [(Reg.SYS_PD, 0xFF), (Reg.DSP_STAT, 1)], mbx := { ctxs := [{ ch := 0, tag := 1, op := 0xA0, role := 4, payload := [1, 0, 0, 0, 0, 0, 2, 0, 1, 0, 0, 0, 0, 0, 0, 0, 33] }] } },
      0, 1,
      { ch := 0, tag := 1, op := 0xA0, role := 4, payload := [1, 0, 0, 0, 0, 0, 2, 0, 1, 0, 0, 0, 0, 0, 0, 0, 33] },
      _, _, _, by decide, by decide, rfl, by decide, by decide, by decide, rfl⟩,
    ⟨{ st := .active, regs := [(Reg.SYS_PD, 0xFF), (Reg.DSP_STAT, 1)], mbx := { ctxs := [{ ch := 0, tag := 1, op := 0xA0, role := 4, payload := [2, 0, 0, 0, 0, 0, 1, 0, 1, 0, 0, 0, 0, 0, 0, 0] }] } },
      0, 1,
      { ch := 0, tag := 1, op := 0xA0, role := 4, payload := [2, 0, 0, 0, 0, 0, 1, 0, 1, 0, 0, 0, 0, 0, 0, 0] }, _,
      by decide, by decide, rfl, by decide, by decide, by decide⟩,
    ⟨{ powered with mbx := { ctxs := [{ ch := 0, tag := 1, op := 0xA1, role := 4, payload := [] }] } }, 0, 1,
      { ch := 0, tag := 1, op := 0xA1, role := 4, payload := [] }, _, by decide, by decide, rfl, by decide⟩,
    ⟨{ powered with mbx := { ctxs := [{ ch := 0, tag := 1, op := 0xB0, role := 4, payload := [] }] } }, 0, 1,
      { ch := 0, tag := 1, op := 0xB0, role := 4, payload := [] }, _, by decide, by decide, rfl, by decide, by
      decide⟩,
    ⟨{ powered with mbx := { ctxs := [{ ch := 0, tag := 1, op := 0xB1, role := 4, payload := [0, 0, 0, 0, 1, 0, 0, 0] }] } },
      0, 1, { ch := 0, tag := 1, op := 0xB1, role := 4, payload := [0, 0, 0, 0, 1, 0, 0, 0] }, _, _, by decide, by
      decide, rfl, by decide, by decide, by decide, by decide, by decide, by decide, rfl⟩,
    ⟨{ powered with cfg := { cur := some 0, slot0 := { cfg := some { manager := true } } }, mbx := { ctxs := [{ ch := 0, tag := 1, op := 0xB1, role := 4, payload := [1, 0, 255, 15, 24, 0, 0, 0] }] } },
      0, 1, { ch := 0, tag := 1, op := 0xB1, role := 4, payload := [1, 0, 255, 15, 24, 0, 0, 0] }, _, _, by decide,
      by decide, rfl, by decide, by decide, by decide, by decide, by decide, by decide, by decide, by decide, rfl⟩,
    ⟨{ powered with mbx := { ctxs := [{ ch := 0, tag := 1, op := 0xC0, role := 4, payload := [31, 13, 0, 0] }] } },
      0, 1, { ch := 0, tag := 1, op := 0xC0, role := 4, payload := [31, 13, 0, 0] }, _, by decide, by decide, rfl, by
      decide, by decide, by decide, by decide, by decide⟩⟩

theorem witness_TimeRowsComplete :
    (∃ (x : Half), x.st ≠ .off ∧ x.bit Reg.TS_CTRL 2 = true) ∧
    (∃ (x : Half), x.st ≠ .off ∧ x.bit Reg.TS_CTRL 2 = true) ∧
    (∃ (x : Half), x.st ≠ .off) ∧
    (∃ (x : Half), x.st ≠ .off ∧ x.bit Reg.TS_CTRL 0 = true ∧ x.onMultiple x.mono 4294967296 = true) ∧
    (∃ (x : Half), x.st ≠ .off ∧ x.bit Reg.TS_CTRL 0 = true ∧ x.onMultiple x.now 4294967296 = true) ∧
    (∃ (x : Half), x.st ≠ .off ∧ x.bit Reg.TS_CTRL 0 = true ∧ x.onMultiple x.now 1000000000 = true) ∧
    (∃ (x : Half), x.st ≠ .off ∧ ((x.fld Reg.TS_STAT 2 1 = 1 ∨ x.fld Reg.TS_STAT 2 1 = 2)) ∧ x.goneUs x.ts.lastOfs
      (if x.ts.source = 4 then 3000 else 375000) = true) ∧
    (∃ (x : Half) (y : Half), x.st ≠ .off ∧ x.due .saveTime 60000000 = true ∧ y = x.ran .saveTime) ∧
    (∃ (x : Half) (port : Nat) (m : PtpSync), x.st ≠ .off ∧ x.fromMaster port m.domain m.master = true ∧ m.twoStep =
      true) ∧
    (∃ (x : Half) (port : Nat) (m : PtpSync), x.st ≠ .off ∧ x.fromMaster port m.domain m.master = true ∧ m.twoStep =
      false) ∧
    (∃ (x : Half) (port : Nat) (m : PtpSync) (w : PtpSync), x.st ≠ .off ∧ x.fromMaster port m.domain m.master = true
      ∧ (x.port port).waitFollow = some w ∧ w.seq = m.seq) ∧
    (∃ (x : Half) (port : Nat) (m : PtpDelayReq), x.st ≠ .off ∧ m.domain = 24 ∧ x.masterPort port = true) ∧
    (∃ (x : Half) (port : Nat) (m : PtpDelayResp) (sy : PtpSync) (seq : BitVec 16) (t3 : DWord) (sm : Int), x.st ≠
      .off ∧ x.fromMaster port m.domain m.master = true ∧ (x.port port).lastSync = some sy ∧ (x.port port).req = some
      (seq, t3) ∧ m.seq = seq ∧ sm = ((m.t4 - t3).toInt) * 65536 - m.correction.toInt) ∧
    (∃ (x : Half) (port : Nat) (m : PtpAnnounce), x.st ≠ .off ∧ m.domain = 24 ∧ x.domainOn 4 = true ∧ x.slavePort
      port = true) ∧
    (∃ (x : Half) (port : Nat) (y : Half), x.st ≠ .off ∧ x.sendDue port .sync = true ∧ x.masterPort port = true ∧ y =
      x.modPort port (fun q => { q with sentAt := (q.sentAt.filter fun e => e.1 != .sync) ++ [(.sync, x.mono)] })) ∧
    (∃ (x : Half) (port : Nat) (y : Half), x.st ≠ .off ∧ x.sendDue port .delayReq = true ∧ x.slavePort port = true ∧
      (x.port port).master.isSome = true ∧ y = x.modPort port (fun q =>
      { q with sentAt := (q.sentAt.filter fun e => e.1 != .delayReq) ++ [(.delayReq, x.mono)] })) ∧
    (∃ (x : Half) (port : Nat) (y : Half), x.st ≠ .off ∧ x.sendDue port .announce = true ∧ x.masterPort port = true ∧
      y = x.modPort port (fun q =>
      { q with sentAt := (q.sentAt.filter fun e => e.1 != .announce) ++ [(.announce, x.mono)] })) ∧
    (∃ (x : Half) (port : Nat) (kind : PtpKind) (t : DWord) (d : Int) (y : Half) (z : Half), x.st ≠ .off ∧ (x.port
      port).queued = some (kind, t) ∧ d = (x.now - t).toInt * 10 + x.txLatency port ∧ 0 ≤ d ∧ d ≤ 10000000 ∧ y =
      x.modPort port (fun q => { q with queued := none }) ∧ z = (if kind == .delayReq then y.modPort port (fun q =>
      { q with req := some (q.reqSeq, t), reqSeq := q.reqSeq + 1 }) else y)) ∧
    (∃ (x : Half) (port : Nat) (kind : PtpKind) (t : DWord) (d : Int), x.st ≠ .off ∧ (x.port port).queued = some
      (kind, t) ∧ d = (x.now - t).toInt * 10 + x.txLatency port ∧ ((d < 0 ∨ 10000000 < d))) ∧
    (∃ (x : Half) (port : Nat) (a : PtpAnnounce), x.st ≠ .off ∧ (x.port port).master = some a ∧ ((x.port
      port).foreign.any fun b => b.1.sender == a.sender && !x.goneUs b.2 3000000) = false) ∧
    (∃ (x : Half), x.st ≠ .off ∧ x.ts.source = 1 ∧ x.goneUs (x.port x.selectedPort).syncAt 375000 = true) ∧
    (∃ (x : Half) (m : DWord), x.st ≠ .off ∧ x.abDiffer = true ∧ x.ts.abSince = some m ∧ x.goneUs m 10000000 = true) ∧
    (∃ (x : Half) (i : Nat) (rising : Bool) (hns : Bool), x.st ≠ .off ∧ x.bit Reg.TS_CTRL 0 = true ∧ i < 4 ∧ x.fld
      (Reg.FI_CFG i) 1 0 ≠ 0) ∧
    (∃ (x : Half) (i : Nat) (rising : Bool) (hns : Bool), x.st ≠ .off ∧ x.bit Reg.TS_CTRL 0 = true ∧ 4 ≤ i ∧ i < 20 ∧
      x.bit Reg.DI_MODE (i - 4) = true) ∧
    (∃ (x : Half) (i : Nat), x.st ≠ .off ∧ i < 20) :=
  ⟨⟨{ powered with regs := powered.regs ++ [(Reg.TS_CTRL, 4)] }, by decide, by decide⟩,
    ⟨{ powered with regs := powered.regs ++ [(Reg.TS_CTRL, 4)] }, by decide, by decide⟩,
    ⟨powered, by decide⟩,
    ⟨{ powered with regs := powered.regs ++ [(Reg.TS_CTRL, 1)] }, by decide, by decide, by decide⟩,
    ⟨{ powered with regs := powered.regs ++ [(Reg.TS_CTRL, 1)] }, by decide, by decide, by decide⟩,
    ⟨{ powered with regs := powered.regs ++ [(Reg.TS_CTRL, 1)] }, by decide, by decide, by decide⟩,
    ⟨{ powered with regs := powered.regs ++ [(Reg.TS_STAT, 4)] }, by decide, by decide, by decide⟩,
    ⟨powered, _, by decide, by decide, rfl⟩,
    ⟨{ powered with regs := powered.regs ++ [], ts := { ports := [(0, { master := some { sender := 7 }, lastSync := some {}, waitFollow := some {}, queued := some (.sync, 0) })] } },
      0, { master := 7, twoStep := true }, by decide, by decide, by decide⟩,
    ⟨{ powered with regs := powered.regs ++ [], ts := { ports := [(0, { master := some { sender := 7 }, lastSync := some {}, waitFollow := some {}, queued := some (.sync, 0) })] } },
      0, { master := 7 }, by decide, by decide, by decide⟩,
    ⟨{ powered with regs := powered.regs ++ [], ts := { ports := [(0, { master := some { sender := 7 }, lastSync := some {}, waitFollow := some {}, queued := some (.sync, 0) })] } },
      0, { master := 7 }, {}, by decide, by decide, by decide, by decide⟩,
    ⟨{ powered with cfg := { cur := some 0, slot0 := { cfg := some { manager := true } } }, ts := { ports := [(0, { queued := some (.sync, 0) })] } },
      1, {}, by decide, by decide, by decide⟩,
    ⟨{ powered with regs := powered.regs ++ [], ts := { ports := [(0, { master := some { sender := 7 }, lastSync := some {}, waitFollow := some {}, req := some (0, 0), queued := some (.sync, 0) })] } },
      0, { master := 7 }, {}, 0, 0, _, by decide, by decide, by decide, by decide, by decide, rfl⟩,
    ⟨{ powered with regs := powered.regs ++ [], ts := { ports := [(0, { master := some { sender := 7 }, lastSync := some {}, waitFollow := some {}, queued := some (.sync, 0) })] } },
      1, {}, by decide, by decide, by decide, by decide⟩,
    ⟨{ powered with cfg := { cur := some 0, slot0 := { cfg := some { manager := true } } }, ts := { ports := [(0, { queued := some (.sync, 0) })] } },
      1, _, by decide, by decide, by decide, rfl⟩,
    ⟨{ powered with regs := powered.regs ++ [], ts := { ports := [(0, { master := some { sender := 7 }, lastSync := some {}, waitFollow := some {}, queued := some (.sync, 0) })] } },
      0, _, by decide, by decide, by decide, by decide, rfl⟩,
    ⟨{ powered with cfg := { cur := some 0, slot0 := { cfg := some { manager := true } } }, ts := { ports := [(0, { queued := some (.sync, 0) })] } },
      1, _, by decide, by decide, by decide, rfl⟩,
    ⟨{ powered with regs := powered.regs ++ [], ts := { ports := [(0, { master := some { sender := 7 }, lastSync := some {}, waitFollow := some {}, queued := some (.sync, 0) })] } },
      0, .sync, 0, _, _, _, by decide, by decide, rfl, by decide, by decide, rfl, rfl⟩,
    ⟨{ powered with regs := powered.regs ++ [], ts := { ports := [(0, { queued := some (.sync, 1) })] } }, 0, .sync,
      1, _, by decide, by decide, rfl, by decide⟩,
    ⟨{ powered with regs := powered.regs ++ [], ts := { ports := [(0, { master := some { sender := 7 }, lastSync := some {}, waitFollow := some {}, queued := some (.sync, 0) })] } },
      0, { sender := 7 }, by decide, by decide, by decide⟩,
    ⟨{ powered with regs := powered.regs ++ [], ts := { source := 1 } }, by decide, by decide, by decide⟩,
    ⟨{ powered with regs := powered.regs ++ [], ts := { abSince := some 0, ports := [(0, { offset := some 65536001 }), (1, { offset := some 0 })] } },
      0, by decide, by decide, by decide, by decide⟩,
    ⟨{ powered with regs := powered.regs ++ [(Reg.FI_CFG 3, 1), (Reg.TS_CTRL, 1)] }, 3, true, false, by decide, by
      decide, by decide, by decide⟩,
    ⟨{ powered with regs := powered.regs ++ [(Reg.DI_MODE, 0x8000), (Reg.TS_CTRL, 1)] }, 19, true, false, by decide,
      by decide, by decide, by decide, by decide⟩,
    ⟨powered, 19, by decide, by decide⟩⟩

theorem witness_DigitalRowsComplete :
    (∃ (x : Half) (levels : DWord) (sunk : Bool) (ok : Bool) (y : Half), x.st ≠ .off ∧ x.domainOn 6 = true ∧ x.timed
      = true ∧ x.onMultiple x.mono 250000 = true ∧ x.dio.sampled ≠ some (x.mono.toNat / 250000) ∧ y =
      { x with dio := { x.dio with sampled := some (x.mono.toNat / 250000) } } ∧ ok = (sunk && (y.role.drives ||
      y.partnerClaim))) ∧
    (∃ (x : Half) (di : Nat), x.st ≠ .off ∧ di < 64 ∧ x.domainOn 6 = true ∧ x.diN di ≤ x.dio.count.get 0 di ∧ x.bit2
      Reg.DI_LEVEL0 Reg.DI_LEVEL1 di = false) ∧
    (∃ (x : Half) (di : Nat), x.st ≠ .off ∧ di < 64 ∧ x.domainOn 6 = true ∧ 0 < x.diN di ∧ x.dio.count.get 0 di = 0 ∧
      x.bit2 Reg.DI_LEVEL0 Reg.DI_LEVEL1 di = true) ∧
    (∃ (x : Half) (di : Nat), x.st ≠ .off ∧ x.diSinks di = true) ∧
    (∃ (x : Half) (ch : Nat), x.st ≠ .off ∧ ch < 32 ∧ x.bit Reg.DO_ON ch = true) ∧
    (∃ (x : Half) (ch : Nat), x.st ≠ .off ∧ ch < 32 ∧ x.domainOn 6 = true) ∧
    (∃ (x : Half) (ch : Nat), x.st ≠ .off ∧ ch < 32 ∧ x.bit Reg.DO_OT ch = true) ∧
    (∃ (x : Half) (g : Nat) (n : Nat) (chs : List Nat), x.st ≠ .off ∧ g < 2 ∧ x.domainOn 6 = true ∧ chs =
      (((List.range 16).map (fun i => 16 * g + 15 - i)).filter (x.bit Reg.DO_LIM)).take n) ∧
    (∃ (x : Half) (ch : Nat), x.st ≠ .off ∧ (x.dio.groupOff.any fun e => e.1 == ch && x.goneUs e.2 100000 && !x.bit
      Reg.DO_OT (ch % 32)) = true) ∧
    (∃ (x : Half) (ch : Nat), x.st ≠ .off ∧ x.doDiag ch = true) ∧
    (∃ (x : Half) (ch : Nat), x.st ≠ .off ∧ x.doDiag ch = true) ∧
    (∃ (x : Half) (ch : Nat), x.st ≠ .off ∧ ch < 32 ∧ x.domainOn 6 = true ∧ (x.bit Reg.DO_ON ch && x.bit Reg.DO_LIM
      ch) = false) ∧
    (∃ (x : Half) (fi : Nat) (rising : Bool) (hns : Bool) (t : DWord), x.st ≠ .off ∧ fi < 4 ∧ x.domainOn 6 = true ∧
      ((x.fld (Reg.FI_CFG fi) 1 0 = 1 ∨ x.fld (Reg.FI_CFG fi) 1 0 = 2)) ∧ t = x.now * 2 + (if hns then 1 else 0) ∧
      (x.fi fi).last.all (fun l => decide (16000 ≤ (t - l).toNat)) = true) ∧
    (∃ (x : Half) (fi : Nat) (rising : Bool) (hns : Bool) (t : DWord) (l : DWord), x.st ≠ .off ∧ fi < 4 ∧ x.domainOn
      6 = true ∧ ((x.fld (Reg.FI_CFG fi) 1 0 = 1 ∨ x.fld (Reg.FI_CFG fi) 1 0 = 2)) ∧ t = x.now * 2 + (if hns then 1
      else 0) ∧ (x.fi fi).last = some l ∧ (t - l).toNat < 16000) ∧
    (∃ (x : Half) (fi : Nat) (d : Nat) (ppr : Nat) (t0 : DWord) (t1 : DWord) (rest : List DWord) (y : Half), x.st ≠
      .off ∧ fi < 4 ∧ x.domainOn 6 = true ∧ (x.fi fi).edges = t0 :: t1 :: rest ∧ x.goneUs (x.fi fi).updAt 100 = true
      ∧ y = { x with dio := { x.dio with fi := x.dio.fi.put fi { x.fi fi with updAt := x.mono } } } ∧ d = (x.now * 2
      - t0).toNat ∧ (t0 - t1).toNat < d ∧ ppr = x.fld (Reg.FI_CFG fi) 14 4 ∧ ppr ≠ 0) ∧
    (∃ (x : Half) (fi : Nat) (y : Half), x.st ≠ .off ∧ fi < 4 ∧ x.domainOn 6 = true ∧ x.goneUs (x.fi fi).edgeAt (1000
      * x.fld (Reg.FI_TZERO fi) 13 0) = true ∧ y = x.wr (Reg.FI_SPEED fi) 0) :=
  ⟨⟨powered, 1, true, _, _, by decide, by decide, by decide, by decide, by decide, rfl, rfl⟩,
    ⟨{ powered with dio := { count := [(63, 255)] } }, 63, by decide, by decide, by decide, by decide, by decide⟩,
    ⟨{ st := .active, regs := [(Reg.SYS_PD, 0xFF), (Reg.DI_LEVEL0, 1)] }, 0, by decide, by decide, by decide, by
      decide, by decide, by decide⟩,
    ⟨{ powered with role := { drives := true } }, 63, by decide, by decide⟩,
    ⟨{ powered with regs := powered.regs ++ [(Reg.DO_ON, 0x80000000)] }, 31, by decide, by decide, by decide⟩,
    ⟨powered, 31, by decide, by decide, by decide⟩,
    ⟨{ powered with regs := powered.regs ++ [(Reg.DO_OT, 0x80000000)] }, 31, by decide, by decide, by decide⟩,
    ⟨powered, 1, 1, _, by decide, by decide, by decide, rfl⟩,
    ⟨{ powered with dio := { groupOff := [(31, 0)] } }, 31, by decide, by decide⟩,
    ⟨{ st := .active, regs := [(Reg.SYS_STAT, 0x80), (Reg.SYS_PD, 0xFF), (Reg.DO_DIAG_EN, 0x80000000)], role := { drives := true } },
      31, by decide, by decide⟩,
    ⟨{ st := .active, regs := [(Reg.SYS_STAT, 0x80), (Reg.SYS_PD, 0xFF), (Reg.DO_DIAG_EN, 0x80000000)], role := { drives := true } },
      31, by decide, by decide⟩,
    ⟨powered, 31, by decide, by decide, by decide, by decide⟩,
    ⟨{ powered with regs := powered.regs ++ [(Reg.FI_CFG 3, 1)] }, 3, true, false, _, by decide, by decide, by
      decide, by decide, rfl, by decide⟩,
    ⟨{ powered with regs := powered.regs ++ [(Reg.FI_CFG 3, 2)], dio := { fi := [(3, { last := some 0 })] } }, 3,
      true, false, _, 0, by decide, by decide, by decide, by decide, rfl, by decide, by decide⟩,
    ⟨{ powered with regs := powered.regs ++ [(Reg.FI_CFG 3, 0x11)], dio := { fi := [(3, { edges := [0xFFFFFFFFFFFFFFFF, 0xFFFFFFFFFFFFFFFF] })] } },
      3, _, _, 0xFFFFFFFFFFFFFFFF, 0xFFFFFFFFFFFFFFFF, [], _, by decide, by decide, by decide, by decide, by decide,
      rfl, rfl, by decide, rfl, by decide⟩,
    ⟨powered, 3, _, by decide, by decide, by decide, by decide, rfl⟩⟩

theorem witness_CurrentLoopRowsComplete :
    (∃ (x : Half) (ai : Nat) (raw : F32) (vs : F32) (temp : F32) (supLim : Bool) (z : Half), x.st ≠ .off ∧ ai < 32 ∧
      x.domainOn 7 = true ∧ x.aiDue ai = true ∧ z = x.modAi ai (fun k =>
      { k with slot := some (x.mono.toNat / (1000000000 / aiRate (x.fld (Reg.AI_CFG ai) 3 2))) }) ∧ z.bit (Reg.AI_CFG
      ai) 0 = false) ∧
    (∃ (x : Half) (ai : Nat) (raw : F32) (vs : F32) (temp : F32) (supLim : Bool) (z : Half) (y : Half), x.st ≠ .off ∧
      ai < 32 ∧ x.domainOn 7 = true ∧ x.aiDue ai = true ∧ z = x.modAi ai (fun k =>
      { k with slot := some (x.mono.toNat / (1000000000 / aiRate (x.fld (Reg.AI_CFG ai) 3 2))) }) ∧ z.bit (Reg.AI_CFG
      ai) 0 = true ∧ (((z.ai ai).gap = 12 ∨ (z.ai ai).gap = 1)) ∧ y = (z.modAi ai (fun k =>
      { k with gap := k.gap - 1 })).setBit (Reg.AI_STAT ai) 13 true) ∧
    (∃ (x : Half) (ai : Nat) (raw : F32) (vs : F32) (temp : F32) (supLim : Bool) (z : Half) (y : Half) (w : Half) (q
      : F32 × F32), x.st ≠ .off ∧ ai < 32 ∧ x.domainOn 7 = true ∧ x.aiDue ai = true ∧ z = x.modAi ai (fun k =>
      { k with slot := some (x.mono.toNat / (1000000000 / aiRate (x.fld (Reg.AI_CFG ai) 3 2))) }) ∧ z.bit (Reg.AI_CFG
      ai) 0 = true ∧ (z.ai ai).gap ≠ 12 ∧ (z.ai ai).gap ≠ 1 ∧ y = (z.modAi ai (fun k =>
      { k with gap := k.gap - 1 })).setBit (Reg.AI_STAT ai) 13 false ∧ q = (y.aiCoeffs ai temp).1 ∧ w = (y.aiCoeffs
      ai temp).2) ∧
    (∃ (x : Half) (ai : Nat) (t : Nat), x.st ≠ .off ∧ ai < 32 ∧ (x.ai ai).converted = true ∧ t = 1000 * x.fld
      (Reg.AI_CFG ai) 29 16 ∧ (x.ai ai).band.natAbs = 2 ∧ x.goneUs (x.ai ai).farAt t = true) ∧
    (∃ (x : Half) (ai : Nat) (t : Nat), x.st ≠ .off ∧ ai < 32 ∧ (x.ai ai).converted = true ∧ t = 1000 * x.fld
      (Reg.AI_CFG ai) 29 16 ∧ ((x.ai ai).band.natAbs = 2 ∧ x.goneUs (x.ai ai).farAt t = true) = False ∧ x.goneUs
      (x.ai ai).sideAt t = true) ∧
    (∃ (x : Half) (ai : Nat), x.st ≠ .off ∧ ai < 32 ∧ (x.ai ai).cond = true ∧ x.isActive = true ∧ x.bit (Reg.AI_STAT
      ai) 11 = false ∧ x.goneUs (x.ai ai).condAt 100000 = true) ∧
    (∃ (x : Half) (ai : Nat), x.st ≠ .off ∧ ai < 32 ∧ x.domainOn 7 = true ∧ (x.ai ai).cond = false ∧ x.goneUs (x.ai
      ai).condAt 1000000 = true) ∧
    (∃ (x : Half) (ai : Nat) (bin : Nat) (o : F32) (g : F32) (voc : F32) (ratio : F32) (lok : Bool) (seen : Bool) (y
      : Half) (c : AiCal), x.st ≠ .off ∧ ai < 32 ∧ bin < 31 ∧ x.domainOn 7 = true ∧ (x.isActive && x.peerSynced) =
      false ∧ ((x.ai ai).calAt.any fun m => !x.goneUs m 600000000) = false ∧ c =
      { bin := bin, offset := o, gain := g, limitsOk := lok, voc := voc, vocSeen := seen, ratio := ratio } ∧ y =
      x.modAi ai (fun k => { k with calAt := some x.mono })) ∧
    (∃ (x : Half) (ao : Nat) (rb : F32) (drive : F32) (y : Half), x.st ≠ .off ∧ ao < 8 ∧ x.bit (Reg.AO_STAT ao) 0 =
      true ∧ f32lt rb (f32sub (x.aoCommand ao) (f32rat 2 10)) = true ∧ y = x.wr (Reg.AO_RB ao) rb) ∧
    (∃ (x : Half) (ao : Nat) (rb : F32) (y : Half), x.st ≠ .off ∧ ao < 8 ∧ x.domainOn 7 = true ∧ y = x.wr (Reg.AO_RB
      ao) rb ∧ (f32le (f32sub (x.aoCommand ao) (f32rat 2 10)) rb && f32le rb (f32add (x.aoCommand ao) (f32rat 2 10)))
      = true) ∧
    (∃ (x : Half) (ao : Nat) (rb : F32), x.st ≠ .off ∧ ao < 8 ∧ x.bit (Reg.AO_STAT ao) 0 = true ∧ f32lt (x.rd
      (Reg.AO_CMD ao)) (f32int 1) = false ∧ f32lt rb (f32rat 1 2) = true) ∧
    (∃ (x : Half) (ao : Nat), x.st ≠ .off ∧ ao < 8 ∧ x.bit (Reg.AO_STAT ao) 0 = true) :=
  ⟨⟨powered, 31, 0, 0, 0, false, _, by decide, by decide, by decide, by decide, rfl, by decide⟩,
    ⟨{ powered with aio := { ai := [(31, { gap := 12 })] }, regs := powered.regs ++ [(Reg.AI_CFG 31, 1)] }, 31, 0, 0,
      0, false, _, _, by decide, by decide, by decide, by decide, rfl, by decide, by decide, rfl⟩,
    ⟨{ powered with regs := powered.regs ++ [(Reg.AI_CFG 31, 1)] }, 31, 0, 0, 0, false, _, _, _, _, by decide, by
      decide, by decide, by decide, rfl, by decide, by decide, by decide, rfl, rfl, rfl⟩,
    ⟨{ powered with aio := { ai := [(31, { converted := true, band := -2 })] } }, 31, _, by decide, by decide, by
      decide, rfl, by decide, by decide⟩,
    ⟨{ powered with aio := { ai := [(31, { converted := true, band := 1 })] } }, 31, _, by decide, by decide, by
      decide, rfl, by decide, by decide⟩,
    ⟨{ powered with aio := { ai := [(31, { cond := true })] } }, 31, by decide, by decide, by decide, by decide, by
      decide, by decide⟩,
    ⟨powered, 31, by decide, by decide, by decide, by decide, by decide⟩,
    ⟨powered, 31, 30, 0, 0, 0, 0, true, true, _, _, by decide, by decide, by decide, by decide, by decide, by decide,
      rfl, rfl⟩,
    ⟨{ st := .active, regs := [(Reg.SYS_PD, 0xFF), (Reg.AO_CMD 7, 0x40800000), (Reg.AO_STAT 7, 1)] }, 7, 0, 0, _, by
      decide, by decide, by decide, by decide, rfl⟩,
    ⟨powered, 7, 0, _, by decide, by decide, by decide, rfl, by decide⟩,
    ⟨{ st := .active, regs := [(Reg.SYS_PD, 0xFF), (Reg.AO_CMD 7, 0x40800000), (Reg.AO_STAT 7, 1)] }, 7, 0, by
      decide, by decide, by decide, by decide, by decide⟩,
    ⟨{ st := .active, regs := [(Reg.SYS_PD, 0xFF), (Reg.AO_CMD 7, 0x40800000), (Reg.AO_STAT 7, 1)] }, 7, by decide,
      by decide, by decide⟩⟩

/-! ### Ill-formed commands are refused: one for each check, just beyond its range -/

theorem test_ill_formed_a : Instr.wf (.taskRelease .a 16) = false ∧
    Instr.wf (.chainTrigger .a 256) = false ∧
    Instr.wf (.vdThresholdCross .a 8 0) = false ∧
    Instr.wf (.tgStart .a 4) = false ∧
    Instr.wf (.tcArm .a 8) = false ∧
    Instr.wf (.siFilterChange .a 16 false) = false ∧
    Instr.wf (.matrixBackstopExpire .a false 8) = false ∧
    Instr.wf (.pairDiscrepancy .a 8) = false ∧
    Instr.wf (.tpDarkPulse .a 8 0 0) = false ∧
    Instr.wf (.functionDelayElapsed .a 16) = false ∧
    Instr.wf (.scrupleFiEdge .a 2) = false ∧
    Instr.wf (.srsLevelChange .a 4) = false := by decide
theorem test_ill_formed_b : Instr.wf (.pdRailGood .a 8) = false ∧
    Instr.wf (.faultRaise .a 128) = false ∧
    Instr.wf (.fcPendClear .a 4 0) = false ∧
    Instr.wf (.classClear .a 12) = false ∧
    Instr.wf (.workerLost .a 4096) = false ∧
    Instr.wf (.joinReply .a 256 false 0) = false ∧
    Instr.wf (.commandConsume .a 8) = false ∧
    Instr.wf (.completionPost .a 0 64) = false ∧
    Instr.wf (.notificationPost .a 256) = false ∧
    Instr.wf (.dtlsHandshake .a (some 5) 0 default) = false ∧
    Instr.wf (.openSession .a 0 16) = false ∧
    Instr.wf (.entries .a 0 0 (List.replicate 22 []) 0) = false := by decide
theorem test_ill_formed_c : Instr.wf (.sync .a 4 default) = false ∧
    Instr.wf (.delayReq .a 0 { domain := 256 }) = false ∧
    Instr.wf (.edgeCapture .a 20 false false) = false ∧
    Instr.wf (.diFilterChange .a 64) = false ∧
    Instr.wf (.doLimit .a 32) = false ∧
    Instr.wf (.doGroup .a 2 0) = false ∧
    Instr.wf (.doGroup .a 0 17) = false ∧
    Instr.wf (.fiEdge .a 4 false false) = false ∧
    Instr.wf (.aiConversion .a 32 0 0 false 0) = false ∧
    Instr.wf (.aiCalibration .a 0 31 0 0 false 0 false 0) = false ∧
    Instr.wf (.aoComply .a 8 0 0) = false ∧
    Instr.wf (.canFrameReceive .a 4 default) = false := by decide
theorem test_ill_formed_d : Instr.wf (.canSendDue .a 0 128) = false ∧
    Instr.wf (.canError .a 0 512 0) = false ∧
    Instr.wf (.canError .a 0 0 256) = false ∧
    Instr.wf (.lanFrameReceive .a 3 default) = false ∧
    Instr.wf (.serFrameReceive .a 2 default) = false ∧
    Instr.wf (.cvJobGo .a 8) = false ∧
    Instr.wf (.norErase .a 8192 false) = false ∧
    Instr.wf (.dispJournalAckTimeout .a 16) = false ∧
    Instr.wf (.registerWrite .a false 0x30100000 0) = false := by decide
theorem test_well_formed : Instr.wf (.taskRelease .a 15) = true ∧ Instr.wf (.faultRaise .b 127) = true ∧
    Instr.wf (.registerWrite .a true 0x300FFFFC 0) = true ∧ Instr.wf (.registerWrite .a true 0x30000002 0) = false := by decide

/-! ### Values of the manual -/

/-- The bytes "123456789". -/
def nineBytes : List Byte := [0x31, 0x32, 0x33, 0x34, 0x35, 0x36, 0x37, 0x38, 0x39]

/-- The last column of the table of R446. -/
theorem test_check_values : cv0 nineBytes = 0xE3069283 ∧ cv1 nineBytes = 0xCBF43926 ∧ cv2 nineBytes = 0x29B1 ∧
    cv3 nineBytes = 0x6C40DF5F0B497347 := by decide
/-- The completions of the OBJ_READ of R282. -/
theorem test_completion_word : (cqEntry 0x10 5 ST_OK 8 2 0 0 0 []).headD 0 = 0x02800510 ∧
    (cqEntry 0x10 5 ST_STALE 8 2 0 0 0 []).headD 0 = 0x02824510 := by decide
/-- The bands of R361 at 3.6, 3.8, 20.5 and 21.0 mA. -/
theorem test_ne43_bands : (ne43 (f32rat 36 10), ne43 (f32rat 37 10), ne43 (f32rat 38 10), ne43 (f32rat 205 10),
    ne43 (f32int 21)) = (-2, -1, 0, 0, 2) := by decide
/-- The state codes of R180. -/
theorem test_state_codes : [HState.off, .boot, .native, .syncing, .standby, .active, .relinquishing, .fault, .latched].map
    HState.code = [0, 1, 2, 3, 4, 5, 6, 7, 8] := by decide
/-- The bounce of the example of R343 to R345: a counter of 2 falls to 1 on a sample of 0. -/
theorem test_filter_bounce : (({ powered with dio := { count := [(3, 2)] } } : Half).diCount 3 false).dio.count = [(3, 1)] := by
  decide

end Sys2Proof.Tests
end

section
/-! The outcomes of commands (R8): every command answers a next state, but for the writes of the bus masters that
name reserved bits or no register. -/
namespace Sys2Proof.Machine

/-- The outcome is a next state. -/
def Completes (o : Host.Outcome State Fault Refusal) : Prop := ∃ t, o = .next t

/-- A meaning that answers a next state or a fault in every state. -/
def NeverRefuses (f : State → Host.Outcome State Fault Refusal) : Prop := ∀ s r, f s ≠ .refused r

theorem completes_next (t : State) : Completes (.next t) := ⟨t, rfl⟩

theorem completes_onHalf (s : State) (h : HalfId) (f : Half → Half) : Completes (onHalf s h f) := ⟨_, rfl⟩

theorem Completes.ite {p : Prop} [Decidable p] {a b : Host.Outcome State Fault Refusal} (ha : Completes a)
    (hb : Completes b) : Completes (if p then a else b) := by
  split
  · exact ha
  · exact hb

theorem Completes.ne_refused {o : Host.Outcome State Fault Refusal} (ho : Completes o) (r : Refusal) :
    o ≠ .refused r := by
  obtain ⟨t, rfl⟩ := ho
  nofun

/-! ### The commands that choose between next states -/

theorem execPeriodicSwap_completes (h : HalfId) (at_ : DWord) (s : State) : Completes (execPeriodicSwap h at_ s) :=
  .ite (completes_next _) (.ite (completes_next _) (completes_onHalf ..))

theorem execReleaseButtonHold_completes (h : HalfId) (at_ : DWord) (s : State) :
    Completes (execReleaseButtonHold h at_ s) :=
  .ite (completes_next _) (.ite (completes_next _) (.ite (completes_next _) (completes_onHalf ..)))

theorem execLogicFeedReturn_completes (h : HalfId) (feed : Feed) (s : State) :
    Completes (execLogicFeedReturn h feed s) :=
  .ite (completes_next _) (completes_onHalf ..)

theorem execFieldFeedRange_completes (h : HalfId) (feed : Feed) (inRange : Bool) (s : State) :
    Completes (execFieldFeedRange h feed inRange s) :=
  .ite (completes_next _) (completes_onHalf ..)

theorem execTpMasterTakeover_completes (h : HalfId) (tp : Nat) (s : State) : Completes (execTpMasterTakeover h tp s) :=
  .ite (completes_next _) (completes_onHalf ..)

theorem execScrupleResetEnd_completes (h : HalfId) (s : State) : Completes (execScrupleResetEnd h s) := by
  cases h with
  | a => exact .ite (completes_next _) (.ite (completes_next _) (completes_next _))
  | b => exact .ite (completes_next _) (completes_next _)

/-- FW_ACTIVATE answers a next state whether or not the command starts here. -/
theorem execFwActivate_completes (h : HalfId) (ch tag : Nat) (at_ : DWord) (s : State) :
    Completes (execFwActivate h ch tag at_ s) := by
  unfold execFwActivate
  dsimp only
  split
  · exact completes_next _
  · exact completes_next _

/-- Every arm but the three register writes answers a next state: by the lemmas above where the meaning chooses between
outcomes, and by its form (`onHalf`, `onPair`, `endOn` or a state) elsewhere. -/
theorem exec_completes (c : Instr) (s : State) (hw : ∀ h app a v, c ≠ .registerWrite h app a v)
    (ht : ∀ h v, c ≠ .mbxCh0SqTail h v) (hh : ∀ h v, c ≠ .mbxCh0CqHead h v) : Completes (exec c s) := by
  cases c
  case registerWrite h app a v => exact absurd rfl (hw h app a v)
  case mbxCh0SqTail h v => exact absurd rfl (ht h v)
  case mbxCh0CqHead h v => exact absurd rfl (hh h v)
  case periodicSwap h at_ => exact execPeriodicSwap_completes h at_ s
  case releaseButtonHold h at_ => exact execReleaseButtonHold_completes h at_ s
  case logicFeedReturn h feed => exact execLogicFeedReturn_completes h feed s
  case fieldFeedRange h feed inRange => exact execFieldFeedRange_completes h feed inRange s
  case tpMasterTakeover h tp => exact execTpMasterTakeover_completes h tp s
  case scrupleResetEnd h => exact execScrupleResetEnd_completes h s
  case fwActivate h ch tag at_ => exact execFwActivate_completes h ch tag at_ s
  all_goals exact ⟨_, rfl⟩

/-! ### No command refuses -/

theorem neverRefuses_fault (k : Fault) : NeverRefuses fun _ => .fault k := fun _ _ e => nomatch e

/-- The form of the two pointer writes of channel 0: a fault on reserved bits, or a next state. -/
theorem ne_refused_of_fault_or_completes {p : Prop} [Decidable p] {k : Fault}
    {o : Host.Outcome State Fault Refusal} (ho : Completes o) (r : Refusal) :
    (if p then .fault k else o) ≠ .refused r := by
  split
  · exact neverRefuses_fault k State.reset r
  · exact ho.ne_refused r

/-- REGISTER_WRITE apart, no command refuses; it is left to `execRegisterWrite_neverRefuses`, which needs this for the
commands that a written register gives. -/
theorem neverRefuses_exec {c : Instr} (hw : ∀ h app a v, c ≠ .registerWrite h app a v) : NeverRefuses (exec c) := by
  intro s r
  by_cases ht : ∃ h v, c = .mbxCh0SqTail h v
  · obtain ⟨h, v, rfl⟩ := ht
    exact ne_refused_of_fault_or_completes (completes_onHalf s h _) r
  by_cases hh : ∃ h v, c = .mbxCh0CqHead h v
  · obtain ⟨h, v, rfl⟩ := hh
    exact ne_refused_of_fault_or_completes (completes_onHalf s h _) r
  · exact (exec_completes c s hw (fun h v e => ht ⟨h, v, e⟩) (fun h v e => hh ⟨h, v, e⟩)).ne_refused r

/-! ### The commands that a register write gives -/

/-- Each of these commands answers a next state or a fault. -/
def AllNeverRefuse (l : List (State → Host.Outcome State Fault Refusal)) : Prop := ∀ f ∈ l, NeverRefuses f

theorem allNeverRefuse_nil : AllNeverRefuse [] := fun _ hf => absurd hf List.not_mem_nil

theorem AllNeverRefuse.cons {f : State → Host.Outcome State Fault Refusal}
    {l : List (State → Host.Outcome State Fault Refusal)} (hl : AllNeverRefuse l) (hf : NeverRefuses f) :
    AllNeverRefuse (f :: l) := List.forall_mem_cons.mpr ⟨hf, hl⟩

theorem AllNeverRefuse.append {l m : List (State → Host.Outcome State Fault Refusal)} (hl : AllNeverRefuse l)
    (hm : AllNeverRefuse m) : AllNeverRefuse (l ++ m) := List.forall_mem_append.mpr ⟨hl, hm⟩

theorem AllNeverRefuse.ite {p : Prop} [Decidable p] {l m : List (State → Host.Outcome State Fault Refusal)}
    (hl : AllNeverRefuse l) (hm : AllNeverRefuse m) : AllNeverRefuse (if p then l else m) := by
  split
  · exact hl
  · exact hm

/-- A command given only where a bit of the word is set. -/
theorem NeverRefuses.on {f : State → Host.Outcome State Fault Refusal} (hf : NeverRefuses f) {p : Prop} [Decidable p] :
    AllNeverRefuse (if p then [f] else []) := .ite (allNeverRefuse_nil.cons hf) allNeverRefuse_nil

/-- A sequence of such commands stops at a fault at worst. -/
theorem AllNeverRefuse.runSeq {l : List (State → Host.Outcome State Fault Refusal)} (hl : AllNeverRefuse l) :
    NeverRefuses (runSeq l) := by
  induction l with
  | nil => exact fun s r => (completes_next s).ne_refused r
  | cons f fs ih =>
    obtain ⟨hf, hfs⟩ := List.forall_mem_cons.mp hl
    intro s r
    rw [Machine.runSeq]
    cases e : f s with
    | next t => exact ih hfs t r
    | fault k => nofun
    | refused k => exact absurd e (hf s k)

/-- The commands of a register with a row of its own, where it has one. -/
def RowNeverRefuses (o : Option (List (State → Host.Outcome State Fault Refusal))) : Prop :=
  ∀ l, o = some l → AllNeverRefuse l

theorem rowNeverRefuses_none : RowNeverRefuses none := nofun

theorem AllNeverRefuse.row {l : List (State → Host.Outcome State Fault Refusal)} (hl : AllNeverRefuse l) :
    RowNeverRefuses (some l) := by
  rintro _ ⟨⟩
  exact hl

theorem RowNeverRefuses.ite {p : Prop} [Decidable p] {o q : Option (List (State → Host.Outcome State Fault Refusal))}
    (ho : RowNeverRefuses o) (hq : RowNeverRefuses q) : RowNeverRefuses (if p then o else q) := by
  split
  · exact ho
  · exact hq

/-- The registers with rows of their own, in the order of `actions`: each member is a command of the table other than
REGISTER_WRITE, or, for a reserved code of CE_CMD, a fault. -/
theorem actions_neverRefuse (h : HalfId) (a : Nat) (v : Word) : RowNeverRefuses (actions h a v) := by
  have cmd (c : Instr) (hc : ∀ h app a v, c ≠ .registerWrite h app a v) {p : Prop} [Decidable p] :
      AllNeverRefuse (if p then [exec c] else []) := (neverRefuses_exec hc).on
  refine .ite (cmd (.ceSwap ..) nofun).row ?_
  refine .ite (AllNeverRefuse.row ?_) ?_
  · split
    · exact allNeverRefuse_nil
    · exact cmd (.ceCmdRun ..) nofun
    · exact cmd (.ceCmdHold ..) nofun
    · exact cmd (.ceCmdOff ..) nofun
    · exact cmd (.ceCmdRestart ..) nofun
    · exact (neverRefuses_fault _).on
  refine .ite ((cmd (.tgStart ..) nofun).append (cmd (.tgStop ..) nofun)).row ?_
  refine .ite (((cmd (.tcArm ..) nofun).append (cmd (.tcTrigger ..) nofun)).append (cmd (.tcStop ..) nofun) |>.append
    (cmd (.tcReset ..) nofun)).row ?_
  refine .ite (cmd (.fcEvtPop ..) nofun).row ?_
  refine .ite (cmd (.fcInj ..) nofun).row ?_
  refine .ite ((cmd (.flushSup ..) nofun).append (cmd (.flushApp ..) nofun)).row ?_
  refine .ite (allNeverRefuse_nil.cons (neverRefuses_exec (c := .fcPendClear ..) nofun)).row ?_
  refine .ite (allNeverRefuse_nil.cons (neverRefuses_exec (c := .mbxCh0SqTail ..) nofun)).row ?_
  refine .ite (allNeverRefuse_nil.cons (neverRefuses_exec (c := .mbxCh0CqHead ..) nofun)).row ?_
  refine .ite (cmd (.mbxChnCtrlReset ..) nofun).row ?_
  refine .ite (AllNeverRefuse.ite (cmd (.tsSrvStep ..) nofun) (cmd (.tsSrvGo ..) nofun)).row ?_
  refine .ite (cmd (.tsCapPop ..) nofun).row ?_
  refine .ite ((cmd (.cvJobGo ..) nofun).append (cmd (.cvJobStop ..) nofun)).row ?_
  refine .ite (AllNeverRefuse.append (.ite allNeverRefuse_nil ?_) (cmd (.sysRstHalf ..) nofun)).row rowNeverRefuses_none
  exact allNeverRefuse_nil.cons (neverRefuses_exec (c := .sysRstDomain ..) nofun)

/-- LOCK, RELINQ and BO_REL are commands of the table. -/
theorem sideActions_neverRefuse (h : HalfId) (a : Nat) (v : Word) : AllNeverRefuse (sideActions h a v) := by
  refine .ite (allNeverRefuse_nil.cons (neverRefuses_exec (c := .fcLock ..) nofun)) ?_
  refine .ite (allNeverRefuse_nil.cons (neverRefuses_exec (c := .spanRelinq ..) nofun)) ?_
  exact .ite (allNeverRefuse_nil.cons (neverRefuses_exec (c := .boRel ..) nofun)) allNeverRefuse_nil

end Sys2Proof.Machine
end

section
/-! The branches of a register write (R8, R9, R223, R273, R426, R514, R515), one equation for each. -/
namespace Sys2Proof.Machine

/-- The write reaches its block: the address is a word of the windows, the half has power, the block's domain is not in
reset, the master may write there, and its pair is not halted (R8, R223, R505, R514, R515). -/
structure WriteReaches (x : Half) (app : Bool) (addr : Nat) : Prop where
  window : isRegisterAddress addr = true
  powered : x.st ≠ .off
  domain : regDomain addr = 0 ∨ x.domainOn (regDomain addr) = true
  allowed : app = true → x.appMay addr = true
  running : (if app then x.fc.haltApp else x.fc.haltSup) = false

/-- The word is refused: it sets a reserved bit, or asks FC_CTRL for the reserved mode 3 (R8). -/
def writesReserved (d : RegDesc) (addr : Nat) (v : Word) : Bool :=
  v &&& d.resv != 0 || (addr == Reg.FC_CTRL && getField v 2 1 = 3)

theorem isRegisterAddress_iff (addr : Nat) :
    isRegisterAddress addr = true ↔ 0x30000000 ≤ addr ∧ addr < 0x30100000 ∧ addr % 4 = 0 := by
  simp only [isRegisterAddress, Bool.and_eq_true, Nat.ble_eq, Nat.blt_eq, beq_iff_eq, and_assoc]

theorem writeReaches_of_bounds {x : Half} {app : Bool} {addr : Nat} (hlo : 0x30000000 ≤ addr) (hhi : addr < 0x30100000)
    (hal : addr % 4 = 0) (hp : x.st ≠ .off) (hdom : regDomain addr = 0 ∨ x.domainOn (regDomain addr) = true)
    (hmay : app = true → x.appMay addr = true) (hrun : (if app then x.fc.haltApp else x.fc.haltSup) = false) :
    WriteReaches x app addr := ⟨(isRegisterAddress_iff addr).mpr ⟨hlo, hhi, hal⟩, hp, hdom, hmay, hrun⟩

theorem writesReserved_of_reserved_bit {d : RegDesc} {v : Word} (hv : v &&& d.resv ≠ 0) (addr : Nat) :
    writesReserved d addr v = true := by
  rw [writesReserved, bne_iff_ne.mpr hv, Bool.true_or]

/-- No word of the CAN apertures lies in the mailbox rings. -/
theorem mbxRing_of_canAperture {addr c : Nat} (hc : canAperture addr = some c) : mbxRing addr = false := by
  unfold canAperture at hc
  split at hc
  · next hin =>
    simp only [Bool.and_eq_true, Nat.ble_eq] at hin
    obtain ⟨⟨⟨hlow, -⟩, -⟩, -⟩ := hin
    have hblt : Nat.blt addr 0x30027000 = false := by
      rw [Bool.eq_false_iff, ne_eq, Nat.blt_eq]
      omega
    rw [mbxRing, hblt, Bool.and_false, Bool.false_and]
  · nomatch hc

section
variable {s : State} {h : HalfId} {app : Bool} {addr : Nat} {v : Word}

theorem execRegisterWrite_of_not_window (hw : isRegisterAddress addr = false) :
    execRegisterWrite h app addr v s = .fault (.notRegister addr) := by
  simp only [isRegisterAddress] at hw
  simp only [execRegisterWrite, hw, Bool.not_false, if_true]

/-- A write to a word of the windows that does not reach its block is lost. -/
theorem execRegisterWrite_of_not_reaches (hw : isRegisterAddress addr = true)
    (hn : ¬ WriteReaches (s.half h) app addr) : execRegisterWrite h app addr v s = .next s := by
  have hlost : ((s.half h).st == .off || (regDomain addr != 0 && !(s.half h).domainOn (regDomain addr)) ||
      (app && !(s.half h).appMay addr) || (if app then (s.half h).fc.haltApp else (s.half h).fc.haltSup)) = true := by
    refine Decidable.byContradiction fun hl => ?_
    rw [Bool.not_eq_true] at hl
    simp only [Bool.or_eq_false_iff, Bool.and_eq_false_imp, Bool.not_eq_false', bne_iff_ne, beq_eq_false_iff_ne] at hl
    obtain ⟨⟨⟨hp, hd⟩, ha⟩, hh⟩ := hl
    exact hn ⟨hw, hp, Decidable.or_iff_not_imp_left.mpr hd, ha, hh⟩
  simp only [isRegisterAddress] at hw
  simp only [execRegisterWrite, hw, hlost, Bool.not_true, Bool.false_eq_true, if_false, if_true]

/-- Neither of the two checks before the address is looked at stops a write that reaches its block. -/
theorem WriteReaches.checks {x : Half} (hr : WriteReaches x app addr) :
    (Nat.ble 0x30000000 addr && Nat.blt addr 0x30100000 && addr % 4 == 0) = true ∧
    (x.st == .off || (regDomain addr != 0 && !x.domainOn (regDomain addr)) || (app && !x.appMay addr) ||
      (if app then x.fc.haltApp else x.fc.haltSup)) = false := by
  obtain ⟨hw, hp, hd, ha, hh⟩ := hr
  refine ⟨hw, ?_⟩
  simp only [hh, Bool.or_eq_false_iff, Bool.and_eq_false_imp, Bool.not_eq_false', bne_iff_ne, beq_eq_false_iff_ne]
  exact ⟨⟨⟨hp, Decidable.or_iff_not_imp_left.mp hd⟩, ha⟩, trivial⟩

variable (hr : WriteReaches (s.half h) app addr)
include hr

theorem execRegisterWrite_ring (hm : mbxRing addr = true) :
    execRegisterWrite h app addr v s = onHalf s h fun x => x.wr addr v := by
  obtain ⟨hw, hl⟩ := hr.checks
  simp only [execRegisterWrite, hw, hl, hm, Bool.not_true, Bool.false_eq_true, if_false, if_true]

theorem execRegisterWrite_aperture {c : Nat} (hc : canAperture addr = some c) :
    execRegisterWrite h app addr v s = onHalf s h fun x => x.apertureWrite c addr v := by
  obtain ⟨hw, hl⟩ := hr.checks
  simp only [execRegisterWrite, hw, hl, mbxRing_of_canAperture hc, hc, Bool.not_true, Bool.false_eq_true, if_false]

variable (hm : mbxRing addr = false) (hc : canAperture addr = none)
include hm hc

/-- A word of the windows that is no register is reserved throughout. -/
theorem execRegisterWrite_hole (hd : regDesc? addr = none) :
    execRegisterWrite h app addr v s = if v = 0 then .next s else .fault (.reservedBits addr) := by
  obtain ⟨hw, hl⟩ := hr.checks
  simp only [execRegisterWrite, hw, hl, hm, hc, hd, Bool.not_true, Bool.false_eq_true, if_false]

theorem execRegisterWrite_reserved {d : RegDesc} (hd : regDesc? addr = some d) (hv : writesReserved d addr v = true) :
    execRegisterWrite h app addr v s = .fault (.reservedBits addr) := by
  obtain ⟨hw, hl⟩ := hr.checks
  rw [writesReserved] at hv
  simp only [execRegisterWrite, hw, hl, hm, hc, hd, hv, Bool.not_true, Bool.false_eq_true, if_false, if_true]

theorem execRegisterWrite_row {d : RegDesc} (hd : regDesc? addr = some d) (hv : writesReserved d addr v = false)
    {l : List (State → Host.Outcome State Fault Refusal)} (ha : actions h addr v = some l) :
    execRegisterWrite h app addr v s = runSeq l s := by
  obtain ⟨hw, hl⟩ := hr.checks
  rw [writesReserved] at hv
  simp only [execRegisterWrite, hw, hl, hm, hc, hd, hv, ha, Bool.not_true, Bool.false_eq_true, if_false]

theorem execRegisterWrite_stored {d : RegDesc} (hd : regDesc? addr = some d) (hv : writesReserved d addr v = false)
    (ha : actions h addr v = none) : execRegisterWrite h app addr v s =
      runSeq ((fun t => onHalf t h fun x => x.regStore d addr v) :: sideActions h addr v) s := by
  obtain ⟨hw, hl⟩ := hr.checks
  rw [writesReserved] at hv
  simp only [execRegisterWrite, hw, hl, hm, hc, hd, hv, ha, Bool.not_true, Bool.false_eq_true, if_false]

end

/-- REGISTER_WRITE faults at worst, whatever commands the written register has. -/
theorem execRegisterWrite_neverRefuses (h : HalfId) (app : Bool) (addr : Nat) (v : Word) :
    NeverRefuses (execRegisterWrite h app addr v) := by
  intro s r
  by_cases hw : isRegisterAddress addr = true
  case neg => exact execRegisterWrite_of_not_window (Bool.eq_false_iff.mpr hw) ▸ neverRefuses_fault _ s r
  by_cases hr : WriteReaches (s.half h) app addr
  case neg => exact execRegisterWrite_of_not_reaches hw hr ▸ (completes_next s).ne_refused r
  cases hm : mbxRing addr
  case true => exact execRegisterWrite_ring hr hm ▸ (completes_onHalf ..).ne_refused r
  cases hc : canAperture addr with
  | some c => exact execRegisterWrite_aperture hr hc ▸ (completes_onHalf ..).ne_refused r
  | none =>
    cases hd : regDesc? addr with
    | none =>
      rw [execRegisterWrite_hole hr hm hc hd]
      split
      · exact (completes_next s).ne_refused r
      · exact neverRefuses_fault _ s r
    | some d =>
      cases hv : writesReserved d addr v
      case true => exact execRegisterWrite_reserved hr hm hc hd hv ▸ neverRefuses_fault _ s r
      cases ha : actions h addr v with
      | some l => exact execRegisterWrite_row hr hm hc hd hv ha ▸ (actions_neverRefuse h addr v l ha).runSeq s r
      | none =>
        have hstore : NeverRefuses fun t => onHalf t h fun x => x.regStore d addr v :=
          fun t r => (completes_onHalf t h _).ne_refused r
        exact execRegisterWrite_stored hr hm hc hd hv ha ▸ ((sideActions_neverRefuse h addr v).cons hstore).runSeq s r

/-- A write to one powered half changes that half in place. -/
theorem onHalf_put {s : State} {h : HalfId} (f : Half → Half) (hp : (s.half h).st ≠ .off) :
    onHalf s h f = .next (s.put h (f (s.half h))) := by
  rw [onHalf_powered hp, State.put]
  exact congrArg _ (State.mod_congr rfl)

end Sys2Proof.Machine
end

section
/-! The statements on scope (chapter 0): completion, register writes, reset, access codes. -/
namespace Sys2Proof.Machine

/-- Settles O19: the table's other commands answer a next state by their form, and REGISTER_WRITE only runs
such commands. -/
theorem everyCommandCompletes : Obligations.EveryCommandCompletes := by
  intro c s
  refine ⟨?_, exec_completes c s⟩
  by_cases hw : ∃ h app a v, c = .registerWrite h app a v
  · obtain ⟨h, app, a, v, rfl⟩ := hw
    exact execRegisterWrite_neverRefuses h app a v s
  · exact neverRefuses_exec (fun h app a v e => hw ⟨h, app, a, v, e⟩) s

/-- Settles O11: each clause is one branch of REGISTER_WRITE. -/
theorem registerWritesComplete : Obligations.RegisterWritesComplete := by
  rintro s h x rfl hp
  refine ⟨?stored, ?ring, ?aperture, ?noRegister, ?halted, ?inReset, ?reserved, ?hole⟩
  case stored =>
    intro app addr v d hlo hhi hal hdom hmay hrun hm hc hd hv hfc ha hside
    have hr := writeReaches_of_bounds hlo hhi hal hp hdom hmay hrun
    have hok : writesReserved d addr v = false := by
      rw [writesReserved, hv, bne_self_eq_false, Bool.false_or, Bool.and_eq_false_imp]
      exact fun ha => decide_eq_false (hfc (eq_of_beq ha))
    show execRegisterWrite h app addr v s = _
    rw [execRegisterWrite_stored hr hm hc hd hok ha, hside]
    simp only [runSeq, onHalf_put _ hp]
  case ring =>
    intro app addr v hlo hhi hal hdom hmay hrun hm
    have hr := writeReaches_of_bounds hlo hhi hal hp (.inr hdom) hmay hrun
    exact (execRegisterWrite_ring hr hm).trans (onHalf_put _ hp)
  case aperture =>
    intro app addr c v hlo hhi hal hdom hmay hrun hc
    have hr := writeReaches_of_bounds hlo hhi hal hp (.inr hdom) hmay hrun
    exact (execRegisterWrite_aperture hr hc).trans (onHalf_put _ hp)
  case noRegister =>
    intro app addr v hout
    have hw : isRegisterAddress addr = false := by
      rw [Bool.eq_false_iff, ne_eq, isRegisterAddress_iff]
      omega
    exact execRegisterWrite_of_not_window hw
  case halted =>
    intro app addr v hlo hhi hal hhalt
    refine execRegisterWrite_of_not_reaches ((isRegisterAddress_iff addr).mpr ⟨hlo, hhi, hal⟩) fun hr => ?_
    exact absurd (hhalt.symm.trans hr.running) Bool.noConfusion
  case inReset =>
    intro app addr v hlo hhi hal hne hoff
    refine execRegisterWrite_of_not_reaches ((isRegisterAddress_iff addr).mpr ⟨hlo, hhi, hal⟩) fun hr => ?_
    exact hr.domain.elim hne fun hon => absurd (hoff.symm.trans hon) Bool.noConfusion
  case reserved =>
    intro app addr v d hlo hhi hal hdom hmay hrun hm hc hd hv
    have hr := writeReaches_of_bounds hlo hhi hal hp hdom hmay hrun
    exact execRegisterWrite_reserved hr hm hc hd (writesReserved_of_reserved_bit hv addr)
  case hole =>
    intro app addr v hlo hhi hal hdom hmay hrun hm hc hd hv
    have hr := writeReaches_of_bounds hlo hhi hal hp hdom hmay hrun
    exact (execRegisterWrite_hole hr hm hc hd).trans (if_neg hv)

/-- A register that the file does not list reads its reset value. -/
theorem RegFile.get_singleton_other {k a : Nat} (hk : k ≠ a) (v : Word) : RegFile.get [(k, v)] a = regReset a :=
  if_neg hk

/-- Settles O14: the register files at reset list nothing but Half B's slot in SYS_STAT.HALF. -/
theorem resetLeavesHalvesOff : Obligations.ResetLeavesHalvesOff := by
  refine ⟨rfl, fun h => ?_, fun h a ha => ?_⟩
  · cases h <;> exact ⟨rfl, rfl, rfl, rfl, rfl, rfl⟩
  cases h with
  | a => rfl
  | b => exact RegFile.get_singleton_other (ha.resolve_left nofun).symm 1

/-- Settles O22: the bitwise reading of the word that `accessWrite` computes. -/
theorem accessCodesByBit : Obligations.AccessCodesByBit := by
  intro d old v i hi
  simp only [accessWrite, BitVec.getLsbD_or, BitVec.getLsbD_and, BitVec.getLsbD_not, hi, decide_true, Bool.true_and]
  cases d.rw.getLsbD i <;> cases v.getLsbD i && d.w1c.getLsbD i <;> simp only [Bool.not_true, Bool.not_false,
    Bool.and_true, Bool.and_false, Bool.true_and, Bool.false_and, Bool.false_or, Bool.false_eq_true, if_true, if_false,
    Bool.or_comm]

end Sys2Proof.Machine
end

section
/-! The rows of the tasks (R20 to R46), each of which acts on the one powered half it names; an event of a busy event
task (R23). -/
namespace Sys2Proof.Machine

/-! ### The rows of one half -/

/-- A row's meaning, taken on the one half it names, is that half in the next state. -/
theorem onHalf_next {s : State} {h : HalfId} {x y : Half} {f : Half → Half} (hx : s.half h = x) (hp : x.st ≠ .off)
    (hf : f x = y) : onHalf s h f = .next (s.put h y) := by
  subst hx hf
  exact onHalf_put f hp

/-- A detector whose condition holds raises its source. -/
theorem Half.raiseIf_eq_raise {x : Half} {c : Bool} (hc : c = true) (src : Nat) : x.raiseIf c src = x.raise src :=
  if_pos hc

/-! ### The record of a task -/

theorem Half.tsk_of_get? {x : Half} {t : Nat} {k : TaskSt} (hk : x.task.tasks.get? t = some k) : x.tsk t = k := by
  rw [Half.tsk, Tab.get_eq, hk, Option.getD_some]

theorem Half.tsk_modTsk_of_get? {x : Half} {t : Nat} {k : TaskSt} (hk : x.task.tasks.get? t = some k)
    (f : TaskSt → TaskSt) : (x.modTsk t f).tsk t = f k := by
  simp only [Half.modTsk, hk, Half.tsk, Tab.get_put_self]

/-- A change that leaves a task's state leaves it whether or not the task is present. -/
theorem Half.tsk_modTsk_state {x : Half} {t : Nat} {f : TaskSt → TaskSt}
    (hf : (f (x.tsk t)).state = (x.tsk t).state) : ((x.modTsk t f).tsk t).state = (x.tsk t).state := by
  obtain hmod | ⟨hsame, -⟩ := x.tsk_modTsk t f
  · rw [hmod, hf]
  · rw [hsame]

/-! ### Events of a busy event task (R23) -/

/-- Counting up by one stops at the highest value. -/
theorem satAdd_one (w : Word) : satAdd w 1 = if w ≠ 0xFFFFFFFF then w + 1 else w := by
  unfold satAdd
  by_cases hmax : w = 0xFFFFFFFF
  · subst hmax
    rfl
  · rw [if_pos hmax]
    split
    · bv_omega
    · bv_omega

/-- The record of a task after an event merged into its pending activation: counted, with the counter's sticky flag
(R23, R37). -/
def TaskSt.mergeEvent (k : TaskSt) : TaskSt :=
  { k with stats := { k.stats with
    merged := satAdd k.stats.merged 1
    ovf := if (statAdd k.stats.merged 1).2 then k.stats.ovf ||| 8 else k.stats.ovf } }

/-- The record of a busy task after an event: the first becomes its pending activation, each further one merges into it
(R23). -/
def TaskSt.pendEvent (k : TaskSt) : TaskSt := if k.pendAct then k.mergeEvent else { k with pendAct := true }

/-- A task that cannot take an event at once: it runs, is preempted, or waits out its minimum separation (R23). -/
def TaskSt.Busy (k : TaskSt) : Prop :=
  k.state = .running ∨ k.state = .preempted ∨ (k.state = .waiting ∧ k.sep = true)

theorem Half.taskEvent_of_busy {x : Half} {t : Nat} (hbusy : (x.tsk t).Busy) : x.taskEvent t =
    if (x.tsk t).pendAct then x.modTsk t TaskSt.mergeEvent else x.modTsk t fun k => { k with pendAct := true } := by
  unfold Half.taskEvent
  obtain hrun | hpre | ⟨hwait, hsep⟩ := hbusy
  case inl => simp only [hrun]; rfl
  case inr.inl => simp only [hpre]; rfl
  case inr.inr => simp only [hwait, hsep, if_true]; rfl

theorem Half.tsk_taskEvent_of_busy {x : Half} {t : Nat} {k : TaskSt} (hk : x.task.tasks.get? t = some k)
    (hbusy : k.Busy) : (x.taskEvent t).tsk t = k.pendEvent := by
  have hrec := Half.tsk_of_get? hk
  rw [Half.taskEvent_of_busy (hrec.symm ▸ hbusy), hrec, TaskSt.pendEvent]
  split
  · exact Half.tsk_modTsk_of_get? hk _
  · exact Half.tsk_modTsk_of_get? hk _

theorem TaskSt.pendEvent_pendAct (k : TaskSt) : k.pendEvent.pendAct = true := by
  unfold TaskSt.pendEvent
  split
  · assumption
  · rfl

theorem TaskSt.pendEvent_state (k : TaskSt) : k.pendEvent.state = k.state := by
  unfold TaskSt.pendEvent
  split <;> rfl

theorem TaskSt.pendEvent_merged (k : TaskSt) : k.pendEvent.stats.merged =
    if k.pendAct = true ∧ k.stats.merged ≠ 0xFFFFFFFF then k.stats.merged + 1 else k.stats.merged := by
  unfold TaskSt.pendEvent
  split
  · next hp => simp only [TaskSt.mergeEvent, satAdd_one, hp, true_and]
  · next hp => simp only [hp, Bool.false_eq_true, false_and, if_false]

/-- Settles O30: the busy task's record becomes `pendEvent` of it. -/
theorem eventsMerge : Obligations.EventsMerge := by
  intro x t k hk hbusy
  rw [Half.tsk_taskEvent_of_busy hk hbusy]
  exact ⟨k.pendEvent_pendAct, k.pendEvent_state, k.pendEvent_merged⟩

/-! ### The rows of the tasks (R20 to R46) -/

/-- Settles O1: each clause is one branch of its row. -/
theorem taskRowsComplete : Obligations.TaskRowsComplete := by
  intro s h x hx hp
  have next {f : Half → Half} {y : Half} (hf : f x = y) : onHalf s h f = .next (s.put h y) := onHalf_next hx hp hf
  refine ⟨?released, ?skipped, ?separationEnds, ?pendingActivated, ?deadlinePassed, ?hangs, ?cycleStarts, ?resumes,
    ?switchTimesOut, ?nextCall, ?preempts, ?cycleEnds, ?outputsUpdated⟩
  case released =>
    intro task c hc hper hon hwait hdue
    have hstate := (Half.tsk_modTsk_state (x := x) (t := task)
      (f := fun k => { k with instAt := some (x.releaseInstant c, x.mono) }) rfl).trans hwait
    refine next ?_
    simp only [hc, hper, hon, Bool.not_true, Bool.or_self, Bool.false_eq_true, ↓reduceIte, hdue, hwait,
      Bool.and_eq_true, beq_iff_eq, reduceCtorEq, false_and, hstate]
  case skipped =>
    intro task c hc hper hon hrun hdue
    have hstate := (Half.tsk_modTsk_state (x := x) (t := task)
      (f := fun k => { k with instAt := some (x.releaseInstant c, x.mono) }) rfl).trans hrun
    refine next ?_
    simp only [hc, hper, hon, Bool.not_true, Bool.or_self, Bool.false_eq_true, ↓reduceIte, hdue, hrun,
      Bool.and_eq_true, beq_iff_eq, reduceCtorEq, false_and, hstate]
  case separationEnds =>
    intro task hon hsep hpend hpast
    refine next ?_
    simp only [hon, Bool.not_true, hsep, Bool.or_self, hpast, Bool.false_eq_true, ↓reduceIte, hpend, Bool.false_and]
  case pendingActivated =>
    rintro task y hon hsep hpend hwait hpast rfl
    refine next ?_
    simp only [hon, Bool.not_true, hsep, Bool.or_self, hpast, Bool.false_eq_true, ↓reduceIte, hpend, hwait,
      BEq.rfl, Bool.and_self]
  case deadlinePassed =>
    intro task c hon hc hev hcyc hpast
    exact next (if_pos (by simp only [hon, hcyc, Bool.and_self, hc, Option.any_some, hev, hpast]))
  case hangs =>
    intro task c hact hcyc hc hpast
    have hlate : (x.taskCfg task).any (fun c => x.gone (x.tsk task).relMono (hangMs c)) = true := by
      rw [hc, Option.any_some, hpast]
    exact next (Half.raiseIf_eq_raise (by simp only [hact, hcyc, hlate, Bool.and_self]) 106)
  case cycleStarts =>
    intro t hruns hnone htop hready
    refine next ?_
    simp only [hruns, Bool.not_true, Bool.false_eq_true, ↓reduceIte, hnone, htop, hready, BEq.rfl]
  case resumes =>
    intro t hruns hnone htop hpre
    refine next ?_
    simp only [hruns, Bool.not_true, Bool.false_eq_true, ↓reduceIte, hnone, htop, hpre, beq_iff_eq, reduceCtorEq]
  case switchTimesOut =>
    intro task c hruns hc hev hsw hwait hpast
    exact next (if_pos (by simp only [hruns, hsw, Bool.and_self, hwait, BEq.rfl, Bool.true_or, hc,
      Option.any_some, hev, hpast]))
  case nextCall =>
    rintro t c r y hruns hrun hc hcall rfl htop
    refine next ?_
    simp only [hruns, ↓reduceIte, hrun, hc, hcall, htop]
  case preempts =>
    intro t u c hruns hrun hc hcall htop hprio
    refine next ?_
    simp only [hruns, hrun, hc, hcall, htop, hprio, if_true]
  case cycleEnds =>
    intro t c hruns hrun hc hend
    refine next ?_
    simp only [hruns, ↓reduceIte, hrun, hc, Nat.not_lt_of_le hend]
  case outputsUpdated =>
    intro task c hc hdue hact
    refine next ?_
    simp only [hc, hdue, Bool.not_true, hact, Bool.or_self, Bool.false_eq_true, ↓reduceIte]

end Sys2Proof.Machine
end

section
/-! The rows of Scruple (R36, R147 to R178): each acts on the safety state of the one half it names. -/
namespace Sys2Proof.Machine

/-! ### The head of the request queue (R148) -/

/-- A running Scruple takes the entry at the head of its queue where the row names its kind. -/
theorem Half.scrTakeIf_of_head {x : Half} {p : QKind → Bool} {k : QKind} (hrun : x.safRuns = true)
    (hroom : x.saf.taken < 8) (hused : x.sqUsed 1 ≠ 0) (hhead : x.scrHead = some k) (hk : p k = true) :
    x.scrTakeIf p = x.scrTake.scrFill :=
  if_pos (by simp only [hrun, hroom, bne_iff_ne.mpr hused, hhead, Option.any_some, hk, decide_true, Bool.and_self])

/-- Settles O42: each clause is the branch of its row in which the row acts. -/
theorem scrupleRowsComplete : Obligations.ScrupleRowsComplete := by
  intro s h x hx hp
  have next {f : Half → Half} {y : Half} (hf : f x = y) : onHalf s h f = .next (s.put h y) := onHalf_next hx hp hf
  refine ⟨?watchdog, ?queueTrip, ?paramChunk, ?paramEnd, ?queueTime, ?proofStart, ?proofComplete, ?filterA, ?filterB,
    ?backstop, ?discrepancy, ?darkPulse, ?delayElapsed, ?twohand, ?guardReset, ?speedEdge, ?speedsCompared,
    ?switchTest, ?switchTestEnd, ?xtripAssert, ?xtripReceive, ?xtripLatch, ?xtripTest, ?xtripEnd, ?xtripWiring,
    ?resetPressed, ?resetHeld, ?recovered, ?readback, ?overdue, ?sample⟩
  case watchdog =>
    intro hrun hlate
    exact next (if_pos (by simp only [hrun, hlate, Bool.and_self]))
  case queueTrip =>
    intro m hrun hroom hused hhead
    exact next (Half.scrTakeIf_of_head hrun hroom hused hhead rfl)
  case paramChunk =>
    intro o bs hrun hroom hused hhead
    exact next (Half.scrTakeIf_of_head hrun hroom hused hhead rfl)
  case paramEnd =>
    intro n w hrun hroom hused hhead
    exact next (Half.scrTakeIf_of_head hrun hroom hused hhead rfl)
  case queueTime =>
    intro t hrun hroom hused hhead
    exact next (Half.scrTakeIf_of_head hrun hroom hused hhead rfl)
  case proofStart =>
    intro hrun hroom hused hhead
    refine next ?_
    simp only [decide_eq_false hused, Bool.false_and, Bool.false_eq_true, if_false]
    exact Half.scrTakeIf_of_head hrun hroom hused hhead rfl
  case proofComplete =>
    rintro failed y z hrun hproof rfl rfl
    exact next (if_neg (by simp only [hrun, hproof, Bool.not_true, Bool.or_self, Bool.false_eq_true,
      not_false_eq_true]))
  case filterA =>
    intro si hsi hdom hout
    refine next ?_
    simp only [Nat.not_le_of_lt hsi, decide_false, hdom, Bool.not_true, Bool.or_self, beq_eq_false_iff_ne.mpr
      hout, Bool.false_eq_true, ↓reduceIte]
  case filterB =>
    intro si hsi hdom hout
    refine next ?_
    simp only [Nat.not_le_of_lt hsi, decide_false, hdom, Bool.not_true, Bool.or_self, beq_eq_false_iff_ne.mpr
      hout, Bool.false_eq_true, ↓reduceIte]
  case backstop =>
    intro b so hdone
    exact next (if_pos hdone)
  case discrepancy =>
    intro pair hpair hrun hdouble hdiff hok hlongA hlongB
    exact next (if_neg (by simp only [Nat.not_le_of_lt hpair, hrun, hdouble, hdiff, hok, hlongA, hlongB, decide_false,
      Option.isSome_none, Bool.not_true, Bool.or_self, Bool.false_eq_true, not_false_eq_true]))
  case darkPulse =>
    intro tp rawA rawB hrun
    exact next (if_neg (by simp only [hrun, Bool.not_true, Bool.false_eq_true, not_false_eq_true]))
  case delayElapsed =>
    intro f c hrun hdelay hc hpast
    refine next ?_
    simp only [hc, hrun, hdelay, BEq.rfl, Bool.and_self, hpast, ↓reduceIte]
  case twohand =>
    intro f hrun hsync hc hpast
    exact next (if_pos (by simp only [hrun, hsync, BEq.rfl, Bool.and_self, hc, hpast]))
  case guardReset =>
    intro f c hc hrun hseal htyp hauto hwait hdemand hunlocked hstill
    refine next ?_
    simp only [hc, hrun, hseal, Bool.and_self, htyp, decide_true, hauto, hwait, BEq.rfl, hdemand, Bool.not_false,
      hunlocked, hstill, ↓reduceIte]
  case speedEdge =>
    intro fi hfi hrun hseal
    refine next ?_
    simp only [Nat.not_le_of_lt hfi, decide_false, hrun, Bool.not_true, Bool.or_self, Bool.false_eq_true,
      ↓reduceIte, hseal]
  case speedsCompared =>
    intro f c t hc hrun hseal htyp hlen hstate ht hpast happart
    refine next ?_
    simp only [hc, hrun, Bool.not_true, hseal, Bool.or_self, htyp, bne_self_eq_false, hlen,
      beq_eq_false_iff_ne.mpr hstate, ht, Option.any_some, hpast, Bool.false_eq_true, ↓reduceIte, happart]
  case switchTest =>
    intro so low hso hrun hhs hls
    exact next (if_neg (by simp only [Nat.not_le_of_lt hso, hrun, hhs, hls, decide_false, Bool.not_true, Bool.or_self,
      Bool.false_eq_true, not_false_eq_true]))
  case switchTestEnd =>
    rintro so low confirmed y htest rfl
    exact next (if_neg (by simp only [htest, Bool.not_true, Bool.false_eq_true, not_false_eq_true]))
  case xtripAssert =>
    intro so t hso hrun hcause hopen ht hpast
    exact next (if_pos (by simp only [hso, decide_true, hrun, Bool.and_self, hcause, hopen, ht, Option.any_some,
      hpast]))
  case xtripReceive =>
    intro hdom
    exact next (if_pos hdom)
  case xtripLatch =>
    intro hdom hin hlatch hpast
    exact next (if_pos (by simp only [hdom, hin, Bool.and_self, hlatch, Bool.not_false, hpast]))
  case xtripTest =>
    intro hin hlatch
    refine next ?_
    simp only [hin, Bool.not_true, Bool.false_eq_true, ↓reduceIte, Half.modSaf, hlatch]
  case xtripEnd =>
    intro hin hlatch
    refine next ?_
    simp only [hin, Bool.not_true, Bool.false_eq_true, ↓reduceIte, Half.modSaf, hlatch]
  case xtripWiring =>
    intro hdom hpartner
    exact next (Half.raiseIf_eq_raise (by simp only [hdom, hpartner, Bool.and_self]) 66)
  case resetPressed =>
    intro srs hsrs hrun hoA hoB hlevel hidle
    refine next ?_
    simp only [Nat.not_le_of_lt hsrs, decide_false, hrun, Bool.not_true, Bool.or_self, hoA, hoB,
      bne_self_eq_false, hlevel, beq_false, Bool.false_eq_true, ↓reduceIte, hidle]
  case resetHeld =>
    intro srs hsrs hrun hpressed hpast
    exact next (if_pos (by simp only [hsrs, decide_true, hrun, Bool.and_self, hpressed, BEq.rfl, hpast]))
  case recovered =>
    intro srs hsrs hrun hrecover hlevel hpast
    exact next (if_pos (by simp only [hsrs, decide_true, hrun, Bool.and_self, hrecover, BEq.rfl, hlevel,
      Bool.not_false, hpast]))
  case readback =>
    intro f c hc hrun hseal htyp hwait hdemand hunlocked hcause hon
    refine next ?_
    simp only [hc]
    exact if_pos (by simp only [hrun, hseal, Bool.and_self, bne_iff_ne.mpr htyp, hwait, BEq.rfl, hdemand,
      hunlocked, Bool.or_self, hcause, Bool.not_false, hon])
  case overdue =>
    intro hnot hlong
    exact next (if_neg (by simp only [beq_eq_false_iff_ne.mpr hp, hnot, Nat.not_lt_of_le hlong, decide_false,
      Bool.or_self, Bool.false_eq_true, not_false_eq_true]))
  case sample =>
    rintro siA siB srsA srsB y hdom hnone rfl
    exact next (if_neg (by simp only [hdom, Bool.not_true, hnone, Option.any_none, Bool.and_false, Bool.or_self,
      Bool.false_eq_true, not_false_eq_true]))

end Sys2Proof.Machine
end

section
/-! The control engine (R85 to R114): the rows of its events and of the commands to its chains, each of which acts on the
one powered half it names; the clamp of a sample's output. -/
namespace Sys2Proof.Machine

/-! ### The rows' conditions -/

/-- A periodic job that is due runs. -/
theorem Half.every_of_due {x : Half} {j : Job} {us : Nat} (hdue : x.due j us = true) (f : Half → Half) :
    x.every j us f = f (x.ran j) := if_pos hdue

/-- A change of a chain leaves the ready queue. -/
@[simp] theorem Half.modChain_queue (x : Half) (c : Nat) (f : ChainSt → ChainSt) :
    (x.modChain c f).ce.queue = x.ce.queue := rfl

/-- A mode command to a chain in range is taken while the control engine's domain is on (R88), and forwarded (R107). -/
theorem Half.ceCmd_of_domainOn {x : Half} {c : Nat} (hc : c < 256) (hdom : x.domainOn 3 = true) (m : ChainMode) :
    x.ceCmd c m = (x.setMode c m).forwardCe (.mode c m) :=
  if_pos (by simp only [hc, decide_true, hdom, Bool.and_self])

section
variable {s : State} {h : HalfId} {x : Half} (hx : s.half h = x) (hp : x.st ≠ .off)
include hx hp

/-- A trigger other than an FI edge queues a sample of a chain that has none outstanding (R85, R90, R91): of the three
causes of a loss, it is not too early, no sample of the chain is outstanding, and the queue has room. -/
theorem execChainTrigger_queues {chain : Nat} (hc : chain < 256) (hon : x.ceOn = true)
    (hpres : (x.chainSt chain).present = true) (hrun : (x.chainSt chain).mode = .run)
    (hfires : x.fires chain (x.desc chain) = true) (hkind : (x.desc chain).trigKind ≠ 4)
    (hflight : (x.chainSt chain).flight = none) (hqueue : x.ce.queue = []) {y : Half}
    (hy : y = x.modChain chain fun k => { k with tLast := x.now, lastTrig := some x.mono }) :
    execChainTrigger h chain s = .next (s.put h
      ({ y with ce := { y.ce with queue := [(chain, x.mono, x.now)] } } : Half).ceLevels) := by
  subst hy
  have hfi : ((x.desc chain).trigKind == 4) = false := beq_eq_false_iff_ne.mpr hkind
  refine onHalf_next hx hp ?_
  simp only [Nat.not_le_of_lt hc, hon, hpres, hrun, hfires, decide_false, Bool.not_true, bne_self_eq_false, Bool.or_self,
    Bool.false_eq_true, if_false, hfi, Bool.false_and, Half.modChain_queue, hqueue, hflight, List.filter_nil,
    List.length_nil, Option.isSome_none, Nat.zero_add, Nat.reduceLeDiff, List.nil_append]
  rfl

/-- A dispatched sample leaves the queue; it latches unless its chain is OFF or HALTED (R86, R90). -/
theorem execSampleDispatch_of_next (hon : x.ceOn = true) {c : Nat} {trig tTrig : DWord}
    (hnext : x.nextSample = some (c, trig, tTrig)) {y : Half} (hy : x.dequeueSample c = y) :
    execSampleDispatch h s = .next (s.put h
      (if (y.chainSt c).mode == .off || (y.chainSt c).mode == .halted then y.ceLevels
        else y.latchSample c trig tTrig)) :=
  onHalf_next hx hp (by simp only [hon, if_true, hnext, hy])

/-- A tracking frame that arrives in SYNCING or STANDBY is taken chain by chain (R107). -/
theorem execCeTrack_consumed {hdr : SpanHdr} (chains : List TrackChain) (hlink : x.linked = true)
    (hst : (x.spanAccept hdr).st = .syncing ∨ (x.spanAccept hdr).st = .standby) :
    execCeTrack h hdr chains s = .next (s.put h (chains.foldl Half.takeTrack (x.spanAccept hdr))) := by
  refine onHalf_next hx hp ?_
  have htakes : ((x.spanAccept hdr).st == .syncing || (x.spanAccept hdr).st == .standby) = true := by
    simpa only [Bool.or_eq_true, beq_iff_eq] using hst
  simp only [hlink, Bool.not_true, Bool.false_eq_true, if_false, htakes, Bool.true_or, if_true]

/-- A mode command's row is the mode command on its half (R88, R107). -/
theorem onHalf_ceCmd {chain : Nat} (hc : chain < 256) (hdom : x.domainOn 3 = true) (m : ChainMode) :
    onHalf s h (fun x => x.ceCmd chain m) =
      .next (s.put h ((x.setMode chain m).forwardCe (.mode chain m))) :=
  onHalf_next hx hp (Half.ceCmd_of_domainOn hc hdom m)

end

/-! ### The rows of the control engine's events (R85, R86, R90, R91, R107) -/

/-- Settles O2: each clause is the branch of its row in which the row acts. -/
theorem controlEngineRowsComplete : Obligations.ControlEngineRowsComplete := by
  intro s h x hx hp
  refine ⟨?queued, ?latched, ?halted, ?completed, ?trackSent, ?trackInStandby, ?trackInSyncing⟩
  case queued =>
    intro chain y hc hon hpres hrun hfires hkind hflight hqueue hy
    exact execChainTrigger_queues hx hp hc hon hpres hrun hfires hkind hflight hqueue hy
  case latched =>
    intro c trig tTrig hon hnext hoff hhalted
    refine (execSampleDispatch_of_next hx hp hon hnext rfl).trans ?_
    simp only [beq_eq_false_iff_ne.mpr hoff, beq_eq_false_iff_ne.mpr hhalted, Bool.or_self, Bool.false_eq_true, if_false]
  case halted =>
    intro c trig tTrig hon hnext hhalted
    refine (execSampleDispatch_of_next hx hp hon hnext rfl).trans ?_
    simp only [hhalted, BEq.rfl, Bool.or_true, if_true]
  case completed =>
    intro chain l hflight
    exact onHalf_next hx hp (by simp only [hflight])
  case trackSent =>
    intro hact hdue
    exact onHalf_next hx hp ((if_pos hact).trans (Half.every_of_due hdue _))
  case trackInStandby =>
    intro hdr chains hlink hstandby
    exact execCeTrack_consumed hx hp chains hlink (.inr hstandby)
  case trackInSyncing =>
    intro hdr chains hlink hsyncing
    exact execCeTrack_consumed hx hp chains hlink (.inl hsyncing)

/-! ### The commands to a chain (R88, R100, R107, R114) -/

/-- Settles O3: each command to a chain in range is taken while the control engine's domain is on, and forwarded; the
read of the marks has no condition. -/
theorem chainCommandRowsComplete : Obligations.ChainCommandRowsComplete := by
  intro s h x hx hp
  refine ⟨?run, ?hold, ?off, ?restart, ?swap, ?marksRead⟩
  case run => exact fun _ hc hdom => onHalf_ceCmd hx hp hc hdom .run
  case hold => exact fun _ hc hdom => onHalf_ceCmd hx hp hc hdom .hold
  case off => exact fun _ hc hdom => onHalf_ceCmd hx hp hc hdom .off
  case restart =>
    intro chain hc hdom
    exact onHalf_next hx hp (if_pos (by simp only [hc, decide_true, hdom, Bool.and_self]))
  case swap =>
    intro chain bankB bumpless hc hdom hpres
    exact onHalf_next hx hp (if_pos (by simp only [hc, decide_true, hdom, hpres, Bool.and_self]))
  case marksRead => exact onHalf_next hx hp rfl

/-! ### The clamp of the output (R97) -/

/-- Settles O31: without a target no section is re-targeted, so nothing is kept of the SAT bits at a swap (R103): the
unclamped value itself is clamped, and the SAT bits are its comparisons with the limits. -/
theorem outputClamped : Obligations.OutputClamped := by
  intro d ss bank x ff g
  refine ⟨?out, ?satLo, ?satHi⟩
  case out => rfl
  case satLo => rfl
  case satHi => rfl

end Sys2Proof.Machine
end

section
/-! Valve drives and tuning (R116 to R137): the rows of the drive channels, of the test generators and of the trace
channels, each of which acts on the one powered half it names. -/
namespace Sys2Proof.Machine

/-! ### The guard of a drive channel's row -/

/-- The guard that a row puts before its meaning passes a channel in range where the row's condition holds. -/
theorem vdGuard_passes {vd : Nat} {c : Bool} (hvd : vd < 8) (hc : c = true) : ¬(8 ≤ vd || !c) = true := by
  simp only [Nat.not_le_of_lt hvd, hc, decide_false, Bool.not_true, Bool.or_self, Bool.false_eq_true,
    not_false_eq_true]

/-! ### The rows of a drive channel (R118, R123, R125, R126) -/

/-- Settles O4: in each clause the channel is in range and the row's guard passes, so the row acts. -/
theorem valveDriveRowsComplete : Obligations.ValveDriveRowsComplete := by
  intro s h x hx hp
  have next {f : Half → Half} {y : Half} (hf : f x = y) : onHalf s h f = .next (s.put h y) := onHalf_next hx hp hf
  refine ⟨?thresholdCross, ?minTimeEnd, ?refresh, ?conversion, ?openLoad, ?openLoadRetry, ?short, ?shortLatched,
    ?shortRetry, ?overtemp, ?overtempClear, ?regErr⟩
  case thresholdCross =>
    rintro vd i y hvd hdom rfl
    exact next (if_neg (vdGuard_passes hvd hdom))
  case minTimeEnd =>
    rintro vd i y on hvd hdom rfl hdeferred
    refine next ((if_neg (vdGuard_passes hvd hdom)).trans ?_)
    simp only [hdeferred]
  case refresh =>
    intro vd i slope hvd hdom hdue
    exact next ((if_neg (vdGuard_passes hvd hdom)).trans (Half.every_of_due hdue _))
  case conversion =>
    intro vd i hvd hdom
    exact next (if_neg (vdGuard_passes hvd hdom))
  case openLoad =>
    intro vd hvd hfeed hopen
    exact next ((if_neg (vdGuard_passes hvd hfeed)).trans (if_pos hopen))
  case openLoadRetry =>
    intro vd hvd hcond href hrested
    refine next (if_neg ?_)
    simp only [Nat.not_le_of_lt hvd, hcond, href, hrested, decide_false, Bool.not_true, Bool.or_self,
      Bool.false_eq_true, not_false_eq_true]
  case short =>
    intro vd hvd hrun hretries
    refine next ((if_neg (vdGuard_passes hvd hrun)).trans ?_)
    simp only [Nat.not_le_of_lt hretries, if_false]
  case shortLatched =>
    intro vd hvd hrun hretries
    refine next ((if_neg (vdGuard_passes hvd hrun)).trans ?_)
    simp only [hretries, if_true]
  case shortRetry =>
    intro vd hvd hcond hlatched hrested
    refine next (if_neg ?_)
    simp only [Nat.not_le_of_lt hvd, hcond, hlatched, hrested, decide_false, Bool.not_true, Bool.or_self,
      Bool.false_eq_true, not_false_eq_true]
  case overtemp =>
    intro vd hvd hrun
    exact next (if_neg (vdGuard_passes hvd hrun))
  case overtempClear =>
    intro vd hvd hcond
    exact next (if_neg (vdGuard_passes hvd hcond))
  case regErr =>
    intro vd hvd hfeed henabled hclear hfar
    refine next (if_neg ?_)
    simp only [Nat.not_le_of_lt hvd, hfeed, henabled, hclear, hfar, decide_false, Bool.not_true, bne_self_eq_false,
      Bool.or_self, Bool.false_eq_true, not_false_eq_true]

/-! ### The rows of the test generators and the trace channels (R132, R135, R136) -/

/-- Settles O5: in each clause the unit is in range and in a state from which its row acts. -/
theorem tuningRowsComplete : Obligations.TuningRowsComplete := by
  intro s h x hx hp
  have next {f : Half → Half} {y : Half} (hf : f x = y) : onHalf s h f = .next (s.put h y) := onHalf_next hx hp hf
  refine ⟨?start, ?stop, ?runStart, ?done, ?arm, ?trigger, ?traceStop, ?traceReset⟩
  case start =>
    intro tg htg htunes hidle
    refine next (if_neg ?_)
    simp only [Nat.not_le_of_lt htg, htunes, hidle, Nat.reduceEqDiff, decide_false, Bool.not_true, Bool.or_self,
      Bool.false_eq_true, not_false_eq_true]
  case stop =>
    intro tg htg hrunning
    exact next (if_pos (by simp only [htg, hrunning, decide_true, Bool.or_true, Bool.and_self]))
  case runStart =>
    intro tg htg hwaiting hready
    refine next (if_neg ?_)
    simp only [Nat.not_le_of_lt htg, hwaiting, hready, decide_false, bne_self_eq_false, Bool.not_true, Bool.or_self,
      Bool.false_eq_true, not_false_eq_true]
  case done =>
    intro tg htg hrunning
    exact next (if_pos (by simp only [htg, hrunning, decide_true, Bool.and_self]))
  case arm =>
    intro tc htc htunes hidle
    exact next (if_pos (by simp only [htc, htunes, hidle, decide_true, Bool.true_or, Bool.and_self]))
  case trigger => exact fun _ htc => next (if_pos htc)
  case traceStop => exact fun _ htc => next (if_pos htc)
  case traceReset =>
    intro tc htc hdone
    exact next (if_pos (by simp only [htc, hdone, decide_true, Bool.and_self]))

end Sys2Proof.Machine
end

section
/-! The rows of Scruple that both halves see (R142, R145, R153, R154, R179), and the gate of a safety output (R165). -/
namespace Sys2Proof.Machine

/-! ### The rows of both halves -/

/-- A change of a half is that half replaced by what the change makes of it. -/
theorem State.mod_eq_put {s : State} {h : HalfId} {x : Half} (hx : s.half h = x) (f : Half → Half) :
    s.mod h f = s.put h (f x) := by
  subst hx
  exact State.mod_congr rfl

/-- The check for OFF fails in a half that has power. -/
theorem powered_not_off {x : Half} (hp : x.st ≠ .off) : ¬(x.st == .off) = true := by
  rw [beq_iff_eq]
  exact hp

/-- Settles O43: each clause is the branch of its row in which the row acts; the half named is in the place that the row
looks up. -/
theorem scrupleRowsOfBothHalvesComplete : Obligations.ScrupleRowsOfBothHalvesComplete := by
  intro s h x p hx hpart hpow _
  refine ⟨?cycle, ?takeover, ?resetEndB, ?resetEndA, ?resetEndAbsent, ?sealSwitches⟩
  case cycle =>
    rintro readback masksOk t hrun rfl
    have hact : (if x.safRuns then x.safCycle readback masksOk else x) = x.safCycle readback masksOk := if_pos hrun
    show execSafetyTaskCycle h readback masksOk s = _
    rw [execSafetyTaskCycle, State.mod_eq_put hx, hact]
  case takeover =>
    intro tp htp hrun hslave
    have hgo : ¬(8 ≤ tp || !x.safRuns || x.saf.tpMaster) = true := by
      simp only [Nat.not_le_of_lt htp, hrun, hslave, decide_false, Bool.not_true, Bool.or_self, Bool.false_eq_true,
        not_false_eq_true]
    have hx' : (s.put h.other (p.modSaf fun k => { k with tpMaster := false })).half h = x := by
      rw [← hx]
      cases h <;> rfl
    show execTpMasterTakeover h tp s = _
    rw [execTpMasterTakeover, hx, if_neg hgo, State.mod_eq_put hpart]
    exact onHalf_next hx' hpow rfl
  case resetEndB =>
    rintro rfl
    show execScrupleResetEnd .b s = _
    rw [execScrupleResetEnd, hx, if_neg (powered_not_off hpow), State.mod_eq_put hx, ← hpart]
    rfl
  case resetEndA =>
    rintro rfl hslot
    show execScrupleResetEnd .a s = _
    rw [execScrupleResetEnd, hx, if_neg (powered_not_off hpow), State.mod_eq_put hx]
    subst hx hpart
    exact if_neg (Bool.eq_false_iff.mp hslot)
  case resetEndAbsent =>
    rintro rfl hmaster habsent
    show execScrupleResetEnd .a s = _
    rw [execScrupleResetEnd, hx, if_neg (powered_not_off hpow), State.mod_eq_put hx]
    subst hx hpart
    exact if_pos (Bool.and_eq_true_iff.mpr ⟨hmaster, (Bool.not_eq_true' _).mpr habsent⟩)
  case sealSwitches =>
    intro word hrun
    exact onHalf_next ((State.half_modStn s h _).trans hx) hpow (if_pos hrun)

/-! ### The gate of a safety output (R165) -/

/-- A matrix permits an output while it does not drop it and its latch is clear (R165). -/
theorem Half.matPermit_iff (x : Half) (b : Bool) (j : Nat) :
    x.matPermit b j = true ↔ x.matDrops b j = false ∧ (x.matLatch b).getLsbD j = false := by
  simp only [Half.matPermit, Bool.and_eq_true, Bool.not_eq_true']

/-- The enable of a switch that neither an L3 nor a test holds off, while Scruple runs (R165, R171, R176, R232). -/
theorem Half.gate_iff {x : Half} {low : Bool} {j : Nat} (hrun : x.safRuns = true) (hl3 : x.bit Reg.FC_STAT 6 = false)
    (htest : (if low then x.saf.testLs else x.saf.testHs).getLsbD j = false) (hproof : x.proofOff low j = false) :
    x.gate low j = true ↔ x.matPermit low j = true ∧ x.saf.permit.getLsbD j = true ∧ x.saf.xforce = false := by
  simp only [Half.gate, hrun, hl3, htest, hproof, Bool.true_and, Bool.not_false, Bool.and_true, Bool.and_eq_true,
    Bool.not_eq_true', and_assoc]

/-- Settles O28: both switches by the one equation, each with its own matrix and its own tests. -/
theorem gateEquation : Obligations.GateEquation := by
  intro x j hrun hl3 hhs hls hproofHs hproofLs
  exact ⟨Half.gate_iff hrun hl3 hhs hproofHs, Half.gate_iff hrun hl3 hls hproofLs, fun b => x.matPermit_iff b j⟩

end Sys2Proof.Machine
end

section
/-! What the resets ordered by SYS_RST leave of Scruple (R141, R499): its state, and its domain's bits in SYS_PD. -/
namespace Sys2Proof.Machine

/-! ### SYS_PD and Scruple's state under the operations of a reset -/

/-- A register outside the cleared addresses keeps its content. -/
theorem RegFile.get_clear_of_not (r : RegFile) {p : Nat → Bool} {a : Nat} (ha : p a = false) :
    (r.clear p).get a = r.get a := by
  induction r with
  | nil => rfl
  | cons e t ih =>
    obtain ⟨k, v⟩ := e
    rw [RegFile.clear] at ih ⊢
    rw [List.filter_cons]
    by_cases hk : k = a
    · subst hk
      simp only [ha, Bool.not_false, if_true, RegFile.get]
    · split
      · simp only [RegFile.get, hk, if_false, ih]
      · simp only [RegFile.get, hk, if_false, ih]

theorem Half.rd_clear_of_not (x : Half) (p : Nat → Bool) {a : Nat} (ha : p a = false) :
    ({ x with regs := x.regs.clear p } : Half).rd a = x.rd a := x.regs.get_clear_of_not ha

/-- A reset of a domain other than PD0 leaves SYS_PD, a register of PD0 (R491). -/
theorem Half.resetDomain_rd_sysPd (x : Half) {d : Nat} (hd : d ≠ 0) :
    (x.resetDomain d).rd Reg.SYS_PD = x.rd Reg.SYS_PD := by
  have hclear := x.rd_clear_of_not (fun a => regDomain a == d) (a := Reg.SYS_PD) (beq_eq_false_iff_ne.mpr hd.symm)
  have hls (y : Half) (hi lo : Nat) : (y.setFld Reg.FC_LS_CAUSE hi lo 0).rd Reg.SYS_PD = y.rd Reg.SYS_PD :=
    y.rd_wr_other (by decide) _
  unfold Half.resetDomain
  dsimp only
  split
  case h_1 => exact (hls ..).trans hclear
  case h_2 => exact (hls ..).trans hclear
  all_goals exact hclear

/-- A reset of a domain other than PD5 leaves what Scruple holds. -/
theorem Half.resetDomain_saf (x : Half) {d : Nat} (hd : d ≠ 5) : (x.resetDomain d).saf = x.saf := by
  unfold Half.resetDomain
  dsimp only
  split
  case h_5 => exact absurd rfl hd
  all_goals rfl

/-- The sources of the domains held in reset are inhibited in FC_INHIB, which leaves SYS_PD. -/
theorem Half.inhibit_rd_sysPd (x : Half) (ds : List Nat) :
    ((List.range 4).foldl (fun (y : Half) i => y.orReg (Reg.FC_INHIB i) (domainMask ds i)) x).rd Reg.SYS_PD =
      x.rd Reg.SYS_PD := by
  refine List.foldlRecOn (motive := fun y : Half => y.rd Reg.SYS_PD = x.rd Reg.SYS_PD) _ _ rfl fun y hy i _ => ?_
  have hne : Reg.SYS_PD ≠ Reg.FC_INHIB i := by
    show 0x3000000C ≠ 0x30010070 + 0x4 * i
    omega
  exact (y.rd_wr_other hne _).trans hy

theorem Half.inhibit_saf (x : Half) (ds : List Nat) :
    ((List.range 4).foldl (fun (y : Half) i => y.orReg (Reg.FC_INHIB i) (domainMask ds i)) x).saf = x.saf :=
  List.foldlRecOn (motive := fun y : Half => y.saf = x.saf) _ _ rfl fun _ hy _ _ => hy

/-! ### Domains in reset -/

/-- The RST bits of SYS_PD of the given domains. -/
def resetBits (ds : List Nat) : Word := ds.foldl (fun m d => m ||| (1#32 <<< (8 + d))) 0

theorem resetBits_getLsbD_of_not_mem {ds : List Nat} {i : Nat} (hi : ∀ d ∈ ds, 8 + d ≠ i) :
    (resetBits ds).getLsbD i = false := by
  refine List.foldlRecOn (motive := fun m : Word => m.getLsbD i = false) _ _ BitVec.getLsbD_zero fun m hm d hd => ?_
  have hne := hi d hd
  have hother : (1#32 <<< (8 + d)).getLsbD i = false := by
    rw [BitVec.getLsbD_shiftLeft, BitVec.getLsbD_one]
    grind
  rw [BitVec.getLsbD_or, hm, hother, Bool.or_self]

/-- As domains other than PD0 go into reset, SYS_PD gains their RST bits and nothing else. -/
theorem Half.enterReset_rd_sysPd {x : Half} (hx : x.regs.wf = true) {ds : List Nat} (hds : 0 ∉ ds) :
    (x.enterReset ds).rd Reg.SYS_PD = x.rd Reg.SYS_PD ||| resetBits ds := by
  refine List.foldlRecOn (motive := fun y : Half => y.rd Reg.SYS_PD = x.rd Reg.SYS_PD ||| resetBits ds) _ _ ?_
    fun y hy d hd => (y.resetDomain_rd_sysPd (ne_of_mem_of_not_mem hd hds)).trans hy
  exact ((x.orReg Reg.SYS_PD (resetBits ds)).inhibit_rd_sysPd ds).trans (Half.rd_wr_self hx ..)

/-- Domains other than PD5 go into reset without Scruple. -/
theorem Half.enterReset_saf (x : Half) {ds : List Nat} (hds : 5 ∉ ds) : (x.enterReset ds).saf = x.saf := by
  refine List.foldlRecOn (motive := fun y : Half => y.saf = x.saf) _ _ ?_
    fun y hy d hd => (y.resetDomain_saf (ne_of_mem_of_not_mem hd hds)).trans hy
  exact (x.orReg Reg.SYS_PD (resetBits ds)).inhibit_saf ds

theorem Half.domainOn_of_rd_eq {x y : Half} (e : y.rd Reg.SYS_PD = x.rd Reg.SYS_PD) (d : Nat) :
    y.domainOn d = x.domainOn d := by
  simp only [Half.domainOn, Half.bit, e]

/-- A domain that is not among those that go into reset stays as it was. -/
theorem Half.enterReset_domainOn {x : Half} (hx : x.regs.wf = true) {ds : List Nat} (h0 : 0 ∉ ds) {d : Nat} (hd : d ∉ ds)
    (hlt : d < 8) : (x.enterReset ds).domainOn d = x.domainOn d := by
  have hup : (resetBits ds).getLsbD d = false := resetBits_getLsbD_of_not_mem fun k _ => by omega
  have hrst : (resetBits ds).getLsbD (8 + d) = false :=
    resetBits_getLsbD_of_not_mem fun k hk e => hd (Nat.add_left_cancel e ▸ hk)
  simp only [Half.domainOn, Half.bit, Half.enterReset_rd_sysPd hx h0, BitVec.getLsbD_or, hup, hrst, Bool.or_false]

/-! ### The resets of SYS_RST -/

/-- What Scruple holds and its power domain are in y as in x. -/
def Half.SameScruple (x y : Half) : Prop := y.saf = x.saf ∧ y.domainOn 5 = x.domainOn 5

theorem Half.SameScruple.refl (x : Half) : x.SameScruple x := ⟨rfl, rfl⟩

theorem Half.SameScruple.trans {x y z : Half} (hxy : x.SameScruple y) (hyz : y.SameScruple z) : x.SameScruple z :=
  ⟨hyz.1.trans hxy.1, hyz.2.trans hxy.2⟩

theorem Half.sameScruple_setFld_rcause (x : Half) (hi lo v : Nat) : x.SameScruple (x.setFld Reg.SYS_RCAUSE hi lo v) :=
  ⟨rfl, Half.domainOn_of_rd_eq (x.rd_wr_other (by decide) _) 5⟩

theorem Half.sameScruple_enterReset {x : Half} (hx : x.regs.wf = true) {ds : List Nat} (h0 : 0 ∉ ds) (h5 : 5 ∉ ds) :
    x.SameScruple (x.enterReset ds) :=
  ⟨x.enterReset_saf h5, Half.enterReset_domainOn hx h0 h5 (by decide)⟩

theorem Half.sameScruple_resetFcConfig (x : Half) : x.SameScruple x.resetFcConfig :=
  ⟨rfl, Half.domainOn_of_rd_eq (x.rd_clear_of_not _ rfl) 5⟩

/-- The domains of a half reset are all but PD0 and Scruple's (R499). -/
theorem Half.sameScruple_halfReset {x : Half} (hx : x.regs.wf = true) (cause : Nat) : x.SameScruple (x.halfReset cause) :=
  (Half.sameScruple_enterReset hx (by decide) (by decide)).trans <|
    (Half.sameScruple_resetFcConfig _).trans (Half.sameScruple_setFld_rcause _ 3 0 cause)

theorem Half.sameScruple_reboot (x : Half) : x.SameScruple x.reboot := ⟨rfl, rfl⟩

/-- SYS_RST.DOM has no bit for PD0, PD1 or PD5 (R502). -/
theorem Half.sameScruple_resetDoms {x : Half} (hx : x.regs.wf = true) (doms : Byte) : x.SameScruple (x.resetDoms doms) := by
  unfold Half.resetDoms
  dsimp only
  split
  · exact .refl x
  · have hnot {d : Nat} (hd : d ∉ [2, 3, 4, 6, 7]) (p : Nat → Bool) : d ∉ [2, 3, 4, 6, 7].filter p :=
      fun hmem => hd (List.mem_filter.mp hmem).1
    exact (Half.sameScruple_enterReset hx (hnot (by decide) _) (hnot (by decide) _)).trans
      (Half.sameScruple_setFld_rcause ..)

theorem Half.sameScruple_resetHalf {x : Half} (hx : x.regs.wf = true) : x.SameScruple x.resetHalf := by
  unfold Half.resetHalf
  split
  · exact (Half.sameScruple_halfReset hx 3).trans (Half.sameScruple_reboot _)
  · exact .refl x

/-- The register files of a station in canonical form. -/
theorem State.Sound.regs_wf {s : State} (hs : s.Sound) (h : HalfId) : (s.half h).regs.wf = true := by
  obtain ⟨⟨ha, -⟩, hb, -⟩ := hs
  cases h with
  | a => exact ha
  | b => exact hb

/-- A command of one half that leaves Scruple there. -/
theorem sameScruple_of_onHalf {s t : State} {h : HalfId} {f : Half → Half}
    (hf : (s.half h).SameScruple (f (s.half h))) (ht : onHalf s h f = .next t) : (s.half h).SameScruple (t.half h) := by
  by_cases hp : (s.half h).st = .off
  · rw [onHalf_off hp] at ht
    obtain rfl : s = t := Host.Outcome.next.inj ht
    exact .refl _
  · rw [onHalf_powered hp] at ht
    obtain rfl : s.mod h f = t := Host.Outcome.next.inj ht
    rw [State.half_mod_self]
    exact hf

/-- Settles O33: neither the domains of SYS_RST.DOM nor those of a half reset are PD5 or PD0, where SYS_PD is. -/
theorem scrupleSurvivesResets : Obligations.ScrupleSurvivesResets := by
  intro s t h doms hs hreset
  have hwf := hs.regs_wf h
  rcases hreset with hdoms | hhalf
  · exact sameScruple_of_onHalf (Half.sameScruple_resetDoms hwf doms) hdoms
  · exact sameScruple_of_onHalf (Half.sameScruple_resetHalf hwf) hhalf

end Sys2Proof.Machine
end

section
/-! What a register write runs (R8, R9, R505): stores in the half written to, and the commands of the table that its
registers have. -/
namespace Sys2Proof.Machine

/-- The commands that a write to a register of half h gives (R9): those of the registers with rows of their own, and those
of the bits that stand beside stored bits. -/
inductive GivenByRegister (h : HalfId) : Instr → Prop where
  | ceSwap (chain : Nat) (bankB bumpless : Bool) : GivenByRegister h (.ceSwap h chain bankB bumpless)
  | ceCmdRun (chain : Nat) : GivenByRegister h (.ceCmdRun h chain)
  | ceCmdHold (chain : Nat) : GivenByRegister h (.ceCmdHold h chain)
  | ceCmdOff (chain : Nat) : GivenByRegister h (.ceCmdOff h chain)
  | ceCmdRestart (chain : Nat) : GivenByRegister h (.ceCmdRestart h chain)
  | tgStart (tg : Nat) : GivenByRegister h (.tgStart h tg)
  | tgStop (tg : Nat) : GivenByRegister h (.tgStop h tg)
  | tcArm (tc : Nat) : GivenByRegister h (.tcArm h tc)
  | tcTrigger (tc : Nat) : GivenByRegister h (.tcTrigger h tc)
  | tcStop (tc : Nat) : GivenByRegister h (.tcStop h tc)
  | tcReset (tc : Nat) : GivenByRegister h (.tcReset h tc)
  | fcEvtPop : GivenByRegister h (.fcEvtPop h)
  | fcInj (src : Nat) : GivenByRegister h (.fcInj h src)
  | flushSup : GivenByRegister h (.flushSup h)
  | flushApp : GivenByRegister h (.flushApp h)
  | fcPendClear (i : Nat) (mask : Word) : GivenByRegister h (.fcPendClear h i mask)
  | mbxCh0SqTail (v : Word) : GivenByRegister h (.mbxCh0SqTail h v)
  | mbxCh0CqHead (v : Word) : GivenByRegister h (.mbxCh0CqHead h v)
  | mbxChnCtrlReset (ch : Nat) : GivenByRegister h (.mbxChnCtrlReset h ch)
  | tsSrvStep : GivenByRegister h (.tsSrvStep h)
  | tsSrvGo : GivenByRegister h (.tsSrvGo h)
  | tsCapPop (fifo : Nat) : GivenByRegister h (.tsCapPop h fifo)
  | cvJobGo (slot : Nat) : GivenByRegister h (.cvJobGo h slot)
  | cvJobStop (slot : Nat) : GivenByRegister h (.cvJobStop h slot)
  | sysRstDomain (doms : Byte) : GivenByRegister h (.sysRstDomain h doms)
  | sysRstHalf : GivenByRegister h (.sysRstHalf h)
  | fcLock : GivenByRegister h (.fcLock h)
  | spanRelinq : GivenByRegister h (.spanRelinq h)
  | boRel (ctl : Nat) : GivenByRegister h (.boRel h ctl)

/-- One step of a register write to half h: a store, a command, or the fault that ends the write. -/
inductive RegisterStep (h : HalfId) : (State → Host.Outcome State Fault Refusal) → Prop where
  | ring (addr : Nat) (v : Word) : RegisterStep h fun s => onHalf s h fun x => x.wr addr v
  | aperture (c addr : Nat) (v : Word) : RegisterStep h fun s => onHalf s h fun x => x.apertureWrite c addr v
  | store (d : RegDesc) (addr : Nat) (v : Word) : RegisterStep h fun s => onHalf s h fun x => x.regStore d addr v
  | command {c : Instr} (hc : GivenByRegister h c) : RegisterStep h (exec c)
  | fault (k : Fault) : RegisterStep h fun _ => .fault k

/-- A list of such steps. -/
def RegisterSteps (h : HalfId) (l : List (State → Host.Outcome State Fault Refusal)) : Prop := ∀ f ∈ l, RegisterStep h f

theorem registerSteps_nil {h : HalfId} : RegisterSteps h [] := fun _ hf => absurd hf List.not_mem_nil

theorem RegisterStep.single {h : HalfId} {f : State → Host.Outcome State Fault Refusal} (hf : RegisterStep h f) :
    RegisterSteps h [f] := List.forall_mem_singleton.mpr hf

theorem RegisterSteps.append {h : HalfId} {l m : List (State → Host.Outcome State Fault Refusal)}
    (hl : RegisterSteps h l) (hm : RegisterSteps h m) : RegisterSteps h (l ++ m) := List.forall_mem_append.mpr ⟨hl, hm⟩

theorem RegisterSteps.ite {h : HalfId} {p : Prop} [Decidable p] {l m : List (State → Host.Outcome State Fault Refusal)}
    (hl : RegisterSteps h l) (hm : RegisterSteps h m) : RegisterSteps h (if p then l else m) :=
  iteInduction (motive := RegisterSteps h) (fun _ => hl) fun _ => hm

/-- A step taken only where a bit of the word is set. -/
theorem RegisterStep.on {h : HalfId} {f : State → Host.Outcome State Fault Refusal} (hf : RegisterStep h f) {p : Prop}
    [Decidable p] : RegisterSteps h (if p then [f] else []) := hf.single.ite registerSteps_nil

/-- The steps of a register with a row of its own, where it has one. -/
def RowSteps (h : HalfId) (o : Option (List (State → Host.Outcome State Fault Refusal))) : Prop :=
  ∀ l, o = some l → RegisterSteps h l

theorem RegisterSteps.row {h : HalfId} {l : List (State → Host.Outcome State Fault Refusal)} (hl : RegisterSteps h l) :
    RowSteps h (some l) := by
  rintro _ ⟨⟩
  exact hl

theorem RowSteps.ite {h : HalfId} {p : Prop} [Decidable p]
    {o q : Option (List (State → Host.Outcome State Fault Refusal))} (ho : RowSteps h o) (hq : RowSteps h q) :
    RowSteps h (if p then o else q) :=
  iteInduction (motive := RowSteps h) (fun _ => ho) fun _ => hq

/-- The registers with rows of their own, in the order of `actions`. -/
theorem actions_registerSteps (h : HalfId) (a : Nat) (v : Word) : RowSteps h (actions h a v) := by
  have cmd {c : Instr} (hc : GivenByRegister h c) {p : Prop} [Decidable p] :
      RegisterSteps h (if p then [exec c] else []) := (RegisterStep.command hc).on
  refine .ite (cmd (.ceSwap ..)).row ?_
  refine .ite (RegisterSteps.row ?_) ?_
  · split
    · exact registerSteps_nil
    · exact cmd (.ceCmdRun _)
    · exact cmd (.ceCmdHold _)
    · exact cmd (.ceCmdOff _)
    · exact cmd (.ceCmdRestart _)
    · exact (RegisterStep.fault _).on
  refine .ite ((cmd (.tgStart _)).append (cmd (.tgStop _))).row ?_
  refine .ite ((((cmd (.tcArm _)).append (cmd (.tcTrigger _))).append (cmd (.tcStop _))).append (cmd (.tcReset _))).row ?_
  refine .ite (cmd .fcEvtPop).row ?_
  refine .ite (cmd (.fcInj _)).row ?_
  refine .ite ((cmd .flushSup).append (cmd .flushApp)).row ?_
  refine .ite (RegisterStep.command (.fcPendClear ..)).single.row ?_
  refine .ite (RegisterStep.command (.mbxCh0SqTail _)).single.row ?_
  refine .ite (RegisterStep.command (.mbxCh0CqHead _)).single.row ?_
  refine .ite (cmd (.mbxChnCtrlReset _)).row ?_
  refine .ite (RegisterSteps.ite (cmd .tsSrvStep) (cmd .tsSrvGo)).row ?_
  refine .ite (cmd (.tsCapPop _)).row ?_
  refine .ite ((cmd (.cvJobGo _)).append (cmd (.cvJobStop _))).row ?_
  refine .ite (RegisterSteps.append (.ite registerSteps_nil ?_) (cmd .sysRstHalf)).row nofun
  exact (RegisterStep.command (.sysRstDomain _)).single

theorem sideActions_registerSteps (h : HalfId) (a : Nat) (v : Word) : RegisterSteps h (sideActions h a v) := by
  refine .ite (RegisterStep.command .fcLock).single ?_
  refine .ite (RegisterStep.command .spanRelinq).single ?_
  exact .ite (RegisterStep.command (.boRel _)).single registerSteps_nil

/-- REGISTER_WRITE runs a sequence of such steps, none where the write is lost. -/
theorem execRegisterWrite_eq_runSeq (h : HalfId) (app : Bool) (addr : Nat) (v : Word) (s : State) :
    ∃ l, RegisterSteps h l ∧ execRegisterWrite h app addr v s = runSeq l s := by
  have hlost : RegisterSteps h [] ∧ .next s = runSeq [] s := ⟨registerSteps_nil, rfl⟩
  have hfault (k : Fault) : RegisterSteps h [fun _ => .fault k] ∧ .fault k = runSeq [fun _ => .fault k] s :=
    ⟨(RegisterStep.fault k).single, rfl⟩
  by_cases hw : isRegisterAddress addr = true
  case neg => exact ⟨_, execRegisterWrite_of_not_window (Bool.eq_false_iff.mpr hw) ▸ hfault _⟩
  by_cases hr : WriteReaches (s.half h) app addr
  case neg => exact ⟨_, execRegisterWrite_of_not_reaches hw hr ▸ hlost⟩
  cases hm : mbxRing addr
  case true => exact ⟨_, (RegisterStep.ring addr v).single, execRegisterWrite_ring hr hm⟩
  cases hc : canAperture addr with
  | some c => exact ⟨_, (RegisterStep.aperture c addr v).single, execRegisterWrite_aperture hr hc⟩
  | none =>
    cases hd : regDesc? addr with
    | none =>
      rw [execRegisterWrite_hole hr hm hc hd]
      split
      · exact ⟨_, hlost⟩
      · exact ⟨_, hfault _⟩
    | some d =>
      cases hv : writesReserved d addr v
      case true => exact ⟨_, execRegisterWrite_reserved hr hm hc hd hv ▸ hfault _⟩
      cases ha : actions h addr v with
      | some l => exact ⟨l, actions_registerSteps h addr v l ha, execRegisterWrite_row hr hm hc hd hv ha⟩
      | none =>
        exact ⟨_, List.forall_mem_cons.mpr ⟨.store d addr v, sideActions_registerSteps h addr v⟩,
          execRegisterWrite_stored hr hm hc hd hv ha⟩

end Sys2Proof.Machine
end

section
/-! What commands leave of the station outside its halves (R142, R488, R489). -/
namespace Sys2Proof.Machine

/-- A reading of the station that no change of a half alters. -/
def OutsideHalves {α : Type} (π : State → α) : Prop := ∀ s h f, π (State.mod s h f) = π s

/-- The baseplate is outside the halves. -/
theorem outsideHalves_stn : OutsideHalves State.stn := State.mod_stn

/-- Where the outcome is a next state, it reads as s does. -/
structure Keeps {α : Type} (π : State → α) (s : State) (o : Host.Outcome State Fault Refusal) : Prop where
  next : ∀ t, o = .next t → π t = π s

section
variable {α : Type} {π : State → α} {s : State}

theorem keeps_next {t : State} (e : π t = π s) : Keeps π s (.next t) :=
  ⟨fun _ ht => Host.Outcome.next.inj ht ▸ e⟩

theorem keeps_fault (k : Fault) : Keeps π s (.fault k) := ⟨fun _ ht => nomatch ht⟩

theorem Keeps.ite {p : Prop} [Decidable p] {a b : Host.Outcome State Fault Refusal} (ha : Keeps π s a)
    (hb : Keeps π s b) : Keeps π s (if p then a else b) :=
  iteInduction (motive := Keeps π s) (fun _ => ha) fun _ => hb

/-! ### The forms of the commands -/

variable (hπ : OutsideHalves π)
include hπ

theorem keeps_onHalf (h : HalfId) (f : Half → Half) : Keeps π s (onHalf s h f) := keeps_next (hπ ..)

theorem OutsideHalves.mod_mod (h i : HalfId) (f g : Half → Half) : π ((s.mod h f).mod i g) = π s :=
  (hπ ..).trans (hπ ..)

/-- A half changed, and the partner too where the change stopped a handover. -/
theorem OutsideHalves.mod_ite (h i : HalfId) (f g : Half → Half) (p : Prop) [Decidable p] :
    π (if p then (s.mod h f).mod i g else s.mod h f) = π s := by
  split
  · exact hπ.mod_mod ..
  · exact hπ ..

theorem keeps_endOn (h : HalfId) (f : Half → Half) : Keeps π s (endOn s h f) := by
  exact keeps_next (hπ.mod_ite ..)

theorem OutsideHalves.offer (h : HalfId) (cause : Cause) (at_ : DWord) (cmd : Option (Nat × Nat)) :
    π (s.offer h cause at_ cmd) = π s := by
  unfold State.offer
  dsimp only
  split
  · exact hπ.mod_mod ..
  · rfl

theorem OutsideHalves.spread (h : HalfId) (y : Half) : π (s.spread h y) = π s := by
  unfold State.spread
  dsimp only
  split
  · exact hπ.mod_mod ..
  · exact hπ ..

theorem OutsideHalves.consumeOn (h : HalfId) (ch : Nat) (p : Nat → Bool) : π (consumeOn s h ch p) = π s := by
  unfold Machine.consumeOn
  dsimp only
  split
  · rfl
  split
  · rfl
  · split
    · exact hπ.mod_mod ..
    · exact hπ.mod_ite ..
  · split
    · split
      · exact (hπ ..).trans (hπ.mod_ite ..)
      · exact hπ.mod_ite ..
    · rfl

/-! ### The commands that choose between next states -/

theorem execPeriodicSwap_keeps (h : HalfId) (at_ : DWord) : Keeps π s (execPeriodicSwap h at_ s) :=
  .ite (keeps_next rfl) (.ite (keeps_next (hπ.offer ..)) (keeps_onHalf hπ ..))

theorem execReleaseButtonHold_keeps (h : HalfId) (at_ : DWord) : Keeps π s (execReleaseButtonHold h at_ s) :=
  .ite (keeps_next rfl) <| .ite (keeps_next (hπ ..)) <|
    .ite (keeps_next ((hπ.offer ..).trans (hπ ..))) (keeps_next (hπ.mod_mod ..))

theorem execTpMasterTakeover_keeps (h : HalfId) (tp : Nat) : Keeps π s (execTpMasterTakeover h tp s) :=
  .ite (keeps_next rfl) (keeps_next (hπ.mod_mod ..))

theorem execScrupleResetEnd_keeps (h : HalfId) : Keeps π s (execScrupleResetEnd h s) := by
  cases h with
  | a => exact .ite (keeps_next rfl) (.ite (keeps_next (hπ ..)) (keeps_next ((hπ ..).trans (hπ.mod_mod ..))))
  | b => exact .ite (keeps_next rfl) (keeps_next (hπ.mod_mod ..))

theorem execMbxCh0SqTail_keeps (h : HalfId) (v : Word) : Keeps π s (execMbxCh0SqTail h v s) :=
  .ite (keeps_fault _) (keeps_onHalf hπ ..)

theorem execMbxCh0CqHead_keeps (h : HalfId) (v : Word) : Keeps π s (execMbxCh0CqHead h v s) :=
  .ite (keeps_fault _) (keeps_onHalf hπ ..)

/-- FW_ACTIVATE changes its half, the partner of an offer and, on channel 7, the half that waits for the restart. -/
theorem execFwActivate_keeps (h : HalfId) (ch tag : Nat) (at_ : DWord) : Keeps π s (execFwActivate h ch tag at_ s) := by
  unfold execFwActivate
  dsimp only
  split
  · refine keeps_next ?_
    split
    · exact (hπ ..).trans (hπ.spread ..)
    · exact hπ.spread ..
  · exact keeps_next (hπ.spread ..)

/-- The commands other than REGISTER_WRITE: by the lemmas above where the meaning chooses between outcomes, and by its
form elsewhere. -/
theorem exec_keeps_of_not_write {c : Instr} (hc : c.changesBaseplate = false)
    (hw : ∀ h app a v, c ≠ .registerWrite h app a v) : Keeps π s (exec c s) := by
  cases c
  case registerWrite h app a v => exact absurd rfl (hw h app a v)
  case sealChange | logicFeedFail | logicFeedReturn | fieldFeedRange => nomatch hc
  case claimLineEnd | heartbeat | fullCopyComplete | peerMbx | roleAccept | roleRefuse | roleAbort | roleClaimed |
      offerTimeout | handoverTimeout | handoverInstantH | handoverInstantHV | handoverDoRelease | handoverComplete =>
    exact keeps_next (hπ.mod_mod ..)
  case mbxChnCtrlReset | closeSession | sessionTimeout | usbDisconnect => exact keeps_endOn hπ ..
  case nop | abort | commandConsume => exact keeps_next (hπ.consumeOn ..)
  case roleSwap | halfRelease => exact keeps_next (hπ.spread ..)
  case roleOffer h cause at_ =>
    exact keeps_next (iteInduction (motive := fun t => π t = π s) (fun _ => rfl) fun _ => hπ.offer ..)
  case safetyTaskCycle => exact keeps_next ((hπ.mod_mod ..).trans (hπ ..))
  case pd0PowerOn => exact keeps_next (hπ ..)
  case periodicSwap => exact execPeriodicSwap_keeps hπ ..
  case releaseButtonHold => exact execReleaseButtonHold_keeps hπ ..
  case tpMasterTakeover => exact execTpMasterTakeover_keeps hπ ..
  case scrupleResetEnd => exact execScrupleResetEnd_keeps hπ ..
  case mbxCh0SqTail => exact execMbxCh0SqTail_keeps hπ ..
  case mbxCh0CqHead => exact execMbxCh0CqHead_keeps hπ ..
  case fwActivate => exact execFwActivate_keeps hπ ..
  all_goals exact keeps_onHalf hπ ..

/-! ### Register writes -/

/-- The steps of a register write change halves only. -/
theorem RegisterStep.keeps {h : HalfId} {f : State → Host.Outcome State Fault Refusal} (hf : RegisterStep h f)
    (s : State) : Keeps π s (f s) := by
  cases hf with
  | ring => exact keeps_onHalf hπ ..
  | aperture => exact keeps_onHalf hπ ..
  | store => exact keeps_onHalf hπ ..
  | fault k => exact keeps_fault k
  | command hc =>
    refine exec_keeps_of_not_write hπ ?_ ?_
    · cases hc <;> rfl
    · cases hc <;> nofun

theorem RegisterSteps.keeps_runSeq {h : HalfId} {l : List (State → Host.Outcome State Fault Refusal)}
    (hl : RegisterSteps h l) (s : State) : Keeps π s (runSeq l s) := by
  induction l generalizing s with
  | nil => exact keeps_next rfl
  | cons f fs ih =>
    obtain ⟨hf, hfs⟩ := List.forall_mem_cons.mp hl
    rw [runSeq]
    cases e : f s with
    | next u => exact ⟨fun t ht => ((ih hfs u).next t ht).trans ((hf.keeps hπ s).next u e)⟩
    | fault k => exact keeps_fault k
    | refused r => exact ⟨fun _ ht => nomatch ht⟩

/-- A command that reports no change of the baseplate leaves what is outside the halves. -/
theorem exec_keeps {c : Instr} (hc : c.changesBaseplate = false) (s : State) : Keeps π s (exec c s) := by
  by_cases hw : ∃ h app a v, c = .registerWrite h app a v
  · obtain ⟨h, app, a, v, rfl⟩ := hw
    obtain ⟨l, hl, e⟩ := execRegisterWrite_eq_runSeq h app a v s
    show Keeps π s (execRegisterWrite h app a v s)
    rw [e]
    exact hl.keeps_runSeq hπ s
  · exact exec_keeps_of_not_write hπ hc fun h app a v e => hw ⟨h, app, a, v, e⟩

end

/-- Settles O21: the baseplate is outside the halves, and only the seal and feed events reach outside them. -/
theorem baseplateUnchanged : Obligations.BaseplateUnchanged :=
  fun _ s t hc ht => (exec_keeps outsideHalves_stn hc s).next t ht

end Sys2Proof.Machine
end

section
/-! The canonical form of both halves under the commands (R186, R244, R402): the state's form of it, and what the forms
of the commands' meanings keep of it. -/
namespace Sys2Proof.Machine

/-- The half is in canonical form in slot i, and p holds where a takeover has begun in it. -/
abbrev Half.CanonIn (i : HalfId) (p : Prop) (x : Half) : Prop :=
  Canon i p x.regs x.id x.fc.fifo x.ts.fifos x.can.ram x.dsp.staging x.role.takeover

/-- Both halves are in canonical form, and `tk i` holds where a takeover has begun in half i. -/
def State.CanonIn (tk : HalfId → Prop) (s : State) : Prop := ∀ i, (s.half i).CanonIn i (tk i)

/-- Where the outcome is a next state, it is in canonical form. -/
def CanonNext (tk : HalfId → Prop) (o : Host.Outcome State Fault Refusal) : Prop := ∀ t, o = .next t → t.CanonIn tk

/-- A change of a half that keeps its canonical form. -/
def KeepsCanon (f : Half → Half) : Prop := ∀ i p (x : Half), x.CanonIn i p → (f x).CanonIn i p

/-- A sound station is in canonical form, whatever is asked of the takeovers that have not begun. -/
theorem State.Sound.canonIn {s : State} (hs : s.Sound) {tk : HalfId → Prop}
    (ht : ∀ i, (s.half i).role.takeover = true → tk i) : s.CanonIn tk := by
  obtain ⟨⟨ra, ia, qa, ca, ma, da, -⟩, ⟨rb, ib, qb, cb, mb, db, -⟩⟩ := hs
  intro i
  cases i with
  | a => exact ⟨ra, ia, qa, ca, ma, da, ht .a⟩
  | b => exact ⟨rb, ib, qb, cb, mb, db, ht .b⟩

/-- In canonical form, what was asked holds where a takeover has begun. -/
theorem State.CanonIn.takeover {tk : HalfId → Prop} {s : State} (hs : s.CanonIn tk) {i : HalfId}
    (ht : (s.half i).role.takeover = true) : tk i := by
  obtain ⟨-, -, -, -, -, -, hk⟩ := hs i
  exact hk ht

theorem Half.CanonIn.ite {i : HalfId} {p c : Prop} [Decidable c] {x y : Half} (hx : x.CanonIn i p)
    (hy : y.CanonIn i p) : (if c then x else y).CanonIn i p := canon_ite hx hy

theorem keepsCanon_dropOffer : KeepsCanon Half.dropOffer := fun _ _ x hx => x.dropOffer_canon hx

/-- The instant of the next swap is no part of the canonical form. -/
theorem keepsCanon_nextSwap (f : Half → DWord) :
    KeepsCanon fun x => { x with role := { x.role with nextSwap := f x } } := fun _ _ _ hx => hx

/-- What FW_ACTIVATE does in the half that it names (R324). -/
theorem Half.activate_canon {i : HalfId} {p : Prop} {x : Half} (hx : x.CanonIn i p) (c : Ctx) (at_ : DWord) :
    (x.activate c at_).1.CanonIn i p := by
  unfold Half.activate
  grind [Half.reply_canon, Half.offers_canon, Half.stopAndRestart_canon, Half.restartInto_canon]

/-! ### The forms of the commands -/

section
variable {tk : HalfId → Prop} {s : State}

theorem canonNext_next {t : State} (ht : t.CanonIn tk) : CanonNext tk (.next t) :=
  fun _ e => Host.Outcome.next.inj e ▸ ht

theorem canonNext_fault (k : Fault) : CanonNext tk (.fault k) := fun _ e => nomatch e

theorem CanonNext.ite {p : Prop} [Decidable p] {a b : Host.Outcome State Fault Refusal} (ha : CanonNext tk a)
    (hb : CanonNext tk b) : CanonNext tk (if p then a else b) :=
  iteInduction (motive := CanonNext tk) (fun _ => ha) fun _ => hb

variable (hs : s.CanonIn tk)
include hs

/-- One half replaced by one in canonical form. -/
theorem State.CanonIn.mod_half (h : HalfId) {f : Half → Half} (hf : (f (s.half h)).CanonIn h (tk h)) :
    (s.mod h f).CanonIn tk := by
  intro i
  have ha := hs .a
  have hb := hs .b
  cases h with
  | a => cases i with
    | a => exact hf
    | b => exact hb
  | b => cases i with
    | a => exact ha
    | b => exact hf

theorem State.CanonIn.mod (h : HalfId) {f : Half → Half} (hf : KeepsCanon f) : (s.mod h f).CanonIn tk :=
  hs.mod_half h (hf _ _ _ (hs h))

theorem canonNext_onHalf (h : HalfId) {f : Half → Half} (hf : KeepsCanon f) : CanonNext tk (onHalf s h f) :=
  canonNext_next (hs.mod h fun _ _ x hx => Half.live_canon f x hx fun z hz => hf _ _ z hz)

/-- A command of both halves, each of whose changes keeps the half whatever the other half is. -/
theorem canonNext_onPair (h : HalfId) {f g : Half → Half → Half} (hf : ∀ y, KeepsCanon fun x => f x y)
    (hg : ∀ y, KeepsCanon fun x => g x y) : CanonNext tk (onPair s h f g) := by
  refine canonNext_next ((hs.mod_half h ?_).mod_half h.other ?_)
  · exact Half.live_canon _ _ (hs h) fun _ _ => hf _ _ _ _ (hs h)
  · rw [State.half_mod_other]
    exact Half.live_canon _ _ (hs h.other) fun _ _ => hg _ _ _ _ (hs h.other)

theorem State.CanonIn.modStn (f : Station → Station) : (s.modStn f).CanonIn tk := by
  intro i
  rw [State.half_modStn]
  exact hs i

/-- A half changed on a condition. -/
theorem State.CanonIn.mod_ite {p : Prop} [Decidable p] (h : HalfId) {f : Half → Half} (hf : KeepsCanon f) :
    State.CanonIn tk (if p then s.mod h f else s) := by
  split
  · exact hs.mod h hf
  · exact hs

theorem canonNext_endOn (h : HalfId) {f : Half → Half} (hf : KeepsCanon f) : CanonNext tk (endOn s h f) := by
  have ht := hs.mod_half h (f := fun _ => Half.live f (s.half h)) (Half.live_canon f _ (hs h) fun z hz => hf _ _ z hz)
  exact canonNext_next (ht.mod_ite h.other keepsCanon_dropOffer)

theorem State.CanonIn.offer (h : HalfId) (cause : Cause) (at_ : DWord) (cmd : Option (Nat × Nat)) :
    (s.offer h cause at_ cmd).CanonIn tk := by
  unfold State.offer
  dsimp only
  split
  · exact (hs.mod h fun _ _ x hx => x.offers_canon _ _ hx).mod h.other fun _ _ x hx => x.offered_canon _ _ hx
  · exact hs

theorem State.CanonIn.spread (h : HalfId) {y : Half} (hy : y.CanonIn h (tk h)) : (s.spread h y).CanonIn tk := by
  have ht := hs.mod_half h (f := fun _ => y) hy
  unfold State.spread
  dsimp only
  split
  · exact ht.mod h.other fun _ _ x hx => x.offered_canon _ _ hx
  · exact ht

theorem State.CanonIn.consumeOn (h : HalfId) (ch : Nat) (p : Nat → Bool) : (consumeOn s h ch p).CanonIn tk := by
  unfold Machine.consumeOn
  dsimp only
  split
  · exact hs
  split
  · exact hs
  · split
    · exact (hs.mod h fun _ _ x hx => Half.resetPeer_canon _ (x.peerError_canon _ hx)).mod h.other
        fun _ _ x hx => x.resetPeer_canon hx
    · exact (hs.mod_half h (Half.protoError_canon _ _ _ (hs h))).mod_ite h.other keepsCanon_dropOffer
  · split
    · exact ((hs.mod_half h (Half.consumeCmd_canon _ _ _ (hs h))).mod_ite h.other fun _ _ x hx =>
        x.peerHead_canon _ hx).mod_ite h.other keepsCanon_dropOffer
    · exact hs

end

end Sys2Proof.Machine
end

section
/-! Every command keeps both halves in canonical form (R186, R244, R402): one lemma for each meaning of the table, in
the order of the model. Each names the operations of its meaning, which keep a half in canonical form. -/
namespace Sys2Proof.Machine

section
variable {tk : HalfId → Prop} {s : State} (hs : s.CanonIn tk)
include hs

/-! ### The current loops (R359 to R380) -/

@[simp] theorem canonNext_aiCalibration (h ai bin offset gain limitsOk voc vocSeen ratio) :
    CanonNext tk (execAiCalibration h ai bin offset gain limitsOk voc vocSeen ratio s) :=
  canonNext_onHalf hs h fun _ _ x hx => by grind [Half.modAi_canon, Half.aiCalibrated_canon]
@[simp] theorem canonNext_aiConversion (h ai raw vs supLim temp) :
    CanonNext tk (execAiConversion h ai raw vs supLim temp s) :=
  canonNext_onHalf hs h fun _ _ x hx => by
    grind [Half.modAi_canon, Half.aiShow_canon, Half.setBit_canon, Half.aiGap_canon, Half.aiCoeffs_canon,
      Half.aiConvert_canon]
@[simp] theorem canonNext_aiBandQuality (h ai) : CanonNext tk (execAiBandQuality h ai s) :=
  canonNext_onHalf hs h fun _ _ x hx => by grind [Half.aiBand_canon]
@[simp] theorem canonNext_aiComply (h ai) : CanonNext tk (execAiComply h ai s) :=
  canonNext_onHalf hs h fun _ _ x hx => by grind [Half.setBit_canon, Half.aiShow_canon, Half.raise_canon]
@[simp] theorem canonNext_aiComplyEnd (h ai) : CanonNext tk (execAiComplyEnd h ai s) :=
  canonNext_onHalf hs h fun _ _ x hx => by grind [Half.setBit_canon, Half.aiShow_canon]
@[simp] theorem canonNext_aoComply (h ao readback drive) : CanonNext tk (execAoComply h ao readback drive s) :=
  canonNext_onHalf hs h fun _ _ x hx => by
    grind [Half.wr_canon, Half.setBit_canon, Half.aioIrq_canon, Half.raise_canon]
@[simp] theorem canonNext_aoComplyReturn (h ao readback) : CanonNext tk (execAoComplyReturn h ao readback s) :=
  canonNext_onHalf hs h fun _ _ x hx => by grind [Half.wr_canon, Half.setBit_canon]
@[simp] theorem canonNext_aoOpen (h ao readback) : CanonNext tk (execAoOpen h ao readback s) :=
  canonNext_onHalf hs h fun _ _ x hx => by
    grind [Half.wr_canon, Half.setBit_canon, Half.aioIrq_canon, Half.raise_canon]
@[simp] theorem canonNext_aoSink (h ao) : CanonNext tk (execAoSink h ao s) :=
  canonNext_onHalf hs h fun _ _ x hx => by grind [Half.setBit_canon, Half.aioIrq_canon, Half.raise_canon]

/-! ### Digital inputs and outputs (R340 to R357) -/

@[simp] theorem canonNext_diSample (h levels sunk) : CanonNext tk (execDiSample h levels sunk s) :=
  canonNext_onHalf hs h fun _ _ x hx => by grind [canon_foldl, Half.diCount_canon]
@[simp] theorem canonNext_diFilterChange (h di) : CanonNext tk (execDiFilterChange h di s) :=
  canonNext_onHalf hs h fun _ _ x hx => by grind [Half.diChange_canon]
@[simp] theorem canonNext_diSink (h di) : CanonNext tk (execDiSink h di s) :=
  canonNext_onHalf hs h fun _ _ x hx => by grind [Half.dioIrq_canon, Half.raise_canon]
@[simp] theorem canonNext_doLimit (h ch) : CanonNext tk (execDoLimit h ch s) :=
  canonNext_onHalf hs h fun _ _ x hx => by grind [Half.doCond_canon]
@[simp] theorem canonNext_doOvertemp (h ch) : CanonNext tk (execDoOvertemp h ch s) :=
  canonNext_onHalf hs h fun _ _ x hx => by grind [Half.doCond_canon, Half.doUpdate_canon]
@[simp] theorem canonNext_doOvertempClear (h ch) : CanonNext tk (execDoOvertempClear h ch s) :=
  canonNext_onHalf hs h fun _ _ x hx => by grind [Half.groupFree_canon, Half.setBit_canon, Half.doUpdate_canon]
@[simp] theorem canonNext_doGroup (h group count) : CanonNext tk (execDoGroup h group count s) :=
  canonNext_onHalf hs h fun _ _ x hx => by
    grind [Half.setBit_canon, Half.doUpdate_canon, Half.dioIrq_canon, Half.raise_canon]
@[simp] theorem canonNext_doGroupRestart (h ch) : CanonNext tk (execDoGroupRestart h ch s) :=
  canonNext_onHalf hs h fun _ _ x hx => by grind [Half.groupFree_canon, Half.doUpdate_canon]
@[simp] theorem canonNext_doOpenLoad (h ch) : CanonNext tk (execDoOpenLoad h ch s) :=
  canonNext_onHalf hs h fun _ _ x hx => by grind [Half.doCond_canon]
@[simp] theorem canonNext_doShort24v (h ch) : CanonNext tk (execDoShort24v h ch s) :=
  canonNext_onHalf hs h fun _ _ x hx => by grind [Half.doCond_canon]
@[simp] theorem canonNext_doStuck (h ch) : CanonNext tk (execDoStuck h ch s) :=
  canonNext_onHalf hs h fun _ _ x hx => by grind [Half.doCond_canon]
@[simp] theorem canonNext_fiEdge (h fi rising halfNs) : CanonNext tk (execFiEdge h fi rising halfNs s) :=
  canonNext_onHalf hs h fun _ _ x hx => by
    grind [Half.incSat_canon, Half.setBit_canon, Half.dioIrq_canon, Half.raise_canon, Half.fiStamp_canon]
@[simp] theorem canonNext_fiSpeedUpdate (h fi) : CanonNext tk (execFiSpeedUpdate h fi s) :=
  canonNext_onHalf hs h fun _ _ x hx => by grind [Half.wr_canon]
@[simp] theorem canonNext_fiZero (h fi) : CanonNext tk (execFiZero h fi s) :=
  canonNext_onHalf hs h fun _ _ x hx => by grind [Half.wr_canon, Half.setBit_canon, Half.dioIrq_canon]

/-! ### The control engine (R85 to R114) -/

@[simp] theorem canonNext_chainTrigger (h chain) : CanonNext tk (execChainTrigger h chain s) :=
  canonNext_onHalf hs h fun _ _ x hx => by
    grind [Half.modChain_canon, Half.setBit_canon, Half.incSat_canon, Half.ceIrq_canon, Half.raise_canon,
      Half.ceLevels_canon]
@[simp] theorem canonNext_sampleDispatch (h) : CanonNext tk (execSampleDispatch h s) :=
  canonNext_onHalf hs h fun _ _ x hx => by
    grind [Half.dequeueSample_canon, Half.ceLevels_canon, Half.latchSample_canon]
@[simp] theorem canonNext_chainSampleComplete (h chain) : CanonNext tk (execChainSampleComplete h chain s) :=
  canonNext_onHalf hs h fun _ _ x hx => by grind [Half.completeSample_canon]
@[simp] theorem canonNext_ceTrackSend (h) : CanonNext tk (execCeTrackSend h s) :=
  canonNext_onHalf hs h fun _ _ x hx => by grind [Half.every_canon, Half.sendTrack_canon]
@[simp] theorem canonNext_ceTrack (h hdr chains) : CanonNext tk (execCeTrack h hdr chains s) :=
  canonNext_onHalf hs h fun _ _ x hx => by grind [canon_foldl, Half.spanAccept_canon, Half.takeTrack_canon]
@[simp] theorem canonNext_ceCmdRun (h chain) : CanonNext tk (execCeCmdRun h chain s) :=
  canonNext_onHalf hs h fun _ _ x hx => by grind [Half.ceCmd_canon]
@[simp] theorem canonNext_ceCmdHold (h chain) : CanonNext tk (execCeCmdHold h chain s) :=
  canonNext_onHalf hs h fun _ _ x hx => by grind [Half.ceCmd_canon]
@[simp] theorem canonNext_ceCmdOff (h chain) : CanonNext tk (execCeCmdOff h chain s) :=
  canonNext_onHalf hs h fun _ _ x hx => by grind [Half.ceCmd_canon]
@[simp] theorem canonNext_ceCmdRestart (h chain) : CanonNext tk (execCeCmdRestart h chain s) :=
  canonNext_onHalf hs h fun _ _ x hx => by grind [Half.restartChain_canon, Half.forwardCe_canon]
@[simp] theorem canonNext_ceSwap (h chain bankB bumpless) : CanonNext tk (execCeSwap h chain bankB bumpless s) :=
  canonNext_onHalf hs h fun _ _ x hx => by grind [Half.requestSwap_canon, Half.forwardCe_canon]
@[simp] theorem canonNext_ceLevelMaxRead (h) : CanonNext tk (execCeLevelMaxRead h s) :=
  canonNext_onHalf hs h fun _ _ x hx => by grind [Half.wr_canon]

/-! ### The fault collector (R220 to R245) -/

@[simp] theorem canonNext_faultRaise (h src) : CanonNext tk (execFaultRaise h src s) :=
  canonNext_onHalf hs h fun _ _ _ hx => Half.detect_canon (hk := hx) ..
@[simp] theorem canonNext_sourcePairInvalid (h src) : CanonNext tk (execSourcePairInvalid h src s) :=
  canonNext_onHalf hs h fun _ _ x hx => by grind [Half.setSrc_canon, Half.take_canon]
@[simp] theorem canonNext_reactionWindowExpire (h src) : CanonNext tk (execReactionWindowExpire h src s) :=
  canonNext_onHalf hs h fun _ _ x hx => by grind [Half.fcStatus_canon, Half.take_canon]
@[simp] theorem canonNext_fcPendClear (h i mask) : CanonNext tk (execFcPendClear h i mask s) :=
  canonNext_onHalf hs h fun _ _ x hx => by grind [Half.pendClear_canon]
@[simp] theorem canonNext_heldFaultRelease (h) : CanonNext tk (execHeldFaultRelease h s) :=
  canonNext_onHalf hs h fun _ _ x hx => by grind [Half.releaseHeld_canon]
@[simp] theorem canonNext_classClear (h cls) : CanonNext tk (execClassClear h cls s) :=
  canonNext_onHalf hs h fun _ _ x hx => by grind [canon_foldl, Half.setSrc_canon, Half.fcEntry_canon, Half.irq_canon]
@[simp] theorem canonNext_quietL2Expire (h cls) : CanonNext tk (execQuietL2Expire h cls s) :=
  canonNext_onHalf hs h fun _ _ x hx => by grind [Half.recover_canon]
@[simp] theorem canonNext_fcLatchMark (h) : CanonNext tk (execFcLatchMark h s) :=
  canonNext_onHalf hs h fun _ _ x hx => by grind [Half.raise_canon]
@[simp] theorem canonNext_lockstepMismatch (h pair cause) : CanonNext tk (execLockstepMismatch h pair cause s) :=
  canonNext_onHalf hs h fun _ _ _ hx => Half.mismatch_canon (hk := hx) ..
@[simp] theorem canonNext_flushTimerExpire (h pair) : CanonNext tk (execFlushTimerExpire h pair s) :=
  canonNext_onHalf hs h fun _ _ x hx => by grind [Half.flush_canon]
@[simp] theorem canonNext_flushSup (h) : CanonNext tk (execFlushSup h s) :=
  canonNext_onHalf hs h fun _ _ _ hx => Half.flush_canon (hk := hx) ..
@[simp] theorem canonNext_flushApp (h) : CanonNext tk (execFlushApp h s) :=
  canonNext_onHalf hs h fun _ _ _ hx => Half.flush_canon (hk := hx) ..
@[simp] theorem canonNext_fcInj (h src) : CanonNext tk (execFcInj h src s) :=
  canonNext_onHalf hs h fun _ _ _ hx => Half.inject_canon (hk := hx) ..
@[simp] theorem canonNext_fcEvtPop (h) : CanonNext tk (execFcEvtPop h s) :=
  canonNext_onHalf hs h fun _ _ _ ⟨hr, hj, hq, hrest⟩ =>
    ⟨hr, hj, Nat.le_trans (List.drop_sublist 1 _).length_le hq, hrest⟩
@[simp] theorem canonNext_fcLock (h) : CanonNext tk (execFcLock h s) :=
  canonNext_onHalf hs h fun _ _ x hx => by grind [Half.setBit_canon]
@[simp] theorem canonNext_fcCfgChk (h) : CanonNext tk (execFcCfgChk h s) :=
  canonNext_onHalf hs h fun _ _ _ hx => Half.raiseIf_canon (hk := hx) ..
@[simp] theorem canonNext_fixtureLoss (h) : CanonNext tk (execFixtureLoss h s) :=
  canonNext_onHalf hs h fun _ _ x hx => by
    grind [Half.setBit_canon, Half.enterReset_canon, Half.resetFcConfig_canon, Half.reboot_canon]
@[simp] theorem canonNext_swSupWdg (h) : CanonNext tk (execSwSupWdg h s) :=
  canonNext_onHalf hs h fun _ _ _ hx => Half.raise_canon (hk := hx) ..
@[simp] theorem canonNext_eccError (h mem uncorrectable) : CanonNext tk (execEccError h mem uncorrectable s) :=
  canonNext_onHalf hs h fun _ _ x hx => by grind [Half.raise_canon, Half.countEcc_canon]
@[simp] theorem canonNext_thermalThreshold (h kind) : CanonNext tk (execThermalThreshold h kind s) :=
  canonNext_onHalf hs h fun _ _ x hx => by grind [Half.raise_canon]
@[simp] theorem canonNext_clockMonitorWindow (h dev mainLost safeLost) :
    CanonNext tk (execClockMonitorWindow h dev mainLost safeLost s) :=
  canonNext_onHalf hs h fun _ _ x hx => by grind [Half.setFld_canon, Half.irq_canon, Half.raiseIf_canon]

/-! ### The League (R256 to R270) -/

@[simp] theorem canonNext_leagueHeartbeatSend (h) : CanonNext tk (execLeagueHeartbeatSend h s) :=
  canonNext_onHalf hs h fun _ _ x hx => by grind [Half.every_canon, Half.send_canon]
@[simp] theorem canonNext_leagueHeartbeat (h hb) : CanonNext tk (execLeagueHeartbeat h hb s) :=
  canonNext_onHalf hs h fun _ _ x hx => by grind [Half.hearWorker_canon, Half.sendJoin_canon]
@[simp] theorem canonNext_workerLost (h station) : CanonNext tk (execWorkerLost h station s) :=
  canonNext_onHalf hs h fun _ _ x hx => by grind [Half.modStation_canon, Half.staleStation_canon, Half.send_canon]
@[simp] theorem canonNext_managerLost (h) : CanonNext tk (execManagerLost h s) :=
  canonNext_onHalf hs h fun _ _ x hx => by grind [Half.staleAll_canon]
@[simp] theorem canonNext_exchange (h f) : CanonNext tk (execExchange h f s) :=
  canonNext_onHalf hs h fun _ _ x hx => by grind [Half.takeFragment_canon, Half.applyFrame_canon]
@[simp] theorem canonNext_refresh (h f) : CanonNext tk (execRefresh h f s) :=
  canonNext_onHalf hs h fun _ _ x hx => by grind [Half.takeFragment_canon, Half.refreshed_canon]
@[simp] theorem canonNext_relay (h f) : CanonNext tk (execRelay h f s) :=
  canonNext_onHalf hs h fun _ _ x hx => by grind [Half.takeFragment_canon, Half.relayed_canon]
@[simp] theorem canonNext_join (h j) : CanonNext tk (execJoin h j s) :=
  canonNext_onHalf hs h fun _ _ x hx => by grind [Half.send_canon, Half.logEvt_canon, Half.joinAccept_canon]
@[simp] theorem canonNext_joinReply (h result mismatch epoch) :
    CanonNext tk (execJoinReply h result mismatch epoch s) :=
  canonNext_onHalf hs h fun _ _ x hx => by grind [Half.finishCmd_canon]
@[simp] theorem canonNext_refreshReq (h task) : CanonNext tk (execRefreshReq h task s) :=
  canonNext_onHalf hs h fun _ _ x hx => by grind
@[simp] theorem canonNext_stationState (h station lost) : CanonNext tk (execStationState h station lost s) :=
  canonNext_onHalf hs h fun _ _ x hx => by grind [Half.staleStation_canon]
@[simp] theorem canonNext_fragmentTimeout (h station task) : CanonNext tk (execFragmentTimeout h station task s) :=
  canonNext_onHalf hs h fun _ _ x hx => by grind
@[simp] theorem canonNext_refreshSend (h task) : CanonNext tk (execRefreshSend h task s) :=
  canonNext_onHalf hs h fun _ _ x hx => by grind [Half.refreshNow_canon]
@[simp] theorem canonNext_fullRefreshStart (h) : CanonNext tk (execFullRefreshStart h s) :=
  canonNext_onHalf hs h fun _ _ x hx => by grind
@[simp] theorem canonNext_fullRefreshDeadline (h task) : CanonNext tk (execFullRefreshDeadline h task s) :=
  canonNext_onHalf hs h fun _ _ x hx => by grind [Half.refreshNow_canon]
@[simp] theorem canonNext_storeBatch (h) : CanonNext tk (execStoreBatch h s) :=
  canonNext_onHalf hs h fun _ _ x hx => by grind [Half.batchOut_canon]

/-! ### Roles and the Span link (R183 to R201) -/

@[simp] theorem canonNext_claimInvalid (h) : CanonNext tk (execClaimInvalid h s) :=
  canonNext_onHalf hs h fun _ _ x hx => by grind [Half.setBit_canon, Half.sysIrq_canon]
@[simp] theorem canonNext_claimValid (h) : CanonNext tk (execClaimValid h s) :=
  canonNext_onHalf hs h fun _ _ x hx => by
    refine canon_ite hx ?_
    have hy := Half.showReleased_canon
      { (x.setBit Reg.SYS_STAT 2 true).sysIrq 5 with
        role := { ((x.setBit Reg.SYS_STAT 2 true).sysIrq 5).role with relinq := false, claimAt := x.mono } }
      (Half.sysIrq_canon _ 5 (x.setBit_canon Reg.SYS_STAT 2 true hx))
    grind [Half.endHold_canon, Half.conflict_canon, Half.yieldTakeover_canon, Half.negotiate_canon]
@[simp] theorem canonNext_claimLineEnd (h) : CanonNext tk (execClaimLineEnd h s) := by
  unfold execClaimLineEnd
  exact canonNext_onPair hs h (fun _ _ _ x hx => canon_ite hx hx) fun _ _ _ x hx => canon_ite hx hx
@[simp] theorem canonNext_presenceBreak (h) : CanonNext tk (execPresenceBreak h s) :=
  canonNext_onHalf hs h fun _ _ x hx => canon_ite hx <| canon_noTake <|
    Half.loseClaim_canon _ <| Half.relinquish_canon _ <| canon_ite (x.dropRole_canon hx) hx
@[simp] theorem canonNext_partnerAbsent (h) : CanonNext tk (execPartnerAbsent h s) :=
  canonNext_onHalf hs h fun _ _ x hx => by
    grind [Half.setBit_canon, Half.sysIrq_canon, Half.raise_canon, Half.negotiate_canon]
@[simp] theorem canonNext_partnerPresent (h) : CanonNext tk (execPartnerPresent h s) :=
  canonNext_onHalf hs h fun _ _ x hx => by grind [Half.setBit_canon, Half.sysIrq_canon, Half.showReleased_canon]
/-- A takeover begins where the partner counts as released and its claim is not valid (R186, R187). -/
theorem canonNext_partnerReleased (h : HalfId)
    (ht : (s.half h).releaseHolds = true → (s.half h).partnerClaim = false → tk h) :
    CanonNext tk (execPartnerReleased h s) := by
  have hx := hs h
  have hm := (s.half h).markReleased_canon hx
  refine canonNext_next (hs.mod_half h (canon_ite hx ?_))
  dsimp only
  split
  · exact hx
  next hrel =>
  split
  · exact hm
  next hclaim =>
    simp only [Bool.or_eq_true, Bool.not_eq_true', not_or, Bool.not_eq_true, Bool.not_eq_false] at hrel hclaim
    exact Half.takeOver_canon _ hm (ht hrel.2 hclaim.1)
@[simp] theorem canonNext_takeoverDecision (h) : CanonNext tk (execTakeoverDecision h s) :=
  canonNext_onHalf hs h fun _ _ x hx => by grind [Half.takeCold_canon, Half.takeWarm_canon]
@[simp] theorem canonNext_holdWindowEnd (h) : CanonNext tk (execHoldWindowEnd h s) :=
  canonNext_onHalf hs h fun _ _ x hx => by grind [Half.endHold_canon]
@[simp] theorem canonNext_heartbeatSend (h) : CanonNext tk (execHeartbeatSend h s) :=
  canonNext_onHalf hs h fun _ _ x hx => by grind [Half.every_canon, Half.spanPut_canon]
@[simp] theorem canonNext_heartbeat (h hdr hb) : CanonNext tk (execHeartbeat h hdr hb s) := by
  unfold execHeartbeat
  exact canonNext_onPair hs h (fun _ _ _ x hx => canon_ite (x.hearHeartbeat_canon hdr hb hx) hx)
    fun _ _ _ x hx => canon_ite (x.claimLineOn_canon hx) hx
@[simp] theorem canonNext_heartbeatTimeout (h) : CanonNext tk (execHeartbeatTimeout h s) :=
  canonNext_onHalf hs h fun _ _ x hx => by
    grind [Half.setBit_canon, Half.spanIrq_canon, Half.raiseIf_canon, Half.answerCopy_canon]
@[simp] theorem canonNext_spanLinkLoss (h) : CanonNext tk (execSpanLinkLoss h s) :=
  canonNext_onHalf hs h fun _ _ x hx => by
    grind [Half.setBit_canon, Half.spanIrq_canon, Half.restartRel_canon, Half.clearChan_canon, Half.leaveSource4_canon]
@[simp] theorem canonNext_spanLinkUp (h) : CanonNext tk (execSpanLinkUp h s) :=
  canonNext_onHalf hs h fun _ _ x hx => by grind [Half.setBit_canon, Half.spanIrq_canon, Half.enterSyncing_canon]
@[simp] theorem canonNext_peerArmedTimeout (h) : CanonNext tk (execPeerArmedTimeout h s) :=
  canonNext_onHalf hs h fun _ _ x hx => by grind [Half.setPeerArmed_canon]
@[simp] theorem canonNext_spanFrameDiscard (h) : CanonNext tk (execSpanFrameDiscard h s) :=
  canonNext_onHalf hs h fun _ _ x hx => by grind [Half.spanCount_canon, Half.spanIrq_canon, Half.raise_canon]
@[simp] theorem canonNext_spanRelRetransmit (h item) : CanonNext tk (execSpanRelRetransmit h item s) :=
  canonNext_onHalf hs h fun _ _ x hx => by
    grind [Half.spanCount_canon, Half.spanAgain_canon, Half.spanIrq_canon, Half.itemLost_canon]
@[simp] theorem canonNext_stateDelta (h hdr d) : CanonNext tk (execStateDelta h hdr d s) :=
  canonNext_onHalf hs h fun _ _ x hx => by grind [Half.spanAccept_canon, Half.modCopy_canon]
@[simp] theorem canonNext_cycleEnd (h hdr c) : CanonNext tk (execCycleEnd h hdr c s) :=
  canonNext_onHalf hs h fun _ _ x hx => by
    grind [Half.spanAccept_canon, Half.confirmStore_canon, Half.showArmed_canon, Half.confirm_canon,
      Half.canSleepEdges_canon]
@[simp] theorem canonNext_fullCopyComplete (h) : CanonNext tk (execFullCopyComplete h s) := by
  unfold execFullCopyComplete
  exact canonNext_onPair hs h (fun _ _ _ x hx => by grind [Half.showArmed_canon, Half.confirmTrial_canon])
    fun _ _ _ x hx => hx
@[simp] theorem canonNext_cfgFrame (h hdr item) : CanonNext tk (execCfgFrame h hdr item s) :=
  canonNext_onHalf hs h fun _ _ x hx => by grind [Half.relTake_canon]
@[simp] theorem canonNext_peerMbx (h hdr reply entry) : CanonNext tk (execPeerMbx h hdr reply entry s) := by
  unfold execPeerMbx
  exact canonNext_onPair hs h
    (fun _ _ _ x hx => by grind [Half.relTake_canon, Half.resetPeer_canon, Half.peerError_canon])
    fun _ _ _ x hx => canon_ite (x.resetPeer_canon hx) (x.cqTake_canon _ _ hx)

/-! ### The handover (R205 to R209) -/

@[simp] theorem canonNext_roleOffer (h cause at_) : CanonNext tk (execRoleOffer h cause at_ s) := by
  refine canonNext_next ?_
  split
  · exact hs
  · exact hs.offer h cause at_ none
@[simp] theorem canonNext_roleAccept (h) : CanonNext tk (execRoleAccept h s) := by
  unfold execRoleAccept
  exact canonNext_onPair hs h (fun _ _ _ x hx => by grind [Half.modHo_canon, Half.sendRole_canon])
    fun _ _ _ x hx => by grind [Half.modHo_canon, Half.roleSeen_canon]
@[simp] theorem canonNext_roleRefuse (h) : CanonNext tk (execRoleRefuse h s) := by
  unfold execRoleRefuse
  exact canonNext_onPair hs h (fun _ _ _ x hx => by grind [Half.dropOffer_canon, Half.sendRole_canon])
    fun _ _ _ x hx => by grind [Half.staysActive_canon, Half.roleSeen_canon]
@[simp] theorem canonNext_roleAbort (h) : CanonNext tk (execRoleAbort h s) := by
  unfold execRoleAbort
  exact canonNext_onPair hs h
    (fun _ _ _ x hx => by grind [Half.dropOffer_canon, Half.sendRole_canon, Half.staysActive_canon])
    fun _ _ _ x hx => by grind [Half.staysActive_canon, Half.roleSeen_canon, Half.dropOffer_canon]
@[simp] theorem canonNext_roleRelinquish (h) : CanonNext tk (execRoleRelinquish h s) :=
  canonNext_onHalf hs h fun _ _ x hx => by grind [Half.setBit_canon, Half.spanIrq_canon]
@[simp] theorem canonNext_offerTimeout (h) : CanonNext tk (execOfferTimeout h s) := by
  unfold execOfferTimeout
  exact canonNext_onPair hs h (fun _ _ _ x hx => canon_ite (x.staysActive_canon _ hx) hx)
    fun _ _ _ x hx => canon_ite (x.dropOffer_canon hx) hx
@[simp] theorem canonNext_handoverTimeout (h) : CanonNext tk (execHandoverTimeout h s) := by
  unfold execHandoverTimeout
  exact canonNext_onPair hs h (fun _ _ _ x hx => canon_ite (x.staysActive_canon _ hx) hx)
    fun _ _ _ x hx => canon_ite (x.dropOffer_canon hx) hx
@[simp] theorem canonNext_handoverInstantH (h) : CanonNext tk (execHandoverInstantH h s) := by
  unfold execHandoverInstantH
  refine canonNext_onPair hs h ?_ ?_ <;>
    exact fun _ _ _ x hx => canon_ite (x.outAtH_canon hx) (canon_ite (x.inAtH_canon hx) hx)
@[simp] theorem canonNext_handoverInstantHV (h) : CanonNext tk (execHandoverInstantHV h s) := by
  unfold execHandoverInstantHV
  refine canonNext_onPair hs h ?_ ?_ <;>
    exact fun _ _ _ x hx => by grind [Half.setBit_canon, Half.vdStop_canon, Half.sendTrack_canon, Half.modHo_canon]
@[simp] theorem canonNext_incomingVdStart (h) : CanonNext tk (execIncomingVdStart h s) :=
  canonNext_onHalf hs h fun _ _ x hx => by grind [Half.chainRefs_canon, Half.runField_canon]
@[simp] theorem canonNext_handoverDoRelease (h) : CanonNext tk (execHandoverDoRelease h s) := by
  unfold execHandoverDoRelease
  refine canonNext_onPair hs h ?_ ?_ <;>
    exact fun _ _ _ x hx => by grind [Half.releaseOutputs_canon, Half.modHo_canon]
@[simp] theorem canonNext_roleClaimed (h) : CanonNext tk (execRoleClaimed h s) := by
  unfold execRoleClaimed
  exact canonNext_onPair hs h (fun _ _ _ x hx => by grind [Half.sendRole_canon])
    fun _ _ _ x hx => by grind [Half.finishCmd_canon, Half.roleSeen_canon]
@[simp] theorem canonNext_handoverComplete (h) : CanonNext tk (execHandoverComplete h s) := by
  unfold execHandoverComplete
  refine canonNext_onPair hs h ?_ ?_ <;>
    exact fun _ _ _ x hx => by grind [Half.becomesStandby_canon, Half.releaseHeld_canon, Half.countHandover_canon]
@[simp] theorem canonNext_periodicSwap (h at_) : CanonNext tk (execPeriodicSwap h at_ s) :=
  .ite (canonNext_next hs) <| .ite (canonNext_next (hs.offer h _ at_ _)) <|
    canonNext_onHalf hs h (keepsCanon_nextSwap _)
@[simp] theorem canonNext_swapOverdue (h) : CanonNext tk (execSwapOverdue h s) :=
  canonNext_onHalf hs h fun _ _ _ hx => Half.raiseIf_canon (hk := hx) ..
@[simp] theorem canonNext_releaseButtonHold (h at_) : CanonNext tk (execReleaseButtonHold h at_ s) := by
  have ht : (s.mod h fun x => (x.setBit Reg.SYS_STAT 9 true).sysIrq 6).CanonIn tk :=
    hs.mod h fun _ _ x hx => Half.sysIrq_canon _ _ (x.setBit_canon _ _ _ hx)
  exact .ite (canonNext_next hs) <| .ite (canonNext_next ht) <| .ite (canonNext_next (ht.offer h _ at_ _)) <|
    canonNext_onHalf ht h fun _ _ _ hx => hx
@[simp] theorem canonNext_releaseRecoveryHold (h) : CanonNext tk (execReleaseRecoveryHold h s) :=
  canonNext_onHalf hs h fun _ _ x hx => canon_ite (x.setBit_canon Reg.SYS_STAT 9 true hx) hx

/-! ### Power and resets (R487 to R506) -/

@[simp] theorem canonNext_pd0PowerOn (h slotCode) : CanonNext tk (execPd0PowerOn h slotCode s) :=
  canonNext_next <| hs.mod h fun _ _ x hx => canon_ite (x.powerOn_canon _ _ hx) hx
@[simp] theorem canonNext_pdRailGood (h pd) : CanonNext tk (execPdRailGood h pd s) :=
  canonNext_onHalf hs h fun _ _ x hx => by grind [canon_foldl, Half.setBit_canon, Half.clrReg_canon]
@[simp] theorem canonNext_logicFeedFail (h) : CanonNext tk (execLogicFeedFail h s) :=
  canonNext_onHalf (hs.modStn _) h fun _ _ x hx => by
    grind (ematch := 20) (gen := 20) [Half.setFld_canon, Half.feedSeen_canon, Half.sysIrq_canon, Half.raise_canon]
@[simp] theorem canonNext_powerFailConfirm (h) : CanonNext tk (execPowerFailConfirm h s) :=
  canonNext_onHalf hs h fun _ _ x hx => by
    grind [Half.setBit_canon, Half.sysIrq_canon, Half.discharge_canon, Half.raise_canon]
@[simp] theorem canonNext_logicFeedReturn (h feed) : CanonNext tk (execLogicFeedReturn h feed s) :=
  .ite (canonNext_next hs) <| canonNext_onHalf (hs.modStn _) h fun _ _ x hx => by
    grind [Half.endPowerFail_canon, Half.powerOn_canon, Half.setBit_canon, Half.feedSeen_canon, Half.sysIrq_canon]
@[simp] theorem canonNext_holdupStoreEmpty (h) : CanonNext tk (execHoldupStoreEmpty h s) :=
  canonNext_onHalf hs h fun _ _ x hx => by grind [Half.powerOff_canon]
@[simp] theorem canonNext_pwrHoldup (h energy) : CanonNext tk (execPwrHoldup h energy s) :=
  canonNext_onHalf hs h fun _ _ x hx => by
    grind [Half.setFld_canon, Half.setBit_canon, Half.sysIrq_canon, Half.raiseIf_canon]
@[simp] theorem canonNext_fieldFeedRange (h feed inRange) : CanonNext tk (execFieldFeedRange h feed inRange s) :=
  .ite (canonNext_next hs) <| canonNext_onHalf (hs.modStn _) h fun _ _ x hx => by
    grind [Half.setBit_canon, Half.sysIrq_canon, Half.feedSeen_canon, Half.raiseIf_canon]
@[simp] theorem canonNext_domainRailFault (h pd) : CanonNext tk (execDomainRailFault h pd s) :=
  canonNext_onHalf hs h fun _ _ x hx => by
    grind [Half.setBit_canon, Half.discharge_canon, Half.raise_canon, Half.endHold_canon, Half.resetScruple_canon]
@[simp] theorem canonNext_sysRstDomain (h doms) : CanonNext tk (execSysRstDomain h doms s) :=
  canonNext_onHalf hs h fun _ _ _ hx => Half.resetDoms_canon (hk := hx) ..
@[simp] theorem canonNext_sysRstHalf (h) : CanonNext tk (execSysRstHalf h s) :=
  canonNext_onHalf hs h fun _ _ _ hx => Half.resetHalf_canon (hk := hx) ..
@[simp] theorem canonNext_domainResetEnd (h pd) : CanonNext tk (execDomainResetEnd h pd s) :=
  canonNext_onHalf hs h fun _ _ x hx => by
    grind [canon_foldl, Half.setBit_canon, Half.clrReg_canon, Half.irq_canon, Half.loadRegs_canon]
@[simp] theorem canonNext_spanRelinq (h) : CanonNext tk (execSpanRelinq h s) :=
  canonNext_onHalf hs h fun _ _ x hx => by grind [Half.relinquish_canon]
@[simp] theorem canonNext_fixturePresent (h) : CanonNext tk (execFixturePresent h s) :=
  canonNext_onHalf hs h fun _ _ x hx => by grind [Half.setBit_canon]
@[simp] theorem canonNext_icuClaimRead (h app) : CanonNext tk (execIcuClaimRead h app s) :=
  canonNext_onHalf hs h fun _ _ x hx => by grind [Half.setBit_canon]

/-! ### Boot (R507 to R519) -/

@[simp] theorem canonNext_bootRomStart (h) : CanonNext tk (execBootRomStart h s) :=
  canonNext_onHalf hs h fun _ _ x hx => by grind [Half.bootChoose_canon]
@[simp] theorem canonNext_bootRetry (h) : CanonNext tk (execBootRetry h s) :=
  canonNext_onHalf hs h fun _ _ x hx => by grind [Half.bootChoose_canon]
@[simp] theorem canonNext_bootImageVerified (h sigOk) : CanonNext tk (execBootImageVerified h sigOk s) :=
  canonNext_onHalf hs h fun _ _ x hx => by grind [Half.enterNative_canon, Half.makeKey_canon, Half.startSet_canon]
@[simp] theorem canonNext_nativeImageStart (h sigOk) : CanonNext tk (execNativeImageStart h sigOk s) :=
  canonNext_onHalf hs h fun _ _ x hx => by grind [Half.initImages_canon, Half.imageFails_canon]
@[simp] theorem canonNext_nativeImageReturn (h a0) : CanonNext tk (execNativeImageReturn h a0 s) :=
  canonNext_onHalf hs h fun _ _ x hx => by grind [Half.imageEnds_canon, Half.imageFails_canon]
@[simp] theorem canonNext_nativeImageTimeout (h) : CanonNext tk (execNativeImageTimeout h s) :=
  canonNext_onHalf hs h fun _ _ x hx => by grind [Half.imageEnds_canon, Half.imageFails_canon, Half.resetDoms_canon]
@[simp] theorem canonNext_startupDone (h) : CanonNext tk (execStartupDone h s) :=
  canonNext_onHalf hs h fun _ _ x hx => by grind [Half.initImages_canon, Half.handOver_canon]
@[simp] theorem canonNext_negotiationTimeout (h) : CanonNext tk (execNegotiationTimeout h s) :=
  canonNext_onHalf hs h fun _ _ x hx => by grind [Half.trySync_canon, Half.startLoading_canon]
@[simp] theorem canonNext_applicationLoadDone (h) : CanonNext tk (execApplicationLoadDone h s) :=
  canonNext_onHalf hs h fun _ _ x hx => by grind [Half.trySync_canon, Half.setFld_canon, Half.startStation_canon]

/-! ### The CAN controllers (R405 to R428) -/

@[simp] theorem canonNext_canFrameReceive (h ctl f) : CanonNext tk (execCanFrameReceive h ctl f s) :=
  canonNext_onHalf hs h fun _ _ x hx => by
    have hy := Half.canFall_canon _ ctl false (x.canGood_canon ctl f hx)
    grind [Half.canIdle_canon, Half.canRecord_canon, Half.canTakeFrame_canon]
@[simp] theorem canonNext_canSendDue (h ctl obj) : CanonNext tk (execCanSendDue h ctl obj s) :=
  canonNext_onHalf hs h fun _ _ x hx => by grind [Half.setFull_canon]
@[simp] theorem canonNext_canFrameSent (h ctl obj how) : CanonNext tk (execCanFrameSent h ctl obj how s) :=
  canonNext_onHalf hs h fun _ _ x hx => by
    grind [Half.canIdle_canon, Half.canStore_canon, Half.setFull_canon, Half.send_canon, Half.canCount_canon,
      Half.canIrq_canon, Half.canFall_canon]
@[simp] theorem canonNext_canError (h ctl tec rec) : CanonNext tk (execCanError h ctl tec rec s) :=
  canonNext_onHalf hs h fun _ _ x hx => by
    grind [Half.canNext_canon, Half.setEcr_canon, Half.setErr_canon, Half.canRelease_canon]
@[simp] theorem canonNext_canBusoffRecovered (h ctl) : CanonNext tk (execCanBusoffRecovered h ctl s) :=
  canonNext_onHalf hs h fun _ _ x hx => by grind [Half.setEcr_canon, Half.setErr_canon]
@[simp] theorem canonNext_boRel (h ctl) : CanonNext tk (execBoRel h ctl s) :=
  canonNext_onHalf hs h fun _ _ x hx => by grind [Half.canRelease_canon]
@[simp] theorem canonNext_boDelay (h ctl) : CanonNext tk (execBoDelay h ctl s) :=
  canonNext_onHalf hs h fun _ _ x hx => by grind [Half.modCan_canon, Half.setFld_canon, Half.canRelease_canon]
@[simp] theorem canonNext_canRateCandidateTimeout (h ctl) : CanonNext tk (execCanRateCandidateTimeout h ctl s) :=
  canonNext_onHalf hs h fun _ _ x hx => by grind [Half.canNext_canon]
@[simp] theorem canonNext_canRateNone (h ctl) : CanonNext tk (execCanRateNone h ctl s) :=
  canonNext_onHalf hs h fun _ _ x hx => by grind [Half.modCan_canon, Half.setBit_canon, Half.canIrq_canon]
@[simp] theorem canonNext_canSleep (h ctl) : CanonNext tk (execCanSleep h ctl s) :=
  canonNext_onHalf hs h fun _ _ x hx => by grind [Half.canDrop_canon, Half.modCan_canon, Half.setBit_canon]
@[simp] theorem canonNext_canBusWake (h ctl frame) : CanonNext tk (execCanBusWake h ctl frame s) :=
  canonNext_onHalf hs h fun _ _ x hx => by grind [Half.modCan_canon, Half.setBit_canon, Half.canIrq_canon]
@[simp] theorem canonNext_canRoleChange (h ctl) : CanonNext tk (execCanRoleChange h ctl s) :=
  canonNext_onHalf hs h fun _ _ x hx => by grind [Half.canTakeBus_canon, Half.canLeaveBus_canon, Half.canIdle_canon]
@[simp] theorem canonNext_canXcvr (h ctl) : CanonNext tk (execCanXcvr h ctl s) :=
  canonNext_onHalf hs h fun _ _ x hx => by grind [Half.canIrq_canon, Half.raise_canon]

/-! ### Test generators and trace channels (R129 to R137) -/

@[simp] theorem canonNext_tgStart (h tg) : CanonNext tk (execTgStart h tg s) :=
  canonNext_onHalf hs h fun _ _ x hx => by grind [Half.tgStarted_canon]
@[simp] theorem canonNext_tgStop (h tg) : CanonNext tk (execTgStop h tg s) :=
  canonNext_onHalf hs h fun _ _ x hx => by grind [Half.tgEnd_canon]
@[simp] theorem canonNext_tgRunStart (h tg) : CanonNext tk (execTgRunStart h tg s) :=
  canonNext_onHalf hs h fun _ _ x hx => by grind [Half.setFld_canon, Half.modTg_canon, Half.tcEvent_canon]
@[simp] theorem canonNext_tgDone (h tg) : CanonNext tk (execTgDone h tg s) :=
  canonNext_onHalf hs h fun _ _ x hx => by grind [Half.tgEnd_canon]
@[simp] theorem canonNext_tcArm (h tc) : CanonNext tk (execTcArm h tc s) :=
  canonNext_onHalf hs h fun _ _ x hx => by grind [Half.tcArmed_canon]
@[simp] theorem canonNext_tcTrigger (h tc) : CanonNext tk (execTcTrigger h tc s) :=
  canonNext_onHalf hs h fun _ _ x hx => by grind [Half.tcTrigger_canon]
@[simp] theorem canonNext_tcStop (h tc) : CanonNext tk (execTcStop h tc s) :=
  canonNext_onHalf hs h fun _ _ x hx => by grind [Half.tcStopped_canon]
@[simp] theorem canonNext_tcReset (h tc) : CanonNext tk (execTcReset h tc s) :=
  canonNext_onHalf hs h fun _ _ x hx => by grind [Half.tcIdle_canon]

/-! ### The commands of the control engine (R328 to R335) -/

@[simp] theorem canonNext_ceChainWrite (h ch tag) : CanonNext tk (execCeChainWrite h ch tag s) :=
  canonNext_onHalf hs h fun _ _ x hx => by grind [Half.cmd_canon, Half.reply_canon, Half.chainWrite_canon]
@[simp] theorem canonNext_ceCoefSwap (h ch tag) : CanonNext tk (execCeCoefSwap h ch tag s) :=
  canonNext_onHalf hs h fun _ _ x hx => by
    grind [Half.cmd_canon, Half.reply_canon, Half.requestSwap_canon, Half.forwardCe_canon]
@[simp] theorem canonNext_ceInject (h ch tag) : CanonNext tk (execCeInject h ch tag s) :=
  canonNext_onHalf hs h fun _ _ x hx => by
    grind [Half.cmd_canon, Half.reply_canon, Half.tgSet_canon, Half.tgStarted_canon]
@[simp] theorem canonNext_ceTraceArm (h ch tag) : CanonNext tk (execCeTraceArm h ch tag s) :=
  canonNext_onHalf hs h fun _ _ x hx => by
    grind [Half.cmd_canon, Half.reply_canon, Half.tcSet_canon, Half.tcArmed_canon, Half.tcTrigger_canon,
      Half.tcStopped_canon, Half.tcIdle_canon]
@[simp] theorem canonNext_ceTraceRead (h ch tag) : CanonNext tk (execCeTraceRead h ch tag s) :=
  canonNext_onHalf hs h fun _ _ x hx => by grind [Half.cmd_canon, Half.reply_canon]

/-! ### The configuration commands (R318 to R321) -/

@[simp] theorem canonNext_cfgStage (h ch tag reply) : CanonNext tk (execCfgStage h ch tag reply s) :=
  canonNext_onHalf hs h fun _ _ x hx => by
    grind [Half.reply_canon, Half.cmd_canon, Half.stageHere_canon, Half.keepImage_canon, Half.send_canon,
      Half.modCtx_canon]
@[simp] theorem canonNext_cfgVerify (h ch tag) : CanonNext tk (execCfgVerify h ch tag s) :=
  canonNext_onHalf hs h fun _ _ x hx => by grind [Half.cmd_canon, Half.reply_canon, Half.setCfgSlot_canon]
@[simp] theorem canonNext_cfgCommit (h ch tag) : CanonNext tk (execCfgCommit h ch tag s) :=
  canonNext_onHalf hs h fun _ _ x hx => by
    grind [Half.cmd_canon, Half.reply_canon, Half.setCfgSlot_canon, Half.sendCfg_canon, Half.startSwitch_canon]
@[simp] theorem canonNext_cfgRollback (h ch tag) : CanonNext tk (execCfgRollback h ch tag s) :=
  canonNext_onHalf hs h fun _ _ x hx => by
    grind [Half.cmd_canon, Half.reply_canon, Half.finishCmd_canon, Half.setCfgSlot_canon, Half.sendCfg_canon,
      Half.startSwitch_canon]

/-! ### The commands of recorder, time, display, League and safety (R329 to R339) -/

@[simp] theorem canonNext_timeGet (h ch tag) : CanonNext tk (execTimeGet h ch tag s) :=
  canonNext_onHalf hs h fun _ _ x hx => by grind [Half.cmd_canon, Half.reply_canon]
@[simp] theorem canonNext_timeSource (h ch tag) : CanonNext tk (execTimeSource h ch tag s) :=
  canonNext_onHalf hs h fun _ _ x hx => by
    grind [Half.cmd_canon, Half.reply_canon, Half.selectSource_canon, Half.phaseStep_canon, Half.setBit_canon]
@[simp] theorem canonNext_dispUpdate (h ch tag) : CanonNext tk (execDispUpdate h ch tag s) :=
  canonNext_onHalf hs h fun _ _ x hx => by
    grind [Half.cmd_canon, Half.reply_canon, Half.beginRegion_canon, Half.stagePixels_canon, Half.free_canon]
@[simp] theorem canonNext_dispStatus (h ch tag) : CanonNext tk (execDispStatus h ch tag s) :=
  canonNext_onHalf hs h fun _ _ x hx => by grind [Half.cmd_canon, Half.reply_canon]
@[simp] theorem canonNext_leagueJoin (h ch tag) : CanonNext tk (execLeagueJoin h ch tag s) :=
  canonNext_onHalf hs h fun _ _ x hx => by grind [Half.cmd_canon, Half.reply_canon, Half.sendJoin_canon]
@[simp] theorem canonNext_leagueStatus (h ch tag) : CanonNext tk (execLeagueStatus h ch tag s) :=
  canonNext_onHalf hs h fun _ _ x hx => by grind [Half.cmd_canon, Half.reply_canon]
@[simp] theorem canonNext_safetyStatus (h ch tag) : CanonNext tk (execSafetyStatus h ch tag s) :=
  canonNext_onHalf hs h fun _ _ x hx => by grind [Half.cmd_canon, Half.reply_canon]

/-! ### The tasks (R20 to R46) -/

@[simp] theorem canonNext_taskRelease (h task) : CanonNext tk (execTaskRelease h task s) := by
  unfold execTaskRelease
  refine canonNext_onHalf hs h fun i p x hx => ?_
  have hy (f : TaskSt → TaskSt) (c : Bool) :
      (if c then (x.modTsk task f).startTask task else x.modTsk task f).CanonIn i p :=
    .ite (Half.startTask_canon _ _ (x.modTsk_canon _ f hx)) (x.modTsk_canon _ f hx)
  dsimp only
  split
  · exact hx
  split
  · exact hx
  split
  · exact hx
  split
  · exact hy _ _
  · exact Half.skipRelease_canon _ _ (hy _ _)
  · exact Half.skipRelease_canon _ _ (hy _ _)
  · exact Half.skipRelease_canon _ _ (hy _ _)
  · exact Half.modTsk_canon _ _ _ (Half.release_canon _ _ _ (hy _ _))
@[simp] theorem canonNext_minimumSeparationEnd (h task) : CanonNext tk (execMinimumSeparationEnd h task s) :=
  canonNext_onHalf hs h fun _ _ x hx => by grind [Half.modTsk_canon, Half.activateTask_canon]
@[simp] theorem canonNext_eventTaskDeadline (h task) : CanonNext tk (execEventTaskDeadline h task s) :=
  canonNext_onHalf hs h fun _ _ x hx => by grind [Half.overrun_canon]
@[simp] theorem canonNext_swTaskHang (h task) : CanonNext tk (execSwTaskHang h task s) :=
  canonNext_onHalf hs h fun _ _ x hx => by grind [Half.raiseIf_canon]
@[simp] theorem canonNext_taskCycleStart (h) : CanonNext tk (execTaskCycleStart h s) :=
  canonNext_onHalf hs h fun _ _ x hx => by grind [Half.startCycle_canon, Half.resume_canon]
@[simp] theorem canonNext_configSwitchTimeout (h task) : CanonNext tk (execConfigSwitchTimeout h task s) :=
  canonNext_onHalf hs h fun _ _ x hx => by grind [Half.activateTask_canon]
@[simp] theorem canonNext_blockBoundary (h) : CanonNext tk (execBlockBoundary h s) := by
  unfold execBlockBoundary
  refine canonNext_onHalf hs h fun i p x hx => ?_
  split
  · exact hx
  split
  · exact hx
  extract_lets y
  have hy : y.CanonIn i p := by grind [Half.execCall_canon, Half.modTsk_canon]
  split
  · exact .ite (Half.startCycle_canon _ _ (Half.flush_canon _ _ (y.modTsk_canon _ _ hy))) hy
  · exact hy
@[simp] theorem canonNext_taskCycleEnd (h) : CanonNext tk (execTaskCycleEnd h s) :=
  canonNext_onHalf hs h fun _ _ x hx => by grind [Half.endCycle_canon]
@[simp] theorem canonNext_outputUpdate (h task) : CanonNext tk (execOutputUpdate h task s) :=
  canonNext_onHalf hs h fun _ _ x hx => by grind [Half.updateOutputs_canon]

/-! ### The object and task commands (R309 to R317) -/

@[simp] theorem canonNext_objRead (h ch tag) : CanonNext tk (execObjRead h ch tag s) :=
  canonNext_onHalf hs h fun _ _ x hx => by grind [Half.cmd_canon, Half.reply_canon]
@[simp] theorem canonNext_objWrite (h ch tag) : CanonNext tk (execObjWrite h ch tag s) :=
  canonNext_onHalf hs h fun _ _ x hx => by grind [Half.cmd_canon, Half.reply_canon, Half.writeObj_canon]
@[simp] theorem canonNext_objReadGroup (h ch tag) : CanonNext tk (execObjReadGroup h ch tag s) :=
  canonNext_onHalf hs h fun _ _ x hx => by grind [Half.cmd_canon, Half.reply_canon]
@[simp] theorem canonNext_objSubscribe (h ch tag) : CanonNext tk (execObjSubscribe h ch tag s) :=
  canonNext_onHalf hs h fun _ _ x hx => Half.cmd_canon (hk := hx) (hbody := fun y c hy => by
    grind [Half.reply_canon, Half.poolStatus_canon]) ..
@[simp] theorem canonNext_objUnsubscribe (h ch tag) : CanonNext tk (execObjUnsubscribe h ch tag s) :=
  canonNext_onHalf hs h fun _ _ x hx => by grind [Half.cmd_canon, Half.reply_canon, Half.poolStatus_canon]
@[simp] theorem canonNext_objForce (h ch tag) : CanonNext tk (execObjForce h ch tag s) :=
  canonNext_onHalf hs h fun _ _ x hx => by grind [Half.cmd_canon, Half.reply_canon, Half.setForce_canon]
@[simp] theorem canonNext_taskState (h ch tag) : CanonNext tk (execTaskState h ch tag s) :=
  canonNext_onHalf hs h fun _ _ x hx => by
    grind [Half.cmd_canon, Half.reply_canon, Half.modTsk_canon, Half.stopIdle_canon]
@[simp] theorem canonNext_taskStats (h ch tag) : CanonNext tk (execTaskStats h ch tag s) :=
  canonNext_onHalf hs h fun _ _ x hx => by grind [Half.cmd_canon, Half.reply_canon, Half.modTsk_canon]
@[simp] theorem canonNext_identify (h ch tag) : CanonNext tk (execIdentify h ch tag s) :=
  canonNext_onHalf hs h fun _ _ x hx => by grind [Half.cmd_canon, Half.reply_canon]
@[simp] theorem canonNext_sessionInfo (h ch tag) : CanonNext tk (execSessionInfo h ch tag s) :=
  canonNext_onHalf hs h fun _ _ x hx => by grind [Half.cmd_canon, Half.reply_canon]
@[simp] theorem canonNext_nop (h ch tag) : CanonNext tk (execNop h ch tag s) :=
  canonNext_next (hs.consumeOn h ch _)
@[simp] theorem canonNext_abort (h ch tag) : CanonNext tk (execAbort h ch tag s) :=
  canonNext_next (hs.consumeOn h ch _)

/-! ### The commands of firmware, roles and faults (R322 to R327) -/

@[simp] theorem canonNext_fwStage (h ch tag sigOk) : CanonNext tk (execFwStage h ch tag sigOk s) :=
  canonNext_onHalf hs h fun _ _ x hx => by grind [Half.cmd_canon, Half.stageFw_canon, Half.forward_canon]
@[simp] theorem canonNext_fwActivate (h ch tag at_) : CanonNext tk (execFwActivate h ch tag at_ s) := by
  have hy (lenOk : Ctx → Bool) : ((s.half h).cmd ch tag 0x41 lenOk service onEither fun y c =>
      if y.named c then (y.activate c at_).1 else y.forward c).CanonIn h (tk h) :=
    Half.cmd_canon (hk := hs h)
      (hbody := fun z c hz => canon_ite (Half.activate_canon hz c at_) (z.forward_canon c hz)) ..
  unfold execFwActivate
  dsimp only
  split
  · exact canonNext_next <| (hs.spread h (hy _)).mod_ite h.other fun _ _ x hx => x.awaitRestart_canon _ _ hx
  · exact canonNext_next (hs.spread h (hy _))
@[simp] theorem canonNext_roleQuery (h ch tag) : CanonNext tk (execRoleQuery h ch tag s) :=
  canonNext_onHalf hs h fun _ _ x hx => by grind [Half.cmd_canon, Half.reply_canon]
@[simp] theorem canonNext_roleSwap (h ch tag at_) : CanonNext tk (execRoleSwap h ch tag at_ s) :=
  canonNext_next <| hs.spread h <|
    Half.cmd_canon (hk := hs h) (hbody := fun z c hz => z.askHandover_canon c _ _ hz) ..
@[simp] theorem canonNext_halfRelease (h ch tag at_) : CanonNext tk (execHalfRelease h ch tag at_ s) :=
  canonNext_next <| hs.spread h <|
    Half.cmd_canon (hk := hs h) (hbody := fun z c hz => z.askHandover_canon c _ _ hz) ..
@[simp] theorem canonNext_faultQuery (h ch tag) : CanonNext tk (execFaultQuery h ch tag s) :=
  canonNext_onHalf hs h fun _ _ x hx => by grind [Half.cmd_canon, Half.reply_canon]
@[simp] theorem canonNext_faultAck (h ch tag) : CanonNext tk (execFaultAck h ch tag s) :=
  canonNext_onHalf hs h fun _ _ x hx => by
    grind [canon_foldl, Half.cmd_canon, Half.clearLatch_canon, Half.reply_canon, Half.leaveLatched_canon,
      Half.setSrc_canon, Half.fcStatus_canon]
@[simp] theorem canonNext_faultInject (h ch tag) : CanonNext tk (execFaultInject h ch tag s) :=
  canonNext_onHalf hs h fun _ _ x hx => by
    grind [Half.cmd_canon, Half.clrReg_canon, Half.setFld_canon, Half.inject_canon, Half.reply_canon]
@[simp] theorem canonNext_recSnapshot (h ch tag) : CanonNext tk (execRecSnapshot h ch tag s) :=
  canonNext_onHalf hs h fun _ _ x hx => by grind [Half.cmd_canon, Half.reply_canon]
@[simp] theorem canonNext_recList (h ch tag) : CanonNext tk (execRecList h ch tag s) :=
  canonNext_onHalf hs h fun _ _ x hx => by grind [Half.cmd_canon, Half.reply_canon]

/-! ### Check values and background work (R446 to R466) -/

@[simp] theorem canonNext_cvJobGo (h slot) : CanonNext tk (execCvJobGo h slot s) :=
  canonNext_onHalf hs h fun _ _ _ hx => Half.cvGo_canon (hk := hx) ..
@[simp] theorem canonNext_cvJobStop (h slot) : CanonNext tk (execCvJobStop h slot s) :=
  canonNext_onHalf hs h fun _ _ _ hx => Half.cvStop_canon (hk := hx) ..
@[simp] theorem canonNext_cvJobDone (h slot data eccBad written) :
    CanonNext tk (execCvJobDone h slot data eccBad written s) :=
  canonNext_onHalf hs h fun _ _ x hx => by grind [Half.cvDone_canon]
@[simp] theorem canonNext_cvJobRepeat (h slot) : CanonNext tk (execCvJobRepeat h slot s) :=
  canonNext_onHalf hs h fun _ _ x hx => by grind [Half.setBit_canon, Half.cvStart_canon]
@[simp] theorem canonNext_bgActivityDue (h act values bad) : CanonNext tk (execBgActivityDue h act values bad s) :=
  canonNext_onHalf hs h fun _ _ x hx => by
    grind [canon_foldl, Half.scanBad_canon, Half.scanRepair_canon, Half.chainBad_canon, Half.paramBad_canon,
      Half.telemetry_canon, Half.nextProof_canon]
@[simp] theorem canonNext_swBgBudget (h act) : CanonNext tk (execSwBgBudget h act s) :=
  canonNext_onHalf hs h fun _ _ x hx => by grind [Half.raise_canon]
@[simp] theorem canonNext_norErase (h block ok) : CanonNext tk (execNorErase h block ok s) :=
  canonNext_onHalf hs h fun _ _ x hx => by grind [Half.norErased_canon]

/-! ### The display (R467 to R486) -/

@[simp] theorem canonNext_dispFrame (h temp) : CanonNext tk (execDispFrame h temp s) :=
  canonNext_onHalf hs h fun _ _ x hx => by
    grind [Half.wr_canon, Half.setFld_canon, Half.every_canon, Half.dspFrame_canon]
@[simp] theorem canonNext_coverDetect (h cover) : CanonNext tk (execCoverDetect h cover s) :=
  canonNext_onHalf hs h fun _ _ x hx => by grind [Half.coverNew_canon]
@[simp] theorem canonNext_coverRemove (h) : CanonNext tk (execCoverRemove h s) :=
  canonNext_onHalf hs h fun _ _ x hx => by grind [Half.discharge_canon, Half.setBit_canon, Half.dspIrq_canon]
@[simp] theorem canonNext_dispNoClaim (h) : CanonNext tk (execDispNoClaim h s) :=
  canonNext_onHalf hs h fun _ _ x hx => by grind [Half.discharge_canon]
@[simp] theorem canonNext_dispDischargeDone (h) : CanonNext tk (execDispDischargeDone h s) :=
  canonNext_onHalf hs h fun _ _ x hx => by grind [Half.setBit_canon]
@[simp] theorem canonNext_dispJournalAckTimeout (h slot) : CanonNext tk (execDispJournalAckTimeout h slot s) :=
  canonNext_onHalf hs h fun _ _ x hx => by grind [Half.modRegion_canon]
@[simp] theorem canonNext_dispStressSend (h) : CanonNext tk (execDispStressSend h s) :=
  canonNext_onHalf hs h fun _ _ x hx => by grind [Half.every_canon, Half.dspCopy_canon]
@[simp] theorem canonNext_dispRailFault (h) : CanonNext tk (execDispRailFault h s) :=
  canonNext_onHalf hs h fun _ _ x hx => by grind [Half.setBit_canon, Half.dspIrq_canon, Half.logEvt_canon]
@[simp] theorem canonNext_dispRailsOn (h) : CanonNext tk (execDispRailsOn h s) :=
  canonNext_onHalf hs h fun _ _ x hx => by grind [Half.setBit_canon]

/-! ### LAN and serial ports (R431 to R445) -/

@[simp] theorem canonNext_lanFrameReceive (h port f) : CanonNext tk (execLanFrameReceive h port f s) :=
  canonNext_onHalf hs h fun _ _ x hx => by grind [Half.incSat_canon, Half.lanGood_canon]
@[simp] theorem canonNext_prpSupervisionSend (h) : CanonNext tk (execPrpSupervisionSend h s) :=
  canonNext_onHalf hs h fun _ _ x hx => by grind [Half.every_canon, Half.send_canon]
@[simp] theorem canonNext_prpNodeForget (h src) : CanonNext tk (execPrpNodeForget h src s) :=
  canonNext_onHalf hs h fun _ _ x hx => by grind [Half.prpShow_canon, Half.netIrq_canon]
@[simp] theorem canonNext_lanLinkChange (h port up) : CanonNext tk (execLanLinkChange h port up s) :=
  canonNext_onHalf hs h fun _ _ x hx => by
    grind [Half.setBit_canon, Half.setFld_canon, Half.netIrq_canon, Half.raiseIf_canon]
@[simp] theorem canonNext_netLanLost (h) : CanonNext tk (execNetLanLost h s) :=
  canonNext_onHalf hs h fun _ _ x hx => by grind [Half.raise_canon]
@[simp] theorem canonNext_insSentenceReceive (h sn) : CanonNext tk (execInsSentenceReceive h sn s) :=
  canonNext_onHalf hs h fun _ _ x hx => by
    grind [Half.incSat_canon, Half.enqueue_canon, Half.netIrq_canon, Half.importSentence_canon]
@[simp] theorem canonNext_sentenceTimeout (h idx) : CanonNext tk (execSentenceTimeout h idx s) :=
  canonNext_onHalf hs h fun _ _ x hx => by grind [canon_foldl, Half.busStale_canon, Half.raise_canon]
@[simp] theorem canonNext_sentenceSendDue (h idx) : CanonNext tk (execSentenceSendDue h idx s) :=
  canonNext_onHalf hs h fun _ _ x hx => by grind [Half.every_canon, Half.sendSentence_canon]
@[simp] theorem canonNext_serFrameReceive (h bus f) : CanonNext tk (execSerFrameReceive h bus f s) :=
  canonNext_onHalf hs h fun _ _ x hx => by
    grind [Half.setBit_canon, Half.serBad_canon, Half.serTaken_canon, Half.importSentence_canon, Half.masterTake_canon,
      Half.slaveTake_canon]
@[simp] theorem canonNext_modbusPollDue (h bus req) : CanonNext tk (execModbusPollDue h bus req s) :=
  canonNext_onHalf hs h fun _ _ x hx => by
    grind [Half.every_canon, Half.pollSend_canon, Half.incSat_canon, Half.modSer_canon]
@[simp] theorem canonNext_modbusResponseTimeout (h bus) : CanonNext tk (execModbusResponseTimeout h bus s) :=
  canonNext_onHalf hs h fun _ _ x hx => by grind [Half.pollNext_canon, Half.pollFail_canon]
@[simp] theorem canonNext_serRoleChange (h bus) : CanonNext tk (execSerRoleChange h bus s) :=
  canonNext_onHalf hs h fun _ _ x hx => by grind [Half.serLeave_canon, Half.serTake_canon]
@[simp] theorem canonNext_authAddressUnblock (h addr) : CanonNext tk (execAuthAddressUnblock h addr s) :=
  canonNext_onHalf hs h fun _ _ x hx => by grind

/-! ### The recorder (R459 to R462) -/

@[simp] theorem canonNext_operatingMinute (h) : CanonNext tk (execOperatingMinute h s) :=
  canonNext_onHalf hs h fun _ _ x hx => by
    grind [Half.setBit_canon, Half.wr_canon, Half.canMinute_canon, Half.recovMinute_canon, Half.sysIrq_canon]
@[simp] theorem canonNext_evrCommitPass (h) : CanonNext tk (execEvrCommitPass h s) :=
  canonNext_onHalf hs h fun _ _ x hx => by
    grind [Half.evrPass_canon, Half.setBit_canon, Half.irq_canon, Half.enterReset_canon, Half.clrReg_canon]

/-! ### The time unit (R381 to R402) -/

@[simp] theorem canonNext_tsSrvGo (h) : CanonNext tk (execTsSrvGo h s) :=
  canonNext_onHalf hs h fun _ _ x hx => by grind [Half.applyOffset_canon]
@[simp] theorem canonNext_tsSrvStep (h) : CanonNext tk (execTsSrvStep h s) :=
  canonNext_onHalf hs h fun _ _ x hx => by grind [Half.applyOffset_canon]
@[simp] theorem canonNext_tsMonoRead (h) : CanonNext tk (execTsMonoRead h s) :=
  canonNext_onHalf hs h fun _ _ x hx => by grind [Half.wr_canon]
@[simp] theorem canonNext_monoWrap (h) : CanonNext tk (execMonoWrap h s) :=
  canonNext_onHalf hs h fun _ _ x hx => by grind [Half.tsIrq_canon]
@[simp] theorem canonNext_stationWrap (h) : CanonNext tk (execStationWrap h s) :=
  canonNext_onHalf hs h fun _ _ x hx => by grind [Half.tsIrq_canon]
@[simp] theorem canonNext_servoHoldover (h) : CanonNext tk (execServoHoldover h s) :=
  canonNext_onHalf hs h fun _ _ x hx => by grind [Half.setServo_canon, Half.servoRate_canon]
@[simp] theorem canonNext_stationTimeSave (h) : CanonNext tk (execStationTimeSave h s) :=
  canonNext_onHalf hs h fun _ _ x hx => by grind [Half.every_canon]
@[simp] theorem canonNext_sync (h port m) : CanonNext tk (execSync h port m s) :=
  canonNext_onHalf hs h fun _ _ x hx => by grind [Half.modPort_canon, Half.takeSync_canon]
@[simp] theorem canonNext_followUp (h port m) : CanonNext tk (execFollowUp h port m s) :=
  canonNext_onHalf hs h fun _ _ x hx => by grind [Half.takeSync_canon]
@[simp] theorem canonNext_delayReq (h port m) : CanonNext tk (execDelayReq h port m s) :=
  canonNext_onHalf hs h fun _ _ x hx => by grind [Half.send_canon]
@[simp] theorem canonNext_delayResp (h port m) : CanonNext tk (execDelayResp h port m s) :=
  canonNext_onHalf hs h fun _ _ x hx => by grind [Half.modPort_canon, Half.portOffset_canon]
@[simp] theorem canonNext_announce (h port m) : CanonNext tk (execAnnounce h port m s) :=
  canonNext_onHalf hs h fun _ _ x hx => by grind [Half.modPort_canon, Half.evalMaster_canon]
@[simp] theorem canonNext_ptpMessageSend (h port kind) : CanonNext tk (execPtpMessageSend h port kind s) :=
  canonNext_onHalf hs h fun _ _ x hx => by grind [Half.modPort_canon, Half.send_canon]
@[simp] theorem canonNext_ptpFrameDeparture (h port kind) : CanonNext tk (execPtpFrameDeparture h port kind s) :=
  canonNext_onHalf hs h fun _ _ x hx => by
    grind [Half.modPort_canon, Half.incSat_canon, Half.tsIrq_canon, Half.send_canon]
@[simp] theorem canonNext_announceReceiptTimeout (h port) : CanonNext tk (execAnnounceReceiptTimeout h port s) :=
  canonNext_onHalf hs h fun _ _ x hx => by grind [Half.modPort_canon, Half.evalMaster_canon]
@[simp] theorem canonNext_ptpPortSyncLoss (h) : CanonNext tk (execPtpPortSyncLoss h s) :=
  canonNext_onHalf hs h fun _ _ x hx => by grind
@[simp] theorem canonNext_abDis (h) : CanonNext tk (execAbDis h s) :=
  canonNext_onHalf hs h fun _ _ x hx => by
    grind [Half.setBit_canon, Half.tsIrq_canon, Half.when_canon, Half.logEvt_canon]
@[simp] theorem canonNext_spanTimeSend (h) : CanonNext tk (execSpanTimeSend h s) :=
  canonNext_onHalf hs h fun _ _ x hx => by grind [Half.every_canon, Half.spanPut_canon]
@[simp] theorem canonNext_spanTimeFrame (h hdr p) : CanonNext tk (execSpanTimeFrame h hdr p s) :=
  canonNext_onHalf hs h fun _ _ x hx => by
    grind [Half.spanAccept_canon, Half.selectSource_canon, Half.adopt_canon, Half.applyOffset_canon,
      Half.phaseStep_canon, Half.setBit_canon]
@[simp] theorem canonNext_edgeCapture (h fifo rising halfNs) :
    CanonNext tk (execEdgeCapture h fifo rising halfNs s) :=
  canonNext_onHalf hs h fun _ _ x hx => by grind [Half.capture_canon, Half.diEdge_canon]
@[simp] theorem canonNext_tsCapPop (h fifo) : CanonNext tk (execTsCapPop h fifo s) :=
  canonNext_onHalf hs h fun _ _ x hx => by
    obtain ⟨hr, hj, hq, hc, hrest⟩ := id hx
    refine canon_ite ⟨hr, hj, hq, CapsOk_put hc fifo ?_, hrest⟩ hx
    exact Nat.le_trans (List.drop_sublist 1 _).length_le (CapsOk_get hc fifo)
@[simp] theorem canonNext_stationSecond (h) : CanonNext tk (execStationSecond h s) :=
  canonNext_onHalf hs h fun _ _ x hx => by grind [Half.tsIrq_canon]

/-! ### The mailboxes (R271 to R303) -/

@[simp] theorem canonNext_commandConsume (h ch) : CanonNext tk (execCommandConsume h ch s) :=
  canonNext_next (hs.consumeOn h ch _)
@[simp] theorem canonNext_completionPost (h ch tag) : CanonNext tk (execCompletionPost h ch tag s) :=
  canonNext_onHalf hs h fun _ _ x hx => by grind [Half.tryPost_canon, Half.postLate_canon]
@[simp] theorem canonNext_notificationPost (h sub) : CanonNext tk (execNotificationPost h sub s) :=
  canonNext_onHalf hs h fun _ _ x hx => by grind [Half.postLast_canon, Half.postItem_canon]
@[simp] theorem canonNext_mbxCh0SqTail (h v) : CanonNext tk (execMbxCh0SqTail h v s) :=
  .ite (canonNext_fault _) <| canonNext_onHalf hs h fun _ _ x hx => by
    grind [Half.protoError_canon, Half.wr_canon, Half.irq_canon]
@[simp] theorem canonNext_mbxCh0CqHead (h v) : CanonNext tk (execMbxCh0CqHead h v s) :=
  .ite (canonNext_fault _) <| canonNext_onHalf hs h fun _ _ x hx => by
    grind [Half.protoError_canon, Half.cqTake_canon]
@[simp] theorem canonNext_mbxChnCtrlReset (h ch) : CanonNext tk (execMbxChnCtrlReset h ch s) :=
  canonNext_endOn hs h fun _ _ x hx => by
    grind [Half.cancelAll_canon, Half.clearChan_canon, Half.setBit_canon, Half.closeCh_canon]
@[simp] theorem canonNext_mbxPoolMaxRead (h) : CanonNext tk (execMbxPoolMaxRead h s) :=
  canonNext_onHalf hs h fun _ _ x hx => by grind [Half.setFld_canon]
@[simp] theorem canonNext_dtlsHandshake (h ch addr cert) : CanonNext tk (execDtlsHandshake h ch addr cert s) :=
  canonNext_onHalf hs h fun _ _ x hx => by
    grind [Half.setBit_canon, Half.usbCount_canon, Half.shake_canon, Half.send_canon]
@[simp] theorem canonNext_dtlsKeyUpdate (h ch) : CanonNext tk (execDtlsKeyUpdate h ch s) :=
  canonNext_onHalf hs h fun _ _ x hx => by grind [Half.send_canon, Half.modChan_canon]
@[simp] theorem canonNext_openSession (h ch gen) : CanonNext tk (execOpenSession h ch gen s) :=
  canonNext_onHalf hs h fun _ _ x hx => by
    grind [Half.when_canon, Half.usbCount_canon, Half.sendTr_canon, Half.modChan_canon, Half.openNew_canon,
      Half.closeCh_canon]
@[simp] theorem canonNext_entries (h ch first es cqHead) : CanonNext tk (execEntries h ch first es cqHead s) :=
  canonNext_onHalf hs h fun _ _ x hx => by grind [Half.takeEntries_canon]
@[simp] theorem canonNext_pointers (h ch _sqTail cqHead) : CanonNext tk (execPointers h ch _sqTail cqHead s) :=
  canonNext_onHalf hs h fun _ _ x hx => by
    grind [Half.when_canon, Half.usbCount_canon, Half.modChan_canon, Half.hostHead_canon]
@[simp] theorem canonNext_closeSession (h ch) : CanonNext tk (execCloseSession h ch s) :=
  canonNext_endOn hs h fun _ _ x hx => by grind [Half.when_canon, Half.usbCount_canon, Half.dropCh_canon]
@[simp] theorem canonNext_completionRetransmit (h ch) : CanonNext tk (execCompletionRetransmit h ch s) :=
  canonNext_onHalf hs h fun _ _ x hx => by grind [Half.sendEntries_canon]
@[simp] theorem canonNext_pointersKeepalive (h ch) : CanonNext tk (execPointersKeepalive h ch s) :=
  canonNext_onHalf hs h fun _ _ x hx => by grind [Half.sendTr_canon]
@[simp] theorem canonNext_sessionTimeout (h ch) : CanonNext tk (execSessionTimeout h ch s) :=
  canonNext_endOn hs h fun _ _ x hx => by grind [Half.dropCh_canon, Half.closeCh_canon]
@[simp] theorem canonNext_usbDisconnect (h) : CanonNext tk (execUsbDisconnect h s) :=
  canonNext_endOn hs h fun _ _ x hx => by grind [Half.setBit_canon, Half.dropCh_canon]
@[simp] theorem canonNext_mp1Message (h addr port bytes) : CanonNext tk (execMp1Message h addr port bytes s) :=
  canonNext_onHalf hs h fun _ _ x hx => by grind [Half.mp1Chan_canon, Half.mp1Take_canon]
@[simp] theorem canonNext_peerCommandTimeout (h ch tag) : CanonNext tk (execPeerCommandTimeout h ch tag s) :=
  canonNext_onHalf hs h fun _ _ x hx => by grind [Half.leavePeer_canon, Half.finish_canon]
@[simp] theorem canonNext_commandTimeout (h ch tag) : CanonNext tk (execCommandTimeout h ch tag s) :=
  canonNext_onHalf hs h fun _ _ x hx => by grind [Half.modCtx_canon, Half.finish_canon]

/-! ### Scruple (R138 to R178) -/

@[simp] theorem canonNext_safetyTaskCycle (h readback masksOk) :
    CanonNext tk (execSafetyTaskCycle h readback masksOk s) := by
  have hseen (shown : Word) : KeepsCanon fun y => y.setShown h shown := fun _ _ y hy => y.setShown_canon h shown hy
  have ht := hs.mod h (f := fun x => if x.safRuns then x.safCycle readback masksOk else x)
    fun _ _ x hx => .ite (x.safCycle_canon _ _ hx) hx
  exact canonNext_next <| (ht.mod .a (hseen _)).mod .b (hseen _)
@[simp] theorem canonNext_safeWdg (h) : CanonNext tk (execSafeWdg h s) :=
  canonNext_onHalf hs h fun _ _ x hx => by grind [Half.modSaf_canon, Half.safRaise_canon]
@[simp] theorem canonNext_sealChange (h word) : CanonNext tk (execSealChange h word s) :=
  canonNext_onHalf (hs.modStn _) h fun _ _ x hx => by
    grind [Half.modSaf_canon, Half.testSeal_canon, Half.icuPend_canon]
@[simp] theorem canonNext_queueTrip (h) : CanonNext tk (execQueueTrip h s) :=
  canonNext_onHalf hs h fun _ _ x hx => by grind [Half.scrTakeIf_canon]
@[simp] theorem canonNext_paramChunk (h) : CanonNext tk (execParamChunk h s) :=
  canonNext_onHalf hs h fun _ _ x hx => by grind [Half.scrTakeIf_canon]
@[simp] theorem canonNext_paramEnd (h) : CanonNext tk (execParamEnd h s) :=
  canonNext_onHalf hs h fun _ _ x hx => by grind [Half.scrTakeIf_canon]
@[simp] theorem canonNext_queueTimeEntry (h) : CanonNext tk (execQueueTimeEntry h s) :=
  canonNext_onHalf hs h fun _ _ x hx => by grind [Half.scrTakeIf_canon]
@[simp] theorem canonNext_proofStart (h) : CanonNext tk (execProofStart h s) :=
  canonNext_onHalf hs h fun _ _ x hx => by grind [Half.scrPlace_canon, Half.scrTakeIf_canon]
@[simp] theorem canonNext_proofTestComplete (h failed) : CanonNext tk (execProofTestComplete h failed s) :=
  canonNext_onHalf hs h fun _ _ x hx => by
    grind [canon_foldl, Half.modSaf_canon, Half.evrEvent_canon, Half.icuPend_canon, Half.safRaise_canon,
      Half.raise_canon]
@[simp] theorem canonNext_siSample (h siA siB srsA srsB) : CanonNext tk (execSiSample h siA siB srsA srsB s) :=
  canonNext_onHalf hs h fun _ _ x hx => by
    grind [canon_foldl, Half.modSaf_canon, Half.siTake_canon, Half.srsTake_canon]
@[simp] theorem canonNext_siFilterChange (h si filterB) : CanonNext tk (execSiFilterChange h si filterB s) :=
  canonNext_onHalf hs h fun _ _ x hx => by
    grind [Half.setFlt_canon, Half.matrix_canon, Half.pairClear_canon, Half.chanClear_canon, Half.notePaths_canon]
@[simp] theorem canonNext_matrixBackstopExpire (h matrixB so) :
    CanonNext tk (execMatrixBackstopExpire h matrixB so s) :=
  canonNext_onHalf hs h fun _ _ x hx => by grind [Half.setBack_canon, Half.setLatch_canon, Half.notePaths_canon]
@[simp] theorem canonNext_pairDiscrepancy (h pair) : CanonNext tk (execPairDiscrepancy h pair s) :=
  canonNext_onHalf hs h fun _ _ x hx => by grind [Half.pairFails_canon]
@[simp] theorem canonNext_tpDarkPulse (h tp rawA rawB) : CanonNext tk (execTpDarkPulse h tp rawA rawB s) :=
  canonNext_onHalf hs h fun _ _ x hx => by grind [canon_foldl, Half.darkPulse_canon]
@[simp] theorem canonNext_tpMasterTakeover (h tp) : CanonNext tk (execTpMasterTakeover h tp s) :=
  .ite (canonNext_next hs) <| canonNext_onHalf (hs.mod h.other fun _ _ x hx => x.modSaf_canon _ hx) h
    fun _ _ x hx => Half.safRaise_canon _ _ (x.modSaf_canon _ hx)
@[simp] theorem canonNext_functionDelayElapsed (h f) : CanonNext tk (execFunctionDelayElapsed h f s) :=
  canonNext_onHalf hs h fun _ _ x hx => by grind [Half.setFn_canon]
@[simp] theorem canonNext_twohandSyncTimeout (h f) : CanonNext tk (execTwohandSyncTimeout h f s) :=
  canonNext_onHalf hs h fun _ _ x hx => by grind [Half.setFn_canon]
@[simp] theorem canonNext_guardAutoReset (h f) : CanonNext tk (execGuardAutoReset h f s) :=
  canonNext_onHalf hs h fun _ _ x hx => by grind [Half.armFn_canon]
@[simp] theorem canonNext_scrupleFiEdge (h fi) : CanonNext tk (execScrupleFiEdge h fi s) :=
  canonNext_onHalf hs h fun _ _ x hx => by grind [canon_foldl, Half.scrFiEdge_canon, Half.overspeed_canon]
@[simp] theorem canonNext_safeFi (h f) : CanonNext tk (execSafeFi h f s) :=
  canonNext_onHalf hs h fun _ _ x hx => by grind [Half.setFn_canon, Half.safRaise_canon]
@[simp] theorem canonNext_soSwitchTest (h so low) : CanonNext tk (execSoSwitchTest h so low s) :=
  canonNext_onHalf hs h fun _ _ x hx => by grind [Half.modSaf_canon]
@[simp] theorem canonNext_soSwitchTestEnd (h so low confirmed) :
    CanonNext tk (execSoSwitchTestEnd h so low confirmed s) :=
  canonNext_onHalf hs h fun _ _ x hx => by grind [Half.modSaf_canon, Half.safRaise_canon]
@[simp] theorem canonNext_xtripAssert (h so) : CanonNext tk (execXtripAssert h so s) :=
  canonNext_onHalf hs h fun _ _ x hx => by grind [Half.modSaf_canon]
@[simp] theorem canonNext_xtripReceive (h) : CanonNext tk (execXtripReceive h s) :=
  canonNext_onHalf hs h fun _ _ x hx => by grind [Half.modSaf_canon]
@[simp] theorem canonNext_safeXtripRx (h) : CanonNext tk (execSafeXtripRx h s) :=
  canonNext_onHalf hs h fun _ _ x hx => by grind [Half.modSaf_canon, Half.safRaise_canon]
@[simp] theorem canonNext_crossTripEnd (h) : CanonNext tk (execCrossTripEnd h s) :=
  canonNext_onHalf hs h fun _ _ x hx => by grind [Half.modSaf_canon]
@[simp] theorem canonNext_xtripWiring (h) : CanonNext tk (execXtripWiring h s) :=
  canonNext_onHalf hs h fun _ _ _ hx => Half.raiseIf_canon (hk := hx) ..
@[simp] theorem canonNext_srsLevelChange (h srs) : CanonNext tk (execSrsLevelChange h srs s) :=
  canonNext_onHalf hs h fun _ _ x hx => by grind [Half.setSrs_canon, Half.resetEvent_canon]
@[simp] theorem canonNext_resetHeld (h srs) : CanonNext tk (execResetHeld h srs s) :=
  canonNext_onHalf hs h fun _ _ x hx => by grind [Half.setSrs_canon]
@[simp] theorem canonNext_srsRecoverEnd (h srs) : CanonNext tk (execSrsRecoverEnd h srs s) :=
  canonNext_onHalf hs h fun _ _ x hx => by grind [Half.setSrs_canon]
@[simp] theorem canonNext_readbackReset (h f) : CanonNext tk (execReadbackReset h f s) :=
  canonNext_onHalf hs h fun _ _ x hx => by grind [Half.armFn_canon]
@[simp] theorem canonNext_proofOverdue (h) : CanonNext tk (execProofOverdue h s) :=
  canonNext_onHalf hs h fun _ _ x hx => by grind [Half.modSaf_canon, Half.raise_canon]
@[simp] theorem canonNext_scrupleResetEnd (h) : CanonNext tk (execScrupleResetEnd h s) := by
  have hmod (f : SafBlk → SafBlk) : KeepsCanon fun x => x.modSaf f := fun _ _ x hx => x.modSaf_canon f hx
  have ht := hs.mod h fun _ _ x hx => x.startScruple_canon s.stn.s1 hx
  cases h with
  | a =>
    exact .ite (canonNext_next hs) <| .ite (canonNext_next ht) <| canonNext_next <|
      (ht.mod .a (hmod _)).mod .b (hmod _)
  | b => exact .ite (canonNext_next hs) <| canonNext_next <| ht.mod .b (hmod _)

/-! ### The valve drives (R116 to R128) -/

@[simp] theorem canonNext_vdThresholdCross (h vd i) : CanonNext tk (execVdThresholdCross h vd i s) :=
  canonNext_onHalf hs h fun _ _ x hx => by grind [Half.vdShow_canon, Half.vdSee_canon, Half.vdCompare_canon]
@[simp] theorem canonNext_vdMinTimeEnd (h vd i) : CanonNext tk (execVdMinTimeEnd h vd i s) :=
  canonNext_onHalf hs h fun _ _ x hx => by grind [Half.vdShow_canon, Half.vdSee_canon, Half.vdDecide_canon]
@[simp] theorem canonNext_vdFfRefresh (h vd i slope) : CanonNext tk (execVdFfRefresh h vd i slope s) :=
  canonNext_onHalf hs h fun _ _ x hx => by grind [Half.every_canon, Half.vdRefresh_canon]
@[simp] theorem canonNext_vdSarConversion (h vd i) : CanonNext tk (execVdSarConversion h vd i s) :=
  canonNext_onHalf hs h fun _ _ x hx => by grind [Half.vdConvert_canon]
@[simp] theorem canonNext_vdOpenLoad (h vd) : CanonNext tk (execVdOpenLoad h vd s) :=
  canonNext_onHalf hs h fun _ _ x hx => by grind [Half.vdTracked_canon, Half.modVd_canon, Half.vdCond_canon]
@[simp] theorem canonNext_vdOpenLoadRetry (h vd) : CanonNext tk (execVdOpenLoadRetry h vd s) :=
  canonNext_onHalf hs h fun _ _ x hx => by grind [Half.modVd_canon, Half.vdDecide_canon]
@[simp] theorem canonNext_vdShort (h vd) : CanonNext tk (execVdShort h vd s) :=
  canonNext_onHalf hs h fun _ _ x hx => by grind [Half.setBit_canon, Half.vdCond_canon]
@[simp] theorem canonNext_vdShortRetry (h vd) : CanonNext tk (execVdShortRetry h vd s) :=
  canonNext_onHalf hs h fun _ _ x hx => by grind [Half.setBit_canon, Half.modVd_canon, Half.vdResume_canon]
@[simp] theorem canonNext_vdOvertemp (h vd) : CanonNext tk (execVdOvertemp h vd s) :=
  canonNext_onHalf hs h fun _ _ x hx => by grind [Half.vdCond_canon]
@[simp] theorem canonNext_vdOvertempClear (h vd) : CanonNext tk (execVdOvertempClear h vd s) :=
  canonNext_onHalf hs h fun _ _ x hx => by grind [Half.setBit_canon, Half.vdResume_canon]
@[simp] theorem canonNext_vdRegErr (h vd) : CanonNext tk (execVdRegErr h vd s) :=
  canonNext_onHalf hs h fun _ _ x hx => by grind [Half.vdCond_canon]

end

/-! ### All commands -/

section
variable {tk : HalfId → Prop} {s : State} (hs : s.CanonIn tk)
include hs

/-- Every command but REGISTER_WRITE keeps the canonical form, where a takeover that begins meets what is asked of it;
by the lemma of its meaning above. -/
theorem canonNext_exec_of_not_write {c : Instr} (hw : ∀ h app a v, c ≠ .registerWrite h app a v)
    (ht : ∀ h, c = .partnerReleased h → (s.half h).releaseHolds = true → (s.half h).partnerClaim = false → tk h) :
    CanonNext tk (exec c s) := by
  cases c
  case registerWrite h app a v => exact absurd rfl (hw h app a v)
  case partnerReleased h => exact canonNext_partnerReleased hs h (ht h rfl)
  all_goals simp only [exec]; simp [hs]

/-! ### Register writes -/

/-- A step of a register write to half h keeps the canonical form: its commands are commands of the table other than
PARTNER_RELEASED. -/
theorem RegisterStep.canonNext {h : HalfId} {f : State → Host.Outcome State Fault Refusal} (hf : RegisterStep h f) :
    CanonNext tk (f s) := by
  cases hf with
  | ring addr v => exact canonNext_onHalf hs h fun _ _ x hx => x.wr_canon addr v hx
  | aperture c addr v => exact canonNext_onHalf hs h fun _ _ x hx => x.apertureWrite_canon c addr v hx
  | store d addr v => exact canonNext_onHalf hs h fun _ _ x hx => x.regStore_canon d addr v hx
  | fault k => exact canonNext_fault k
  | command hc =>
    refine canonNext_exec_of_not_write hs ?_ ?_
    · cases hc <;> nofun
    · cases hc <;> nofun

omit hs in
theorem RegisterSteps.canonNext_runSeq {h : HalfId} {l : List (State → Host.Outcome State Fault Refusal)}
    (hl : RegisterSteps h l) {s : State} (hs : s.CanonIn tk) : CanonNext tk (runSeq l s) := by
  induction l generalizing s with
  | nil => exact canonNext_next hs
  | cons f fs ih =>
    obtain ⟨hf, hfs⟩ := List.forall_mem_cons.mp hl
    rw [runSeq]
    cases e : f s with
    | next u => exact ih hfs (hf.canonNext hs u e)
    | fault k => exact canonNext_fault k
    | refused r => exact fun _ ht => nomatch ht

/-- Every command keeps the canonical form, where a takeover that begins meets what is asked of it. -/
theorem canonNext_exec {c : Instr}
    (ht : ∀ h, c = .partnerReleased h → (s.half h).releaseHolds = true → (s.half h).partnerClaim = false → tk h) :
    CanonNext tk (exec c s) := by
  by_cases hw : ∃ h app a v, c = .registerWrite h app a v
  · obtain ⟨h, app, a, v, rfl⟩ := hw
    obtain ⟨l, hl, e⟩ := execRegisterWrite_eq_runSeq h app a v s
    show CanonNext tk (execRegisterWrite h app a v s)
    rw [e]
    exact hl.canonNext_runSeq hs
  · exact canonNext_exec_of_not_write hs (fun h app a v e => hw ⟨h, app, a, v, e⟩) ht

end
end Sys2Proof.Machine
end

section
/-! When a takeover begins (R186, R187, R201). -/
namespace Sys2Proof.Machine

/-- TAKEOVER_DECISION changes nothing in a half in which no takeover has begun (R201). -/
theorem execTakeoverDecision_of_no_takeover {s : State} {h : HalfId} (hno : (s.half h).role.takeover = false) :
    execTakeoverDecision h s = .next s := by
  by_cases hp : (s.half h).st = .off
  · exact onHalf_off hp
  · refine (onHalf_next (y := s.half h) rfl hp ?_).trans ?_
    · simp only [hno, Bool.not_false, Bool.true_or, if_true]
    · cases h <;> rfl

/-- Settles O17: of a half in which no takeover has begun, the invariant asks that a takeover begins only by
PARTNER_RELEASED there, with the partner released and its claim not valid; every command keeps it. -/
theorem takeoverOnlyOnRelease : Obligations.TakeoverOnlyOnRelease := by
  refine ⟨fun c s t h hs ht hno hyes => ?_, fun s h hno => execTakeoverDecision_of_no_takeover hno⟩
  have hcanon : s.CanonIn fun i => i = h →
      c = .partnerReleased h ∧ (s.half h).releaseHolds = true ∧ (s.half h).partnerClaim = false := by
    refine hs.canonIn fun i hi he => ?_
    subst he
    exact absurd (hno.symm.trans hi) Bool.noConfusion
  have hnext := canonNext_exec (c := c) hcanon fun i hc hrel hclaim he => by
    subst he
    exact ⟨hc, hrel, hclaim⟩
  exact (hnext t ht).takeover hyes rfl

end Sys2Proof.Machine
end

section
/-! What a command leaves of the other half (R180, R181). -/
namespace Sys2Proof.Machine

theorem keeps_partner_onHalf (s : State) (h : HalfId) (f : Half → Half) :
    Keeps (·.half h.other) s (onHalf s h f) := keeps_next (State.half_mod_other ..)

/-- A row of one half that also changes the baseplate. -/
theorem keeps_partner_onHalf_modStn (s : State) (h : HalfId) (g : Station → Station) (f : Half → Half) :
    Keeps (·.half h.other) s (onHalf (s.modStn g) h f) :=
  keeps_next ((State.half_mod_other ..).trans (State.half_modStn ..))

/-- A row whose change of the partner is none. -/
theorem keeps_partner_onPair (s : State) (h : HalfId) (f : Half → Half → Half) :
    Keeps (·.half h.other) s (onPair s h f fun p _ => p) := by
  refine keeps_next ?_
  rw [State.half_mod_self, State.half_mod_other, Half.live, ite_self]

theorem execFullCopyComplete_keeps_partner (h : HalfId) (s : State) :
    Keeps (·.half h.other) s (execFullCopyComplete h s) := by
  unfold execFullCopyComplete
  exact keeps_partner_onPair ..

/-- A command that does not reach the partner acts by its form on the half that it names. -/
theorem exec_keeps_partner {c : Instr} (hc : c.reachesPartner = false) (s : State) :
    Keeps (·.half c.half.other) s (exec c s) := by
  cases c
  case safetyTaskCycle | tpMasterTakeover | claimLineEnd | heartbeat | peerMbx | roleOffer | roleAccept | roleRefuse |
      roleAbort | roleClaimed | offerTimeout | handoverInstantH | handoverInstantHV | handoverDoRelease |
      handoverComplete | handoverTimeout | periodicSwap | releaseButtonHold | commandConsume | mbxChnCtrlReset |
      closeSession | sessionTimeout | usbDisconnect | nop | abort | fwActivate | roleSwap | halfRelease |
      registerWrite | scrupleResetEnd => nomatch hc
  case fullCopyComplete h => exact execFullCopyComplete_keeps_partner h s
  case sealChange | logicFeedFail => exact keeps_partner_onHalf_modStn ..
  case logicFeedReturn | fieldFeedRange => exact .ite (keeps_next rfl) (keeps_partner_onHalf_modStn ..)
  case mbxCh0SqTail | mbxCh0CqHead => exact .ite (keeps_fault _) (keeps_partner_onHalf ..)
  case pd0PowerOn => exact keeps_next (State.half_mod_other ..)
  all_goals exact keeps_partner_onHalf ..

/-- Settles O20: a command that does not reach the partner acts on the half that it names and the baseplate. -/
theorem partnerUnchanged : Obligations.PartnerUnchanged :=
  fun _ s t hc ht => (exec_keeps_partner hc s).next t ht

end Sys2Proof.Machine
end

section
/-! The rows of chapter 7 in one half: claim, presence, release, takeover and the Span link (R183 to R204). -/
namespace Sys2Proof.Machine

/-- Settles O48: each clause is the branch of its row in which the row acts. -/
theorem claimAndPresenceRowsComplete : Obligations.ClaimAndPresenceRowsComplete := by
  intro s h x hx hp
  have next {f : Half → Half} {y : Half} (hf : f x = y) : onHalf s h f = .next (s.put h y) := onHalf_next hx hp hf
  have hst : (x.st == .off) = false := beq_eq_false_iff_ne.mpr hp
  refine ⟨?claimInvalid, ?claimValid, ?break_, ?breakInRole, ?absent, ?present, ?fixture, ?fixtureLost,
    ?fixtureEndsTest, ?released, ?takeover, ?takeWarm, ?takeCold, ?holdEnd, ?hbTimeout, ?linkLoss, ?linkUp,
    ?armedTimeout, ?relinquishHeard, ?relinquishSent, ?overdue⟩
  case claimInvalid =>
    intro hclaim
    exact next (if_neg (by simp [hst, hclaim]))
  case claimValid =>
    rintro y z hclaim rfl rfl
    exact next (if_neg (by simp [hst, hclaim]))
  case break_ =>
    rintro y hs rfl
    refine next ?_
    rcases hs with hs | hs | hs | hs <;> simp [hs]
  case breakInRole =>
    rintro y hs rfl
    refine next ?_
    rcases hs with hs | hs <;> simp [hs]
  case absent =>
    rintro y hpres rfl
    exact next (if_neg (by simp [hst, hpres]))
  case present =>
    intro hpres
    exact next (if_neg (by simp [hst, hpres]))
  case fixture => exact next (if_neg (by simp [hst]))
  case fixtureLost =>
    intro hmode
    exact next (if_neg hmode)
  case fixtureEndsTest =>
    intro hmode
    exact next (if_pos hmode)
  case released =>
    intro hdom hrel hor
    refine next ((if_neg (by simp [hdom, hrel])).trans (if_pos ?_))
    exact (Bool.or_eq_true _ _).mpr hor
  case takeover =>
    intro hdom hrel hclaim hno
    exact next ((if_neg (by simp [hdom, hrel])).trans (if_neg (by simp [hclaim, hno])))
  case takeWarm =>
    intro htake hsb hcold
    refine next ?_
    simp [htake, hsb, hcold]
  case takeCold =>
    intro n htake hs hcold hclaim hcur
    have hready : (x.st == .standby || x.st == .syncing) = true := by
      simpa only [Bool.or_eq_true, beq_iff_eq] using hs
    refine next ?_
    simp [htake, hready, hcold, hclaim, hcur]
  case holdEnd =>
    intro hwin hover
    exact next (if_pos (by simp [hwin, hover]))
  case hbTimeout =>
    rintro y z hok hlate rfl rfl
    exact next (if_neg (by simp [hok, hlate]))
  case linkLoss =>
    rintro y hup - rfl hy
    refine next ((if_neg (by simp [hup])).trans ?_)
    exact if_neg (by simp [hy])
  case linkUp =>
    rintro y hlink hdown rfl hlost
    refine next ?_
    simp [hlink, hdown, hlost]
  case armedTimeout =>
    intro hlate
    exact next (if_neg (by simp [hst, hlate]))
  case relinquishHeard =>
    intro hlink
    exact next (if_neg (by simp [hlink]))
  case relinquishSent =>
    intro hlink
    exact next (if_pos hlink)
  case overdue =>
    intro hact hlate
    exact next (Half.raiseIf_eq_raise (by simp [hact, hlate]) 69)

end Sys2Proof.Machine
end

section
/-! The frames of the Span link (R192 to R195, R399), each sent or taken by the one half that the row names. -/
namespace Sys2Proof.Machine

/-- Settles O49: each clause is the branch of its row in which the row acts. -/
theorem spanFrameRowsComplete : Obligations.SpanFrameRowsComplete := by
  intro s h x hx hp
  have next {f : Half → Half} {y : Half} (hf : f x = y) : onHalf s h f = .next (s.put h y) := onHalf_next hx hp hf
  refine ⟨?sent, ?discarded, ?repeated, ?givenUp, ?delta, ?storeEnd, ?cycleEnd, ?cfgItem, ?timeSent, ?timeTaken⟩
  case sent =>
    rintro y hlink hdue rfl
    exact next ((if_neg (by simp [hlink])).trans (Half.every_of_due hdue _))
  case discarded =>
    intro hlink
    exact next (if_pos hlink)
  case repeated =>
    rintro item u y hfind hlink hlate htries rfl
    refine next ?_
    simp [hfind, hlink, hlate, htries]
  case givenUp =>
    intro item u hfind hlink hlate htries
    refine next ?_
    simp [hfind, hlink, hlate, Nat.not_lt.mpr htries]
  case delta =>
    rintro hdr d y hlink rfl hfollows hregion
    have hnot : ¬ (d.region == 3) = true := by
      intro heq
      rw [eq_of_beq heq] at hregion
      exact absurd hregion (by decide)
    refine next ((if_neg (by simp [hlink])).trans ((if_neg (by simp [hfollows])).trans ?_))
    exact (if_neg hnot).trans (if_pos hregion)
  case storeEnd =>
    rintro hdr c y hlink rfl hfollows htask
    refine next ?_
    simp [hlink, hfollows, htask]
  case cycleEnd =>
    rintro hdr c y hlink rfl hfollows htask
    refine next ((if_neg (by simp [hlink])).trans ((if_neg (by simp [hfollows])).trans (if_neg ?_)))
    exact fun heq => htask (eq_of_beq heq)
  case cfgItem =>
    intro hdr item hlink
    exact next (if_pos hlink)
  case timeSent =>
    intro hs hdue
    refine next ((if_neg ?_).trans (Half.every_of_due hdue _))
    rcases hs with hs | hs <;> simp [hs]
  case timeTaken =>
    rintro hdr p y z hlink rfl hsync hset rfl hst hclear
    refine next ?_
    simp only [hlink, Bool.not_true, Bool.false_eq_true, if_true, if_false]
    refine (if_neg (by simp [hsync])).trans (if_pos ?_)
    rw [decide_eq_true hst, hclear]
    rfl

end Sys2Proof.Machine
end

section
/-! The rows of the handover (R188, R193, R205 to R209), each of which acts on both halves. -/
namespace Sys2Proof.Machine

/-! ### A row of both halves -/

/-- A half put in place of a changed one. -/
theorem State.put_mod (s : State) (h : HalfId) (f : Half → Half) (y : Half) : (s.mod h f).put h y = s.put h y := by
  cases h <;> rfl

/-- The partner's half put back as it is. -/
theorem State.put_put_other {s : State} {h : HalfId} {p : Half} (hs : s.half h.other = p) (y : Half) :
    (s.put h y).put h.other p = s.put h y := by
  subst hs
  cases h <;> rfl

section
variable {s : State} {h : HalfId} {x p : Half} (hx : s.half h = x) (hq : s.half h.other = p)
include hx hq

/-- A row of both powered halves, each changed to the half that its meaning gives. -/
theorem onPair_next (hp : x.st ≠ .off) (hpq : p.st ≠ .off) {f g : Half → Half → Half} {y q : Half} (hf : f x p = y)
    (hg : g p x = q) : onPair s h f g = .next ((s.put h y).put h.other q) := by
  subst hx hq hf hg
  have hother := State.half_mod_other s h (Half.live fun _ => f (s.half h) (s.half h.other))
  rw [onPair, State.put, State.put]
  refine congrArg _ ((State.mod_congr ?_).trans (congrArg (State.mod · h.other _) (State.mod_congr ?_)))
  · rw [hother]
    exact if_neg (by simp [hpq])
  · exact if_neg (by simp [hp])

/-- An offer that may be made reaches the partner with the item number of its frame (R205). -/
theorem State.offer_of_mayOffer (hmay : x.mayOffer = true) (cause : Cause) (at_ : DWord) (cmd : Option (Nat × Nat)) :
    s.offer h cause at_ cmd = (s.put h (x.offers (x.newOffer cause at_) cmd)).put h.other
      (p.offered (x.newOffer cause at_) x.span.nextItem) := by
  subst hx hq
  rw [State.offer, if_pos hmay]
  cases h <;> rfl

end

/-! ### The handover that a half holds -/

section
variable {x : Half} {k : Handover} (hk : x.role.ho = some k)
include hk

theorem Half.pendingHo_of_ho {o : Bool} (ho : k.outgoing = o) (hs : k.stage = 0) : x.pendingHo o = some k := by
  simp [Half.pendingHo, hk, ho, hs]

theorem Half.atStage_of_ho {o : Bool} {n : Nat} (ho : k.outgoing = o) (hs : k.stage = n) : x.atStage o n = true := by
  simp [Half.atStage, hk, ho, hs]

end

/-- Settles O50: each clause is the branch of its row in which the row acts, in both halves. -/
theorem handoverRowsComplete : Obligations.HandoverRowsComplete := by
  intro s h x p hx hq hp hpq
  have pair {f g : Half → Half → Half} {y q : Half} (hf : f x p = y) (hg : g p x = q) :
      onPair s h f g = .next ((s.put h y).put h.other q) := onPair_next hx hq hp hpq hf hg
  refine ⟨?heartbeat, ?copied, ?forwarded, ?offered, ?accepted, ?refused, ?aborted, ?claimed, ?offerTimesOut, ?atH,
    ?atHV, ?vdStart, ?doRelease, ?completed, ?timesOut, ?periodic, ?button, ?claimLineEnds⟩
  case heartbeat =>
    intro hdr hb hlink
    rw [exec, execHeartbeat]
    exact pair (if_pos hlink) (by simp [hlink])
  case copied =>
    rintro y hsync hno hready rfl
    rw [exec, execFullCopyComplete]
    rw [← State.put_put_other hq]
    exact pair (if_neg (by simp [hsync, hno, hready])) rfl
  case forwarded =>
    rintro hdr reply entry y hlink rfl hok
    rw [exec, execPeerMbx]
    exact pair (by simp [hlink, hok]) (by simp [hlink, hok])
  case offered =>
    intro cause at_ hline hmay
    rw [exec, execRoleOffer]
    refine congrArg _ ?_
    rw [hx, if_neg (by simp [hline])]
    exact State.offer_of_mayOffer hx hq hmay cause at_ none
  case accepted =>
    intro k hsb hk hout hstage hnot hno hhears
    rw [exec, execRoleAccept]
    have hpend := Half.pendingHo_of_ho hk hout hstage
    exact pair (if_pos (by simp [hsb, hpend, hnot, hno])) (if_pos (by simp [hsb, hpend, hnot, hno, hhears]))
  case refused =>
    intro k hk hout hstage hnot hrefuses hhears
    rw [exec, execRoleRefuse]
    have hpend := Half.pendingHo_of_ho hk hout hstage
    exact pair (if_pos (by simp [hpend, hnot, hrefuses])) (if_pos (by simp [hpend, hnot, hrefuses, hhears]))
  case aborted =>
    intro k hk hstage hhears
    rw [exec, execRoleAbort]
    exact pair (if_pos (by simp [hk, hstage])) (if_pos (by simp [hk, hstage, hhears]))
  case claimed =>
    rintro k y hact hk hout hstage hpst hhears rfl
    rw [exec, execRoleClaimed]
    have hst := Half.atStage_of_ho hk hout hstage
    exact pair (if_pos (by simp [hact, hst, hpst])) (if_pos (by simp [hact, hst, hpst, hhears]))
  case offerTimesOut =>
    intro k hk hout hstage hnot hlate
    rw [exec, execOfferTimeout]
    have hpend := Half.pendingHo_of_ho hk hout hstage
    exact pair (if_pos (by simp [hpend, hnot, hlate])) (if_pos (by simp [hpend, hnot, hlate]))
  case atH =>
    intro hready hnot
    rw [exec, execHandoverInstantH]
    exact pair (if_pos hready) ((if_neg (by simp [hnot])).trans (if_pos hready))
  case atHV =>
    intro hst hreached hpnot hpst
    rw [exec, execHandoverInstantHV]
    exact pair (if_pos (by simp [hst, hreached]))
      ((if_neg (by simp [hpnot])).trans (if_pos (by simp [hst, hreached, hpst])))
  case vdStart =>
    intro hact hst hreached
    exact onHalf_next hx hp (if_pos (by simp [hact, hst, hreached]))
  case doRelease =>
    intro hst hreached hpnot hpst
    rw [exec, execHandoverDoRelease]
    exact pair (if_pos (by simp [hst, hreached]))
      ((if_neg (by simp [hpnot])).trans (if_pos (by simp [hst, hreached, hpst])))
  case completed =>
    intro k m hk hout hstage hreached hm hin hmstage hpact
    rw [exec, execHandoverComplete]
    have hst := Half.atStage_of_ho hk hout hstage
    have hpst := Half.atStage_of_ho hm hin hmstage
    have hpnot : p.atStage true 3 = false := by simp [Half.atStage, hm, hin]
    exact pair (by simp [hst, hreached, hpst, hpact, hk]) (by simp [hst, hreached, hpst, hpact, hm, hpnot])
  case timesOut =>
    intro hlate
    rw [exec, execHandoverTimeout]
    exact pair (if_pos hlate) (if_pos hlate)
  case periodic =>
    intro at_ hact hnone hreached hline hpend hmay
    rw [exec, execPeriodicSwap]
    rw [hx]
    refine (if_neg (by simp [hact, hnone, hreached])).trans ((if_pos (by simp [hmay, hline, hpend])).trans ?_)
    exact congrArg _ (State.offer_of_mayOffer hx hq hmay _ at_ none)
  case button =>
    intro at_ y hy hact hnone hmay hymay
    have hself : (s.mod h fun x => (x.setBit Reg.SYS_STAT 9 true).sysIrq 6).half h = y := by
      rw [State.half_mod_self, hx, hy]
    have hother : (s.mod h fun x => (x.setBit Reg.SYS_STAT 9 true).sysIrq 6).half h.other = p :=
      (State.half_mod_other ..).trans hq
    rw [exec, execReleaseButtonHold, hx]
    refine (if_neg (by simp [hp])).trans ((if_neg (by simp [hact, hnone])).trans ((if_pos hmay).trans ?_))
    rw [State.offer_of_mayOffer hself hother hymay, State.put_mod]
  case claimLineEnds =>
    intro hclaim hlong
    rw [exec, execClaimLineEnd]
    exact pair (if_pos (by simp [hclaim, hlong])) (if_pos (by simp [hclaim, hlong]))

end Sys2Proof.Machine
end

section
/-! The rows of the fault collector (R214, R220, R226, R231 to R245), each of which acts on the one half that it
names. -/
namespace Sys2Proof.Machine

/-- A detector of a source other than the lockstep pairs and the clock monitor raises it (R222, R228). -/
theorem Half.detect_eq_raise {src : Nat} (h16 : src ≠ 16) (h17 : src ≠ 17) (h18 : src ≠ 18) (h34 : src ≠ 34)
    (x : Half) : x.detect src = x.raise src := by
  unfold Half.detect
  split
  · exact absurd rfl h16
  · exact absurd rfl h17
  · exact absurd rfl h18
  · exact absurd rfl h34
  · rfl

/-- Settles O51: each clause is the branch of its row in which the row acts. -/
theorem faultRowsComplete : Obligations.FaultRowsComplete := by
  intro s h x hx hp
  have next {f : Half → Half} {y : Half} (hf : f x = y) : onHalf s h f = .next (s.put h y) := onHalf_next hx hp hf
  refine ⟨?raised, ?supMismatch, ?appMismatch, ?scrMismatch, ?clockMonitor, ?pairInvalid, ?raisedAgain, ?windowEnds,
    ?pendCleared, ?heldReleased, ?classCleared, ?quietEnds, ?latchMark, ?mismatch, ?flushDue, ?flushSup, ?flushApp,
    ?injected, ?popped, ?locked, ?checkFails, ?watchdog, ?uncorrectable, ?correctable, ?thermal, ?clockWindow⟩
  case raised =>
    intro src h16 h17 h18 h34
    exact next (Half.detect_eq_raise h16 h17 h18 h34 x)
  case supMismatch | appMismatch | scrMismatch | clockMonitor => exact next rfl
  case pairInvalid =>
    rintro src hsrc hne hlevel -
    exact next ((if_neg (by simp [hne, hsrc])).trans (if_neg (Nat.not_le.mpr hlevel)))
  case raisedAgain =>
    rintro src w y hfind hover rfl hlevel hnot hpend
    refine next ?_
    simp [hfind, hover, hlevel, hnot, hpend]
  case windowEnds =>
    rintro src w y hfind hover rfl hor
    refine next ?_
    rcases hor with hlevel | hhandled | hpend
    · simp [hfind, hover, Nat.not_le.mpr hlevel]
    · simp [hfind, hover, hhandled]
    · simp [hfind, hover, hpend]
  case pendCleared =>
    intro i mask hi
    exact next (if_pos hi)
  case heldReleased =>
    intro harmed hlong
    exact next (if_pos (by simp [harmed, hlong]))
  case classCleared =>
    rintro cls srcs rfl hnone hsome hquiet
    exact next (if_neg (by simp only [hnone, hsome, hquiet, Bool.not_true, Bool.or_self, Bool.false_eq_true,
      not_false_eq_true]))
  case quietEnds =>
    rintro cls y hfault hquiet hdone hwin hlong rfl
    exact next (if_neg (by simp only [hfault, bne_self_eq_false, hquiet, hdone, hwin, hlong, Bool.not_true,
      Bool.or_self, Bool.false_eq_true, not_false_eq_true]))
  case latchMark =>
    intro hnative hlatch
    exact next (if_pos (by simp [hnative, hlatch]))
  case mismatch => exact fun _ _ => next rfl
  case flushDue =>
    intro pair hlong
    exact next (if_pos hlong)
  case flushSup | flushApp => exact next rfl
  case injected => exact fun _ => next rfl
  case popped => exact next rfl
  case locked =>
    intro hopen
    exact next (if_neg (by simp [hopen]))
  case checkFails =>
    intro hlocked hdiff
    exact next (Half.raiseIf_eq_raise (by simp [hlocked, hdiff]) 121)
  case watchdog => exact next rfl
  case uncorrectable => exact fun _ => next (if_pos rfl)
  case correctable => exact fun _ => next (if_neg Bool.false_ne_true)
  case thermal => exact fun _ => next rfl
  case clockWindow =>
    rintro dev mainLost safeLost drift y rfl rfl
    exact next rfl

end Sys2Proof.Machine
end

section
/-! The canonical form of the station (R244, R402): it holds at reset, and a step keeps it, be it a command or a tick. -/
namespace Sys2Proof.Machine

/-- The station is sound where both halves are in canonical form and nothing is asked of a takeover. -/
theorem State.sound_iff_canonIn (s : State) : s.Sound ↔ s.CanonIn fun _ => True :=
  ⟨fun hs => hs.canonIn fun _ _ => trivial, fun hs => ⟨hs .a, hs .b⟩⟩

/-- A command that answers a next state keeps the station sound. -/
theorem State.Sound.of_exec {s t : State} {c : Instr} (hs : s.Sound) (ht : exec c s = .next t) : t.Sound :=
  t.sound_iff_canonIn.mpr (canonNext_exec (s.sound_iff_canonIn.mp hs) (fun _ _ _ _ => trivial) t ht)

/-- A tick of every clock of a half keeps its canonical form. -/
theorem Half.Sound.tick {i : HalfId} {x : Half} (hx : x.Sound i) : x.tick.tickSys.tickSaf.Sound i :=
  Half.tickSaf_canon _ (Half.tickSys_canon _ (x.tick_canon hx))

theorem State.Sound.tick {s : State} (hs : s.Sound) : s.tick.Sound := by
  obtain ⟨ha, hb⟩ := hs
  exact ⟨ha.tick, hb.tick⟩

/-- Settles O15: of all registers only SYS_STAT of Half B is listed, with HALF set, and every memory is empty. -/
theorem resetIsSound : Obligations.ResetIsSound := by
  have hcaps : CapsOk [] := fun _ hp => absurd hp List.not_mem_nil
  exact ⟨⟨rfl, rfl, Nat.zero_le _, hcaps, rfl, rfl, fun _ => trivial⟩,
    ⟨by decide, rfl, Nat.zero_le _, hcaps, rfl, rfl, fun _ => trivial⟩⟩

/-- Settles O16: a step is a tick of both halves or the command at the front of the queue. -/
theorem stepKeepsSound : Obligations.StepKeepsSound := by
  intro s t hs ht
  cases hq : s.pending with
  | nil =>
    rw [step, hq] at ht
    exact Host.Outcome.next.inj ht ▸ hs.tick
  | cons c rest =>
    rw [step, hq] at ht
    have hfront : State.Sound { s with pending := rest } := hs
    exact hfront.of_exec ht

end Sys2Proof.Machine
end

section
/-! The event FIFO of the collector (R244). -/
namespace Sys2Proof.Machine

/-- An interrupt request changes the block's status register and the source's register in the controller, no other. -/
theorem Half.rd_irq_other (x : Half) {stat en bit src a : Nat} (hstat : a ≠ stat) (hsrc : a ≠ Reg.ICU_SRC src) :
    (x.irq stat en bit src).rd a = x.rd a := by
  have hset : (x.setBit stat bit true).rd a = x.rd a := x.rd_wr_other hstat _
  unfold Half.irq
  dsimp only
  split
  · exact (Half.rd_wr_other _ hsrc _).trans hset
  · exact hset

/-- A FIFO with room takes the entry at its end. -/
theorem Half.fcEntry_of_room {x : Half} (hroom : x.fc.fifo.length < 64) (w : Word) :
    (x.fcEntry w).fc.fifo = x.fc.fifo ++ [{ w0 := w, time := x.mono, opmin := x.opmin }] := by
  rw [Half.fcEntry]
  dsimp only
  rw [if_pos hroom, Half.when]
  split <;> simp only [Half.irq_fc]

/-- An entry that finds room changes FC_IRQ_STAT and the interrupt controller, and no other register. -/
theorem Half.rd_fcEntry_of_room {x : Half} (hroom : x.fc.fifo.length < 64) (w : Word) {a : Nat}
    (hstat : a ≠ Reg.FC_IRQ_STAT) (h16 : a ≠ Reg.ICU_SRC 16) (h18 : a ≠ Reg.ICU_SRC 18) :
    (x.fcEntry w).rd a = x.rd a := by
  rw [Half.fcEntry]
  dsimp only
  rw [if_pos hroom, Half.when]
  split
  · exact (Half.rd_irq_other _ hstat h18).trans (Half.rd_irq_other _ hstat h16)
  · exact Half.rd_irq_other _ hstat h16

/-- A full FIFO drops the entry: the loss is counted and signalled. -/
theorem Half.fcEntry_of_full {x : Half} (hfull : 64 ≤ x.fc.fifo.length) (w : Word) :
    x.fcEntry w = (x.incSat Reg.FC_EVT_LOST).irq Reg.FC_IRQ_STAT Reg.FC_IRQ_EN 3 19 := by
  rw [Half.fcEntry, if_neg (Nat.not_lt.mpr hfull)]

/-- Settles O26: with room the entry goes to the end and no loss is counted; without, only the count moves. -/
theorem fifoKeepsFirst64 : Obligations.FifoKeepsFirst64 := by
  intro x w hwf
  refine ⟨fun hroom => ⟨Half.fcEntry_of_room hroom w, ?_⟩, fun hfull => ?_⟩
  · exact Half.rd_fcEntry_of_room hroom w (by decide) (by decide) (by decide)
  · rw [Half.fcEntry_of_full hfull w, Half.irq_fc, Half.incSat_fc, Half.rd_irq_other _ (by decide) (by decide)]
    refine ⟨rfl, (Half.rd_wr_self hwf ..).trans ((satAdd_one _).trans ?_)⟩
    by_cases hmax : x.rd Reg.FC_EVT_LOST = 0xFFFFFFFF
    · rw [if_pos hmax, if_neg (not_not_intro hmax), hmax]
    · rw [if_neg hmax, if_pos hmax]

end Sys2Proof.Machine
end

section
/-! A raise at L0 and at L1 (R230, R231): what it leaves of the source bit sets and of the coalescing windows. -/
namespace Sys2Proof.Machine

/-! ### One bit of a register -/

/-- A bit that is set reads as set. -/
theorem putField_one_getLsbD (w : Word) {i : Nat} (hi : i < 32) : (putField w i i 1).getLsbD i = true := by
  have hbit : (BitVec.ofNat 32 (2 ^ i)).getLsbD i = true := by
    rw [BitVec.getLsbD_ofNat, Nat.testBit_two_pow_self, decide_eq_true hi, Bool.and_self]
  have hval : 1 % 2 ^ (i - i + 1) * 2 ^ i = 2 ^ i := by rw [Nat.sub_self, Nat.mod_eq_of_lt (by decide), Nat.one_mul]
  simp only [putField, hval, BitVec.getLsbD_or, hbit, Bool.or_true]

/-- A source's bit that is set reads as set. -/
theorem Half.srcBit_setSrc_self {x : Half} (hx : x.regs.wf = true) (base src : Nat) :
    (x.setSrc base src true).srcBit base src = true := by
  have hrd : (x.setSrc base src true).rd (base + 4 * (src / 32)) =
      putField (x.rd (base + 4 * (src / 32))) (src % 32) (src % 32) 1 := Half.rd_wr_self hx _ _
  rw [Half.srcBit, Half.bit, hrd]
  exact putField_one_getLsbD _ (Nat.mod_lt _ (by decide))

/-- A bit set in one register of the source bit sets leaves the others. -/
theorem Half.srcBit_setSrc_other (x : Half) {base base' src k : Nat} (hne : base' + 4 * (k / 32) ≠ base + 4 * (src / 32))
    (b : Bool) : (x.setSrc base src b).srcBit base' k = x.srcBit base' k := by
  rw [Half.srcBit, Half.srcBit, Half.bit, Half.bit]
  exact congrArg (BitVec.getLsbD · _) (x.rd_wr_other hne _)

/-! ### What leaves the source bit sets and the windows -/

/-- The registers of the five source bit sets, FC_ACTIVE to FC_HELD (R245). -/
abbrev IsSourceSet (a : Nat) : Prop := 0x30010040 ≤ a ∧ a < 0x30010090

theorem not_isSourceSet_icuSrc (src : Nat) : ¬ IsSourceSet (Reg.ICU_SRC src) := by
  simp only [IsSourceSet, Reg.ICU_SRC]
  omega

theorem isSourceSet_fcActive {src : Nat} (hsrc : src < 128) : IsSourceSet (Reg.FC_ACTIVE 0 + 4 * (src / 32)) := by
  simp only [IsSourceSet, Reg.FC_ACTIVE]
  omega

theorem isSourceSet_fcPend {src : Nat} (hsrc : src < 128) : IsSourceSet (Reg.FC_PEND 0 + 4 * (src / 32)) := by
  simp only [IsSourceSet, Reg.FC_PEND]
  omega

/-- y has the source bit sets and the windows of x, and a canonical register file if x has. -/
structure Half.SameSources (x y : Half) : Prop where
  wf : x.regs.wf = true → y.regs.wf = true
  windows : y.fc.windows = x.fc.windows
  rd : ∀ a, IsSourceSet a → y.rd a = x.rd a

/-- A change of neither the register file nor the windows. -/
theorem Half.sameSources_of_eq {x y : Half} (hr : y.regs = x.regs) (hw : y.fc.windows = x.fc.windows) :
    x.SameSources y := ⟨fun hx => hr ▸ hx, hw, fun a _ => congrArg (RegFile.get · a) hr⟩

theorem Half.SameSources.refl (x : Half) : x.SameSources x := Half.sameSources_of_eq rfl rfl

theorem Half.SameSources.trans {x y z : Half} (hxy : x.SameSources y) (hyz : y.SameSources z) : x.SameSources z :=
  ⟨fun hx => hyz.wf (hxy.wf hx), hyz.windows.trans hxy.windows, fun a ha => (hyz.rd a ha).trans (hxy.rd a ha)⟩

theorem Half.SameSources.srcBit {x y : Half} (hxy : x.SameSources y) {base src : Nat}
    (hset : IsSourceSet (base + 4 * (src / 32))) : y.srcBit base src = x.srcBit base src := by
  rw [Half.srcBit, Half.srcBit, Half.bit, Half.bit, hxy.rd _ hset]

/-- A write of any other register. -/
theorem Half.sameSources_wr (x : Half) {a : Nat} (ha : ¬ IsSourceSet a) (v : Word) : x.SameSources (x.wr a v) :=
  ⟨fun hx => Half.wr_wf hx a v, rfl, fun b hb => x.rd_wr_other (show b ≠ a from fun e => ha (e ▸ hb)) v⟩

/-- A bit or field written in any other register. -/
theorem Half.sameSources_setFld (x : Half) {a : Nat} (ha : ¬ IsSourceSet a) (hi lo v : Nat) :
    x.SameSources (x.setFld a hi lo v) := x.sameSources_wr ha _

theorem Half.sameSources_irq (x : Half) {stat : Nat} (hstat : ¬ IsSourceSet stat) (en bit src : Nat) :
    x.SameSources (x.irq stat en bit src) := by
  have hset : x.SameSources (x.setBit stat bit true) := x.sameSources_setFld hstat ..
  unfold Half.irq
  dsimp only
  split
  · exact hset.trans (Half.sameSources_setFld _ (not_isSourceSet_icuSrc src) ..)
  · exact hset

theorem Half.SameSources.ite {x y z : Half} {c : Prop} [Decidable c] (hy : x.SameSources y) (hz : x.SameSources z) :
    x.SameSources (if c then y else z) := iteInduction (motive := x.SameSources) (fun _ => hy) fun _ => hz

theorem Half.sameSources_fcEntry (x : Half) (w : Word) : x.SameSources (x.fcEntry w) := by
  have hstat : ¬ IsSourceSet Reg.FC_IRQ_STAT := by decide
  have hlost : ¬ IsSourceSet Reg.FC_EVT_LOST := by decide
  have hput (q : List FcEvt) : x.SameSources { x with fc := { x.fc with fifo := q } } := Half.sameSources_of_eq rfl rfl
  have hirq (q : List FcEvt) := (hput q).trans (Half.sameSources_irq _ hstat Reg.FC_IRQ_EN 0 16)
  unfold Half.fcEntry
  refine .ite ((hirq _).trans (.ite (Half.sameSources_irq _ hstat ..) (.refl _))) ?_
  exact (x.sameSources_wr hlost _).trans (Half.sameSources_irq _ hstat ..)

theorem Half.sameSources_evrCount (x : Half) (ch : Nat) : x.SameSources (x.evrCount ch) := by
  have hdirty : ¬ IsSourceSet Reg.EVR_DIRTY := by decide
  have hlive (e : EvrBlk) : x.SameSources { x with evr := e } := Half.sameSources_of_eq rfl rfl
  exact .ite ((hlive _).trans (Half.sameSources_setFld _ hdirty ..)) (.refl x)

theorem Half.sameSources_restartQuiet (x : Half) (cls : Nat) : x.SameSources (x.restartQuiet cls) :=
  .ite (Half.sameSources_of_eq rfl rfl) (.refl x)

theorem Half.sameSources_icuPend (x : Half) (src : Nat) : x.SameSources (x.icuPend src) :=
  x.sameSources_setFld (not_isSourceSet_icuSrc src) ..

theorem Half.sameSources_fcStatus (x : Half) : x.SameSources x.fcStatus := by
  have hstat : ¬ IsSourceSet Reg.FC_STAT := by decide
  have hfld (y : Half) (hi lo v : Nat) : y.SameSources (y.setFld Reg.FC_STAT hi lo v) := y.sameSources_setFld hstat ..
  exact (((hfld ..).trans (hfld ..)).trans (hfld ..)).trans (hfld ..)

/-! ### The raise -/

/-- The entry, the count and the quiet period that follow the latches of every raise (R230). -/
theorem Half.sameSources_noted (x : Half) (w : Word) (src cls : Nat) :
    x.SameSources (((x.fcEntry w).evrCount src).restartQuiet cls) :=
  ((x.sameSources_fcEntry w).trans (Half.sameSources_evrCount _ src)).trans (Half.sameSources_restartQuiet _ cls)

/-- The first effects of every raise: the time of the class, ACTIVE, and interrupt 250 of a SAFE-class fault (R179). -/
def Half.activated (x : Half) (src : Nat) : Half :=
  let y : Half := { x with fc := { x.fc with lastRaise := x.fc.lastRaise.put (x.srcClass src) x.mono } }
  let y : Half := y.setSrc (Reg.FC_ACTIVE 0) src true
  if Nat.ble 112 src && Nat.ble src 119 then y.icuPend 250 else y

theorem Half.sameSources_activated (x : Half) (src : Nat) :
    (x.setSrc (Reg.FC_ACTIVE 0) src true).SameSources (x.activated src) := by
  have htime (t : Tab DWord) : (x.setSrc (Reg.FC_ACTIVE 0) src true).SameSources
      (({ x with fc := { x.fc with lastRaise := t } } : Half).setSrc (Reg.FC_ACTIVE 0) src true) :=
    Half.sameSources_of_eq rfl rfl
  exact .ite ((htime _).trans (Half.sameSources_icuPend _ 250)) (htime _)

/-- At L0 nothing but ACTIVE joins the source bit sets, and no window opens. -/
theorem Half.sameSources_takeAt_zero (x : Half) (src : Nat) (esc invalid : Bool) :
    (x.setSrc (Reg.FC_ACTIVE 0) src true).SameSources (x.takeAt src 0 esc false invalid) :=
  ((x.sameSources_activated src).trans (Half.sameSources_noted ..)).trans (Half.sameSources_fcStatus _)

/-- A half with one more window open. -/
def Half.openWindow (x : Half) (w : FcWindow) : Half := { x with fc := { x.fc with windows := x.fc.windows ++ [w] } }

/-- At L1 PEND joins ACTIVE, and a window of the source opens. -/
theorem Half.sameSources_takeAt_one (x : Half) (src : Nat) (esc invalid : Bool) :
    (((x.activated src).setSrc (Reg.FC_PEND 0) src true).openWindow { src := src, level := 1, at_ := x.mono }).SameSources
      (x.takeAt src 1 esc false invalid) := by
  have hstat : ¬ IsSourceSet Reg.FC_IRQ_STAT := by decide
  have hopen {y z : Half} (hyz : y.SameSources z) (w : FcWindow) : (y.openWindow w).SameSources (z.openWindow w) :=
    ⟨hyz.wf, congrArg (· ++ [w]) hyz.windows, hyz.rd⟩
  have hlevel (y : Half) (t : Tab Nat) : y.SameSources { y with fc := { y.fc with level := t } } :=
    Half.sameSources_of_eq rfl rfl
  exact ((hopen ((hlevel _ _).trans (Half.sameSources_noted ..)) _).trans (Half.sameSources_irq _ hstat ..)).trans
    (Half.sameSources_fcStatus _)

/-- The sources of the table are numbered below 128 (R228). -/
theorem isSource_lt {src : Nat} (hsrc : isSource src = true) : src < 128 := by
  have hall : ∀ p ∈ fcSrcTable, p.1 < 128 := by decide
  obtain ⟨p, hp, he⟩ := List.any_eq_true.mp hsrc
  exact eq_of_beq he ▸ hall p hp

/-- A raise that is not stopped has the effects of the level decided for it. -/
theorem Half.take_of_raises {x : Half} {src : Nat} (hsrc : isSource src = true) (hp : x.st ≠ .off)
    (hinhib : x.srcBit (Reg.FC_INHIB 0) src = false) (initial : Nat) (b : Bool) : x.take src initial b =
      x.takeAt src (x.decision src initial).1 (x.decision src initial).2.1 (x.decision src initial).2.2 b :=
  if_neg (by simp [hsrc, hp, hinhib])

/-- Settles O24: the raise leaves every set but FC_ACTIVE, and the windows. -/
theorem raiseAtRecordOnly : Obligations.RaiseAtRecordOnly := by
  intro x src initial b hwf hsrc hp hinhib hlevel hheld
  have hlt := isSource_lt hsrc
  rw [Half.take_of_raises hsrc hp hinhib, hlevel, hheld]
  have hsame := x.sameSources_takeAt_zero src (x.decision src initial).2.1 b
  refine ⟨?active, fun k hk => ?pend, hsame.windows⟩
  case active => exact (hsame.srcBit (isSourceSet_fcActive hlt)).trans (Half.srcBit_setSrc_self hwf ..)
  case pend =>
    have hne : Reg.FC_PEND 0 + 4 * (k / 32) ≠ Reg.FC_ACTIVE 0 + 4 * (src / 32) := by
      simp only [Reg.FC_ACTIVE, Reg.FC_PEND]
      omega
    exact (hsame.srcBit (isSourceSet_fcPend hk)).trans (Half.srcBit_setSrc_other x hne true)

/-- Settles O25: ACTIVE is set first, PEND beside it, and the source's window opens after both. -/
theorem raiseToHandle : Obligations.RaiseToHandle := by
  intro x src initial b hwf hsrc hp hinhib hlevel hheld
  have hlt := isSource_lt hsrc
  rw [Half.take_of_raises hsrc hp hinhib, hlevel, hheld]
  have hact := x.sameSources_activated src
  have hsame := x.sameSources_takeAt_one src (x.decision src initial).2.1 b
  refine ⟨?active, ?pend, hsame.windows.trans (congrArg (· ++ _) hact.windows)⟩
  case active =>
    have hne : Reg.FC_ACTIVE 0 + 4 * (src / 32) ≠ Reg.FC_PEND 0 + 4 * (src / 32) := by
      simp only [Reg.FC_ACTIVE, Reg.FC_PEND]
      omega
    calc _ = ((x.activated src).setSrc (Reg.FC_PEND 0) src true).srcBit (Reg.FC_ACTIVE 0) src :=
          hsame.srcBit (isSourceSet_fcActive hlt)
      _ = (x.activated src).srcBit (Reg.FC_ACTIVE 0) src := Half.srcBit_setSrc_other _ hne true
      _ = (x.setSrc (Reg.FC_ACTIVE 0) src true).srcBit (Reg.FC_ACTIVE 0) src := hact.srcBit (isSourceSet_fcActive hlt)
      _ = true := Half.srcBit_setSrc_self hwf ..
  case pend =>
    have hcanon := hact.wf (Half.wr_wf hwf ..)
    exact (hsame.srcBit (isSourceSet_fcPend hlt)).trans (Half.srcBit_setSrc_self hcanon ..)

end Sys2Proof.Machine
end

section
/-! Writes to the collector's configuration after LOCK (R227). -/
namespace Sys2Proof.Machine

/-- A register written with what it holds leaves a canonical register file as it is. -/
theorem RegFile.put_get {r : RegFile} (hr : r.wf = true) (a : Nat) : r.put a (r.get a) = r := by
  induction r with
  | nil => rw [RegFile.put, RegFile.get, if_pos rfl]
  | cons e t ih =>
    obtain ⟨k, w⟩ := e
    obtain ⟨hw, habove, ht⟩ := (RegFile.wf_cons k w t).mp hr
    by_cases hk : k = a
    · subst hk
      rw [RegFile.get, if_pos rfl, RegFile.put, if_pos rfl, if_neg hw]
    · rw [RegFile.get, if_neg hk, RegFile.put, if_neg hk, ih ht]
      split
      · next hlt =>
        have hlow : a < k := Nat.blt_eq.mp hlt
        rw [if_pos (RegFile.get_above fun e he => Nat.lt_trans hlow (habove e he))]
      · rfl

theorem Half.wr_rd {x : Half} (hx : x.regs.wf = true) (a : Nat) : x.wr a (x.rd a) = x := by
  rw [Half.wr, Half.rd, RegFile.put_get hx]

/-- The part of the collector's window that holds the registers frozen by LOCK, from FC_CLASS_CFG to FC_SRC_CFG (R227,
R245). -/
abbrev InFcConfig (a : Nat) : Prop := 0x30010100 ≤ a ∧ a < 0x30010600

theorem inFcConfig_classCfg {c : Nat} (hc : c < 12) : InFcConfig (Reg.FC_CLASS_CFG c) := by
  simp only [InFcConfig, Reg.FC_CLASS_CFG]
  omega

theorem inFcConfig_srcCfg {k : Nat} (hk : k < 128) : InFcConfig (Reg.FC_SRC_CFG k) := by
  simp only [InFcConfig, Reg.FC_SRC_CFG]
  omega

section
variable {a : Nat} (ha : InFcConfig a)
include ha

/-- No command of the table hangs on a write there. -/
theorem actions_of_inFcConfig (h : HalfId) (v : Word) : actions h a v = none := by
  simp only [actions, Reg.CE_SWAP, Reg.CE_CMD, Reg.FC_EVT_POP, Reg.FC_INJ, Reg.FC_LS_CMD, Reg.MBX_CH_SQ_TAIL,
    Reg.MBX_CH_CQ_HEAD, Reg.TS_SRV_CMD, Reg.SYS_RST, beq_iff_eq, Bool.and_eq_true, Nat.ble_eq, Nat.blt_eq]
  repeat rw [if_neg (by omega)]

theorem sideActions_of_inFcConfig (h : HalfId) (v : Word) : sideActions h a v = [] := by
  simp only [sideActions, Reg.FC_CTRL, Reg.SPAN_CTRL, beq_iff_eq, Bool.and_eq_true, Nat.ble_eq, Nat.blt_eq]
  repeat rw [if_neg (by omega)]

/-- Nothing follows from a new content there. -/
theorem Half.afterWrite_of_inFcConfig (x : Half) (old : Word) : x.afterWrite a old = x := by
  simp only [Half.afterWrite, Reg.SYS_CTRL, Reg.DO_CMD, Reg.DO_DIAG_EN, Reg.TS_CTRL, Reg.SER_CTRL, Reg.DSP_CTRL,
    beq_iff_eq, Bool.and_eq_true, Bool.or_eq_true, Nat.ble_eq, Nat.blt_eq]
  repeat rw [if_neg (by omega)]

theorem mbxRing_of_inFcConfig : mbxRing a = false := by
  have hout : ¬((Nat.ble 0x30024000 a && Nat.blt a 0x30027000 && a % 4 == 0) = true) := by
    simp only [Bool.and_eq_true, Nat.ble_eq]
    omega
  exact Bool.eq_false_iff.mpr hout

theorem canAperture_of_inFcConfig : canAperture a = none := by
  simp only [canAperture, Bool.and_eq_true, Nat.ble_eq, Nat.blt_eq]
  exact if_neg (by omega)

theorem ne_fcCtrl_of_inFcConfig : a ≠ Reg.FC_CTRL := by
  simp only [Reg.FC_CTRL]
  omega

end

/-- The description of FC_CLASS_CFG (R245). -/
def fcClassDesc : RegDesc :=
  { base := Reg.FC_CLASS_CFG 0, n0 := 12, reset := 0x3C0A0064, rw := 0xFFFF7FFF, resv := 0x8000 }

theorem regDesc?_fcClassCfg : ∀ c < 12, regDesc? (Reg.FC_CLASS_CFG c) = some fcClassDesc := by decide

/-- A word written where no bit is RW, W1C or W1S changes nothing (R9). -/
theorem accessWrite_of_readOnly {d : RegDesc} (hrw : d.rw = 0) (hc : d.w1c = 0) (hs : d.w1s = 0) (old v : Word) :
    accessWrite d old v = old := by
  refine BitVec.eq_of_getLsbD_eq fun i hi => ?_
  rw [accessCodesByBit d old v i hi, hrw, hc, hs]
  simp

section
variable {x : Half} (hlock : x.bit Reg.FC_CTRL 0 = true)
include hlock

/-- Under LOCK no bit of a class's configuration is writable. -/
theorem Half.regNow_fcClassCfg_of_locked {c : Nat} (hc : c < 12) (d : RegDesc) :
    x.regNow d (Reg.FC_CLASS_CFG c) = { d with rw := 0 } := by
  have hin : (Nat.ble 0x30010100 (Reg.FC_CLASS_CFG c) && Nat.blt (Reg.FC_CLASS_CFG c) 0x30010130) = true := by
    simp only [Bool.and_eq_true, Nat.ble_eq, Nat.blt_eq, Reg.FC_CLASS_CFG]
    omega
  rw [Half.regNow, if_pos hin, if_pos hlock]

theorem Half.regStore_fcClassCfg_of_locked (hx : x.regs.wf = true) {c : Nat} (hc : c < 12) (v : Word) :
    x.regStore fcClassDesc (Reg.FC_CLASS_CFG c) v = x := by
  have hcfg := inFcConfig_classCfg hc
  have hsrc : ¬(Nat.ble 0x30010400 (Reg.FC_CLASS_CFG c) && Nat.blt (Reg.FC_CLASS_CFG c) 0x30010600) = true := by
    simp only [Bool.and_eq_true, Nat.ble_eq, Nat.blt_eq, Reg.FC_CLASS_CFG]
    omega
  have hctrl : ¬(Reg.FC_CLASS_CFG c == Reg.FC_CTRL) = true := mt eq_of_beq (ne_fcCtrl_of_inFcConfig hcfg)
  rw [Half.regStore, Half.regNow_fcClassCfg_of_locked hlock hc]
  dsimp only
  rw [if_neg hsrc, if_neg hctrl, if_neg (by decide), accessWrite_of_readOnly rfl rfl rfl, Half.wr_rd hx,
    Half.afterWrite_of_inFcConfig hcfg]

theorem Half.regStore_fcSrcCfg_of_locked {k : Nat} (hk : k < 128) (d : RegDesc) (v : Word) :
    x.regStore d (Reg.FC_SRC_CFG k) v = x := by
  have hclass : ¬(Nat.ble 0x30010100 (Reg.FC_SRC_CFG k) && Nat.blt (Reg.FC_SRC_CFG k) 0x30010130) = true := by
    simp only [Bool.and_eq_true, Nat.ble_eq, Nat.blt_eq, Reg.FC_SRC_CFG]
    omega
  have hsrc : (Nat.ble 0x30010400 (Reg.FC_SRC_CFG k) && Nat.blt (Reg.FC_SRC_CFG k) 0x30010600) = true := by
    simp only [Bool.and_eq_true, Nat.ble_eq, Nat.blt_eq, Reg.FC_SRC_CFG]
    omega
  have hnow : x.regNow d (Reg.FC_SRC_CFG k) = { d with rw := 0 } := by
    rw [Half.regNow, if_neg hclass, if_pos (by rw [hsrc, hlock, Bool.and_self])]
  rw [Half.regStore, hnow]
  dsimp only
  rw [if_pos hsrc, if_pos rfl]

end

/-- A half put back as it was. -/
theorem State.put_self (s : State) (h : HalfId) : s.put h (s.half h) = s := by cases h <;> rfl

/-- A write there is lost or stored; where the store leaves the half, the station is as before. -/
theorem execRegisterWrite_fcConfig {s : State} {h : HalfId} {a : Nat} {v : Word} {d : RegDesc} (ha : InFcConfig a)
    (hal : a % 4 = 0) (hd : regDesc? a = some d) (hv : v &&& d.resv = 0)
    (hstore : (s.half h).regStore d a v = s.half h) (app : Bool) : execRegisterWrite h app a v s = .next s := by
  have hw : isRegisterAddress a = true := by
    rw [isRegisterAddress_iff]
    omega
  by_cases hr : WriteReaches (s.half h) app a
  case neg => exact execRegisterWrite_of_not_reaches hw hr
  have hok : writesReserved d a v = false := by
    rw [writesReserved, hv, bne_self_eq_false, beq_false_of_ne (ne_fcCtrl_of_inFcConfig ha), Bool.false_and, Bool.or_self]
  rw [execRegisterWrite_stored hr (mbxRing_of_inFcConfig ha) (canAperture_of_inFcConfig ha) hd hok
    (actions_of_inFcConfig ha h v), sideActions_of_inFcConfig ha h v]
  simp only [runSeq, onHalf_put _ hr.powered, hstore, State.put_self]

/-- Settles O23: under LOCK the store leaves both kinds of register. -/
theorem lockedConfigIgnoresWrites : Obligations.LockedConfigIgnoresWrites := by
  rintro s h app a v d hwf hlock (⟨c, hc, rfl⟩ | ⟨k, hk, rfl⟩) hd hv
  · obtain rfl : fcClassDesc = d := Option.some.inj ((regDesc?_fcClassCfg c hc).symm.trans hd)
    have hal : Reg.FC_CLASS_CFG c % 4 = 0 := by simp only [Reg.FC_CLASS_CFG]; omega
    have hstore := Half.regStore_fcClassCfg_of_locked hlock hwf hc v
    exact execRegisterWrite_fcConfig (inFcConfig_classCfg hc) hal hd hv hstore app
  · have hal : Reg.FC_SRC_CFG k % 4 = 0 := by simp only [Reg.FC_SRC_CFG]; omega
    have hstore := Half.regStore_fcSrcCfg_of_locked hlock hk d v
    exact execRegisterWrite_fcConfig (inFcConfig_srcCfg hk) hal hd hv hstore app

end Sys2Proof.Machine
end

section
/-! The object ids (R246) and the rows of the League (R256 to R270), each of which acts on the one half that it
names. -/
namespace Sys2Proof.Machine

/-- Settles O39: an id is the station's number in base 8192 with the point as its last digit. -/
theorem objectIdsRoundTrip : Obligations.ObjectIdsRoundTrip := by
  intro x p hstation hp
  have hid : x.oidOf p = x.conf.station * 8192 + p := rfl
  have hdigit : p < 8192 := Nat.lt_succ_of_le hp
  rw [hid]
  refine ⟨?bound, ?quotient, ?remainder⟩
  case bound => omega
  case quotient => rw [Nat.add_comm, Nat.add_mul_div_right p _ (by decide), Nat.div_eq_of_lt hdigit, Nat.zero_add]
  case remainder => rw [Nat.mul_add_mod_self_right, Nat.mod_eq_of_lt hdigit]

/-- A station's record changed leaves the half's own role. -/
@[simp] theorem Half.isActive_modStation (x : Half) (st : Nat) (f : StationSt → StationSt) :
    (x.modStation st f).isActive = x.isActive := rfl

/-- Settles O52: each clause is the branch of its row in which the row acts. The event logged where a JOIN is refused as
already joined is the model's choice (assumption 19). -/
theorem leagueRowsComplete : Obligations.LeagueRowsComplete := by
  intro s h x hx hp
  have next {f : Half → Half} {y : Half} (hf : f x = y) : onHalf s h f = .next (s.put h y) := onHalf_next hx hp hf
  refine ⟨?heartbeatSent, ?workerHeard, ?managerHeard, ?managerBack, ?workerLost, ?workerLostUnseen, ?managerLost,
    ?exchanged, ?exchangePart, ?refreshed, ?refreshPart, ?relayed, ?relayPart, ?joined, ?unknownStation,
    ?certOfOther, ?alreadyJoined, ?joinReplied, ?refreshAsked, ?stationLost, ?stationBack, ?fragmentsTimeOut,
    ?refreshSent, ?fullRefreshStarts, ?fullRefreshEnds, ?storeBatch⟩
  case heartbeatSent =>
    intro hst hdue
    refine next ((if_neg ?_).trans (Half.every_of_due hdue _))
    rcases hst with hst | hst | hst <;> simp [hst]
  case workerHeard =>
    intro hb hman hknown
    exact next ((if_pos hman).trans (if_pos hknown))
  case managerHeard | managerBack =>
    intro hb hman hst hlost
    refine next ?_
    simp [hman, hst, hlost]
  case workerLost =>
    rintro st y hman hknown hgone hact rfl
    exact next ((if_neg (by simp [hman, hknown, hgone])).trans (if_pos (by simp [hact])))
  case workerLostUnseen =>
    intro st hman hknown hgone hidle
    exact next ((if_neg (by simp [hman, hknown, hgone])).trans (if_neg (by simp [hidle])))
  case managerLost =>
    intro hman hon hgone
    exact next (if_neg (by simp [hman, hon, hgone]))
  case exchanged | refreshed =>
    intro f recs y hman hact hknown hhdr htake
    refine next ((if_neg (by simp [hman, hact, hknown, hhdr])).trans ?_)
    rw [htake]
  case exchangePart | refreshPart =>
    intro f y hman hact hknown hhdr htake
    refine next ((if_neg (by simp [hman, hact, hknown, hhdr])).trans ?_)
    rw [htake]
  case relayed =>
    intro f recs y hman hact hhdr htake
    refine next ((if_neg (by simp [hman, hact, hhdr])).trans ?_)
    rw [htake]
  case relayPart =>
    intro f y hman hact hhdr htake
    refine next ((if_neg (by simp [hman, hact, hhdr])).trans ?_)
    rw [htake]
  case joined =>
    intro j hman hknown hcert hserial
    refine next ?_
    rcases hserial with hnew | hsame
    · simp [hman, hknown, hcert, hnew]
    · simp [hman, hknown, hcert, hsame]
  case unknownStation =>
    intro j hman hunknown
    exact next ((if_neg (by simp [hman])).trans (if_pos (by simp [hunknown])))
  case certOfOther =>
    intro j hman hknown hcert
    exact next ((if_neg (by simp [hman])).trans ((if_neg (by simp [hknown])).trans (if_pos (by simp [hcert]))))
  case alreadyJoined =>
    intro j c hman hknown hcert hserial hother
    refine next ?_
    simp [hman, hknown, hcert, hserial, hother]
  case joinReplied =>
    rintro res mm ep y hman rfl
    exact next (if_neg (by simp [hman]))
  case refreshAsked =>
    intro t hman hact ht hnot
    have hfresh : t ∉ x.obj.refresh := by simpa using hnot
    exact next (if_neg (by simp [hman, hact, ht, hfresh]))
  case stationLost =>
    intro st hman
    exact next (if_neg (by simp [hman]))
  case stationBack => exact fun _ => next (if_pos (by simp))
  case fragmentsTimeOut => exact fun _ _ => next rfl
  case refreshSent =>
    intro t hact ht
    exact next (if_pos (by simp [hact, ht]))
  case fullRefreshStarts =>
    intro hman hact hjoined hgone
    exact next (if_neg (by simp [hman, hact, hjoined, hgone]))
  case fullRefreshEnds =>
    intro t hact hasked hgone
    have hmem : t ∈ x.obj.fullRefresh := by simpa using hasked
    exact next (if_pos (by simp [hact, hmem, hgone]))
  case storeBatch =>
    intro hman hact hdue
    exact next (if_pos (by simp [hman, hact, hdue]))

end Sys2Proof.Machine
end

section
/-! The mailbox transport (R274 to R301): the check of an entry, the consumption of a submission with the commands NOP and
ABORT, the rows of the channels' carriers, and the end of a session. -/
namespace Sys2Proof.Machine

/-! ### The check of an entry (R280, R282) -/

/-- A sealed entry of the right size passes the two checks of its form; what is left is the check of its sequence. -/
theorem entryErr_sealEntry {seq : Word} {ws : List Word} (hlen : ws.length = 15) :
    entryErr (sealEntry seq ws) seq = if ws.getD 1 0 ≠ seq then some 2 else none := by
  have hsize : (sealEntry seq ws).length = 16 := by rw [sealEntry, List.length_append, hlen, List.length_singleton]
  have hbody : (sealEntry seq ws).take 15 = ws := List.take_left' hlen
  have hseq : (sealEntry seq ws).getD 1 0 = ws.getD 1 0 := by
    rw [List.getD_eq_getElem?_getD, sealEntry, List.getElem?_append_left (by omega), ← List.getD_eq_getElem?_getD]
  have hcheck : (sealEntry seq ws).getD 15 0 = cv0 (foldSeq seq (wordsBytes ws)) := by
    rw [List.getD_eq_getElem?_getD, sealEntry, ← hlen, List.getElem?_concat_length, Option.getD_some]
  simp only [entryErr, hsize, hbody, hseq, hcheck, bne_self_eq_false, Bool.false_eq_true, if_false, bne_iff_ne]

/-- An entry of the right size whose sequence is not the one expected is refused for it (R283). -/
theorem entryErr_of_seq_ne {e : Entry} {seq : Word} (hlen : e.length = 16) (hne : e.getD 1 0 ≠ seq) :
    entryErr e seq = some 2 := by
  rw [entryErr, if_neg (by simp [hlen]), if_pos (bne_iff_ne.mpr hne)]

/-- Settles O35: of the three checks the sequence alone depends on the receiver. The code is the model's for every channel
(assumption 70). -/
theorem sealedEntryAccepted : Obligations.SealedEntryAccepted := by
  intro seq other w ws hlen
  refine ⟨?accepted, ?refused⟩
  case accepted =>
    rw [entryErr_sealEntry (by simp [hlen])]
    exact if_neg (not_not_intro rfl)
  case refused =>
    intro hne
    exact entryErr_of_seq_ne (by simp [sealEntry, hlen]) hne.symm

/-! ### The consumption of a submission (R275 to R287) -/

/-- The state in which half h, once x, is y: where that has stopped the half's own pending handover, the partner drops
the offer (R207, R284). -/
def State.dropIfStopped (t : State) (h : HalfId) (x y : Half) : State :=
  if (x.pendingHo true).isSome && y.role.ho.isNone then t.mod h.other Half.dropOffer else t

section
variable {s : State} {h : HalfId} {x : Half} {ch : Nat} {p : Nat → Bool} (hx : s.half h = x)
  (hserves : x.mbxServes ch = true)
include hx hserves

/-- The command at the head is consumed where the row takes it; channel 7 tells the partner its new head, and a handover
stopped with it makes the partner drop the offer. -/
theorem consumeOn_of_command {es : List Entry} {y : Half} {t : State} (hhead : x.headCmd ch = .ok (some es))
    (htakes : p (getField ((es.headD []).getD 0 0) 13 0) = true) (hy : y = x.consumeCmd ch es)
    (ht : t = if ch = 7 then (s.mod h fun _ => y).mod h.other (fun p => p.peerHead (y.rd (Reg.MBX_CH_SQ_SEQ 7)))
      else s.mod h fun _ => y) :
    consumeOn s h ch p = t.dropIfStopped h x y := by
  subst hx hy ht
  simp only [consumeOn, hserves, hhead, htakes, Bool.not_true, Bool.false_eq_true, if_true, if_false, State.dropIfStopped]

/-- The entries at the head of channels 0 and 2 to 6 make a protocol error. -/
theorem consumeOn_of_error {k : Nat} {y : Half} (hhead : x.headCmd ch = .error k) (hch : ch ≠ 7)
    (hy : y = x.protoError ch k) :
    consumeOn s h ch p = (s.mod h fun _ => y).dropIfStopped h x y := by
  subst hx hy
  simp only [consumeOn, hserves, hhead, hch, Bool.not_true, Bool.false_eq_true, if_false, State.dropIfStopped]

end

/-- The entries at the head of channel 7 make the error that resets it in both halves (R283). -/
theorem consumeOn_of_peerError {s : State} {h : HalfId} {x : Half} {p : Nat → Bool} {k : Nat} (hx : s.half h = x)
    (hserves : x.mbxServes 7 = true) (hhead : x.headCmd 7 = .error k) :
    consumeOn s h 7 p = (s.mod h fun x => (x.peerError k).resetPeer).mod h.other Half.resetPeer := by
  subst hx
  simp only [consumeOn, hserves, hhead, Bool.not_true, Bool.false_eq_true, if_true, if_false]

/-- The opcode and the tag of a command's first word are its last two digits to base 256 (R280). -/
theorem opcodeTag_of_eq {w op tag : Nat} (hop : op < 256) (hw : w = 256 * tag + op) :
    (w % 256 == op && w / 256 == tag) = true := by
  rw [Bool.and_eq_true, beq_iff_eq, beq_iff_eq]
  omega

/-- Settles O10: each clause is one outcome of the check at the head. That NOP and ABORT consume the head themselves is
the model's choice (assumption 8). -/
theorem consumeRowsComplete : Obligations.ConsumeRowsComplete := by
  intro s h x hx _
  refine ⟨?command, ?error, ?peerError, ?nop, ?abort⟩
  case command =>
    intro ch es y t hserves hhead hy ht
    exact congrArg _ (consumeOn_of_command hx hserves hhead rfl hy ht)
  case error =>
    intro ch k y hserves hhead hch hy
    exact congrArg _ (consumeOn_of_error hx hserves hhead hch hy)
  case peerError =>
    intro k hserves hhead
    exact congrArg _ (consumeOn_of_peerError hx hserves hhead)
  case nop | abort =>
    intro ch tag es y t hserves hhead hw hy ht
    exact congrArg _ (consumeOn_of_command hx hserves hhead (opcodeTag_of_eq (by decide) hw) hy ht)

/-! ### The end of a session (R283, R284, R292, R293, R297, R298) -/

/-- A row that ends a session in a powered half answers with the half that its meaning gives; where that stops the half's
own pending handover, the partner drops the offer. -/
theorem endOn_next {s : State} {h : HalfId} {x y : Half} {f : Half → Half} (hx : s.half h = x) (hp : x.st ≠ .off)
    (hf : f x = y) :
    endOn s h f = .next ((s.mod h fun _ => y).dropIfStopped h x y) := by
  subst hx hf
  have hlive : Half.live f (s.half h) = f (s.half h) := if_neg (powered_not_off hp)
  rw [endOn, hlive, State.dropIfStopped]

/-- Only the channels 2 to 6 carry sessions (R272). -/
theorem Half.ne_zero_of_inSession {x : Half} {ch : Nat} (hs : x.inSession ch = true) : ch ≠ 0 := by
  rintro rfl
  exact absurd hs Bool.false_ne_true

/-- Settles O54: each clause is the branch of its row in which a session ends, all by the one rule for the partner. -/
theorem sessionEndRowsComplete : Obligations.SessionEndRowsComplete := by
  intro s h x hx hp
  have ends {f : Half → Half} {y : Half} (hf : f x = y) :
      endOn s h f = .next ((s.mod h fun _ => y).dropIfStopped h x y) := endOn_next hx hp hf
  refine ⟨?zeroReset, ?sessionReset, ?closed, ?mp1TimesOut, ?timesOut, ?unplugged, ?unpluggedInSession⟩
  case zeroReset =>
    rintro y hon rfl
    exact ends ((if_neg (by simp [hon])).trans (if_pos rfl))
  case sessionReset =>
    rintro ch y hon hs rfl
    exact ends ((if_neg (by simp [hon])).trans ((if_neg (Half.ne_zero_of_inSession hs)).trans (if_pos hs)))
  case closed =>
    rintro ch y hs hmp1 rfl
    exact ends (if_pos (by simp [hs, hmp1]))
  case mp1TimesOut =>
    rintro ch y hs hmp1 hsilent rfl
    exact ends ((if_neg (by simp [hs, hmp1, hsilent])).trans (if_pos hmp1))
  case timesOut =>
    rintro ch y hs hmp1 hsilent rfl
    exact ends ((if_neg (by simp [hs, hmp1, hsilent])).trans (if_neg (by simp [hmp1])))
  case unplugged =>
    rintro y hon rfl hidle
    exact ends ((if_neg (by simp [hon])).trans (if_neg (by simp [hidle])))
  case unpluggedInSession =>
    rintro z y hon rfl hs rfl
    exact ends ((if_neg (by simp [hon])).trans (if_pos hs))

/-! ### The rows of the carriers (R274 to R301) -/

/-- Settles O53: each clause is the branch of its row in which the row acts. Three of its readings are the model's choice:
a handshake on channel 6 shows the USB port attached and configured (assumption 72), link loss is SPAN_STAT.UP clear, and
completions are sent again after 20 ms (assumption 97). -/
theorem mailboxCarrierRowsComplete : Obligations.MailboxCarrierRowsComplete := by
  intro s h x hx hp
  have next {f : Half → Half} {y : Half} (hf : f x = y) : onHalf s h f = .next (s.put h y) := onHalf_next hx hp hf
  refine ⟨?completion, ?lastNotification, ?notification, ?doorbell, ?tailOutOfRange, ?taken, ?headOutOfRange,
    ?poolMaxRead, ?portHandshake, ?netHandshake, ?keyUpdate, ?opened, ?generationRefused, ?entriesTaken,
    ?pointersTaken, ?resent, ?keptAlive, ?mp1Request, ?mp1Disabled, ?peerLost, ?restartLate, ?stagingLate⟩
  case completion =>
    intro ch tag hch htag hon
    exact next (if_pos (by simp [hch, htag, hon]))
  case lastNotification =>
    intro sub b hfind hended hroom
    refine next ?_
    simp [hfind, hended, hroom]
  case notification =>
    intro sub b i k hfind hended hdue hroom
    refine next ?_
    simp [hfind, hended, hdue, hroom]
  case doorbell =>
    intro v hv hon hroom
    exact (if_neg (Nat.not_le.mpr hv)).trans
      (next ((if_neg (by simp [hon])).trans (if_neg (by simpa using hroom))))
  case tailOutOfRange =>
    intro v hv hon hover
    exact (if_neg (Nat.not_le.mpr hv)).trans
      (next ((if_neg (by simp [hon])).trans (if_pos (by simpa using hover))))
  case taken =>
    intro v hv hon hroom
    exact (if_neg (Nat.not_le.mpr hv)).trans
      (next ((if_neg (by simp [hon])).trans (if_neg (by simpa using hroom))))
  case headOutOfRange =>
    intro v hv hon hover
    exact (if_neg (Nat.not_le.mpr hv)).trans
      (next ((if_neg (by simp [hon])).trans (if_pos (by simpa using hover))))
  case poolMaxRead =>
    intro hon
    exact next (if_neg (by simp [hon]))
  case portHandshake =>
    rintro addr cert y hans rfl hidle
    exact next ((if_neg (by simp [hans])).trans ((if_pos rfl).trans (if_neg (by simp [hidle]))))
  case netHandshake =>
    rintro ch addr cert recent c y hans hch hblocked rfl hfew hfree rfl hkey hcert
    have hport : ¬(ch == some 6) = true := mt eq_of_beq hch
    refine next ((if_neg (by simp [hans])).trans ((if_neg hport).trans ?_))
    refine (if_neg (Bool.eq_false_iff.mp hblocked)).trans ((if_neg (Nat.not_le.mpr hfew)).trans ?_)
    simp only [hfree]
    exact if_neg (by simp [Option.isSome_iff_ne_none.mp hkey, hcert])
  case keyUpdate =>
    intro ch hs hmp1 hdue
    refine next (if_pos ?_)
    rcases hdue with hmany | hlong
    · simp [hs, hmp1, hmany]
    · simp [hs, hmp1, hlong]
  case opened =>
    rintro ch gen y hlow hhigh rfl hshaken - hclosed hgen
    refine next ((if_neg (by simp [hlow, hhigh, hshaken])).trans ((if_neg (by simp [hclosed])).trans (if_pos ?_)))
    rcases hgen with hgen | ⟨hgen, hmp3⟩
    · simp [hgen]
    · simp [hgen, hmp3]
  case generationRefused =>
    rintro ch gen y hlow hhigh rfl hshaken hclosed h2 h3
    exact next ((if_neg (by simp [hlow, hhigh, hshaken])).trans ((if_neg (by simp [hclosed])).trans
      (if_neg (by simp [h2, h3]))))
  case entriesTaken =>
    intro ch first es head hs hopen hmp1
    exact next (if_neg (by simp [hs, hopen, hmp1]))
  case pointersTaken =>
    intro ch tail head hs hopen hmp1
    exact next (if_neg (by simp [hs, hopen, hmp1]))
  case resent =>
    intro ch hs hopen hused hlong
    exact next (if_neg (by simp [hs, hopen, Nat.ne_of_gt hused, hlong]))
  case keptAlive =>
    intro ch hs hopen hmp1 hlong
    exact next (if_neg (by simp [hs, hopen, hmp1, hlong]))
  case mp1Request =>
    intro addr port bytes ch y hans hmode hpeer hchan
    refine next ((if_neg (by simp only [hans, hmode, hpeer, Bool.not_true, Bool.or_self, Bool.false_eq_true,
      not_false_eq_true])).trans ?_)
    rw [hchan]
  case mp1Disabled =>
    intro addr port bytes hmode
    exact next (if_pos (by simp [hmode]))
  case peerLost =>
    intro ch tag c hctx hfwd hexp hlost
    have hlost' : (x.bit Reg.SPAN_STAT 2 || x.releaseHolds || !x.bit Reg.SPAN_STAT 0) = true := by
      rcases hlost with hlost | hlost | hlost <;> simp [hlost]
    refine next ?_
    simp only [hctx]
    exact if_pos (by simp only [hfwd, hexp, hlost', Bool.and_self])
  case restartLate =>
    intro ch tag c hctx hstarted hpend hop hexp hlong
    refine next ?_
    simp [hctx, hstarted, hpend, hop, hexp, hlong]
  case stagingLate =>
    intro ch tag c hctx hstarted hpend hop hstation hlong
    refine next ?_
    simp [hctx, hstarted, hpend, hop, hstation, hlong]

end Sys2Proof.Machine
end

section
/-! What completing a mailbox command leaves of the fault collector (R285): it writes no register below the mailbox
window. -/
namespace Sys2Proof.Machine

/-- y has the state and the fault collector of x, with every register below the mailbox window. -/
structure Half.SameCollector (x y : Half) : Prop where
  st : y.st = x.st
  fc : y.fc = x.fc
  rd : ∀ a < Reg.MBX_ID, y.rd a = x.rd a

namespace Half.SameCollector
variable {x y z : Half}

/-- A change of neither the state, the collector nor the register file. -/
theorem of_eq (hs : y.st = x.st) (hf : y.fc = x.fc) (hr : y.regs = x.regs) : x.SameCollector y :=
  ⟨hs, hf, fun a _ => congrArg (RegFile.get · a) hr⟩

theorem refl (x : Half) : x.SameCollector x := of_eq rfl rfl rfl

theorem trans (hxy : x.SameCollector y) (hyz : y.SameCollector z) : x.SameCollector z :=
  ⟨hyz.st.trans hxy.st, hyz.fc.trans hxy.fc, fun a ha => (hyz.rd a ha).trans (hxy.rd a ha)⟩

/-- A step taken under a condition. -/
theorem guarded {c : Prop} [Decidable c] (hxy : x.SameCollector y) (hyz : y.SameCollector z) :
    x.SameCollector (if c then z else y) :=
  iteInduction (motive := x.SameCollector) (fun _ => hxy.trans hyz) fun _ => hxy

theorem foldl {α : Type} {f : Half → α → Half} (hxy : x.SameCollector y)
    (hf : ∀ (z : Half) (a : α), z.SameCollector (f z a)) (l : List α) : x.SameCollector (l.foldl f y) :=
  List.foldlRecOn (motive := x.SameCollector) l f hxy fun z hz a _ => hz.trans (hf z a)

/-! ### Registers and links -/

theorem wr (hxy : x.SameCollector y) {a : Nat} (ha : Reg.MBX_ID ≤ a) (v : Word) : x.SameCollector (y.wr a v) :=
  ⟨hxy.st, hxy.fc, fun b hb => (y.rd_wr_other (Nat.ne_of_lt (Nat.lt_of_lt_of_le hb ha)) v).trans (hxy.rd b hb)⟩

theorem setFld (hxy : x.SameCollector y) {a : Nat} (ha : Reg.MBX_ID ≤ a) (hi lo v : Nat) :
    x.SameCollector (y.setFld a hi lo v) := hxy.wr ha _

theorem setBit (hxy : x.SameCollector y) {a : Nat} (ha : Reg.MBX_ID ≤ a) (i : Nat) (b : Bool) :
    x.SameCollector (y.setBit a i b) := hxy.setFld ha ..

theorem irq (hxy : x.SameCollector y) {stat : Nat} (hstat : Reg.MBX_ID ≤ stat) (en bit src : Nat) :
    x.SameCollector (y.irq stat en bit src) := by
  have hicu : Reg.MBX_ID ≤ Reg.ICU_SRC src := by simp only [Reg.MBX_ID, Reg.ICU_SRC]; omega
  exact .guarded (hxy.setBit hstat bit true) ((refl _).setBit hicu ..)

theorem portSent (y : Half) (p : Nat) : y.SameCollector (y.portSent p) := by
  have hring : Reg.MBX_ID ≤ Reg.ETH_P_TQ p := by simp only [Reg.MBX_ID, Reg.ETH_P_TQ]; omega
  have hcount : Reg.MBX_ID ≤ Reg.ETH_P_TXCNT p := by simp only [Reg.MBX_ID, Reg.ETH_P_TXCNT]; omega
  exact .guarded (.refl y) ((((refl y).setFld hring ..).setFld hring ..).wr hcount _)

theorem free (hxy : x.SameCollector y) : x.SameCollector y.free.2 := hxy.trans (of_eq rfl rfl rfl)

theorem usbCount (hxy : x.SameCollector y) {a : Nat} (ha : Reg.MBX_ID ≤ a) : x.SameCollector (y.usbCount a) :=
  hxy.free.wr ha (satAdd (y.free.2.rd a) (y.free.1.toNat % 65536))

theorem send (hxy : x.SameCollector y) (m : Sent) : x.SameCollector (y.send m) := by
  have husb : Reg.MBX_ID ≤ Reg.USB_TXCNT := by decide
  have hports : x.SameCollector ((sentPorts m).foldl Half.portSent y) := hxy.foldl portSent _
  have hcounted {c : Prop} [Decidable c] := hports.guarded (c := c) ((refl _).usbCount husb)
  exact hcounted.trans (of_eq rfl rfl rfl)

theorem spanOut (hxy : x.SameCollector y) (f : Word → Sent) (body : Sent) (retx last : Bool) :
    x.SameCollector (y.spanOut f body retx last) := by
  have hload : Reg.MBX_ID ≤ Reg.SPAN_LOAD := by decide
  have hseq : Reg.MBX_ID ≤ Reg.SPAN_TX_SEQ := by decide
  have hwire (w : List (List Byte)) : x.SameCollector { y.free.2 with span := { y.free.2.span with wire := w } } :=
    hxy.trans (of_eq rfl rfl rfl)
  exact (((hwire _).setFld hload ..).send _).wr hseq _

theorem spanRel (hxy : x.SameCollector y) (f : Word → BitVec 16 → Sent) : x.SameCollector (y.spanRel f) := by
  have hitem (b : SpanBlk) : y.SameCollector { y with span := b } := of_eq rfl rfl rfl
  exact .guarded hxy ((hitem _).guarded ((refl _).spanOut ..))

/-! ### Completions -/

theorem modChan (hxy : x.SameCollector y) (ch : Nat) (f : Chan → Chan) : x.SameCollector (y.modChan ch f) :=
  hxy.trans (of_eq rfl rfl rfl)

theorem mbx (hxy : x.SameCollector y) (b : MbxBlk) : x.SameCollector { y with mbx := b } := hxy.trans (of_eq rfl rfl rfl)

theorem sendEntries (hxy : x.SameCollector y) (ch : Nat) (es : List Entry) : x.SameCollector (y.sendEntries ch es) :=
  (hxy.foldl (fun z _ => ((refl z).send _).modChan ..) _).modChan ..

theorem advance (hxy : x.SameCollector y) {a : Nat} (ha : Reg.MBX_ID ≤ a) (n : Nat) : x.SameCollector (y.advance a n) :=
  hxy.wr ha _

theorem putCq (hxy : x.SameCollector y) (ch op tag status gen chain kind : Nat) (payload : List Byte) :
    x.SameCollector (y.putCq ch op tag status gen chain kind payload) := by
  have hslot (tail i : Nat) : Reg.MBX_ID ≤ ringAddr 0x30025000 tail i := by simp only [Reg.MBX_ID, ringAddr]; omega
  have hirq : Reg.MBX_ID ≤ Reg.MBX_IRQ_STAT := by decide
  have htail : Reg.MBX_ID ≤ Reg.MBX_CH_CQ_TAIL ch := by simp only [Reg.MBX_ID, Reg.MBX_CH_CQ_TAIL]; omega
  have hseq : Reg.MBX_ID ≤ Reg.MBX_CH_CQ_SEQ ch := by simp only [Reg.MBX_ID, Reg.MBX_CH_CQ_SEQ]; omega
  unfold Half.putCq
  refine .guarded (.wr (.advance (.guarded (.guarded (hxy.modChan ..) (.irq ?slots hirq ..)) ((refl _).spanRel _)) htail _)
    hseq _) ((refl _).sendEntries ..)
  case slots => exact (refl _).foldl (fun z p => (refl z).wr (hslot ..) _) _

theorem putCompletion (hxy : x.SameCollector y) (ch op tag status gen : Nat) (payload : List Byte) :
    x.SameCollector (y.putCompletion ch op tag status gen payload) := by
  have hctx : Reg.MBX_ID ≤ Reg.MBX_CH_CTX ch := by simp only [Reg.MBX_ID, Reg.MBX_CH_CTX]; omega
  have hdone : Reg.MBX_ID ≤ Reg.MBX_CH_DONE ch := by simp only [Reg.MBX_ID, Reg.MBX_CH_DONE]; omega
  unfold Half.putCompletion Half.incSat
  refine .wr (.guarded ?entries ((refl _).setBit hctx ..)) hdone _
  case entries => exact hxy.foldl (fun z p => (refl z).putCq ..) _

theorem lateDone (hxy : x.SameCollector y) (ch : Nat) (d : LateDone) : x.SameCollector (y.lateDone ch d) :=
  ((hxy.modChan ..).modChan ..).foldl
    (fun z _ => iteInduction (fun _ => (refl z).putCompletion ..) fun _ => (refl z).modChan ..) _

theorem poolStatus (hxy : x.SameCollector y) : x.SameCollector y.poolStatus := by
  have hstat : Reg.MBX_ID ≤ Reg.MBX_STAT := by decide
  have hmax : Reg.MBX_ID ≤ Reg.MBX_POOL_MAX := by decide
  have hirq : Reg.MBX_ID ≤ Reg.MBX_IRQ_STAT := by decide
  have hctx (ch : Nat) : Reg.MBX_ID ≤ Reg.MBX_CH_CTX ch := by simp only [Reg.MBX_ID, Reg.MBX_CH_CTX]; omega
  unfold Half.poolStatus
  refine .guarded (.guarded (.guarded (.setFld ?counts hmax ..) ((refl _).setBit hstat ..)) ((refl _).setBit hstat ..))
    (((refl _).mbx _).irq hirq ..)
  case counts =>
    refine .foldl (.foldl (.guarded (hxy.setFld hstat ..) ((refl _).setFld hmax ..)) ?_ _) ?_ _
    all_goals exact fun z ch => (refl z).setFld (hctx ch) ..

theorem tryPost (hxy : x.SameCollector y) (ch tag : Nat) : x.SameCollector (y.tryPost ch tag) := by
  unfold Half.tryPost
  split
  · exact hxy
  · split
    · exact hxy
    · exact hxy.guarded ((((refl y).mbx _).putCompletion ..).foldl (fun z _ => (refl z).lateDone ..) _).poolStatus

theorem reply (hxy : x.SameCollector y) (c : Ctx) (st : Nat) (payload : List Byte) :
    x.SameCollector (y.reply c st payload) := by
  unfold Half.reply Half.finish
  split
  · exact hxy
  · exact iteInduction (fun _ => hxy) fun _ => (hxy.mbx _).tryPost ..

end Half.SameCollector

end Sys2Proof.Machine
end

section
/-! FAULT_ACK (R234, R238, R327): the held faults that op 2 removes, and what op 1 clears of the recoveries, which the
reset of a LATCHED half leaves cleared. -/
namespace Sys2Proof.Machine

/-! ### One bit of a register -/

/-- A bit that is written reads as written, and every other bit of the word as before. -/
theorem putField_bit_getLsbD (w : Word) {i j : Nat} (hi : i < 32) (hj : j < 32) (b : Bool) :
    (putField w i i (if b then 1 else 0)).getLsbD j = if j = i then b else w.getLsbD j := by
  have hbit : (BitVec.ofNat 32 (2 ^ i)).getLsbD j = decide (i = j) := by
    rw [BitVec.getLsbD_ofNat, decide_eq_true hj, Bool.true_and, Nat.testBit_two_pow]
  have hmask : (2 ^ (i - i + 1) - 1) * 2 ^ i = 2 ^ i := by rw [Nat.sub_self, Nat.zero_add, Nat.pow_one, Nat.one_mul]
  have hval : BitVec.ofNat 32 ((if b then 1 else 0) % 2 ^ (i - i + 1) * 2 ^ i) =
      if b then BitVec.ofNat 32 (2 ^ i) else 0 := by cases b <;> simp
  simp only [putField, hmask, hval, BitVec.getLsbD_or, BitVec.getLsbD_and, BitVec.getLsbD_not, hbit, decide_eq_true hj,
    Bool.true_and, apply_ite (BitVec.getLsbD · j)]
  by_cases hji : j = i
  · subst hji
    cases b <;> simp
  · cases b <;> simp [hji, Ne.symm hji]

theorem Half.bit_setBit {x : Half} (hx : x.regs.wf = true) (a : Nat) {i j : Nat} (hi : i < 32) (hj : j < 32) (b : Bool) :
    (x.setBit a i b).bit a j = if j = i then b else x.bit a j := by
  have hrd : (x.setBit a i b).rd a = putField (x.rd a) i i (if b then 1 else 0) := Half.rd_wr_self hx ..
  rw [Half.bit, hrd]
  exact putField_bit_getLsbD _ hi hj b

/-- A source's bit that is written reads as written, and every other source's bit of the set as before. -/
theorem Half.srcBit_setSrc {x : Half} (hx : x.regs.wf = true) (base src k : Nat) (b : Bool) :
    (x.setSrc base src b).srcBit base k = if k = src then b else x.srcBit base k := by
  by_cases hreg : k / 32 = src / 32
  · have hbit := Half.bit_setBit hx (base + 4 * (src / 32)) (Nat.mod_lt src (by decide)) (Nat.mod_lt k (by decide)) b
    have hsame : k % 32 = src % 32 ↔ k = src := by omega
    rw [Half.srcBit, Half.srcBit, hreg]
    simp only [hsame] at hbit
    exact hbit
  · rw [if_neg (fun hk => hreg (congrArg (· / 32) hk))]
    exact x.srcBit_setSrc_other (by omega) b

/-! ### Held faults (R234, R235) -/

/-- The sources of a list are no longer held. -/
def Half.dropHeld (x : Half) (l : List Nat) : Half := l.foldl (fun (y : Half) src => y.setSrc (Reg.FC_HELD 0) src false) x

/-- The sources of a list lose their bits, and every other source keeps its own. -/
theorem Half.srcBit_dropHeld {x : Half} (hx : x.regs.wf = true) (l : List Nat) (k : Nat) :
    (x.dropHeld l).regs.wf = true ∧
      (x.dropHeld l).srcBit (Reg.FC_HELD 0) k = if k ∈ l then false else x.srcBit (Reg.FC_HELD 0) k := by
  induction l generalizing x with
  | nil => exact ⟨hx, rfl⟩
  | cons src l ih =>
    obtain ⟨hwf, hbit⟩ := ih (x := x.setSrc (Reg.FC_HELD 0) src false) (Half.wr_wf hx ..)
    refine ⟨hwf, hbit.trans ?_⟩
    rw [Half.srcBit_setSrc hx]
    grind

/-- With all held faults removed no source is held. -/
theorem Half.srcBit_dropHeld_heldSources {x : Half} (hx : x.regs.wf = true) {k : Nat} (hk : k < 128) :
    (x.dropHeld x.heldSources).srcBit (Reg.FC_HELD 0) k = false := by
  rw [(Half.srcBit_dropHeld hx _ k).2]
  by_cases hheld : x.srcBit (Reg.FC_HELD 0) k = true
  · exact if_pos (List.mem_filter.mpr ⟨List.mem_range.mpr hk, hheld⟩)
  · rw [Bool.eq_false_iff.mpr hheld, ite_self]

/-- A set of sources none of which has its bit set is empty. -/
theorem Half.anySrc_eq_false {x : Half} {base : Nat} (hnone : ∀ k < 128, x.srcBit base k = false) :
    x.anySrc base = false := by
  rw [Half.anySrc, List.any_eq_false]
  intro i hi
  have hzero : x.rd (base + 4 * i) = 0 := by
    refine BitVec.eq_of_getLsbD_eq fun j hj => ?_
    have hbit := hnone (32 * i + j) (by have := List.mem_range.mp hi; omega)
    have hreg : (32 * i + j) / 32 = i := by omega
    have hidx : (32 * i + j) % 32 = j := by omega
    rw [Half.srcBit, hreg, hidx] at hbit
    exact hbit.trans BitVec.getLsbD_zero.symm
  simp [hzero]

@[simp] theorem Half.fcStatus_st (x : Half) : x.fcStatus.st = x.st := rfl
@[simp] theorem Half.fcStatus_fc (x : Half) : x.fcStatus.fc = x.fc := rfl

/-- DEGRADED says whether any fault is held (R245). -/
theorem Half.fcStatus_degraded {x : Half} (hx : x.regs.wf = true) :
    x.fcStatus.bit Reg.FC_STAT 2 = x.anySrc (Reg.FC_HELD 0) := by
  have hwf {y : Half} (hy : y.regs.wf = true) (i : Nat) (b : Bool) : (y.setBit Reg.FC_STAT i b).regs.wf = true :=
    Half.wr_wf hy ..
  have hkeep {y : Half} (hy : y.regs.wf = true) {i : Nat} (hi : i < 32) (hne : 2 ≠ i) (b : Bool) :
      (y.setBit Reg.FC_STAT i b).bit Reg.FC_STAT 2 = y.bit Reg.FC_STAT 2 :=
    (Half.bit_setBit hy _ hi (by decide) b).trans (if_neg hne)
  have hlevel (v : Nat) : (x.setFld Reg.FC_STAT 1 0 v).regs.wf = true := Half.wr_wf hx ..
  unfold Half.fcStatus
  dsimp only
  rw [hkeep (hwf (hwf (hlevel _) ..) ..) (by decide) (by decide), hkeep (hwf (hlevel _) ..) (by decide) (by decide)]
  exact (Half.bit_setBit (hlevel _) _ (by decide) (by decide) _).trans (if_pos rfl)

theorem isSourceSet_fcHeld {src : Nat} (hsrc : src < 128) : IsSourceSet (Reg.FC_HELD 0 + 4 * (src / 32)) := by
  simp only [IsSourceSet, Reg.FC_HELD]
  omega

/-- No fault is held any more, and FC_STAT says so. -/
def Half.removeHeld (x : Half) : Half := (x.dropHeld x.heldSources).fcStatus

theorem Half.removeHeld_st (x : Half) : x.removeHeld.st = x.st :=
  (Half.fcStatus_st _).trans <|
    List.foldlRecOn (motive := fun y : Half => y.st = x.st) x.heldSources _ rfl fun _ hy _ _ => hy

theorem Half.removeHeld_of_nil {x : Half} (hx : x.heldSources = []) : x.removeHeld = x.fcStatus := by
  rw [Half.removeHeld, hx]
  rfl

theorem Half.srcBit_removeHeld {x : Half} (hx : x.regs.wf = true) {k : Nat} (hk : k < 128) :
    x.removeHeld.srcBit (Reg.FC_HELD 0) k = false :=
  ((Half.sameSources_fcStatus _).srcBit (isSourceSet_fcHeld hk)).trans (Half.srcBit_dropHeld_heldSources hx hk)

theorem Half.removeHeld_degraded {x : Half} (hx : x.regs.wf = true) : x.removeHeld.bit Reg.FC_STAT 2 = false := by
  have hwf := (Half.srcBit_dropHeld hx x.heldSources 0).1
  exact (Half.fcStatus_degraded hwf).trans (Half.anySrc_eq_false fun _ hk => Half.srcBit_dropHeld_heldSources hx hk)

/-! ### Recoveries (R238, R239) -/

/-- The recovery stamps with the latch mark. -/
def Half.recoveries (x : Half) : Tab (List Word) × Option Nat := (x.fc.stamps, x.fc.latch)

theorem Half.resetDomain_recoveries (x : Half) (d : Nat) : (x.resetDomain d).recoveries = x.recoveries := by
  unfold Half.resetDomain
  dsimp only
  split <;> rfl

theorem Half.recoveries_of_fc_eq {x y : Half} (hfc : y.fc = x.fc) : y.recoveries = x.recoveries := by
  rw [Half.recoveries, Half.recoveries, hfc]

theorem Half.inhibit_recoveries (x : Half) (ds : List Nat) :
    ((List.range 4).foldl (fun (y : Half) i => y.orReg (Reg.FC_INHIB i) (domainMask ds i)) x).recoveries =
      x.recoveries :=
  List.foldlRecOn (motive := fun y : Half => y.recoveries = x.recoveries) _ _ rfl fun _ hy _ _ => hy

theorem Half.enterReset_recoveries (x : Half) (ds : List Nat) : (x.enterReset ds).recoveries = x.recoveries := by
  refine List.foldlRecOn (motive := fun y : Half => y.recoveries = x.recoveries) _ _ ?_
    fun y hy d _ => (y.resetDomain_recoveries d).trans hy
  exact (x.orReg Reg.SYS_PD (resetBits ds)).inhibit_recoveries ds

theorem Half.halfReset_recoveries (x : Half) (cause : Nat) : (x.halfReset cause).recoveries = x.recoveries := by
  have hfc : (x.halfReset cause).fc = (x.enterReset halfDomains).fc := Half.setFld_fc ..
  exact (Half.recoveries_of_fc_eq hfc).trans (x.enterReset_recoveries halfDomains)

theorem Half.releaseResets_fc (x : Half) : x.releaseResets.fc = x.fc := by
  refine List.foldlRecOn (motive := fun y : Half => y.fc = x.fc) _ _ ?_ fun _ hy _ _ => hy
  exact List.foldlRecOn (motive := fun y : Half => y.fc = x.fc) _ _ rfl fun _ hy _ _ => hy

/-- The registers by which the firmware starts lie outside the collector. -/
theorem Half.sameCollector_firmwareUp (x : Half) : x.SameCollector x.firmwareUp := by
  have hts : Reg.MBX_ID ≤ Reg.TS_CTRL := by decide
  have hspan : Reg.MBX_ID ≤ Reg.SPAN_CTRL := by decide
  have hevr : Reg.MBX_ID ≤ Reg.EVR_CTRL := by decide
  have hmbx : Reg.MBX_ID ≤ Reg.MBX_CTRL := by decide
  have hctrl (ch : Nat) : Reg.MBX_ID ≤ Reg.MBX_CH_CTRL ch := by simp only [Reg.MBX_ID, Reg.MBX_CH_CTRL]; omega
  have hmail (y : Half) (ch : Nat) (v : Word) : y.SameCollector (y.openMail ch v) :=
    iteInduction (fun _ => (Half.SameCollector.refl y).wr (hctrl ch) v) fun _ =>
      (Half.SameCollector.refl y).guarded ((Half.SameCollector.refl y).setFld (hctrl 0) ..)
  have hclock (v : Word) : x.SameCollector (if x.bit Reg.TS_CTRL 0 then x else x.wr Reg.TS_CTRL v) :=
    iteInduction (fun _ => .refl x) fun _ => (Half.SameCollector.refl x).wr hts v
  have hup (v : Word) := (((hclock v).setBit hspan 0 true).setBit hevr 0 true).setBit hmbx 0 true
  exact (((hup _).trans (hmail _ 0 0x421)).trans (hmail _ 1 0x21)).trans (hmail _ 7 0x31)

theorem Half.enterNative_st (x : Half) : x.enterNative.st = .native := (Half.sameCollector_firmwareUp _).st

theorem Half.enterNative_fc (x : Half) : x.enterNative.fc = x.fc := (Half.sameCollector_firmwareUp _).fc

theorem Half.leaveLatched_st (x : Half) : x.leaveLatched.st = .native := Half.enterNative_st _

/-- The reset of a half that leaves LATCHED keeps its stamps and its mark. -/
theorem Half.leaveLatched_recoveries (x : Half) : x.leaveLatched.recoveries = x.recoveries := by
  have hstart := Half.enterNative_fc (((x.halfReset 5).releaseResets).setBit Reg.FC_STAT 6 false)
  have hfc := (hstart.trans (Half.setBit_fc ..)).trans (Half.releaseResets_fc _)
  exact (Half.recoveries_of_fc_eq hfc).trans (x.halfReset_recoveries 5)

theorem Half.clearLatch_st (x : Half) : x.clearLatch.st = x.st :=
  (Half.fcStatus_st _).trans <|
    List.foldlRecOn (motive := fun y : Half => y.st = x.st) (List.range 12) _ rfl fun _ hy _ _ => hy

theorem Half.clearLatch_recoveries (x : Half) : x.clearLatch.recoveries = ([], none) :=
  (Half.recoveries_of_fc_eq (Half.fcStatus_fc _)).trans <|
    List.foldlRecOn (motive := fun y : Half => y.recoveries = ([], none)) (List.range 12) _ rfl fun _ hy _ _ => hy

end Sys2Proof.Machine
end

section
/-! The mailbox commands (R305 to R337). -/
namespace Sys2Proof.Machine

/-! ### The start of a command (R305, R306) -/

/-- The command that is its channel's next one goes through the checks of R305 in their order. -/
theorem Half.cmd_of_nextCmd {x : Half} {ch tag op : Nat} {lenOk : Ctx → Bool} {roleOf : Ctx → Nat} {needOf : Ctx → Needs}
    {body : Half → Ctx → Half} {c : Ctx} (hnext : x.nextCmd ch = some c) (htag : c.tag = tag) (hop : c.op = op) :
    x.cmd ch tag op lenOk roleOf needOf body =
      if c.malformed || !lenOk c then (x.begun ch tag c).reply c ST_BAD_LENGTH []
      else if c.role < roleOf c then (x.begun ch tag c).reply c ST_DENIED []
      else if !x.permitsCmd (needOf c) c then (x.begun ch tag c).reply c ST_NOT_ACTIVE []
      else body (x.begun ch tag c) c := by
  simp only [Half.cmd, hnext]
  exact if_neg (by simp [htag, hop])

/-- Settles O36: each clause is the first check that fails. -/
theorem commandChecksInOrder : Obligations.CommandChecksInOrder := by
  intro x ch tag op len role need body c hnext htag hop
  rw [Half.cmd_of_nextCmd hnext htag hop]
  refine ⟨fun hbad => ?malformed, fun hwell hlen hlow => ?denied, fun hwell hlen hrole hstate => ?notActive⟩
  case malformed => exact if_pos (by simpa using hbad)
  case denied => exact (if_neg (by simp [hwell, hlen])).trans (if_pos hlow)
  case notActive =>
    exact (if_neg (by simp [hwell, hlen])).trans ((if_neg (Nat.not_lt.mpr hrole)).trans (if_pos (by simp [hstate])))

/-- A powered half that starts a command is, in the next state, what the command's body makes of it. -/
theorem onHalf_cmd {s : State} {h : HalfId} {x y z : Half} {ch tag op role : Nat} {need : Needs} {c : Ctx}
    {lenOk : Ctx → Bool} {roleOf : Ctx → Nat} {needOf : Ctx → Needs} {body : Half → Ctx → Half}
    (hx : s.half h = x) (hp : x.st ≠ .off) (ha : x.Accepts ch tag op role need c) (hy : y = x.begun ch tag c)
    (hlen : lenOk c = true) (hrole : roleOf c = role) (hneed : needOf c = need) (hbody : body y c = z) :
    onHalf s h (fun x => x.cmd ch tag op lenOk roleOf needOf body) = .next (s.put h z) :=
  onHalf_next hx hp ((Half.cmd_accepted ha hlen hrole hneed).trans (hy ▸ hbody))

/-- A request of n bytes passes the check for n bytes. -/
theorem lenIs_of_eq {n : Nat} {c : Ctx} (hlen : c.payload.length = n) : lenIs n c = true := decide_eq_true hlen

/-! ### Objects and tasks (R308 to R316) -/

/-- Settles O55: each clause is the branch of its command's body in which the command's own checks pass. -/
theorem objectCommandRowsComplete : Obligations.ObjectCommandRowsComplete := by
  intro s h x hx hp
  refine ⟨?identify, ?sessionInfo, ?read, ?write, ?readGroup, ?subscribe, ?unsubscribe, ?force, ?release, ?taskQuery,
    ?taskStart, ?taskStop, ?taskStats⟩
  case identify =>
    intro ch tag c y ha hy hlen
    exact onHalf_cmd hx hp ha hy (lenIs_of_eq hlen) rfl rfl rfl
  case sessionInfo =>
    intro ch tag c y ha hy hlen
    exact onHalf_cmd hx hp ha hy (lenIs_of_eq hlen) rfl rfl rfl
  case read =>
    intro ch tag c y r ha hy hlen hr
    refine onHalf_cmd hx hp ha hy (lenIs_of_eq hlen) rfl rfl ?_
    simp only [hr]
  case write =>
    intro ch tag c y r z ha hy hlen hzero hobj hrole hwrite
    refine onHalf_cmd hx hp ha hy (by simp [hlen, hzero]) rfl rfl ?_
    refine (if_neg (by simp [Option.isSome_iff_ne_none.mp hobj])).trans ((if_neg (Bool.eq_false_iff.mp hrole)).trans ?_)
    rw [hwrite]
  case readGroup =>
    rintro ch tag c y ids ha hy hmin hmax hzero hlen rfl hall hsame
    refine onHalf_cmd hx hp ha hy (by simp [hmin, hmax, hzero, hlen]) rfl rfl ?_
    refine (if_neg (Nat.not_lt.mpr (Nat.le_of_eq hall.symm))).trans (if_neg ?_)
    rw [List.any_eq_not_all_not]
    simpa using hsame
  case subscribe =>
    rintro ch tag c y ids k sub ha hy hmin hmax hzero hint hzero' hlen rfl hall hfree hroom rfl
    refine onHalf_cmd hx hp ha hy (by simp [hmin, hmax, hzero, hint, hzero', hlen]) rfl rfl ?_
    refine (if_neg ?_).trans ?_
    · simpa [Option.isSome_iff_ne_none] using hall
    · simp only [hfree]
      exact if_neg (Nat.not_le.mpr hroom)
  case unsubscribe =>
    intro ch tag c y ha hy hlen hzero hmine
    refine onHalf_cmd hx hp ha hy (by simp [hlen, hzero]) rfl rfl ?_
    exact if_neg (by simp [hmine])
  case force =>
    rintro ch tag c y p k z ha hy hlen hop hq hzero hobj hown hcfg hwriter hfill hroom rfl
    refine onHalf_cmd hx hp ha hy (by simp [hlen, hop, hq, hzero]) rfl rfl ?_
    have hforced : ¬(!(y.point p).force.isSome && decide (256 ≤ y.forces)) = true := by
      rcases hroom with hroom | hroom <;> simp [hroom]
    refine (if_neg (by simp [Option.isSome_iff_ne_none.mp hobj])).trans ?_
    simp only [hown, hcfg]
    refine (if_neg (by simpa using hwriter)).trans ((if_neg (by simp [hop])).trans ?_)
    exact (if_neg (by simp [hfill])).trans (if_neg hforced)
  case release =>
    rintro ch tag c y p k z ha hy hlen hop hq hzero hobj hown hcfg hwriter rfl
    refine onHalf_cmd hx hp ha hy (by simp [hlen, hop, hq, hzero]) rfl rfl ?_
    refine (if_neg (by simp [Option.isSome_iff_ne_none.mp hobj])).trans ?_
    simp only [hown, hcfg]
    exact (if_neg (by simpa using hwriter)).trans (if_pos hop)
  case taskQuery =>
    intro ch tag c y k ha hy hlen hop hzero htask
    refine onHalf_cmd hx hp ha hy (by simp [hlen, hop, hzero]) (by simp [hop]) (by simp [hop]) ?_
    simp [htask, hop]
  case taskStart =>
    intro ch tag c y k ha hy hlen hop hzero htask hevent hstopped
    refine onHalf_cmd hx hp ha hy (by simp [hlen, hop, hzero]) (by simp [hop]) (by simp [hop]) ?_
    simp [htask, hop, hevent, hstopped]
  case taskStop =>
    intro ch tag c y k ha hy hlen hop hzero htask hrunning
    refine onHalf_cmd hx hp ha hy (by simp [hlen, hop, hzero]) (by simp [hop]) (by simp [hop]) ?_
    simp [htask, hop, hrunning]
  case taskStats =>
    rintro ch tag c y k e ha hy hlen hop hzero htask rfl
    refine onHalf_cmd hx hp ha hy (by simp [hlen, hop, hzero]) (by simp [hop]) rfl ?_
    simp [htask, hop]

/-! ### Configuration, firmware and roles (R317 to R325) -/

/-- A half put in place that begins no handover is all that changes. -/
theorem State.spread_of_none {s : State} {h : HalfId} {y : Half} (hy : y.role.ho = none) : s.spread h y = s.put h y := by
  rw [State.spread, hy, State.put]
  cases (s.half h).role.ho <;> rfl

/-- A handover that a half begins is offered to the partner with the item number of its frame (R205). -/
theorem State.spread_of_some {s : State} {h : HalfId} {y : Half} {k : Handover} (hs : (s.half h).role.ho = none)
    (hy : y.role.ho = some k) :
    s.spread h y = (s.put h y).mod h.other fun p => p.offered k (y.span.nextItem - 1) := by
  simp only [State.spread, hs, hy, State.put]

/-- A standby half whose other firmware slot holds an image, and that sees no partner, restarts with it (R324). -/
theorem Half.activate_of_standby {x : Half} {i : Image} (hst : x.st = .standby)
    (himg : (x.fwSlot x.otherFw).image = some i) (hpeer : x.peer = none) (c : Ctx) (at_ : DWord) :
    x.activate c at_ = (x.restartInto x.otherFw, some i.version) := by
  simp [Half.activate, hst, himg, hpeer]

/-- A handover on command that nothing forbids is offered. -/
theorem Half.askHandover_of_mayOffer {x : Half} (hline : x.role.claimLine = false) (hpend : x.cfg.pend = none)
    (hmay : x.mayOffer = true) (c : Ctx) (cause : Cause) (at_ : DWord) :
    x.askHandover c cause at_ = x.offers (x.newOffer cause at_) (some c.ref) :=
  if_neg (by simp [hline, hpend, hmay])

/-- A handover that ROLE_SWAP or HALF_RELEASE begins is offered to the partner (R325). -/
theorem State.spread_cmd_askHandover {s : State} {h : HalfId} {x y z : Half} {ch tag op : Nat} {c : Ctx} {cause : Cause}
    {at_ : DWord} (hx : s.half h = x) (ha : x.Accepts ch tag op 3 .active c) (hy : y = x.begun ch tag c)
    (hlen : c.payload.length = 0) (hno : x.role.ho = none) (hasks : y.askHandover c cause at_ = z)
    (hz : z.role.ho = some (y.newOffer cause at_)) :
    s.spread h ((s.half h).cmd ch tag op (lenIs 0) engineer onActive fun y c => y.askHandover c cause at_) =
      (s.put h z).mod h.other fun p => p.offered (y.newOffer cause at_) (z.span.nextItem - 1) := by
  subst hx hasks
  rw [Half.cmd_accepted ha (lenIs_of_eq hlen) rfl rfl, ← hy]
  exact State.spread_of_some hno hz

/-- Settles O56: each clause is the branch of its command's body in which the command's own checks pass. That CFG_STAGE
stages its own slot where there is no configuration, and that ROLE_QUERY answers 0 for a swap that is past, is the model's
choice (assumptions 74 and 75). -/
theorem configurationCommandRowsComplete : Obligations.ConfigurationCommandRowsComplete := by
  intro s h x hx hp
  refine ⟨?stage, ?verify, ?commit, ?rollback, ?fwStage, ?fwForward, ?fwActivate, ?roleQuery, ?roleSwap, ?halfRelease⟩
  case stage =>
    intro ch tag c y ha hy hlen hhere
    refine onHalf_cmd hx hp ha hy hlen rfl rfl (if_pos ?_)
    rcases hhere with hnone | hstation
    · simp [hnone]
    · simp [hstation]
  case verify =>
    rintro ch tag c y sl new f ha hy hlen rfl hbytes hwas hcfg hf
    refine onHalf_cmd hx hp ha hy (lenIs_of_eq hlen) rfl rfl ?_
    refine (if_neg (by simp [hbytes, hwas])).trans ?_
    simp only [hcfg, ← hf]
  case commit =>
    rintro ch tag c y sl ha hy hlen rfl hverified hcomplete hho hpend
    refine onHalf_cmd hx hp ha hy (lenIs_of_eq hlen) rfl rfl (if_neg ?_)
    simp [hverified, hcomplete, hho, hpend]
  case rollback =>
    rintro ch tag c y k sl z w ha hy hlen hslot rfl hedit rfl rfl
    refine onHalf_cmd hx hp ha hy (lenIs_of_eq hlen) rfl rfl ?_
    simp only [hslot]
    exact if_neg (by simp [hedit])
  case fwStage =>
    intro ch tag c y sig ha hy hlen hhalf hzero hnamed
    exact onHalf_cmd hx hp ha hy (by simp [hlen, hhalf, hzero]) rfl rfl (if_pos hnamed)
  case fwForward =>
    intro ch tag c y sig ha hy hlen hhalf hzero hnamed
    exact onHalf_cmd hx hp ha hy (by simp [hlen, hhalf, hzero]) rfl rfl (if_neg (Bool.eq_false_iff.mp hnamed))
  case fwActivate =>
    intro ch tag c y at_ i ha hy hlen hhalf hstop hzero hnamed hxnamed hst hxst himg hximg hxpeer hpeer hho hch
    subst hx
    have ⟨hnext, htag, hop, hwell, hrole, _⟩ := ha
    have hbody : (if y.named c then (y.activate c at_).1 else y.forward c) = y.restartInto y.otherFw := by
      rw [if_pos hnamed, Half.activate_of_standby hst himg hpeer]
    show execFwActivate h ch tag at_ s = _
    rw [execFwActivate, Half.cmd_accepted ha (by simp [hlen, hhalf, hstop, hzero]) rfl rfl, ← hy, hbody,
      State.spread_of_none hho, hnext]
    simp [htag, hop, hwell, hlen, hhalf, hstop, hzero, hrole, hxnamed, Half.activate_of_standby hxst hximg hxpeer, hch]
  case roleQuery =>
    rintro ch tag c y flags ha hy hlen rfl
    exact onHalf_cmd hx hp ha hy (lenIs_of_eq hlen) rfl rfl rfl
  case roleSwap =>
    rintro ch tag c y at_ z ha hy hlen hno hline hpend hmay rfl hz
    exact congrArg _ (State.spread_cmd_askHandover hx ha hy hlen hno (Half.askHandover_of_mayOffer hline hpend hmay ..) hz)
  case halfRelease =>
    rintro ch tag c y at_ z ha hy hlen hno hline hpend hmay rfl hz
    exact congrArg _ (State.spread_cmd_askHandover hx ha hy hlen hno (Half.askHandover_of_mayOffer hline hpend hmay ..) hz)

/-! ### FAULT_ACK (R327) -/

section
variable {s : State} {h : HalfId} {x y : Half} {ch tag : Nat} {c : Ctx} (hx : s.half h = x) (hp : x.st ≠ .off)
  (ha : x.Accepts ch tag 0x61 4 .either c) (hy : y = x.begun ch tag c) (hlen : c.payload.length = 4)
  (hzero : c.num 1 3 = 0)
include hx hp ha hy hlen hzero

/-- Op 1 clears the recoveries and the latch mark. -/
theorem exec_faultAck_of_free (hop : c.num 0 1 = 1) (hst : y.clearLatch.st ≠ .latched) :
    exec (.faultAck h ch tag) s = .next (s.put h (y.clearLatch.reply c ST_OK (leNat 4 y.clearLatch.st.code))) := by
  refine onHalf_cmd hx hp ha hy (by simp [hlen, hop, hzero]) rfl rfl ?_
  exact (if_pos hop).trans (if_neg (by simpa using hst))

/-- In a LATCHED half op 1 answers, and the half then leaves LATCHED. -/
theorem exec_faultAck_of_latched (hop : c.num 0 1 = 1) (hst : y.clearLatch.st = .latched) :
    exec (.faultAck h ch tag) s =
      .next (s.put h (y.clearLatch.reply c ST_OK (leNat 4 HState.native.code)).leaveLatched) := by
  refine onHalf_cmd hx hp ha hy (by simp [hlen, hop, hzero]) rfl rfl ?_
  exact (if_pos hop).trans (if_pos (by simpa using hst))

/-- Op 2 removes the held faults. -/
theorem exec_faultAck_of_held (hop : c.num 0 1 = 2) :
    exec (.faultAck h ch tag) s = .next (s.put h (y.removeHeld.reply c ST_OK (leNat 4 y.removeHeld.st.code))) :=
  onHalf_cmd hx hp ha hy (by simp [hlen, hop, hzero]) rfl rfl (if_neg (by simp [hop]))

end

theorem State.half_put (s : State) (h : HalfId) (y : Half) : (s.put h y).half h = y := State.half_mod_self ..

/-- Settles O29: after op 1 the recoveries stay cleared through the completion and, in a LATCHED half, through the reset;
op 2 leaves no source held, and DEGRADED follows. -/
theorem faultAckClears : Obligations.FaultAckClears := by
  intro s h ch tag c hs hp ha hlen hzero
  obtain ⟨y, hy⟩ : ∃ y, y = (s.half h).begun ch tag c := ⟨_, rfl⟩
  have hyst : y.st = (s.half h).st := hy ▸ rfl
  refine ⟨fun hop => ?cleared, fun hop => ?removed⟩
  case cleared =>
    have hst := y.clearLatch_st.trans hyst
    have hreply (pl : List Byte) := (Half.SameCollector.refl y.clearLatch).reply c ST_OK pl
    have hrec (pl : List Byte) := (Half.recoveries_of_fc_eq (hreply pl).fc).trans y.clearLatch_recoveries
    by_cases hlatched : (s.half h).st = .latched
    · refine ⟨_, exec_faultAck_of_latched rfl hp ha hy hlen hzero hop (hst.trans hlatched), ?_⟩
      rw [State.half_put]
      obtain ⟨hstamps, hmark⟩ := Prod.mk.inj ((Half.leaveLatched_recoveries _).trans (hrec _))
      exact ⟨hstamps, hmark, fun _ => Half.leaveLatched_st _, fun hnot => absurd hlatched hnot⟩
    · refine ⟨_, exec_faultAck_of_free rfl hp ha hy hlen hzero hop (hst ▸ hlatched), ?_⟩
      rw [State.half_put]
      obtain ⟨hstamps, hmark⟩ := Prod.mk.inj (hrec _)
      exact ⟨hstamps, hmark, fun hyes => absurd hyes hlatched, fun _ => (hreply _).st.trans hst⟩
  case removed =>
    have hwf : y.regs.wf = true := hy ▸ hs.regs_wf h
    have hst := y.removeHeld_st.trans hyst
    have hreply (pl : List Byte) := (Half.SameCollector.refl y.removeHeld).reply c ST_OK pl
    refine ⟨_, exec_faultAck_of_held rfl hp ha hy hlen hzero hop, ?_⟩
    rw [State.half_put]
    refine ⟨(hreply _).st.trans hst, fun k hk => ?held, ?degraded, fun hempty => ?unchanged⟩
    case held =>
      have hlow : Reg.FC_HELD 0 + 4 * (k / 32) < Reg.MBX_ID := by simp only [Reg.FC_HELD, Reg.MBX_ID]; omega
      rw [Half.srcBit, Half.bit, (hreply _).rd _ hlow]
      exact Half.srcBit_removeHeld hwf hk
    case degraded =>
      rw [Half.bit, (hreply _).rd _ (by decide)]
      exact Half.removeHeld_degraded hwf
    case unchanged =>
      have hnil : y.heldSources = [] := hy ▸ hempty
      rw [← hy, hst, Half.removeHeld_of_nil hnil]

/-! ### Faults, recorder, chains, time, display, League and safety (R326 to R337) -/

/-- Settles O57: each clause is the branch of its command's body in which the command's own checks pass. The readings of
assumptions 58 and 76 are the model's choice: FAULT_INJECT clears FC_INJ_STAT first, TIME_SOURCE answers the source in use,
FAULT_ACK answers before the reset of a LATCHED half, REC_LIST and LEAGUE_STATUS stop at the last number, and op 1 of
DISP_UPDATE has a free region number. -/
theorem serviceCommandRowsComplete : Obligations.ServiceCommandRowsComplete := by
  intro s h x hx hp
  refine ⟨?queryState, ?queryClass, ?querySource, ?ackFree, ?ackLatched, ?ackHeld, ?inject, ?snapshot, ?recList,
    ?chainWrite, ?coefSwap, ?ceInject, ?traceArm, ?traceStop, ?traceRead, ?timeGet, ?timeQuery, ?timeSelect, ?timeSet,
    ?dispStage, ?dispRegion, ?dispStatus, ?join, ?leagueSelf, ?leagueStations, ?safety⟩
  case queryState =>
    intro ch tag c y ha hy hlen hop hzero
    refine onHalf_cmd hx hp ha hy (by simp [hlen, hop, hzero]) rfl rfl ?_
    simp only [hop]
  case queryClass =>
    rintro ch tag c y i ha hy hlen hop hzero hi rfl
    refine onHalf_cmd hx hp ha hy (by simp [hlen, hop, hzero]) rfl rfl ?_
    simp only [hop]
    exact if_neg (Nat.not_le.mpr hi)
  case querySource =>
    rintro ch tag c y i ha hy hlen hop hzero hi rfl
    refine onHalf_cmd hx hp ha hy (by simp [hlen, hop, hzero]) rfl rfl ?_
    simp only [hop]
    exact if_neg (Nat.not_le.mpr hi)
  case ackFree =>
    rintro ch tag c y z ha hy hlen hop hzero rfl hst
    exact exec_faultAck_of_free hx hp ha hy hlen hzero hop hst
  case ackLatched =>
    rintro ch tag c y z ha hy hlen hop hzero rfl hst
    exact exec_faultAck_of_latched hx hp ha hy hlen hzero hop hst
  case ackHeld =>
    rintro ch tag c y z ha hy hlen hop hzero rfl
    exact exec_faultAck_of_held hx hp ha hy hlen hzero hop
  case inject =>
    rintro ch tag c y z ha hy hlen hsrc hzero rfl hdone
    exact onHalf_cmd hx hp ha hy (by simp [hlen, hsrc, hzero]) rfl rfl (if_neg (Bool.eq_false_iff.mp hdone))
  case snapshot =>
    rintro ch tag c y q e bs d ha hy hlen hk hzero hzero' hkind hnew rfl rfl
    refine onHalf_cmd hx hp ha hy (by simp [hlen, hk, hzero, hzero']) rfl rfl ((if_neg hkind).trans ?_)
    simp only [hnew]
  case recList =>
    rintro ch tag c y n ha hy hlen hmin hmax hfirst rfl
    exact onHalf_cmd hx hp ha hy (by simp [hlen, hmin, hmax]) rfl rfl (if_neg (Nat.not_le.mpr hfirst))
  case chainWrite =>
    intro ch tag c y ha hy hlen hpresent
    exact onHalf_cmd hx hp ha hy hlen rfl rfl (if_neg (by simp [hpresent]))
  case coefSwap =>
    intro ch tag c y ha hy hlen hbank hbump hzero hpresent hinst
    refine onHalf_cmd hx hp ha hy (by simp [hlen, hbank, hbump, hzero]) rfl rfl ?_
    exact (if_neg (by simp [hpresent])).trans (if_neg (Bool.eq_false_iff.mp hinst))
  case ceInject =>
    rintro ch tag c y v per ha hy hlen hview hg rfl hf0 hf1 hdur hidle hmode hmask
    refine onHalf_cmd hx hp ha hy hlen rfl rfl ?_
    have hstate (k : Nat) (hk : k < 4) : y.tgState k = 0 := by
      simpa using List.all_eq_true.mp hidle k (List.mem_range.mpr hk)
    simp only [hview]
    refine (if_neg (Nat.not_le.mpr hg)).trans ((if_neg (by simp [hf0, hf1, hdur])).trans ((if_neg ?_).trans ?_))
    · simp +contextual [hstate, hg, hmode]
    · simp [hmask]
  case traceArm =>
    rintro ch tag c y z ha hy hlen ht hinst hhost hop hdepth rfl
    refine onHalf_cmd hx hp ha hy hlen rfl rfl ?_
    simp [Nat.not_le.mpr ht, hinst, hhost, hop, Nat.not_le.mpr hdepth]
  case traceStop =>
    rintro ch tag c y z ha hy hlen ht hinst hop rfl
    refine onHalf_cmd hx hp ha hy hlen rfl rfl ?_
    simp [Nat.not_le.mpr ht, hinst, hop]
  case traceRead =>
    rintro ch tag c y t ha hy hlen hzero ht hdone hn rfl
    refine onHalf_cmd hx hp ha hy (by simp [hlen, hzero]) rfl rfl ?_
    exact (if_neg (Nat.not_le.mpr ht)).trans ((if_neg (by simp [hdone])).trans (if_pos hn))
  case timeGet =>
    intro ch tag c y ha hy hlen
    exact onHalf_cmd hx hp ha hy (lenIs_of_eq hlen) rfl rfl rfl
  case timeQuery =>
    intro ch tag c y ha hy hlen hop hsrc hzero
    refine onHalf_cmd hx hp ha hy (by simp [hlen, hop, hsrc, hzero]) rfl rfl ?_
    simp only [hop]
  case timeSelect =>
    rintro ch tag c y z ha hy hlen hop hsrc hzero rfl
    refine onHalf_cmd hx hp ha hy (by simp [hlen, hop, hsrc, hzero]) rfl rfl ?_
    simp only [hop]
  case timeSet =>
    rintro ch tag c y z ha hy hlen hop hsrc hzero hfree rfl
    refine onHalf_cmd hx hp ha hy (by simp [hlen, hop, hsrc, hzero]) rfl rfl ?_
    simp only [hop]
    exact if_neg (by simp [hfree])
  case dispStage =>
    intro ch tag c y v z ha hy hlen hpresent hop hfree
    refine onHalf_cmd hx hp ha hy hlen rfl rfl ((if_neg (by simp [hpresent])).trans ?_)
    simp only [hop, hfree]
  case dispRegion =>
    intro ch tag c y ha hy hlen hpresent hop
    refine onHalf_cmd hx hp ha hy hlen rfl rfl ((if_neg (by simp [hpresent])).trans ?_)
    simp only [hop]
  case dispStatus =>
    intro ch tag c y ha hy hlen
    exact onHalf_cmd hx hp ha hy (lenIs_of_eq hlen) rfl rfl rfl
  case join =>
    intro ch tag c y ha hy hlen hworker
    exact onHalf_cmd hx hp ha hy (lenIs_of_eq hlen) rfl rfl (if_neg (Bool.eq_false_iff.mp hworker))
  case leagueSelf =>
    rintro ch tag c y o ha hy hlen hop hzero hmin hmax hzero' rfl
    exact onHalf_cmd hx hp ha hy (by simp [hlen, hop, hzero, hmin, hmax, hzero']) rfl rfl (if_pos hop)
  case leagueStations =>
    rintro ch tag c y n ha hy hlen hop hzero hmin hmax hzero' hmanager hfirst rfl
    refine onHalf_cmd hx hp ha hy (by simp [hlen, hop, hzero, hmin, hmax, hzero']) rfl rfl ?_
    refine (if_neg (by simp [hop])).trans ?_
    exact (if_neg (Nat.not_le.mpr hfirst)).trans (if_neg (by simp [hmanager]))
  case safety =>
    intro ch tag c y ha hy hlen hfirst hmin hmax hzero
    exact onHalf_cmd hx hp ha hy (by simp [hlen, hfirst, hmin, hmax, hzero]) rfl rfl rfl

end Sys2Proof.Machine
end

section
/-! The digital and frequency inputs and outputs (R338 to R357): the filter of an input and the rows of chapter 12, each of
which acts on the one powered half it names. -/
namespace Sys2Proof.Machine

/-! ### N of a filter (R343) -/

theorem Half.diN_bounds (x : Half) (i : Nat) : 1 ≤ x.diN i ∧ x.diN i ≤ 255 := by
  have hwidth : 2 ^ (8 * (i % 4) + 7 - 8 * (i % 4) + 1) = 256 := by rw [Nat.add_sub_cancel_left]; rfl
  have hfld : x.fld (Reg.DI_FILT (i / 4)) (8 * (i % 4) + 7) (8 * (i % 4)) < 256 := by
    rw [Half.fld, getField, hwidth]
    exact Nat.mod_lt _ (by decide)
  rw [Half.diN]
  omega

theorem Half.diN_of_rd_eq {x y : Half} {i : Nat} (e : y.rd (Reg.DI_FILT (i / 4)) = x.rd (Reg.DI_FILT (i / 4))) :
    y.diN i = x.diN i := by
  rw [Half.diN, Half.diN, Half.fld, Half.fld, e]

theorem regReset_diFilt : ∀ k < 16, regReset (Reg.DI_FILT k) = 0x0C0C0C0C := by decide

/-- At reset each half's DI_FILT registers hold their reset values, since neither half's register file lists one. -/
theorem State.reset_rd_diFilt (h : HalfId) {k : Nat} (hk : k < 16) :
    (State.reset.half h).rd (Reg.DI_FILT k) = 0x0C0C0C0C := by
  refine Eq.trans ?_ (regReset_diFilt k hk)
  cases h with
  | a => rfl
  | b => exact RegFile.get_singleton_other (by simp only [Reg.DI_FILT]; omega) 1

/-- Each byte of 0x0C0C0C0C is 12. -/
theorem getField_diFiltReset : ∀ j < 4, getField 0x0C0C0C0C (8 * j + 7) (8 * j) = 12 := by decide

theorem State.reset_diN (h : HalfId) {i : Nat} (hi : i < 64) : (State.reset.half h).diN i = 12 := by
  rw [Half.diN, Half.fld, State.reset_rd_diFilt h (by omega), getField_diFiltReset _ (Nat.mod_lt i (by decide))]
  rfl

/-! ### One sample of an input (R343) -/

/-- The counter of an input after a sample: one up for a 1 and one down for a 0, within 0 and N (R343). -/
def Half.countAfter (x : Half) (i : Nat) (v : Bool) : Nat :=
  if v then min (x.diN i) (min (x.diN i) (x.dio.count.get 0 i) + 1) else min (x.diN i) (x.dio.count.get 0 i) - 1

theorem Half.diCount_count (x : Half) (i : Nat) (v : Bool) :
    (x.diCount i v).dio.count = x.dio.count.put i (x.countAfter i v) := rfl

theorem Half.count_diCount_self (x : Half) (i : Nat) (v : Bool) :
    (x.diCount i v).dio.count.get 0 i = x.countAfter i v := by
  rw [Half.diCount_count, Tab.get_put_self]

theorem Half.count_diCount_other (x : Half) {i j : Nat} (hj : j ≠ i) (v : Bool) :
    (x.diCount i v).dio.count.get 0 j = x.dio.count.get 0 j := by
  rw [Half.diCount_count, Tab.get_put_other 0 _ hj]

/-- A sample writes a register of DI_RAW alone, so it leaves every filter's N. -/
theorem Half.diN_diCount (x : Half) (i : Nat) (v : Bool) {j : Nat} (hj : j < 64) : (x.diCount i v).diN j = x.diN j := by
  refine Half.diN_of_rd_eq (Half.rd_wr_other _ ?_ _)
  split <;> simp only [Reg.DI_FILT, Reg.DI_RAW0, Reg.DI_RAW1] <;> omega

theorem Half.countAfter_diCount_other (x : Half) {i j : Nat} (hj : j < 64) (hne : j ≠ i) (v w : Bool) :
    (x.diCount i v).countAfter j w = x.countAfter j w := by
  rw [Half.countAfter, Half.countAfter, x.diN_diCount i v hj, x.count_diCount_other hne]

/-! ### One sample of every input (R338, R341) -/

/-- The samples of a list of inputs, each counted by its filter. -/
def Half.countSamples (x : Half) (levels : DWord) (l : List Nat) : Half :=
  l.foldl (fun y i => y.diCount i (levels.getLsbD i)) x

/-- Each input of the list counts its sample once, and every other input keeps its counter. -/
theorem Half.count_countSamples (x : Half) (levels : DWord) {l : List Nat} (hl : l.Nodup) {i : Nat} (hi : i < 64) :
    (x.countSamples levels l).dio.count.get 0 i =
      if i ∈ l then x.countAfter i (levels.getLsbD i) else x.dio.count.get 0 i := by
  induction l generalizing x with
  | nil => rfl
  | cons j l ih =>
    obtain ⟨hfresh, hl⟩ := List.nodup_cons.mp hl
    refine (ih (x.diCount j (levels.getLsbD j)) hl).trans ?_
    by_cases hij : i = j
    · subst hij
      rw [if_neg hfresh, if_pos List.mem_cons_self, Half.count_diCount_self]
    · simp only [x.countAfter_diCount_other hi hij, x.count_diCount_other hij, List.mem_cons, hij, false_or]

/-- The half with the instant of its last sample. -/
def Half.atSample (x : Half) : Half := { x with dio := { x.dio with sampled := some (x.mono.toNat / 250000) } }

/-- One sample of the 64 inputs: a pulsed input counts it where its window was sunk, one in continuous mode in any case
(R339, R341). -/
def Half.sampleAll (x : Half) (levels : DWord) (ok : Bool) : Half :=
  (List.range 64).foldl (fun (y : Half) i => if ok || y.diCont i then y.diCount i (levels.getLsbD i) else y) x

theorem Half.sampleAll_of_sunk (x : Half) (levels : DWord) :
    x.sampleAll levels true = x.countSamples levels (List.range 64) := by
  simp only [Half.sampleAll, Half.countSamples, Bool.true_or, if_true]

/-! ### The filtered value (R343) -/

/-- The filtered value that a counter gives: 1 at N, 0 at 0, and otherwise the one held. -/
def Half.diFiltered (x : Half) (di : Nat) : Bool :=
  if x.diN di ≤ x.dio.count.get 0 di then true else if x.dio.count.get 0 di = 0 then false
  else x.bit2 Reg.DI_LEVEL0 Reg.DI_LEVEL1 di

/-! ### The rows of the filters (R341, R343) -/

section
variable {s : State} {h : HalfId} {x : Half} (hx : s.half h = x) (hp : x.st ≠ .off)
include hx hp

/-- A sample acts at an instant of which none was taken yet. -/
theorem exec_diSample (hdom : x.domainOn 6 = true) (htimed : x.timed = true)
    (hat : x.onMultiple x.mono 250000 = true) (hnew : x.dio.sampled ≠ some (x.mono.toNat / 250000)) (levels : DWord)
    (sunk : Bool) :
    exec (.diSample h levels sunk) s =
      .next (s.put h (x.atSample.sampleAll levels (sunk && (x.role.drives || x.partnerClaim)))) := by
  refine onHalf_next hx hp (if_neg ?_)
  simp only [hdom, htimed, hat, beq_eq_false_iff_ne.mpr hnew, Bool.not_true, Bool.or_self, Bool.false_eq_true,
    not_false_eq_true]

/-- A counter changes the filtered value where it gives another than the one held. -/
theorem exec_diFilterChange_of_ne {di : Nat} (hdi : di < 64) (hdom : x.domainOn 6 = true)
    (hne : x.diFiltered di ≠ x.bit2 Reg.DI_LEVEL0 Reg.DI_LEVEL1 di) :
    exec (.diFilterChange h di) s = .next (s.put h (x.diChange di (x.diFiltered di))) := by
  have hguard : ¬(64 ≤ di || !x.domainOn 6 || x.diFiltered di == x.bit2 Reg.DI_LEVEL0 Reg.DI_LEVEL1 di) = true := by
    simp only [Nat.not_le_of_lt hdi, hdom, beq_eq_false_iff_ne.mpr hne, decide_false, Bool.not_true, Bool.or_self,
      Bool.false_eq_true, not_false_eq_true]
  exact onHalf_next hx hp (if_neg hguard)

theorem exec_diFilterChange_of_eq {di : Nat} (heq : x.diFiltered di = x.bit2 Reg.DI_LEVEL0 Reg.DI_LEVEL1 di) :
    exec (.diFilterChange h di) s = .next (s.put h x) :=
  onHalf_next hx hp (if_pos (Bool.or_eq_true_iff.mpr (.inr (beq_iff_eq.mpr heq))))

end

/-! ### What an event leaves of the registers (R23) -/

@[simp] theorem Half.modTsk_regs (x : Half) (t : Nat) (f : TaskSt → TaskSt) : (x.modTsk t f).regs = x.regs := by
  unfold Half.modTsk
  split <;> rfl

@[simp] theorem Half.activateTask_regs (x : Half) (t : Nat) : (x.activateTask t).regs = x.regs := by
  rw [Half.activateTask, Half.modTsk_regs, Half.release, Half.modTsk_regs]

@[simp] theorem Half.taskEvent_regs (x : Half) (t : Nat) : (x.taskEvent t).regs = x.regs := by
  have hmod (c : Prop) [Decidable c] (f g : TaskSt → TaskSt) :
      (if c then x.modTsk t f else x.modTsk t g).regs = x.regs := by
    split <;> exact x.modTsk_regs t _
  unfold Half.taskEvent
  dsimp only
  cases (x.tsk t).state with
  | stopped => rfl
  | tracking => dsimp only; split <;> simp
  | waiting => dsimp only; split <;> simp [hmod]
  | ready => exact x.modTsk_regs t _
  | running => exact hmod ..
  | preempted => exact hmod ..

theorem Half.diEvent_regs (x : Half) (di : Nat) (rising : Bool) : (x.diEvent di rising).regs = x.regs := by
  refine List.foldlRecOn (motive := fun y : Half => y.regs = x.regs) _ _ rfl fun y hy t _ => ?_
  split
  · split
    · exact iteInduction (motive := fun z : Half => z.regs = x.regs) (fun _ => (y.taskEvent_regs t).trans hy) fun _ => hy
    · exact hy
  · exact hy

/-! ### The level registers of an input (R357) -/

theorem Half.bit2_of_rd_eq {x y : Half} {r0 r1 : Nat} (h0 : y.rd r0 = x.rd r0) (h1 : y.rd r1 = x.rd r1) (i : Nat) :
    y.bit2 r0 r1 i = x.bit2 r0 r1 i := by
  simp only [Half.bit2, Half.bit]
  split
  · rw [h0]
  · rw [h1]

theorem Half.bit2_setBit2_self {x : Half} (hx : x.regs.wf = true) (r0 r1 i : Nat) (b : Bool) :
    (x.setBit2 r0 r1 i b).bit2 r0 r1 i = b := by
  have hlt : i % 32 < 32 := Nat.mod_lt i (by decide)
  rw [Half.bit2, Half.setBit2, Half.bit_setBit hx _ hlt hlt, if_pos rfl]

theorem Half.rd_setBit2_other (x : Half) {r0 r1 a : Nat} (h0 : a ≠ r0) (h1 : a ≠ r1) (i : Nat) (b : Bool) :
    (x.setBit2 r0 r1 i b).rd a = x.rd a := by
  refine x.rd_wr_other ?_ _
  split
  · exact h0
  · exact h1

/-- The change flag, the interrupt and the events that follow a change of level leave the level registers. -/
theorem Half.rd_signalled (x : Half) (di : Nat) (new : Bool) {a : Nat} (h0 : a ≠ Reg.DI_CHG0) (h1 : a ≠ Reg.DI_CHG1)
    (hstat : a ≠ Reg.DI_IRQ_STAT) (hicu : a ≠ Reg.ICU_SRC 96) :
    (((x.setBit2 Reg.DI_CHG0 Reg.DI_CHG1 di true).dioIrq 0).diEvent di new).rd a = x.rd a := by
  rw [Half.rd, Half.diEvent_regs]
  exact (Half.rd_irq_other _ hstat hicu).trans (x.rd_setBit2_other h0 h1 di true)

/-- A change of the filtered level is seen in its level register. -/
theorem Half.bit2_diChange {x : Half} (hx : x.regs.wf = true) (di : Nat) (new : Bool) :
    (x.diChange di new).bit2 Reg.DI_LEVEL0 Reg.DI_LEVEL1 di = new := by
  unfold Half.diChange
  extract_lets edge t y z w
  have hy : y.regs.wf = true := iteInduction (motive := fun y : Half => y.regs.wf = true)
    (fun _ => Half.wr_wf hx ..) fun _ => hx
  have hz : z.regs.wf = true := Half.wr_wf (Half.wr_wf hy ..) ..
  refine (Half.bit2_of_rd_eq ?_ ?_ di).trans (Half.bit2_setBit2_self hz ..)
  · exact Half.rd_signalled _ di new (by decide) (by decide) (by decide) (by decide)
  · exact Half.rd_signalled _ di new (by decide) (by decide) (by decide) (by decide)

/-- Settles O40: the 64 counters move apart from one another, and the level register takes the value of `diFiltered`. -/
theorem inputFilterCounts : Obligations.InputFilterCounts := by
  refine ⟨fun s h x hx hwf hp hdom => ⟨?counted, ?filtered, fun i _ => x.diN_bounds i⟩, fun h i => State.reset_diN h⟩
  case counted =>
    intro levels hsunk htimed hat hnew
    have hok : (true && (x.role.drives || x.partnerClaim)) = true := by
      rw [Bool.true_and, Bool.or_eq_true]
      exact hsunk.symm
    refine ⟨_, exec_diSample hx hp hdom htimed hat hnew levels true, fun i hi => ?_⟩
    rw [State.half_put, hok, Half.sampleAll_of_sunk, Half.count_countSamples _ _ List.nodup_range hi,
      if_pos (List.mem_range.mpr hi)]
    rfl
  case filtered =>
    intro di hdi
    by_cases heq : x.diFiltered di = x.bit2 Reg.DI_LEVEL0 Reg.DI_LEVEL1 di
    · refine ⟨_, exec_diFilterChange_of_eq hx hp heq, ?_⟩
      rw [State.half_put]
      exact heq.symm
    · refine ⟨_, exec_diFilterChange_of_ne hx hp hdi hdom heq, ?_⟩
      rw [State.half_put]
      exact Half.bit2_diChange hwf di _

/-! ### The rows of chapter 12 (R340 to R355) -/

/-- The condition of a row whose unit is in range. -/
theorem inRange_and {n m : Nat} {c : Bool} (hn : n < m) (hc : c = true) : (n < m && c) = true := by
  rw [decide_eq_true hn, hc, Bool.and_self]

/-- The guard that a row puts before its meaning passes a unit in range where the row's condition holds. -/
theorem unitGuard_passes {n m : Nat} {c : Bool} (hn : n < m) (hc : c = true) : ¬(m ≤ n || !c) = true := by
  simp [hn, hc]

/-- The same of a row that a second condition makes due. -/
theorem dueGuard_passes {n m : Nat} {c d : Bool} (hn : n < m) (hc : c = true) (hd : d = true) :
    ¬(m ≤ n || !c || !d) = true := by
  simp [hn, hc, hd]

/-- An edge of a frequency input in range is taken where its mode is 1 or 2 and PD6 is on. -/
theorem fiGuard_passes {x : Half} {fi : Nat} (hfi : fi < 4) (hdom : x.domainOn 6 = true)
    (hmode : x.fld (Reg.FI_CFG fi) 1 0 = 1 ∨ x.fld (Reg.FI_CFG fi) 1 0 = 2) :
    ¬(4 ≤ fi || x.fld (Reg.FI_CFG fi) 1 0 = 0 || x.fld (Reg.FI_CFG fi) 1 0 = 3 || !x.domainOn 6) = true := by
  obtain hmode | hmode := hmode
  · simp [hfi, hdom, hmode]
  · simp [hfi, hdom, hmode]

/-- Settles O59: in each clause the channel is in range and the row's condition holds, so the row acts. -/
theorem digitalRowsComplete : Obligations.DigitalRowsComplete := by
  intro s h x hx hp
  have next {f : Half → Half} {y : Half} (hf : f x = y) : onHalf s h f = .next (s.put h y) := onHalf_next hx hp hf
  refine ⟨?sample, ?rises, ?falls, ?sink, ?limit, ?overtemp, ?overtempClear, ?group, ?groupRestart, ?openLoad, ?short,
    ?stuck, ?edge, ?edgeTooFast, ?speed, ?zero⟩
  case sample =>
    rintro levels sunk ok y hdom htimed hat hnew rfl rfl
    exact exec_diSample hx hp hdom htimed hat hnew levels sunk
  case rises =>
    intro di hdi hdom hfull hlow
    have hnew : x.diFiltered di = true := if_pos hfull
    rw [exec_diFilterChange_of_ne hx hp hdi hdom (by simp [hnew, hlow]), hnew]
  case falls =>
    intro di hdi hdom hN hempty hhigh
    have hnew : x.diFiltered di = false := (if_neg (by omega)).trans (if_pos hempty)
    rw [exec_diFilterChange_of_ne hx hp hdi hdom (by simp [hnew, hhigh]), hnew]
  case sink => exact fun _ hsinks => next (if_pos hsinks)
  case limit =>
    intro ch hch hon
    exact next (if_pos (inRange_and hch hon))
  case overtemp =>
    intro ch hch hdom
    exact next (if_pos (inRange_and hch hdom))
  case overtempClear =>
    intro ch hch hhot
    exact next (if_pos (inRange_and hch hhot))
  case group =>
    rintro g n chs hg hdom rfl
    exact next (if_neg (unitGuard_passes hg hdom))
  case groupRestart => exact fun _ hrested => next (if_pos hrested)
  case openLoad => exact fun _ hdiag => next (if_pos hdiag)
  case short => exact fun _ hdiag => next (if_pos hdiag)
  case stuck =>
    intro ch hch hdom hfree
    exact next (if_pos (by simp only [hch, hdom, hfree, decide_true, Bool.not_false, Bool.and_self]))
  case edge =>
    rintro fi rising hns t hfi hdom hmode rfl hslow
    refine next ((if_neg (fiGuard_passes hfi hdom hmode)).trans (if_neg ?_))
    cases hlast : (x.fi fi).last with
    | none => exact Bool.false_ne_true
    | some l =>
      rw [hlast, Option.all_some, decide_eq_true_iff] at hslow
      simpa only [decide_eq_true_iff, Nat.not_lt] using hslow
  case edgeTooFast =>
    rintro fi rising hns t l hfi hdom hmode rfl hlast hfast
    refine next ((if_neg (fiGuard_passes hfi hdom hmode)).trans (if_pos ?_))
    simpa only [hlast, decide_eq_true_iff] using hfast
  case speed =>
    rintro fi d ppr t0 t1 rest y hfi hdom hedges hdue rfl rfl hlate rfl hppr
    refine next ?_
    simp only [hedges]
    refine (if_neg (dueGuard_passes hfi hdom hdue)).trans (if_neg ?_)
    simp only [Nat.not_le_of_lt hlate, hppr, decide_false, Bool.or_self, Bool.false_eq_true, not_false_eq_true]
  case zero =>
    rintro fi y hfi hdom hgone rfl
    exact next (if_neg (dueGuard_passes hfi hdom hgone))

end Sys2Proof.Machine
end

section
/-! The rows of the current loops (R358 to R380), each of which acts on the one half that it names. -/
namespace Sys2Proof.Machine

/-- Settles O60: in each clause the channel is in range and the row's condition holds, so the row acts. That
AO_COMPLY_RETURN ends both conditions of an output, that the corrected current is a function without a body, and that a
calibration is stored at its second gap, is the model's choice (assumptions 66 and 100). -/
theorem currentLoopRowsComplete : Obligations.CurrentLoopRowsComplete := by
  intro s h x hx hp
  have next {f : Half → Half} {y : Half} (hf : f x = y) : onHalf s h f = .next (s.put h y) := onHalf_next hx hp hf
  refine ⟨?disabled, ?held, ?converted, ?failureBand, ?sideBand, ?aiComply, ?aiComplyEnd, ?calibrated, ?aoComply,
    ?aoReturns, ?aoOpen, ?aoSink⟩
  case disabled =>
    rintro ai raw vs temp supLim z hai hdom hdue rfl hoff
    exact next ((if_neg (dueGuard_passes hai hdom hdue)).trans (if_pos (by simp only [hoff]; decide)))
  case held =>
    rintro ai raw vs temp supLim z y hai hdom hdue rfl hon hgap rfl
    refine next ((if_neg (dueGuard_passes hai hdom hdue)).trans ((if_neg (by simp only [hon]; decide)).trans ?_))
    rcases hgap with hfirst | hsecond
    · simp only [hfirst, decide_true, Bool.true_or, if_true]
    · simp only [hsecond, decide_true, Bool.or_true, if_true]
  case converted =>
    rintro ai raw vs temp supLim z y w q hai hdom hdue rfl hon hgap12 hgap1 rfl rfl rfl
    refine next ((if_neg (dueGuard_passes hai hdom hdue)).trans ((if_neg (by simp only [hon]; decide)).trans ?_))
    simp only [hgap12, hgap1, decide_false, Bool.or_self, Bool.false_eq_true, if_false]
  case failureBand =>
    rintro ai t hai hconv rfl hfar hgone
    exact next ((if_neg (unitGuard_passes hai hconv)).trans (if_pos (by simp [hfar, hgone])))
  case sideBand =>
    rintro ai t hai hconv rfl hfar hgone
    exact next ((if_neg (unitGuard_passes hai hconv)).trans ((if_neg (by simpa using hfar)).trans (if_pos hgone)))
  case aiComply =>
    intro ai hai hcond hact hnew hgone
    exact next (if_neg (by simp [hai, hcond, hact, hnew, hgone]))
  case aiComplyEnd =>
    intro ai hai hdom hcond hgone
    exact next (if_neg (by simp [hai, hdom, hcond, hgone]))
  case calibrated =>
    rintro ai bin o g voc ratio lok seen y c hai hbin hdom halone hdue rfl rfl
    refine next (if_neg ?_)
    rw [halone, hdue]
    simp [hai, hbin, hdom]
  case aoComply =>
    rintro ao rb drive y hao hreg hlow rfl
    exact next ((if_neg (Nat.not_le_of_lt hao)).trans (if_neg (by simp [hreg, hlow])))
  case aoReturns =>
    rintro ao rb y hao hdom rfl hnear
    exact next ((if_neg (unitGuard_passes hao hdom)).trans (if_neg (by simp only [hnear]; decide)))
  case aoOpen =>
    intro ao rb hao hreg hcmd hlow
    exact next ((if_neg (Nat.not_le_of_lt hao)).trans (if_neg (by simp [hcmd, hlow, hreg])))
  case aoSink =>
    intro ao hao hreg
    exact next (if_neg (unitGuard_passes hao hreg))

end Sys2Proof.Machine
end

section
/-! Station time and PTP (chapter 14): the capture FIFOs, and the rows, each of which acts on the one half that it names. -/
namespace Sys2Proof.Machine

/-! ### The capture FIFOs (R402) -/

/-- The record of an edge captured now on a FIFO. -/
def Half.edgeRecord (x : Half) (k : Nat) (rising halfNs : Bool) : Capture :=
  { t := x.now, tick := x.ts.tick, seq := x.ts.capSeq.get 0 k, rising := rising, halfNs := halfNs }

/-- A capture changes the table of FIFOs at its own FIFO only, whether or not that overflows. -/
theorem Half.capture_fifos (x : Half) (k : Nat) (rising halfNs : Bool) :
    (x.capture k rising halfNs).ts.fifos = x.ts.fifos.put k
      ((if 64 ≤ (x.ts.fifos.get [] k).length then (x.ts.fifos.get [] k).drop 1 else x.ts.fifos.get [] k) ++
        [x.edgeRecord k rising halfNs]) := by
  unfold Half.capture
  dsimp only
  split
  · exact congrArg TsBlk.fifos (Half.irq_ts ..)
  · rfl

/-- Of a list of at most n and one more entry, dropping the oldest where n are there leaves the newest n. -/
theorem drop_one_if_full_append {α : Type} {n : Nat} (q : List α) (e : α) (hn : 0 < n) (hq : q.length ≤ n) :
    (if n ≤ q.length then q.drop 1 else q) ++ [e] = (q ++ [e]).drop (q.length - (n - 1)) := by
  split
  · next hfull =>
    have hone : q.length - (n - 1) = 1 := by omega
    rw [hone, List.drop_append_of_le_length (by omega)]
  · next hroom =>
    have hzero : q.length - (n - 1) = 0 := by omega
    rw [hzero, List.drop_zero]

/-- Settles O27: the FIFO captured into takes the edge and loses its oldest entry where it held 64. -/
theorem captureKeepsNewest64 : Obligations.CaptureKeepsNewest64 := by
  intro x k rising halfNs hlen
  refine ⟨⟨x.edgeRecord k rising halfNs, rfl, rfl, rfl, ?_⟩, fun j hj => ?_⟩
  · rw [Half.capture_fifos, Tab.get_put_self]
    exact drop_one_if_full_append _ _ (by decide) hlen
  · rw [Half.capture_fifos, Tab.get_put_other _ _ hj]

/-! ### The rows of station time and PTP (R382 to R406) -/

/-- Settles O58: each clause is the branch of its row in which the row acts. That AB_DIS is logged without a channel and
that the first Announce of a sender qualifies it is the model's choice (assumptions 19 and 99). -/
theorem timeRowsComplete : Obligations.TimeRowsComplete := by
  intro s h x hx hp
  have next {f : Half → Half} {y : Half} (hf : f x = y) : onHalf s h f = .next (s.put h y) := onHalf_next hx hp hf
  refine ⟨?srvGo, ?srvStep, ?monoRead, ?monoWrap, ?stationWrap, ?second, ?holdover, ?timeSaved, ?syncTwoStep, ?syncOneStep,
    ?followUp, ?delayReq, ?delayResp, ?announce, ?sendSync, ?sendDelayReq, ?sendAnnounce, ?departs, ?departsLate,
    ?announceLost, ?syncLost, ?lansDisagree, ?edgeFi, ?edgeDi, ?popped⟩
  case srvGo | srvStep => exact fun hon => next (if_pos hon)
  case monoRead => exact next rfl
  case monoWrap | stationWrap | second => exact fun hon hat => next (if_pos (by simp only [hon, hat, Bool.and_self]))
  case holdover =>
    intro hst hgone
    exact next (if_pos (by simp [hst, hgone]))
  case timeSaved =>
    rintro y hdue rfl
    exact next (Half.every_of_due hdue _)
  case syncTwoStep =>
    intro port m hfrom htwo
    exact next ((if_neg (by simp [hfrom])).trans (if_pos htwo))
  case syncOneStep =>
    intro port m hfrom hone
    exact next ((if_neg (by simp [hfrom])).trans (if_neg (by simp [hone])))
  case followUp =>
    intro port m w hfrom hwait hseq
    refine next ((if_neg (by simp [hfrom])).trans ?_)
    simp only [hwait, hseq, if_true]
  case delayReq =>
    intro port m hdomain hmaster
    exact next (if_pos (by simp [hdomain, hmaster]))
  case delayResp =>
    rintro port m sy seq t3 sm hfrom hsync hreq rfl rfl
    refine next ((if_neg (by simp [hfrom])).trans ?_)
    simp only [hsync, hreq, bne_self_eq_false, Bool.false_eq_true, if_false]
  case announce =>
    intro port m hdomain hdom hslave
    exact next (if_neg (by simp [hdomain, hdom, hslave]))
  case sendSync =>
    rintro port y hdue hmaster rfl
    exact next (if_pos (by simp [hdue, hmaster]))
  case sendDelayReq =>
    rintro port y hdue hslave hknown rfl
    exact next (if_pos (by simp [hdue, hslave, hknown]))
  case sendAnnounce =>
    rintro port y hdue hmaster rfl
    exact next (if_pos (by simp [hdue, hmaster]))
  case departs =>
    rintro port kind t d y z hqueued rfl hlo hhi rfl rfl
    refine next ?_
    simp only [hqueued, bne_self_eq_false, Bool.false_eq_true, if_false]
    exact if_neg (by simp only [Int.not_lt.mpr hlo, Int.not_lt.mpr hhi, decide_false, Bool.or_self, Bool.false_eq_true,
      not_false_eq_true])
  case departsLate =>
    rintro port kind t d hqueued rfl hout
    refine next ?_
    simp only [hqueued, bne_self_eq_false, Bool.false_eq_true, if_false]
    exact if_pos (by simpa using hout)
  case announceLost =>
    intro port a hmaster hsilent
    refine next ?_
    simp only [hmaster, hsilent, Bool.false_eq_true, if_false]
  case syncLost =>
    intro hsource hgone
    exact next (if_pos (by simp [hsource, hgone]))
  case lansDisagree =>
    intro m hdiffer hsince hgone
    exact next (if_pos (by simp [hdiffer, hsince, hgone]))
  case edgeFi =>
    intro i rising hns hon hi hmode
    exact next ((if_neg (by simp [hon])).trans ((if_pos hi).trans (if_neg hmode)))
  case edgeDi =>
    intro i rising hns hon hlo hhi hmode
    exact next ((if_neg (by simp [hon])).trans ((if_neg (Nat.not_lt.mpr hlo)).trans (if_pos (by simp [hhi, hmode]))))
  case popped => exact fun i hi => next (if_pos hi)

end Sys2Proof.Machine
end

section
/-! The buffers of the CAN message RAM (R411, R412): what is written from an address on reads back, and a buffer's header
gives back the fields of its frame. -/
namespace Sys2Proof.Machine

/-! ### Runs of bytes of a memory -/

/-- A run of bytes written reads back byte by byte. -/
theorem Memory.get_write {m : Memory} (hm : m.wf = true) (a : Nat) {bs : List Byte} {i : Nat} (hi : i < bs.length) :
    (m.write a bs).get (a + i) = bs[i] := by
  induction bs generalizing m a i with
  | nil => exact absurd hi (Nat.not_lt_zero i)
  | cons b bs ih =>
    rw [Memory.write]
    cases i with
    | zero => exact ((m.put a b).get_write_other (a + 1) bs (.inl (Nat.lt_succ_self a))).trans (Memory.get_put_self hm a b)
    | succ i =>
      have hnext : a + (i + 1) = a + 1 + i := by omega
      rw [hnext]
      exact ih (Memory.wf_put hm a b) (a + 1) (Nat.lt_of_succ_lt_succ hi)

/-- A run of bytes written reads back piece by piece. -/
theorem Memory.read_write {m : Memory} (hm : m.wf = true) (a : Nat) (pre bs post : List Byte) :
    (m.write a (pre ++ bs ++ post)).read (a + pre.length) bs.length = bs := by
  refine List.ext_getElem (by simp [Memory.read]) fun i hi hi' => ?_
  have hlen : pre.length + i < (pre ++ bs ++ post).length := by simp; omega
  simp only [Memory.read, List.getElem_map, List.getElem_range, Nat.add_assoc]
  rw [Memory.get_write hm a hlen]
  simp [hi']

/-! ### Little-endian numbers -/

@[simp] theorem length_leNat (n v : Nat) : (leNat n v).length = n := by
  induction n generalizing v with
  | zero => rfl
  | succ n ih => rw [leNat, List.length_cons, ih]

/-- The bytes of a little-endian number sum up to it. -/
theorem foldr_leNat (n v : Nat) :
    (leNat n v).foldr (fun b acc => b.toNat + 256 * acc) 0 = v % 256 ^ n := by
  induction n generalizing v with
  | zero => rw [pow_zero, Nat.mod_one]; rfl
  | succ n ih =>
    rw [leNat, List.foldr_cons, ih, BitVec.toNat_ofNat, pow_succ' 256 n]
    exact (Nat.mod_mul ..).symm

/-- A little-endian number between other bytes reads back. -/
theorem leGet_append (pre post : List Byte) (n v : Nat) :
    leGet (pre ++ (leNat n v ++ post)) pre.length n = v % 256 ^ n := by
  rw [leGet, List.drop_left, List.take_left' (length_leNat n v), foldr_leNat]

/-! ### The header of a buffer (R412) -/

/-- The word of a buffer's header that holds the size, format and switches of its frame. -/
def canHeadWord (f : CanFrame) : Nat :=
  f.data.length % 4096 + f.fmt % 4 * 0x1000 + (if f.brs then 0x4000 else 0) + (if f.esi then 0x8000 else 0) +
    f.sdt.toNat * 0x10000 + f.vcid.toNat * 0x1000000

theorem canHeader_eq (t : DWord) (f : CanFrame) :
    canHeader t f = leBytes 8 t ++ leNat 4 (canHeadWord f) ++ leNat 4 f.af.toNat := rfl

theorem length_canHeader (t : DWord) (f : CanFrame) : (canHeader t f).length = 16 := by
  simp [canHeader_eq, leBytes]

theorem leGet_canHeader_word (t : DWord) (f : CanFrame) : leGet (canHeader t f) 8 4 = canHeadWord f % 2 ^ 32 := by
  rw [canHeader_eq, List.append_assoc]
  exact leGet_append (leBytes 8 t) _ 4 _

theorem leGet_canHeader_af (t : DWord) (f : CanFrame) : leGet (canHeader t f) 12 4 = f.af.toNat := by
  have h := leGet_append (leBytes 8 t ++ leNat 4 (canHeadWord f)) [] 4 f.af.toNat
  rw [List.append_nil] at h
  exact h.trans (Nat.mod_eq_of_lt f.af.isLt)

/-- The head word takes each field at its place, and nothing more than 32 bits. -/
theorem canHeadWord_fields {f : CanFrame} (hfmt : f.fmt < 4) (hlen : f.data.length < 4096) :
    canHeadWord f < 2 ^ 32 ∧ canHeadWord f % 2 ^ 12 = f.data.length ∧ canHeadWord f / 2 ^ 12 % 2 ^ 2 = f.fmt ∧
    canHeadWord f / 2 ^ 14 % 2 = f.brs.toNat ∧ canHeadWord f / 2 ^ 15 % 2 = f.esi.toNat ∧
    canHeadWord f / 2 ^ 16 % 2 ^ 8 = f.sdt.toNat ∧ canHeadWord f / 2 ^ 24 % 2 ^ 8 = f.vcid.toNat := by
  have hsdt : f.sdt.toNat < 256 := f.sdt.isLt
  have hvcid : f.vcid.toNat < 256 := f.vcid.isLt
  have hbrs : (if f.brs then 0x4000 else 0) = f.brs.toNat * 0x4000 := by cases f.brs <;> rfl
  have hesi : (if f.esi then 0x8000 else 0) = f.esi.toNat * 0x8000 := by cases f.esi <;> rfl
  have hb : f.brs.toNat < 2 := Bool.toNat_lt f.brs
  have he : f.esi.toNat < 2 := Bool.toNat_lt f.esi
  rw [canHeadWord, hbrs, hesi, Nat.mod_eq_of_lt hfmt, Nat.mod_eq_of_lt hlen]
  omega

/-- A bit of a word, as a number, is that of its content. -/
theorem getLsbD_ofNat_of_eq {n i : Nat} {b : Bool} (hi : i < 32) (hb : n / 2 ^ i % 2 = b.toNat) :
    (BitVec.ofNat 32 n).getLsbD i = b := by
  rw [BitVec.getLsbD_ofNat, decide_eq_true hi, Bool.true_and, Nat.testBit_eq_decide_div_mod_eq, hb]
  cases b <;> rfl

/-- A store in a buffer writes its header and its data one after the other. -/
theorem Half.canStore_ram (x : Half) (c n : Nat) (t : DWord) (f : CanFrame) :
    (x.canStore c n t f).can.ram = x.can.ram.write (x.canBuf c n) (canHeader t f ++ f.data) := by
  rw [Half.canStore]

theorem Half.read_canStore {x : Half} (hx : x.can.ram.wf = true) (c n : Nat) (t : DWord) (f : CanFrame) :
    (x.canStore c n t f).can.ram.read (x.canBuf c n) 16 = canHeader t f ∧
    (x.canStore c n t f).can.ram.read (x.canBuf c n + 16) f.data.length = f.data := by
  have hhead := Memory.read_write hx (x.canBuf c n) [] (canHeader t f) f.data
  have hdata := Memory.read_write hx (x.canBuf c n) (canHeader t f) f.data []
  rw [List.nil_append, List.length_nil, Nat.add_zero, length_canHeader] at hhead
  rw [List.append_nil, length_canHeader] at hdata
  rw [Half.canStore_ram]
  exact ⟨hhead, hdata⟩

/-- A stored frame loads with the identifier of its object. -/
theorem Half.canLoad_canStore {x : Half} (hx : x.can.ram.wf = true) (c n : Nat) (t : DWord) {f : CanFrame}
    (hfmt : f.fmt < 4) (hlen : f.data.length < 4096) :
    (x.canStore c n t f).canLoad c n =
      { f with ide := (x.canObj c n).getLsbD 4, id := x.rd (Reg.CAN_OBJ_ID c n) &&& 0x1FFFFFFF, rtr := false } := by
  obtain ⟨hhead, hdata⟩ := Half.read_canStore hx c n t f
  obtain ⟨hword, hsize, hform, hbrs, hesi, hsdt, hvcid⟩ := canHeadWord_fields hfmt hlen
  have hw : (BitVec.ofNat 32 (canHeadWord f)).toNat = canHeadWord f :=
    (BitVec.toNat_ofNat ..).trans (Nat.mod_eq_of_lt hword)
  have hbuf : (x.canStore c n t f).canBuf c n = x.canBuf c n := rfl
  have hobj : (x.canStore c n t f).canObj c n = x.canObj c n := rfl
  have hrd : (x.canStore c n t f).rd (Reg.CAN_OBJ_ID c n) = x.rd (Reg.CAN_OBJ_ID c n) := rfl
  have hl : getField (BitVec.ofNat 32 (canHeadWord f)) 11 0 = f.data.length := by
    rw [getField, hw, pow_zero, Nat.div_one]; exact hsize
  rw [Half.canLoad, hbuf, hhead, leGet_canHeader_word, Nat.mod_eq_of_lt hword, leGet_canHeader_af, hobj, hrd, hl, hdata,
    getLsbD_ofNat_of_eq (by decide) hbrs, getLsbD_ofNat_of_eq (by decide) hesi]
  simp only [getField, hw, Nat.reduceSub, Nat.reduceAdd, hform, hsdt, hvcid, BitVec.ofNat_toNat, BitVec.setWidth_eq]

/-- Settles O38: the header and the data are written one after the other, and each is read back from its place. -/
theorem canBufferRoundTrip : Obligations.CanBufferRoundTrip := by
  intro x c n t f hx hfmt hlen
  refine ⟨Half.canLoad_canStore hx c n t hfmt hlen, fun a ha => ?_⟩
  rw [Half.canStore_ram]
  refine Memory.get_write_other _ _ _ ?_
  rwa [List.length_append, length_canHeader, ← Nat.add_assoc]

end Sys2Proof.Machine
end

section
/-! The rows of CAN (chapter 15), each of which acts on the one half that it names. -/
namespace Sys2Proof.Machine

/-- Settles O6: each clause is the branch of its row in which the row acts. That a half which has left the
bus may still report one frame as sent, that NONE is set again each 10 s, and the sleep in MODE 4 are the model's choice
(assumption 84). -/
theorem canRowsComplete : Obligations.CanRowsComplete := by
  intro s h x hx hp
  have next {f : Half → Half} {y : Half} (hf : f x = y) : onHalf s h f = .next (s.put h y) := onHalf_next hx hp hf
  refine ⟨?remote, ?matched, ?sendDue, ?sent, ?error, ?busOff, ?recovered, ?released, ?delayed, ?candidate, ?noRate,
    ?sleeps, ?wakes, ?busTaken, ?busLeft, ?xcvr⟩
  case remote =>
    rintro ctl f y hrec hcar hrtr rfl
    exact next ((if_neg (by simp [hrec, hcar])).trans (if_pos hrtr))
  case matched =>
    rintro ctl f y z n hrec hcar hrtr rfl rfl hfind
    refine next ((if_neg (by simp [hrec, hcar])).trans ((if_neg (by simp [hrtr])).trans ?_))
    simp only [hfind]
  case sendDue =>
    intro ctl obj hdue hon hsend hmay hidle
    exact next (if_pos (by simp only [hdue, hon, hsend, hmay, hidle, Bool.not_false, Bool.and_self]))
  case sent =>
    rintro ctl obj f y hdom hsend hwaits herr rfl rfl
    exact next (if_neg (by simp only [hdom, hsend, hwaits, Nat.not_le_of_lt herr]; decide))
  case error =>
    intro ctl tec rec hhears hdet heff herr htec
    refine next ((if_neg (by simp [hhears])).trans ((if_neg (by simp [hdet])).trans ?_))
    exact (if_neg (by simp [heff, herr])).trans (if_neg (Nat.not_le_of_lt htec))
  case busOff =>
    rintro ctl tec rec z hhears hdet heff herr htec rfl
    refine next ((if_neg (by simp [hhears])).trans ((if_neg (by simp [hdet])).trans ?_))
    exact (if_neg (by simp [heff, herr])).trans (if_pos htec)
  case recovered =>
    intro ctl hhears herr hgone
    exact next (if_pos (by simp [hhears, herr, hgone]))
  case released =>
    intro ctl hhears hgated
    exact next (if_pos (by simp [hhears, hgated]))
  case delayed =>
    rintro ctl used rfl hhears hgated herr hfree hgone hroom
    exact next ((if_neg (by simp [hhears, hgated, herr, hfree, hgone])).trans (if_neg (Nat.not_le_of_lt hroom)))
  case candidate | noRate =>
    intro ctl hhears hdet hgone
    exact next (if_pos (by simp [hhears, hdet, hgone]))
  case sleeps =>
    intro ctl hhears hasked
    exact next (if_pos (by simpa [hhears] using hasked))
  case wakes =>
    intro ctl frame hctl hdom hasleep hedge
    exact next (if_neg (by simp [hctl, hdom, hasleep, hedge]))
  case busTaken =>
    intro ctl hctl hdom hho hact hnot
    refine next ((if_neg (unitGuard_passes hctl hdom)).trans ?_)
    simp [hho, hact, hnot]
  case busLeft =>
    intro ctl hctl hdom hho hidle
    refine next ((if_neg (unitGuard_passes hctl hdom)).trans ?_)
    simp [hho, hidle]
  case xcvr =>
    intro ctl hctl hdom
    exact next (if_pos (inRange_and hctl hdom))

end Sys2Proof.Machine
end

section
/-! The rows of the network and serial ports (chapter 16), each of which acts on the one half that it names. -/
namespace Sys2Proof.Machine

/-- Settles O7: each clause is the branch of its row in which the row acts. That a sentence never received times out, and
that the wait after a broadcast ends without a failure, is the model's choice (assumption 101). -/
theorem portRowsComplete : Obligations.PortRowsComplete := by
  intro s h x hx hp
  have next {f : Half → Half} {y : Half} (hf : f x = y) : onHalf s h f = .next (s.put h y) := onHalf_next hx hp hf
  refine ⟨?lanGood, ?lanBad, ?supervision, ?nodeForgotten, ?lanLink, ?instrumentLink, ?lanLost, ?sentenceTaken,
    ?sentenceTimesOut, ?sentenceSent, ?serError, ?serSentence, ?modbusAnswer, ?pollLate, ?pollSent, ?pollTimesOut,
    ?serTaken, ?serLeft, ?unblocked⟩
  case lanGood =>
    intro port f hport hon hup hok
    exact next ((if_neg (dueGuard_passes hport hon hup)).trans (if_neg (by simp [hok])))
  case lanBad =>
    intro port f hport hon hup hbad
    exact next ((if_neg (dueGuard_passes hport hon hup)).trans (if_pos (by simp [hbad])))
  case supervision =>
    intro hon hprp hdue
    exact next ((if_pos (by simp [hon, hprp])).trans (Half.every_of_due hdue _))
  case nodeForgotten =>
    intro src n hnode hgone
    exact next (if_pos (by simp [hnode, hgone]))
  case lanLink =>
    rintro port up y z hport hdom hchange rfl rfl
    have hlan : port ≠ 2 := Nat.ne_of_lt hport
    refine next ((if_neg ?_).trans ?_)
    · simp [hdom, hchange, Nat.lt_succ_of_lt hport]
    · cases up <;> simp [hlan]
  case instrumentLink =>
    rintro up y z hdom hchange rfl rfl
    refine next ((if_neg ?_).trans ?_)
    · simp [hdom, hchange]
    · cases up <;> simp
  case lanLost =>
    intro hdown0 hdown1 hgone0 hgone1
    exact next (if_pos (by simp only [hdown0, hdown1, hgone0, hgone1, Bool.not_false, Bool.and_self]))
  case sentenceTaken =>
    intro sn y hon hup hroom hsum hforeign
    refine next ((if_neg (by simp [hon, hup])).trans ?_)
    simp [hroom, hsum, hforeign]
  case sentenceTimesOut =>
    rintro idx c y hc hreceived hlate rfl
    have hcfg : (x.sentenceCfg idx).filter (fun c => !c.send) = some c :=
      Option.filter_eq_some_iff.mpr ⟨hc, by simp [hreceived]⟩
    refine next ?_
    simp only [hcfg, hlate, Bool.false_eq_true, if_false]
  case sentenceSent =>
    intro idx c hc hsend hperiod hdue
    have hcfg : (x.sentenceCfg idx).filter (fun c => c.send && 0 < c.timeout) = some c :=
      Option.filter_eq_some_iff.mpr ⟨hc, by simp [hsend, hperiod]⟩
    refine next ?_
    simp only [hcfg]
    exact Half.every_of_due hdue _
  case serError =>
    intro bus framing hon
    exact next ((if_neg (by simp [hon])).trans rfl)
  case serSentence =>
    intro bus sn hon htype hsum
    exact next ((if_neg (by simp [hon])).trans ((if_neg (by simp [htype])).trans (if_neg (by simp [hsum]))))
  case modbusAnswer =>
    rintro bus addr fn data y hon htype rfl hdrives - -
    refine next ((if_neg (by simp [hon])).trans ((if_neg (by simp [htype])).trans ?_))
    simp [hdrives, htype]
  case pollLate =>
    rintro bus req q y hq hdrives htype hdue rfl hbusy
    refine next ?_
    simp only [hq]
    refine (if_neg (by simp [hdrives, htype])).trans ((Half.every_of_due hdue _).trans (if_neg ?_))
    simpa [Option.isSome_iff_ne_none] using hbusy
  case pollSent =>
    rintro bus req q y hq hdrives htype hdue rfl hidle
    refine next ?_
    simp only [hq]
    refine (if_neg (by simp [hdrives, htype])).trans ((Half.every_of_due hdue _).trans (if_pos ?_))
    simp [hidle]
  case pollTimesOut =>
    intro bus req q n hpend hq hdrives htype hgone
    refine next ?_
    simp [hpend, hq, hdrives, htype, hgone]
  case serTaken =>
    intro bus hbus hdom hho hact hfield hnot
    refine next ((if_neg (unitGuard_passes hbus hdom)).trans ?_)
    simp [hho, hact, hfield, hnot]
  case serLeft =>
    intro bus hbus hdom hho hidle
    refine next ((if_neg (unitGuard_passes hbus hdom)).trans ?_)
    simp [hho, hidle]
  case unblocked =>
    intro addr hblocked hgone
    exact next (if_pos (by rw [hblocked, hgone, Bool.and_self]))

end Sys2Proof.Machine
end

section
/-! The rows of verification jobs, background work and the recorder (chapters 17 and 18), each of which acts on the one
half that it names. -/
namespace Sys2Proof.Machine

/-- Settles O8: each clause is the branch of its row in which the row acts. That PD1 goes off with the final pass, and the
order of a new standby half's proof tests, is the model's choice (assumptions 16 and 80). -/
theorem coverageRowsComplete : Obligations.CoverageRowsComplete := by
  intro s h x hx hp
  have next {f : Half → Half} {y : Half} (hf : f x = y) : onHalf s h f = .next (s.put h y) := onHalf_next hx hp hf
  have hst : (x.st == .off) = false := beq_eq_false_iff_ne.mpr hp
  refine ⟨?go, ?stop, ?done, ?repeated, ?again, ?flashScan, ?paramChain, ?telemetry, ?proofTests, ?silent, ?budget, ?erase,
    ?pass, ?finalPass⟩
  case go | stop => exact fun _ => next rfl
  case done =>
    intro slot data ecc wr hslot hstate hread
    refine next (if_pos ?_)
    rcases hread with hecc | ⟨htook, hlen⟩
    · simp [hslot, hstate, hecc]
    · simp [hslot, hstate, htook, hlen]
  case repeated =>
    intro slot hslot hon hrep hjob hgone hidle
    exact next ((if_neg (by simp [hslot, hon, hrep, Option.isSome_iff_ne_none.mp hjob, hgone])).trans
      (if_neg (by simp [hidle])))
  case again =>
    intro slot hslot hon hrep hjob hgone hruns
    exact next ((if_neg (by simp [hslot, hon, hrep, Option.isSome_iff_ne_none.mp hjob, hgone])).trans (if_pos hruns))
  case flashScan | telemetry | proofTests =>
    intro vs bad hserves hdue
    exact next (if_neg (by simp [hserves, hdue]))
  case paramChain =>
    rintro vs bad y hserves hdue rfl
    exact next (if_neg (by simp [hserves, hdue]))
  case silent =>
    intro act vs bad hact
    refine next ?_
    rcases hact with rfl | rfl | rfl | rfl | rfl | rfl <;> exact ite_self x
  case budget =>
    intro act hserves hlate
    exact next (if_pos (by simp [hserves, hlate]))
  case erase => exact fun block ok hdom => next (if_pos hdom)
  case pass =>
    intro hon hpower
    exact next ((if_neg (by simp [hst, hon])).trans (if_neg (by simp [hpower])))
  case finalPass =>
    intro hpower
    exact next ((if_neg (by simp [hst, hpower])).trans (if_pos hpower))

end Sys2Proof.Machine
end

section
/-! The bistable display (chapter 19) and the interrupt controller (R504): the source that a claim read returns, and the
rows, each of which acts on the one half that it names. -/
namespace Sys2Proof.Machine

/-! ### The interrupt controller (R504) -/

/-- A source is pending, enabled and routed to the target. -/
def Half.irqReady (x : Half) (app : Bool) (i : Nat) : Bool :=
  x.bit (Reg.ICU_SRC i) 5 && x.bit (Reg.ICU_SRC i) 4 && x.bit (Reg.ICU_SRC i) 3 == app

theorem Half.irqReady_iff {x : Half} {app : Bool} {i : Nat} : x.irqReady app i = true ↔
    x.bit (Reg.ICU_SRC i) 5 = true ∧ x.bit (Reg.ICU_SRC i) 4 = true ∧ x.bit (Reg.ICU_SRC i) 3 = app := by
  rw [Half.irqReady, Bool.and_eq_true, Bool.and_eq_true, beq_iff_eq, and_assoc]

/-- The source claimed is the first of those ready whose priority number is the least. -/
theorem Half.topIrq_eq_argmin (x : Half) (app : Bool) :
    x.topIrq app = ((List.range 256).filter (x.irqReady app)).argmin fun i => x.fld (Reg.ICU_SRC i) 2 0 := by
  unfold Half.topIrq List.argmin
  refine congrArg (fun f => List.foldl f none _) (funext₂ fun m i => ?_)
  cases m with
  | none => rfl
  | some j => rfl

/-- Settles O37: a least element of the ready sources exists exactly where one is ready. -/
theorem claimedInterruptIsHighest : Obligations.ClaimedInterruptIsHighest := by
  intro x app
  rw [Half.topIrq_eq_argmin]
  have hready (j : Nat) (hj : j < 256) (hr : x.irqReady app j = true) :
      j ∈ (List.range 256).filter (x.irqReady app) := List.mem_filter.mpr ⟨List.mem_range.mpr hj, hr⟩
  refine ⟨fun i hi => ?_, fun hnone j hj hr => ?_⟩
  · obtain ⟨hmem, hr⟩ := List.mem_filter.mp (List.argmin_mem hi)
    obtain ⟨hpend, hen, hroute⟩ := Half.irqReady_iff.mp hr
    refine ⟨List.mem_range.mp hmem, hpend, hen, hroute, fun j hj hpend' hen' hroute' => ?_⟩
    exact List.le_of_mem_argmin (hready j hj (Half.irqReady_iff.mpr ⟨hpend', hen', hroute'⟩)) hi
  · have hmem := hready j hj (Half.irqReady_iff.mpr hr)
    rw [List.argmin_eq_none.mp hnone] at hmem
    exact List.not_mem_nil hmem

/-! ### The rows of the display, and the claim read (R474 to R486, R504) -/

/-- Settles O9: each clause is the branch of its row in which the row acts. The event that DISP_RAIL_FAULT records without
a channel is the model's choice (assumption 19). -/
theorem displayRowsComplete : Obligations.DisplayRowsComplete := by
  intro s h x hx hp
  have next {f : Half → Half} {y : Half} (hf : f x = y) : onHalf s h f = .next (s.put h y) := onHalf_next hx hp hf
  refine ⟨?frame, ?coverFitted, ?coverRemoved, ?noClaim, ?discharged, ?ackTimeout, ?stress, ?railFault, ?railsOn, ?claimed,
    ?noneClaimed⟩
  case frame =>
    rintro temp z rfl hdraws hdue
    exact next ((if_neg (by simp only [hdraws]; decide)).trans (Half.every_of_due hdue _))
  case coverFitted =>
    intro cover hdom
    exact next (if_neg (by simp [hdom]))
  case coverRemoved =>
    rintro y hpres rfl
    exact next (if_pos hpres)
  case noClaim =>
    intro hlong hown hpartner
    exact next (if_pos (by simp [hlong, hown, hpartner]))
  case discharged => exact next rfl
  case ackTimeout =>
    intro slot hslot hawaits hgone
    exact next (if_pos (by simp [hslot, hawaits, hgone]))
  case stress =>
    rintro y hdue rfl
    exact next (Half.every_of_due hdue _)
  case railFault => exact fun hon => next (if_pos hon)
  case railsOn =>
    intro hdom hen hpres hidle hclaims
    exact next (if_pos (by simp [hdom, hen, hpres, hidle, hclaims]))
  case claimed =>
    intro app i hdom htop
    refine next ((if_neg (by simp [hdom])).trans ?_)
    simp only [htop]
  case noneClaimed =>
    intro app hdom hnone
    refine next ((if_neg (by simp [hdom])).trans ?_)
    simp only [hnone]

end Sys2Proof.Machine
end

section
/-! What resets keep (R500), and when they are refused (R502). -/
namespace Sys2Proof.Machine

/-! ### Refused resets (R502) -/

/-- A meaning that leaves the half it names as it is changes nothing, with or without power. -/
theorem onHalf_unchanged {s : State} {h : HalfId} {f : Half → Half} (hf : f (s.half h) = s.half h) :
    onHalf s h f = .next s := by
  by_cases hp : (s.half h).st = .off
  · exact onHalf_off hp
  · rw [onHalf_next rfl hp hf, State.put_self]

/-- Neither reset of SYS_RST is taken while the half claims or holds its outputs. -/
theorem Half.mayReset_of_claiming {x : Half} (hc : x.claims = true ∨ x.role.holdWindow = true) : x.mayReset = false := by
  unfold Half.mayReset
  rcases hc with hclaims | hholds
  · rw [hclaims, Bool.not_true, Bool.and_false, Bool.false_and]
  · rw [hholds, Bool.not_true, Bool.and_false]

/-- Settles O32: a half that may not reset is left as it is by either write. -/
theorem resetWritesIgnoredWhileClaiming : Obligations.ResetWritesIgnoredWhileClaiming := by
  intro s h doms hc
  have hno := Half.mayReset_of_claiming hc
  refine ⟨onHalf_unchanged ?_, onHalf_unchanged ?_⟩
  · exact if_pos (by rw [hno]; rfl)
  · exact if_neg (by simp [hno])

/-! ### What lies in MRAM and NOR (R500) -/

/-- The coefficient bins of an input are all that a reset of PD7 leaves of it. -/
theorem map_bins_of_reset (t : Tab AiSt) :
    (t.map fun e => (e.1, ({ bins := e.2.bins } : AiSt))).map (fun e => (e.1, e.2.bins)) = t.map fun e => (e.1, e.2.bins) := by
  rw [List.map_map]
  rfl

/-- Settles O34: a reset changes blocks with such contents in PD1, PD6 and PD7 only, and there keeps them. -/
theorem mramSurvivesResets : Obligations.MramSurvivesResets := by
  intro x d
  unfold Half.resetDomain
  dsimp only
  split
  case h_7 => exact ⟨rfl, rfl, rfl, rfl, rfl, rfl, rfl, rfl, rfl, rfl, map_bins_of_reset x.aio.ai, rfl, rfl, rfl, rfl⟩
  all_goals exact ⟨rfl, rfl, rfl, rfl, rfl, rfl, rfl, rfl, rfl, rfl, rfl, rfl, rfl, rfl, rfl⟩

end Sys2Proof.Machine
end

section
/-! The rows of power, feeds and resets (chapter 20). -/
namespace Sys2Proof.Machine

/-- Settles O44: each clause is the branch of its row in which the row acts. The order of the sources of
DOMAIN_RAIL_FAULT, and that OPERATING_MINUTE is accepted in the last second of a minute, is the model's choice
(assumptions 16 and 101). -/
theorem powerRowsComplete : Obligations.PowerRowsComplete := by
  intro s h x hx hp
  have next {f : Half → Half} {y : Half} (hf : f x = y) : onHalf s h f = .next (s.put h y) := onHalf_next hx hp hf
  have hst : (x.st == .off) = false := beq_eq_false_iff_ne.mpr hp
  refine ⟨?railGood, ?powerFail, ?storeEmpty, ?holdup, ?holdupLow, ?railFault, ?scrupleRail, ?fieldRail, ?resetDomain,
    ?resetHalf, ?resetEnds, ?minute, ?minuteFull⟩
  case railGood =>
    rintro pd y hord hdown hbefore hgone rfl hpd hdomain hl3
    refine next ((if_neg ?_).trans ?_)
    · simp only [hst, hord, hdown, hbefore, hgone]; decide
    · simp only [hpd, if_false, hdomain, hl3, Bool.or_self, Bool.false_eq_true]
  case powerFail =>
    intro hstore hfirst hgone
    exact next (if_neg (by simp [hst, hstore, hfirst, hgone]))
  case storeEmpty =>
    intro hstore hheld
    exact next (if_neg (by simp only [hst, hstore, hheld]; decide))
  case holdup =>
    intro energy henough hwas
    refine next ((if_neg (powered_not_off hp)).trans ?_)
    simp [henough, hwas, Half.raiseIf]
  case holdupLow =>
    intro energy hlow hwas
    refine next ((if_neg (powered_not_off hp)).trans ?_)
    simp [Nat.not_le_of_lt hlow, hwas, Half.raiseIf]
  case railFault =>
    intro pd hpd
    refine next ?_
    rcases hpd with rfl | rfl | rfl | rfl | rfl <;> exact if_neg (by simp [hst])
  case scrupleRail => exact next (if_neg (by simp [hst]))
  case fieldRail =>
    intro hnohold
    refine next ((if_neg (by simp [hst])).trans ?_)
    simp [hnohold]
  case resetDomain => exact fun _ => next rfl
  case resetHalf => exact next rfl
  case resetEnds =>
    rintro pd y z hpd hrst hup hgone hl3 hstart hresetting rfl rfl
    refine next ((if_neg ?_).trans ?_)
    · simp only [hrst, hup, Nat.not_lt_of_le hpd, hgone]; decide
    · simp [hl3, hstart, hresetting]
  case minute =>
    rintro y hlast hroom rfl
    refine next ((if_neg (by simp [hst, hlast])).trans ?_)
    simp only [hroom, if_false]
    rfl
  case minuteFull =>
    rintro y hlast hfull rfl
    refine next ((if_neg (by simp [hst, hlast])).trans ?_)
    simp only [hfull, if_true]
    rfl

/-! ### The feeds (R488, R489, R494) -/

/-- A row that changes the baseplate beside one powered half. -/
theorem onHalf_modStn_next {s : State} {h : HalfId} {x y : Half} {f : Half → Half} {g : Station → Station}
    (hx : s.half h = x) (hp : x.st ≠ .off) (hf : f x = y) :
    onHalf (s.modStn g) h f = .next ((s.modStn g).put h y) :=
  onHalf_next ((State.half_modStn ..).trans hx) hp hf

/-- Settles O45: the feed is one of the row's pair, so the row reaches its half. The voltage read is the model's free value
(assumption 30). -/
theorem feedRowsComplete : Obligations.FeedRowsComplete := by
  intro s h x p hx _ hp _
  refine ⟨?bothFail, ?logicReturns, ?fieldChanges⟩
  case bothFail =>
    rintro y hon rfl
    exact onHalf_modStn_next hx hp (if_neg (by simp [hp, hon]))
  case logicReturns =>
    intro feed hfeed hpower
    have hlogic : ¬(feed == .flda || feed == .fldb) = true := by rcases hfeed with rfl | rfl <;> decide
    refine (if_neg hlogic).trans (onHalf_modStn_next hx hp ?_)
    exact (if_neg (powered_not_off hp)).trans (if_neg (by simp [hpower]))
  case fieldChanges =>
    intro feed inRange hfeed
    have hfield : ¬(feed == .psa || feed == .psb) = true := by rcases hfeed with rfl | rfl <;> decide
    refine (if_neg hfield).trans (onHalf_modStn_next hx hp ((if_neg (powered_not_off hp)).trans ?_))
    simp only [beq_iff_eq]

/-- Settles O46: the half is in OFF, so its PD0 comes up. -/
theorem powerOnStartsAnUnpoweredHalf : Obligations.PowerOnStartsAnUnpoweredHalf := by
  intro s h x hx slotCode hoff
  refine congrArg _ ((State.mod_eq_put hx _).trans ?_)
  rw [hoff]
  rfl

end Sys2Proof.Machine
end

section
/-! Boot, native images and the start of a station (chapter 21), and the LEDs of a cartridge (R531). -/
namespace Sys2Proof.Machine

/-! ### The rows of boot and start-up (R190, R506 to R519) -/

/-- The image that boots: the one of the slot, where it verifies (R507). -/
theorem filter_fwVerifies {o : Option Image} {i : Image} {sigOk : Bool} (ho : o = some i) (hv : fwVerifies i sigOk = true) :
    o.filter (fun i => fwVerifies i sigOk) = some i := Option.filter_eq_some_iff.mpr ⟨ho, hv⟩

/-- An image that does not verify is none to boot (R507). -/
theorem filter_not_fwVerifies {o : Option Image} {i : Image} {sigOk : Bool} (ho : o = some i)
    (hv : fwVerifies i sigOk = false) : o.filter (fun i => fwVerifies i sigOk) = none := by
  subst ho
  exact Option.filter_some_neg hv

/-- Settles O47: each clause is the branch of its row in which the row acts. -/
theorem bootRowsComplete : Obligations.BootRowsComplete := by
  intro s h x hx hp
  have next {f : Half → Half} {y : Half} (hf : f x = y) : onHalf s h f = .next (s.put h y) := onHalf_next hx hp hf
  refine ⟨?chosen, ?retried, ?verified, ?bad, ?imageStarts, ?imageReturns, ?imageFails, ?imageTimesOut, ?startupEnds,
    ?loadsAlone, ?syncs, ?loaded, ?recoveryHold⟩
  case chosen =>
    intro hmay hslot
    exact next (if_pos (by simp [hmay, hslot]))
  case retried =>
    intro hmay hslot hgone
    exact next (if_pos (by simp [hmay, hslot, hgone]))
  case verified =>
    rintro sigOk second k i y hst htry himg hok rfl
    refine next ?_
    simp only [htry, hst, bne_self_eq_false, Bool.false_eq_true, if_false, filter_fwVerifies himg hok]
  case bad =>
    intro sigOk second k i hst htry himg hbad
    refine next ?_
    simp only [htry, hst, bne_self_eq_false, Bool.false_eq_true, if_false, filter_not_fwVerifies himg hbad]
  case imageStarts =>
    rintro sigOk i rest y hst hstart hnone hdom rfl himgs hform htarget hsig
    refine next ((if_neg (by simp [hst, hstart, hnone, hdom])).trans ?_)
    simp only [himgs]
    exact if_pos (by simp [hform, htarget, hsig])
  case imageReturns =>
    intro hruns
    exact next ((if_neg (by simp [Option.isSome_iff_ne_none.mp hruns])).trans (if_pos rfl))
  case imageFails =>
    intro a0 hruns herr
    exact next ((if_neg (by simp [Option.isSome_iff_ne_none.mp hruns])).trans (if_neg (by rw [beq_iff_eq]; exact herr)))
  case imageTimesOut =>
    intro i hruns hgone
    refine next ?_
    simp only [hruns, hgone, if_true]
  case startupEnds =>
    rintro y hst hstart hnone hrec rfl himgs hident hconf
    refine next ((if_neg (by simp [hst, hstart, hnone, hrec])).trans ((if_neg (by simp [himgs])).trans ?_))
    refine (if_neg (by simp [hident])).trans (if_neg ?_)
    rcases hconf with hcfg | hclaim
    · simp [Option.isSome_iff_ne_none.mp hcfg]
    · simp [hclaim]
  case loadsAlone =>
    intro hst hneg hgone hclaim
    exact next ((if_neg (by simp [hst, hneg, hgone])).trans (if_neg (by simp [hclaim])))
  case syncs =>
    intro hst hneg hgone hclaim
    exact next ((if_neg (by simp [hst, hneg, hgone])).trans (if_pos hclaim))
  case loaded =>
    intro n hst hload hclaim hcfg
    refine next ((if_neg (by simp [hst, hload])).trans ((if_neg (by simp [hclaim])).trans ?_))
    simp only [hcfg]
  case recoveryHold =>
    intro hst
    exact next (if_pos (by simp [hst]))

/-! ### The LEDs (R531) -/

theorem Half.leds_off {x : Half} (hoff : x.st = .off) : x.leds = {} := if_pos (by rw [hoff]; rfl)

theorem Half.leds_test {x : Half} (hp : x.st ≠ .off) (hnew : (x.sys.up - x.sys.onAt).toNat < 1000000000) :
    x.leds = { run := .on, role := .on, fault := .on, sync := .on } :=
  (if_neg (powered_not_off hp)).trans (if_pos hnew)

/-- Past the lamp test each LED shows its own table. -/
theorem Half.leds_of_tables {x : Half} (hp : x.st ≠ .off) (hlong : 1000000000 ≤ (x.sys.up - x.sys.onAt).toNat) :
    x.leds = { run := x.ledRun, role := x.ledRole, fault := x.ledFault, sync := x.ledSync } :=
  (if_neg (powered_not_off hp)).trans (if_neg (Nat.not_lt_of_le hlong))

/-! #### RUN -/

theorem Half.ledRun_of_released {x : Half} (hrel : x.role.released = true) : x.ledRun = .flash1 := if_pos hrel

section
variable {x : Half} (hrel : x.role.released = false)
include hrel

theorem Half.ledRun_of_starting (hst : x.st = .boot ∨ x.st = .native) : x.ledRun = .flash4 := by
  rcases hst with e | e <;> simp [Half.ledRun, hrel, e]

theorem Half.ledRun_of_running
    (hst : x.st = .syncing ∨ x.st = .standby ∨ x.st = .active ∨ x.st = .relinquishing) : x.ledRun = .on := by
  rcases hst with e | e | e | e <;> simp [Half.ledRun, hrel, e]

theorem Half.ledRun_of_faulted (hst : x.st = .fault ∨ x.st = .latched) : x.ledRun = .off := by
  rcases hst with e | e <;> simp [Half.ledRun, hrel, e]

end

/-! #### ROLE -/

theorem Half.ledRole_of_refused {x : Half} (href : x.refusedLately = true) : x.ledRole = .flash4 := if_pos href

section
variable {x : Half} (href : x.refusedLately = false)
include href

theorem Half.ledRole_of_active (hst : x.st = .active) : x.ledRole = .on := by
  simp [Half.ledRole, href, hst]

theorem Half.ledRole_of_not_active (hact : x.st ≠ .active) (hrelinq : x.st ≠ .relinquishing) : x.ledRole = .off := by
  simp [Half.ledRole, href, hact, hrelinq]

end

/-! #### FAULT -/

section
variable {x : Half}

theorem Half.ledFault_of_latched (hst : x.st = .latched) : x.ledFault = .flash4 := if_pos (by simp [hst])

theorem Half.ledFault_of_fault
    (hst : x.st = .fault ∨ x.st = .boot ∧ (x.boot.noSlot = true ∨ x.sys.slotBad = true)) : x.ledFault = .on := by
  rcases hst with e | ⟨e, hbad⟩
  · simp [Half.ledFault, e]
  · simp [Half.ledFault, e, hbad]

theorem Half.ledFault_of_recovery (hst : x.st = .native) (hrec : x.boot.recovery.isSome = true) :
    x.ledFault = .flash1 := by
  simp [Half.ledFault, hst, hrec]

theorem Half.ledFault_of_active (hst : x.st = .active) :
    x.ledFault = if x.bit Reg.FC_STAT 2 then .flash1 else .off := by
  simp [Half.ledFault, hst]

end

/-! #### SYNC -/

theorem Half.ledSync_of_claimLine {x : Half} (hline : x.role.claimLine = true) : x.ledSync = .flash4 := if_pos hline

section
variable {x : Half} (hline : x.role.claimLine = false)
include hline

theorem Half.ledSync_of_syncing (hst : x.st = .syncing) : x.ledSync = .flash1 := by
  simp [Half.ledSync, hline, hst]

theorem Half.ledSync_of_standby (hst : x.st = .standby) : x.ledSync = if x.role.synced then .on else .off := by
  simp [Half.ledSync, hline, hst]

theorem Half.ledSync_of_active (hst : x.st = .active) : x.ledSync = if x.peerSynced then .on else .off := by
  simp [Half.ledSync, hline, hst]

end

/-- Settles O41: after the lamp test each LED shows the row of its table in which the half is. -/
theorem ledsShowTheState : Obligations.LedsShowTheState := by
  refine fun x => ⟨Half.leds_off, Half.leds_test, fun hp hlong => ?_⟩
  rw [Half.leds_of_tables hp hlong]
  exact ⟨Half.ledRun_of_released, Half.ledRun_of_starting, Half.ledRun_of_running, Half.ledRun_of_faulted,
    Half.ledRole_of_refused, Half.ledRole_of_active, Half.ledRole_of_not_active,
    Half.ledFault_of_latched, Half.ledFault_of_fault, Half.ledFault_of_recovery, Half.ledFault_of_active,
    Half.ledSync_of_claimLine, Half.ledSync_of_syncing, Half.ledSync_of_standby, Half.ledSync_of_active⟩

end Sys2Proof.Machine
end

section
/-! A step and the queue of waiting commands: the command at the front runs, an empty queue lets a tick pass, and no
command changes the queue. -/
namespace Sys2Proof.Machine

/-- The queue is outside the halves. -/
theorem outsideHalves_pending : OutsideHalves State.pending := State.mod_pending

/-- A change of one half of a station whose baseplate has changed leaves the queue. -/
theorem keeps_pending_onHalf_modStn (s : State) (h : HalfId) (g : Station → Station) (f : Half → Half) :
    Keeps State.pending s (onHalf (s.modStn g) h f) :=
  keeps_next (State.mod_pending ..)

/-- The commands that change the baseplate do so beside one half, and leave the queue as the others do. -/
theorem exec_keeps_pending (c : Instr) (s : State) : Keeps State.pending s (exec c s) := by
  cases hc : c.changesBaseplate with
  | false => exact exec_keeps outsideHalves_pending hc s
  | true =>
    cases c
    case sealChange | logicFeedFail => exact keeps_pending_onHalf_modStn ..
    case logicFeedReturn | fieldFeedRange => exact .ite (keeps_next rfl) (keeps_pending_onHalf_modStn ..)
    all_goals nomatch hc

/-- Settles O18: the queue is outside the halves, and outside the baseplate that the seal and feed commands change. -/
theorem commandsKeepQueue : Obligations.CommandsKeepQueue :=
  fun c s t ht => (exec_keeps_pending c s).next t ht

/-- Settles O12: `step` looks at the queue alone to choose the command. -/
theorem stepRunsFrontCommand : Obligations.StepRunsFrontCommand := fun _ _ _ => rfl

/-- Settles O13: on an empty queue `step` is the tick, which leaves the queue. That a tick is the idle step is the model's
choice (assumption 1). -/
theorem idleStepTicks : Obligations.IdleStepTicks := by
  intro s hidle
  refine ⟨?_, (State.tick_pending s).trans hidle⟩
  rw [step, hidle]

end Sys2Proof.Machine
end
